-- ==== Sys2Proof/Syntax.lean ====
section
/-! DEFINITION. The commands the device takes: one constructor for each row of spec/opcode_table.json, with the row's
operands. What a command reads from outside the package (host memory, a packet, a sensor) is an operand (R3, R16). -/
namespace Sys2Proof

/-- Who makes a register access (R10, R368, R370): PF0 or a VF, in its selective IDE stream or not; the Nalam core; a control
core. -/
inductive Req where
  | pf0 (inStream : Bool)
  | vf (n : Nat) (inStream : Bool := true)
  | nalam
  | cc
  deriving DecidableEq, Repr

/-- How a command that has a register form and a ring form arrived (R285, R384): through XDESC and XCMD, or as a
descriptor of ring `n` with the record the device read (none: the read failed, R383). -/
inductive CmdPath where
  | reg
  | ring (n : Nat) (desc : Bytes) (rec : Option Bytes)
  deriving DecidableEq, Repr

/-- A KZT packet as it reaches the device (R236 to R238). -/
structure Packet where
  /-- the port it arrives on -/
  port : Nat
  /-- the frame check sequence is good -/
  fcsOk : Bool
  /-- every condition of R231 and R232 is met, the UDP destination port apart -/
  netOk : Bool
  /-- the UDP destination port (R232) -/
  dport : Nat
  /-- every reserved field of the header and extension is zero -/
  rsvdOk : Bool
  ver : Nat
  opcode : Nat
  flags : Nat
  dst : Nat
  psn : Nat
  epoch : Nat
  msn : Nat
  path : Nat
  tstamp : Nat
  plen : Nat
  /-- SEND: MSG_OFF, or WRITE: OFFSET -/
  off : Nat
  /-- SEND: MSG_LEN, or WRITE: HANDLE -/
  arg : Nat
  /-- data: the encrypted payload; control and handshake: the body -/
  body : Bytes
  /-- the 16-byte GCM tag of data and control packets -/
  tag : Bytes
  deriving DecidableEq, Repr

/-- What a residue failure report says (R407, R411). -/
inductive ResidueCause where
  /-- a unit's result failed its residue check -/
  | mismatch
  /-- the re-execution of the unit failed its check as well -/
  | reexecution
  /-- a double-bit error in spindle control state (0x0A2E) -/
  | controlEcc
  deriving DecidableEq, Repr

/-- The partner's side of the exchange that forms a ply (R302). -/
structure PlyRange where
  verMin : Nat
  verMax : Nat
  grade : Nat
  stepping : Nat
  qgMin : Nat
  qgMax : Nat
  role : Nat
  epochValid : Bool
  deriving DecidableEq, Repr

/-- The two continuous health tests (R314). -/
inductive RngTest where
  | repetition
  | proportion
  deriving DecidableEq, Repr

/-- An SPDM request as the Nalam core sees it after decoding (R347, R348). The message formats are those of DSP0274. -/
structure SpdmReq where
  /-- SPDM version byte, 0x13 for 1.3 -/
  ver : Nat
  /-- well formed and in sequence under DSP0274 -/
  ok : Bool
  /-- sent inside the function's session -/
  inSession : Bool
  /-- KEY_EXCHANGE: mutual authentication was requested; FINISH: the requester's signature verified -/
  mutAuth : Bool
  /-- FINISH: the requester's leaf public key, 97 bytes uncompressed -/
  key : Bytes
  /-- the request's 32-byte nonce, or other body bytes -/
  nonce : Bytes
  /-- GET_MEASUREMENTS: signature requested; GET_CERTIFICATE: the certificate slot is 0 -/
  flag : Bool
  deriving DecidableEq, Repr

/-- The references of R451. -/
inductive ClockRef where
  | sysRefclk
  | rootPll
  | pcieRefclk
  | sync
  | portLine (port : Nat)
  deriving DecidableEq, Repr

/-- The supply rails of R456. -/
inductive Rail where
  | vddCore | vddSram | vddSd | vddaSd | vddMphy | vdd1 | vdd2h | vdd2l | vddq | vddPcie | vddIo
  deriving DecidableEq, Repr

/-- What a BIST run found (R436 to R439, R446). -/
structure BistResult where
  /-- the conditions of R446 held for the whole run -/
  valid : Bool
  /-- bit n: physical spindle n failed logic BIST -/
  lbist : Nat
  /-- CC0 to CC3 -/
  cc : Nat
  /-- another logic block failed -/
  other : Bool
  /-- failing bits as failure-log entries (R438) -/
  log : List Nat
  /-- failing bits the allocator covered with spares -/
  repaired : Nat
  /-- bit s: creel slice s unrepairable -/
  slices : Nat
  /-- bit n: the scratch of physical spindle n is unrepairable -/
  scratch : Nat
  /-- another instance is unrepairable -/
  unrep : Bool
  deriving DecidableEq, Repr

/-- The operations that wait for a read of host memory (R372). -/
inductive HostOp where
  | progImage (f : Nat)
  | sq (f n : Nat)
  | sqRecord (f n : Nat) (desc : Bytes)
  | fwImage
  | warmImage
  | twrSend (id : Nat)
  deriving DecidableEq, Repr

/-- The commands: the 285 operations and events of spec/opcode_table.json, in its order. QG instructions name the
logical spindle that issues; the instruction word is the one its PC selects in scratch (R175). -/
inductive Instr where
  /-- REGISTER_WRITE (R10): A register write to a field with no row of its own sets, clears or drops the value according to the field's access code. -/
  | registerWrite (r : Req) (addr size : Nat) (v : BitVec 64)
  /-- COUNTER_READ_CLEAR (R10): An 8-byte normal-view read of an RC counter returns its value and clears it in the same access. -/
  | counterReadClear (r : Req) (addr : Nat)
  /-- ADD (R206): Scalar add of sA and sB modulo 2^64 into sD. -/
  | add (sp : Nat)
  /-- SUB (R206): Scalar subtract modulo 2^64. -/
  | sub (sp : Nat)
  /-- AND (R206): Scalar bitwise AND. -/
  | and (sp : Nat)
  /-- OR (R206): Scalar bitwise OR. -/
  | or (sp : Nat)
  /-- XOR (R206): Scalar bitwise XOR. -/
  | xor (sp : Nat)
  /-- SLL (R206): Logical shift left by sB[5:0]. -/
  | sll (sp : Nat)
  /-- SRL (R206): Logical shift right by sB[5:0]. -/
  | srl (sp : Nat)
  /-- SRA (R206): Arithmetic shift right by sB[5:0]. -/
  | sra (sp : Nat)
  /-- MUL (R206): Low 64 bits of the product. -/
  | mul (sp : Nat)
  /-- MULHU (R206): High 64 bits of the unsigned product. -/
  | mulhu (sp : Nat)
  /-- CMPEQ (R206): Sets pPD to sA equal to sB. -/
  | cmpeq (sp : Nat)
  /-- CMPLT (R206): Sets pPD to signed sA less than sB. -/
  | cmplt (sp : Nat)
  /-- CMPLTU (R206): Sets pPD to unsigned sA less than sB. -/
  | cmpltu (sp : Nat)
  /-- SEL (R206): Selects sA or sB into sD by predicate PD. -/
  | sel (sp : Nat)
  /-- PAND (R206): Predicate AND into pPD. -/
  | pand (sp : Nat)
  /-- POR (R206): Predicate OR into pPD. -/
  | por (sp : Nat)
  /-- PXOR (R206): Predicate XOR into pPD. -/
  | pxor (sp : Nat)
  /-- MOVP (R206): Copies a predicate into a scalar register as 0 or 1. -/
  | movp (sp : Nat)
  /-- ADDI (R206): Add of a sign-extended immediate. -/
  | addi (sp : Nat)
  /-- ANDI (R206): AND with an immediate. -/
  | andi (sp : Nat)
  /-- ORI (R206): OR with an immediate. -/
  | ori (sp : Nat)
  /-- XORI (R206): XOR with an immediate. -/
  | xori (sp : Nat)
  /-- SLLI (R206): Logical shift left by an immediate. -/
  | slli (sp : Nat)
  /-- SRLI (R206): Logical shift right by an immediate. -/
  | srli (sp : Nat)
  /-- SRAI (R206): Arithmetic shift right by an immediate. -/
  | srai (sp : Nat)
  /-- CMPEQI (R206): Equality compare with an immediate into pPD. -/
  | cmpeqi (sp : Nat)
  /-- CMPLTI (R206): Signed less-than compare with an immediate. -/
  | cmplti (sp : Nat)
  /-- CMPLTUI (R206): Unsigned less-than compare with an immediate. -/
  | cmpltui (sp : Nat)
  /-- LIH (R206): Adds the immediate shifted left by 30 to sA. -/
  | lih (sp : Nat)
  /-- LD1 (R206): Loads 1 byte from scratch, zero-extended. -/
  | ld1 (sp : Nat)
  /-- LD2 (R206): Loads 2 bytes from scratch. -/
  | ld2 (sp : Nat)
  /-- LD4 (R206): Loads 4 bytes from scratch. -/
  | ld4 (sp : Nat)
  /-- LD8 (R206): Loads 8 bytes from scratch. -/
  | ld8 (sp : Nat)
  /-- LD16 (R206): Loads 16 bytes from scratch into a stream register. -/
  | ld16 (sp : Nat)
  /-- ST1 (R206): Stores 1 byte to scratch. -/
  | st1 (sp : Nat)
  /-- ST2 (R206): Stores 2 bytes to scratch. -/
  | st2 (sp : Nat)
  /-- ST4 (R206): Stores 4 bytes to scratch. -/
  | st4 (sp : Nat)
  /-- ST8 (R206): Stores 8 bytes to scratch. -/
  | st8 (sp : Nat)
  /-- ST16 (R206): Stores a stream register to scratch. -/
  | st16 (sp : Nat)
  /-- SYSR (R180): Reads a system value by selector into sD. -/
  | sysr (sp : Nat)
  /-- BR (R185): Branches when its guard holds, optionally writing a link register. -/
  | br (sp : Nat)
  /-- FOLD (R207): Folds the message in qA into the tiles of qD from its cursor, preparing it first on the first FOLD. -/
  | fold (sp : Nat)
  /-- FOLD_SEGMENT_RETIRE (R59): A fold segment's last stripe write completes, and the tag COUNT and checksum are updated. -/
  | foldSegmentRetire (sp i : Nat)
  /-- FOLDR (R145): Resolves each row of a sparse contribution in the directory and then folds the rows into their slots. -/
  | foldr (sp : Nat)
  /-- DIRECTORY_PAGE_FETCH (R144): A directory page fetched after a cache miss arrives, and the stalled FOLDR resumes. -/
  | directoryPageFetch (sp : Nat)
  /-- ZERO (R66): Starts the next epoch of the named tiles without reading anything out. -/
  | zero (sp : Nat)
  /-- COPY (R210): Copies source tiles or a ciphertext to the destination through the lockage engine. -/
  | copy (sp : Nat)
  /-- DRAIN (R211): DRAIN with DEST 1 writes tile records to a KZT memory window and starts each tile's new epoch. -/
  | drain (sp : Nat)
  /-- DRAIN_COMBINE (R211): DRAIN with DEST 0 combines each source tile into the matching tile of the function. -/
  | drainCombine (sp : Nat)
  /-- DRAIN_READ (R65): Once the old-epoch folds have retired, the drain reads and clears the stripes, resets the tag and verifies the tile. -/
  | drainRead (sp : Nat)
  /-- CHKT (R212): Verifies every named tile's checksum and reports the result. -/
  | chkt (sp : Nat)
  /-- TAKE_D (R213): TAKE.d returns the next eligible intake descriptor, an IDLE descriptor, or stalls. -/
  | takeD (sp : Nat)
  /-- TAKE_WAKE (R91): A TAKE stalled in START or RECOVERY returns when a descriptor becomes eligible, the service state changes or the round ends. -/
  | takeWake (sp : Nat)
  /-- TAKE_O (R214): TAKE.o opens a round from an open record and writes an outcome word. -/
  | takeO (sp : Nat)
  /-- TAKE_S (R213): TAKE.s has the round status record written. -/
  | takeS (sp : Nat)
  /-- TAKE_A (R213): TAKE.a issues the tenant's abandon command for a round. -/
  | takeA (sp : Nat)
  /-- EXPAND (R215): Cancels masks from reconstructed secrets: one queued expansion in mode 0, or its parts of the single expansion in mode 1. -/
  | expand (sp : Nat)
  /-- SEEDREC (R216): Handles the share records of a recovery message and reconstructs each secret that reaches the threshold. -/
  | seedrec (sp : Nat)
  /-- PRGH (R217): Writes a sampled polynomial from a derived stream into the limbs of a ciphertext component. -/
  | prgh (sp : Nat)
  /-- OPEN (R218): Decapsulates, decrypts, tag-checks and range-checks a mode 2 contribution in place. -/
  | openMsg (sp : Nat)
  /-- NTT (R219): Transforms each named limb into the NTT domain. -/
  | ntt (sp : Nat)
  /-- INTT (R219): Transforms each named limb out of the NTT domain. -/
  | intt (sp : Nat)
  /-- PMUL (R219): Multiplies a ciphertext by a ciphertext, a plaintext polynomial or a scalar. -/
  | pmul (sp : Nat)
  /-- PADD (R219): Adds or subtracts ciphertexts or a plaintext. -/
  | padd (sp : Nat)
  /-- AUTO (R219): Applies the Galois automorphism X to X^K. -/
  | auto (sp : Nat)
  /-- MODUP (R123): Extends the last component's digits to the special primes. -/
  | modup (sp : Nat)
  /-- MODDN (R123): Divides by P with rounding back to the ciphertext primes. -/
  | moddn (sp : Nat)
  /-- RESC (R219): Drops the top limb with rounding, lowering the level by one. -/
  | resc (sp : Nat)
  /-- KSW (R123): Switches a ciphertext to the committee key with an evaluation key. -/
  | ksw (sp : Nat)
  /-- LUTR (R221): Evaluates an 8-bit table on a batch of coefficients by blind rotation and repacking. -/
  | lutr (sp : Nat)
  /-- DECODE (R224): Decodes each tile into an output tile in the policy's format and writes status records. -/
  | decode (sp : Nat)
  /-- NOISE (R223): Runs its part of the gate noise pass: verifies each tile, adds z and forms the ACC_DIGEST leaves. -/
  | noise (sp : Nat)
  /-- CLIP (R225): CLIP phase 0 clips a mode 2 contribution, or starts the mode 3 norm query or sign chain and returns a handle. -/
  | clip (sp : Nat)
  /-- CLIP_FINISH (R225): CLIP phase 1 applies the indicators to up to 64 handled contributions and folds them. -/
  | clipFinish (sp : Nat)
  /-- APPLY (R227): Runs the floating-point optimiser over the parameter tiles with the global-norm reduction. -/
  | apply (sp : Nat)
  /-- RELEASE (R226): Sends decoded tiles or ciphertexts to the round's destination in logical order. -/
  | release (sp : Nat)
  /-- RELEASE_TRAILER_DONE (R226): When the trailer's last byte has been handed over, the round becomes RELEASED, or ABANDONED after a stopped release. -/
  | releaseTrailerDone (f r : Nat)
  /-- GATE (R300): A spindle arrives at a gate for release at a timestamp, arming it on first arrival. -/
  | gate (sp : Nat)
  /-- GATE_RELEASE (R300): The gate releases when the timebase reaches T and all bound spindles have arrived. -/
  | gateRelease (f g : Nat)
  /-- GATE_TIMEOUT (R300): A spindle's gate timeout expires, withdrawing its arrival with 0x0A0E. -/
  | gateTimeout (sp : Nat)
  /-- WAITC (R195): Stalls issue until a lock counter reaches its threshold. -/
  | waitc (sp : Nat)
  /-- WAIT_TIMEOUT (R195): A WAITC timeout expires and the instruction reports 0x0A0E. -/
  | waitTimeout (sp : Nat)
  /-- SIGNAL (R195): Posts an addition to a lock counter without waiting. -/
  | signal (sp : Nat)
  /-- SIGNAL_APPLY (R195): The posted addition takes effect once every earlier-issued unit instruction has retired, or is cancelled on a trap. -/
  | signalApply (sp : Nat)
  /-- FENCE (R195): Stalls issue until earlier unit instructions retire, optionally also write-backs and acknowledgements. -/
  | fence (sp : Nat)
  /-- TRAP (R230): TRAP with RET = 0 traps precisely with SOFTWARE_TRAP. -/
  | trap (sp : Nat)
  /-- TRAP_RETURN (R230): TRAP with RET = 1 in HANDLER resumes RUNNING at the word index in sA. -/
  | trapReturn (sp : Nat)
  /-- HALT (R201): Stops issue and waits as FENCE does for the spindle to finish. -/
  | halt (sp : Nat)
  /-- HALT_DONE (R201): After the HALT's waits and SIGNALs complete, the spindle enters DONE. -/
  | haltDone (sp : Nat)
  /-- STEP (R196): Waits for retirement, then advances the step index and takes a journal point. -/
  | step (sp : Nat)
  /-- STEP_SETROUND (R196): STEP with SETROUND loads a new round number and resets the step index. -/
  | stepSetround (sp : Nat)
  /-- LOCKKEEPER_WATCHDOG (R192): One millisecond with no issue or retirement traps the spindle with 0x0A02. -/
  | lockkeeperWatchdog (sp : Nat)
  /-- LOAD (R199): Program command LOAD checks the image and loads it onto the selected IDLE spindles. -/
  | load (f : Nat) (img : Option Bytes)
  /-- START (R201): Program command START makes every selected spindle issue its entry instruction in one cycle. -/
  | start (f : Nat)
  /-- STOP (R201): Program command STOP stops issue on the selected running spindles. -/
  | stop (f : Nat)
  /-- SPINDLE_STOPPED (R201): A stopping spindle enters STOPPED once its in-flight instructions have retired. -/
  | spindleStopped (sp : Nat)
  /-- RESUME (R201): Program command RESUME restarts issue on stopped or trapped spindles. -/
  | resume (f : Nat)
  /-- UNLOAD (R201): Program command UNLOAD zeroises the spindle and returns it to IDLE. -/
  | unload (f : Nat)
  /-- OPEN_ROUND (R384): Ring descriptor OPEN_ROUND opens a round with firmware placement and binds the firmware program. -/
  | openRound (f n : Nat) (desc : Bytes) (rec : Option Bytes)
  /-- ROUND_ENTER_OPEN (R465): Once the tiles are zeroed and the DRBG has served the class-1 request, the round enters OPEN. -/
  | roundEnterOpen (f r : Nat)
  /-- PERIODIC_ROUND_OPEN (R108): The next round of a periodic series opens at the later of its nominal time and the previous release. -/
  | periodicRoundOpen (f r : Nat)
  /-- ROUND_GUARD_TIMER (R80): At d − G the round moves from OPEN to GUARD. -/
  | roundGuardTimer (f r : Nat)
  /-- ROUND_DEADLINE (R80): At d the round moves from GUARD to CLOSED, or is ABANDONED if it never entered OPEN. -/
  | roundDeadline (f r : Nat)
  /-- CANDIDATES_RESOLVED (R80): When every cohort candidate has retired or failed, the round leaves CLOSED for UNMASK or GATED. -/
  | candidatesResolved (f r : Nat)
  /-- UNMASK_TIMEOUT (R96): UNMASK_TIMEOUT expires with a needed share tally below t, and the round is ABANDONED with 0x0903. -/
  | unmaskTimeout (f r : Nat)
  /-- ABANDON_ROUND (R81): Ring descriptor ABANDON_ROUND abandons a round and zeroes its tiles, keys and maps. -/
  | abandonRound (f n : Nat) (desc : Bytes)
  /-- ROUND_STATUS (R109): Ring descriptor ROUND_STATUS writes the round status record. -/
  | roundStatus (f n : Nat) (desc : Bytes)
  /-- HOST_SUBMIT (R384): Ring descriptor HOST_SUBMIT reads a message from host memory and treats it as a completed SEND message. -/
  | hostSubmit (f n : Nat) (desc : Bytes) (rec : Option Bytes)
  /-- APPLY_ROUND (R384): Ring descriptor APPLY_ROUND runs APPLY over a round's decoded tiles. -/
  | applyRound (f n : Nat) (desc : Bytes) (rec : Option Bytes)
  /-- SET_DEST (R169): Ring descriptor SET_DEST registers a host buffer for a destination index, unblocking a waiting release. -/
  | setDest (f n : Nat) (desc : Bytes)
  /-- RELEASE_DEST_TIMEOUT (R169): UNMASK_TIMEOUT after GATED with no usable destination refuses the release with 0x090A. -/
  | releaseDestTimeout (f r : Nat)
  /-- NOP (R384): Ring descriptor NOP does nothing and completes. -/
  | nop (f n : Nat) (desc : Bytes)
  /-- CREATE_QP (R388): Ring descriptor CREATE_QP creates a QP and starts its handshake or listening. -/
  | createQp (f n : Nat) (desc : Bytes) (rec : Option Bytes)
  /-- QP_CLOSE (R244): QP_CTL action 1 moves a QP from RTS to DRAINING. -/
  | qpClose (f n : Nat) (desc : Bytes)
  /-- QP_DESTROY (R244): QP_CTL action 2 destroys a CLOSED or ERROR QP and frees its QPN. -/
  | qpDestroy (f n : Nat) (desc : Bytes)
  /-- QP_PIN (R253): QP_CTL action 3 pins a context on chip within the quotas. -/
  | qpPin (f n : Nat) (desc : Bytes)
  /-- QP_UNPIN (R253): QP_CTL action 4 unpins a context. -/
  | qpUnpin (f n : Nat) (desc : Bytes)
  /-- QP_BIND (R250): QP_CTL action 5 binds a QP's credit to a round. -/
  | qpBind (f n : Nat) (desc : Bytes)
  /-- CHECKPOINT (R427): Ring descriptor CHECKPOINT saves the function's rounds, counters, programs and far tiles, sealed. -/
  | checkpoint (f n : Nat) (desc : Bytes)
  /-- CHECKPOINT_RESUME (R429): Ring descriptor RESUME restores a checkpoint into a function in START. -/
  | checkpointResume (f n : Nat) (desc : Bytes) (rec : Option Bytes)
  /-- LEAF_DIGESTS (R430): Ring descriptor LEAF_DIGESTS writes kept ACC_DIGEST leaves to a host buffer. -/
  | leafDigests (f n : Nat) (desc : Bytes)
  /-- CONTRIBUTION (R84): A completed contribution message is checked in order and appended, held or discarded. -/
  | contribution (f : Nat) (qp : Option Nat) (lz : Nat) (msg : Bytes)
  /-- RECOVERY_MESSAGE (R84): A completed recovery message is checked and queued for SEEDREC in UNMASK. -/
  | recoveryMessage (f : Nat) (qp : Option Nat) (lz : Nat) (msg : Bytes)
  /-- COMMITTEE_RETURN (R132): A committee return is checked against its outstanding query and accepted or refused. -/
  | committeeReturn (f qpn : Nat) (msg : Bytes)
  /-- NL_TIMEOUT (R132): No return within NL_TIMEOUT excludes the contribution, or starts the LUTR sign chain. -/
  | nlTimeout (f handle : Nat)
  /-- PARTIAL_DECRYPTION (R137): A partial decryption record is accepted or discarded, and at t records the aggregate is decrypted. -/
  | partialDecryption (f qpn : Nat) (msg : Bytes)
  /-- PARTIAL_DECRYPT_TIMEOUT (R137): Fewer than t partial decryptions within UNMASK_TIMEOUT of GATED abandons the round with 0x0903. -/
  | partialDecryptTimeout (f r : Nat)
  /-- CANONICAL_PASS_DONE (R150): The sparse canonical pass finishes sorting rows and rewriting tags, and the round proceeds. -/
  | canonicalPassDone (f r : Nat)
  /-- COHORT_MESSAGE (R293): A child's cohort message is merged into the round's bitmap and count. -/
  | cohortMessage (f qpn : Nat) (msg : Bytes)
  /-- CHILD_WAIT_EXPIRY (R294): CHILD_WAIT after d settles the round with the children that arrived. -/
  | childWaitExpiry (f r : Nat)
  /-- PARTIAL_DIGEST_DONE (R307): A below-top strand's partial digest read pass completes and is sent for verdict. -/
  | partialDigestDone (f r : Nat)
  /-- HELLO (R241): A received HELLO is verified, filtered and negotiated, and answered with ACCEPT or REFUSE. -/
  | hello (p : Packet)
  /-- ACCEPT (R241): A received ACCEPT is verified, keys are derived and the QP enters RTS. -/
  | accept (p : Packet)
  /-- REFUSE (R241): A received REFUSE matching the outstanding NONCE_I records its code. -/
  | refuse (p : Packet)
  /-- HANDSHAKE_RETRY (R243): Ten milliseconds without an answer resends HELLO, or enters ERROR after 3 attempts. -/
  | handshakeRetry (qpn : Nat)
  /-- SEND (R271): A received SEND data packet passes the checks of R239 and is placed, parked or dropped. -/
  | send (p : Packet)
  /-- WRITE (R265): A received WRITE packet is checked against its window and placed. -/
  | write (p : Packet)
  /-- ACK (R247): A received ACK acknowledges PSNs, declares reordered losses, updates credit and adjusts the rate. -/
  | ack (p : Packet)
  /-- NAK (R269): A received NAK completes the message with its code and pads the remaining PSNs with 0xFF. -/
  | nak (p : Packet)
  /-- CLOSE (R244): An authenticated CLOSE moves the QP to DRAINING. -/
  | close (p : Packet)
  /-- KZT_PACKET_TRANSMIT (R251): The weir releases the QP's next packet at its paced time on the next port and path. -/
  | kztPacketTransmit (qpn : Nat)
  /-- ACK_TIMER (R246): Two microseconds after the first unacknowledged arrival, an ACK is sent. -/
  | ackTimer (qpn : Nat)
  /-- RTO_EXPIRY (R247): The retransmit timeout declares a PSN lost, resends it and drops the rate to RATE_MIN. -/
  | rtoExpiry (qpn seq : Nat)
  /-- PATH_SUSPECT_EXPIRY (R235): A suspect path's 1 ms exclusion ends and the path is used again. -/
  | pathSuspectExpiry (qpn h : Nat)
  /-- CREDIT_PROBE (R250): A sender blocked on credit for PROBE_T sends an empty SEND with ACKREQ. -/
  | creditProbe (qpn : Nat)
  /-- DRAINING_TIMEOUT (R244): Ten milliseconds in DRAINING moves the QP to CLOSED. -/
  | drainingTimeout (qpn : Nat)
  /-- CONTEXT_FETCH_DONE (R256): A fetched context arrives, is authenticated and installed, and its parked packets are checked. -/
  | contextFetchDone (qpn : Nat) (tagOk : Bool) (count : Nat)
  /-- FETCH_TIMEOUT (R256): A context fetch exceeding FETCH_TIMEOUT is cancelled and its packets dropped. -/
  | fetchTimeout (qpn : Nat)
  /-- PORT_DOWN (R235): A port goes down and is removed from round-robin within 1 µs; PF0 gets 0x0410. -/
  | portDown (port : Nat)
  /-- PORT_UP (R283): A port comes up and joins its bundle; PF0 gets 0x0411. -/
  | portUp (port : Nat)
  /-- OPEN_WIN (R264): Opens a LANDING or TILE window and returns its handle. -/
  | openWin (f : Nat) (path : CmdPath)
  /-- REVOKE_WIN (R270): Revokes a window, failing its incomplete messages. -/
  | revokeWin (f : Nat) (path : CmdPath)
  /-- POST_TWR (R276): Posts a triggered work request and returns its identifier. -/
  | postTwr (f : Nat) (path : CmdPath)
  /-- CANCEL_TWR (R276): Removes a pending TWR that has not fired. -/
  | cancelTwr (f : Nat) (path : CmdPath)
  /-- TWR_FIRE (R277): A TWR fires the cycle after its counter reaches the threshold: FORWARD, SEND or ADD. -/
  | twrFire (id : Nat) (data : Option Bytes)
  /-- CTR_VAL (R260): A write to CTR_VAL sets the selected lock counter. -/
  | ctrVal (f : Nat) (v : BitVec 64)
  /-- SYNC_EPOCH (R298): A write to SYNC_EPOCH stages a marker number to load at the next marker. -/
  | syncEpoch (r : Req) (m : Nat)
  /-- SYNC_MARKER (R298): A SYNC marker loads a staged epoch or checks the timebase alignment. -/
  | syncMarker
  /-- SYNC_MARKER_TIMEOUT (R299): No marker within 13,635,000 cycles clears EPOCH_VALID and raises 0x0A12. -/
  | syncMarkerTimeout
  /-- PLY_FORM (R302): PLY_CTL command FORM exchanges ranges and grade with the partner and forms the ply or refuses it. -/
  | plyForm (r : Req)
  /-- PLY_DISSOLVE (R309): PLY_CTL command DISSOLVE dissolves the ply. -/
  | plyDissolve (r : Req)
  /-- PLY_ASSET (R304): Strand B installs a tenant asset mirrored from strand A. -/
  | plyAsset (f qpn : Nat) (msg : Bytes)
  /-- PLY_OPEN (R305): Strand B matches A's OPEN digest and takes the mirrored seed and keys. -/
  | plyOpen (f qpn : Nat) (msg : Bytes)
  /-- PLY_COHORT (R306): Strand B applies A's closing cohort bitmap and awaits missing slots. -/
  | plyCohort (f qpn : Nat) (msg : Bytes)
  /-- PLY_LATE_SLOT_EXPIRY (R306): At d + 1,350,000 any slot in A's bitmap still missing at B is a divergence. -/
  | plyLateSlotExpiry (f r : Nat)
  /-- PLY_VERDICT (R307): Strand A receives B's verdict and releases held sends or abandons on mismatch. -/
  | plyVerdict (f qpn : Nat) (msg : Bytes)
  /-- PLY_SHARE (R304): Strand B takes a mirrored recovery message or partial decryption record. -/
  | plyShare (f qpn : Nat) (msg : Bytes)
  /-- PLY_RETURN (R133): Strand B takes a mirrored committee return or timeout decision. -/
  | plyReturn (f qpn : Nat) (msg : Bytes)
  /-- PLY_DIGEST (R307): Strand B compares A's digest with its own and sends a verdict. -/
  | plyDigest (f qpn : Nat) (msg : Bytes)
  /-- PLY_DONE (R308): Strand B completes its held release or forward without sending. -/
  | plyDone (f qpn : Nat) (msg : Bytes)
  /-- PLY_HEARTBEAT (R309): A heartbeat is sent on the ply QP every 135,000 cycles. -/
  | plyHeartbeat
  /-- PLY_PARTNER_LOST (R309): Ten milliseconds without an authenticated ply message, or the ply QP in ERROR, makes the device SOLO. -/
  | plyPartnerLost
  /-- RNG_SOURCE_SETTLED (R315): A source's 500 µs settling ends and its start-up test begins. -/
  | rngSourceSettled (k : Nat)
  /-- RNG_STARTUP_TEST_DONE (R315): A source passes 1,024 start-up bits and is marked SRC_OK. -/
  | rngStartupTestDone (k : Nat)
  /-- RNG_HEALTH_FAIL (R325): A continuous test failure moves the DRBG to DRAINING and restarts the source. -/
  | rngHealthFail (k : Nat) (test : RngTest)
  /-- RNG_COLLECTION_DONE (R317): A complete entropy input has been collected, and the DRBG instantiates or reseeds. -/
  | rngCollectionDone
  /-- RESEED_TIMER (R316): RESEED_MS or 65,536 requests elapse and a reseed collection starts. -/
  | reseedTimer
  /-- GENERATE_REQUEST (R318): With the queue below 3,584 bytes, the DRBG runs one 512-byte generate request. -/
  | generateRequest
  /-- RNG_WORD_SERVE (R320): One queued word goes to the highest-priority pending consumer. -/
  | rngWordServe
  /-- RNG_DATA (R321): A normal-view read of RNG_DATA takes one random word and its code. -/
  | rngData (r : Req) (addr : Nat)
  /-- ASSIGN (R351): KEY_CMD ASSIGN gives a slot in 4–63 to an owner and zeroises it. -/
  | assign (r : Req) (slot func : Nat) (toCC : Bool)
  /-- KEY_RELEASE (R339): KEY_CMD RELEASE zeroises a slot and its subslots and marks it unassigned. -/
  | keyRelease (r : Req) (slot : Nat)
  /-- KEY_ZERO (R339): KEY_CMD KEY_ZERO zeroises a slot, keeping it assigned. -/
  | keyZero (r : Req) (slot : Nat)
  /-- LC_VOID (R329): KEY_CMD LC_VOID moves the device to VOID without a token. -/
  | lcVoid (r : Req)
  /-- FKEY_ZERO (R339): A function zeroises its own function key, abandoning its rounds and QPs. -/
  | fkeyZero (f : Nat)
  /-- ROLLBACK_COMMIT (R342): Burns anti-rollback fuses up to the running image's SVN. -/
  | rollbackCommit (r : Req)
  /-- LIFECYCLE_TRANSITION (R329): A transition token is checked and, if valid, the new life-cycle pattern is burned and the device held. -/
  | lifecycleTransition (token : Bytes)
  /-- REMASK (R337): Every 1 ms, the shares of slots 0–3 are replaced from a class-0 request, or the pass is skipped. -/
  | remask
  /-- GET_VERSION (R347): SPDM GET_VERSION request on a function's DOE mailbox. -/
  | getVersion (f : Nat) (q : SpdmReq)
  /-- GET_CAPABILITIES (R347): SPDM GET_CAPABILITIES request. -/
  | getCapabilities (f : Nat) (q : SpdmReq)
  /-- NEGOTIATE_ALGORITHMS (R347): SPDM NEGOTIATE_ALGORITHMS request. -/
  | negotiateAlgorithms (f : Nat) (q : SpdmReq)
  /-- GET_DIGESTS (R347): SPDM GET_DIGESTS request. -/
  | getDigests (f : Nat) (q : SpdmReq)
  /-- GET_CERTIFICATE (R347): SPDM GET_CERTIFICATE request for the slot 0 chain. -/
  | getCertificate (f : Nat) (q : SpdmReq)
  /-- CHALLENGE (R347): SPDM CHALLENGE request. -/
  | challenge (f : Nat) (q : SpdmReq)
  /-- GET_MEASUREMENTS (R345): Returns signed evidence for the function using one per-boot LMS leaf. -/
  | getMeasurements (f : Nat) (q : SpdmReq)
  /-- KEY_EXCHANGE (R348): Opens an SPDM session, ending any existing one, with an ML-KEM key in the opaque data. -/
  | keyExchange (f : Nat) (q : SpdmReq)
  /-- FINISH (R347): SPDM FINISH completes the session handshake. -/
  | finish (f : Nat) (q : SpdmReq)
  /-- HEARTBEAT (R347): SPDM HEARTBEAT request. -/
  | heartbeat (f : Nat) (q : SpdmReq)
  /-- KEY_UPDATE (R347): SPDM KEY_UPDATE request. -/
  | keyUpdate (f : Nat) (q : SpdmReq)
  /-- END_SESSION (R350): Ends the SPDM session without removing installed assets. -/
  | endSession (f : Nat) (q : SpdmReq)
  /-- KEM (R348): Asset KIND 0 carries the ML-KEM ciphertext that sets the session asset key. -/
  | kem (f : Nat) (msg : Bytes)
  /-- BIND (R348): Asset KIND 1 binds the function to the tenant tag and key. -/
  | bind (f : Nat) (msg : Bytes)
  /-- POLICY (R158): Asset KIND 2 installs a release policy after its checks. -/
  | policy (f : Nat) (msg : Bytes)
  /-- JOIN_LIST (R288): Asset KIND 3 replaces the tenant's join list. -/
  | joinList (f : Nat) (msg : Bytes)
  /-- EVK (R124): Asset KIND 4 reads, decrypts and installs an evaluation key body and checks its digest. -/
  | evk (f : Nat) (msg : Bytes) (host : Option Bytes)
  /-- COMMITTEE_KEY (R349): Asset KIND 5 installs a committee public key for a KEYSET. -/
  | committeeKey (f : Nat) (msg : Bytes) (host : Option Bytes)
  /-- NOISE_SEED (R349): Asset KIND 6 installs the sealed noise seed in a subslot. -/
  | noiseSeed (f : Nat) (msg : Bytes)
  /-- MEM_KEY (R357): Asset KIND 7 installs a memory key, starting initialisation or rotation. -/
  | memKey (f : Nat) (msg : Bytes)
  /-- CHECKPOINT_KEY (R349): Asset KIND 8 installs the checkpoint key. -/
  | checkpointKey (f : Nat) (msg : Bytes)
  /-- MCTP_CONTROL (R373): An MCTP control message on the I3C sideband is handled by the Nalam core. -/
  | mctpControl (msg : Bytes)
  /-- PART_CMD (R355): Applies a staged partition to a function, tagging added tiles and revoking removed items. -/
  | partCmd (r : Req)
  /-- MEM_KEY_INIT_DONE (R357): Initialisation of the far range under the first memory key completes, and ROT_STATE returns to NONE. -/
  | memKeyInitDone (f : Nat)
  /-- MEM_ROTATION_SWEEP (R358): The sweep converts the next old-generation tile under the new key. -/
  | memRotationSweep (f : Nat)
  /-- RING_CREATE (R381): RING_CMD CREATE checks and negotiates a command ring and makes it ACTIVE. -/
  | ringCreate (f n : Nat)
  /-- RING_DESTROY (R382): RING_CMD DESTROY waits for started descriptors and returns the ring to NONE. -/
  | ringDestroy (f n : Nat)
  /-- SQ_TAIL (R382): The doorbell write advances the submission tail, or puts the ring into ERROR on overflow. -/
  | sqTail (f n : Nat) (v : BitVec 32)
  /-- CQ_HEAD (R385): The driver advances the completion head, releasing held entries and re-arming CQ_VEC. -/
  | cqHead (f n : Nat) (v : BitVec 32)
  /-- FLR (R389): A PCIe function-level reset starts a function reset. -/
  | flr (f : Nat)
  /-- FR_GO (R390): FR_GO starts a function reset of FR_FUNC. -/
  | frGo (r : Req)
  /-- FUNCTION_RESET_DONE (R389): The last step of the function reset completes, and the function's access and DMA resume. -/
  | functionResetDone (f : Nat)
  /-- SNAP_CMD (R378): Copies every RC counter on the device into its holding copy. -/
  | snapCmd (r : Req)
  /-- FSNAP_CMD (R378): Copies one FUNC page's RC counters into holding copies. -/
  | fsnapCmd (f : Nat)
  /-- IDE_REQ (R370): Requires the function's accesses and DMA to use its secure IDE stream. -/
  | ideReq (f : Nat)
  /-- IDE_STREAM_FAILED (R370): The IDE stream leaves the secure state, and the function's DMA and access stop. -/
  | ideStreamFailed (f : Nat)
  /-- PCIE_LINK_DOWN (R422): The PCIe link stays out of L0 for 1 ms, and the device runs autonomously. -/
  | pcieLinkDown
  /-- PCIE_LINK_UP (R422): The PCIe link returns, DMA resumes and held entries are posted. -/
  | pcieLinkUp
  /-- PERST_N_ASSERT (R392): PERST_N asserted stops DMA and port transmission within 1 µs. -/
  | perstNAssert
  /-- PERST_N_RELEASE (R393): Release of PERST_N starts the power-up sequence at step 1. -/
  | perstNRelease
  /-- FW_DOORBELL (R394): Starts the DMA of the firmware image, or refuses a bad length. -/
  | fwDoorbell (r : Req)
  /-- FW_IMAGE_ARRIVAL (R393): The image arrives and the device verifies it, regenerates the root and starts entropy. -/
  | fwImageArrival (img : Bytes)
  /-- FW_IMAGE_TIMEOUT (R393): No image within 10 s fails the boot with 0x0A18. -/
  | fwImageTimeout
  /-- DRBG_SEEDED_AT_BOOT (R319): The first DRBG seeding ends step 5 and starts the concurrent INIT parts. -/
  | drbgSeededAtBoot (check : BistResult)
  /-- CREEL_DONE (R395): Boot creel zeroisation completes. -/
  | creelDone (tier0 tier1 : Bool)
  /-- FAR_DONE (R55): LPDDR5X training completes, with fallback to 5,400 MT/s if needed. -/
  | farDone (fast slow : Nat)
  /-- ATTEST_DONE (R343): The per-boot LMS key is generated and certified, setting ATTEST_READY. -/
  | attestDone
  /-- PORTS_DONE (R395): Every enabled port is up, or 2,000 ms of port training elapse. -/
  | portsDone (up : Nat)
  /-- FWINIT_DONE (R395): The firmware signals the end of its initialisation. -/
  | fwinitDone
  /-- READY (R396): With all done bits set and the DRBG seeded, the device declares READY and maps its pages. -/
  | ready
  /-- BOOT_TIMEOUT (R396): No READY 3,000 ms after image arrival fails the boot with 0x0A1B. -/
  | bootTimeout
  /-- ATTACH (R400): The driver's ABI range is negotiated against the firmware's. -/
  | attach (f : Nat)
  /-- GO_SERVICE (R402): Moves an attached function from START to SERVICE. -/
  | goService (f : Nat)
  /-- WARM_GO (R404): Starts a warm reset by reading and verifying the new image. -/
  | warmGo (r : Req) (img : Option Bytes)
  /-- WARM_IMAGE_VERIFIED (R404): The verified image resets every function, is reloaded and re-checked, and the new firmware starts. -/
  | warmImageVerified (img : Bytes)
  /-- RESIDUE_CHECK_FAIL (R411): A residue mismatch triggers repair and re-execution of the unit, or fails the spindle. -/
  | residueCheckFail (sp : Nat) (cause : ResidueCause)
  /-- SPARE_SUBSTITUTED (R414): The spare has replayed the journal and issues again; 0x0A03 is raised. -/
  | spareSubstituted (sp : Nat)
  /-- JOURNAL_POINT (R412): A journal point is taken 100 µs after the last, or when a log is full. -/
  | journalPoint (sp : Nat)
  /-- CC_WATCHDOG (R420): A control-core watchdog miss resets CC0–CC3, errors the rings and abandons ring-opened rounds. -/
  | ccWatchdog (core : Nat)
  /-- NALAM_WATCHDOG (R421): A Nalam watchdog expiry is a fatal event. -/
  | nalamWatchdog
  /-- CLOCK_LOSS (R451): Loss of SYS_REFCLK or the root PLL lock is a fatal event. -/
  | clockLoss (ref : ClockRef)
  /-- CREEL_TIER_LOST (R418): Tier 1 fails, rounds holding odd tiles are abandoned, and the odd tiles are remapped to far memory. -/
  | creelTierLost
  /-- FAR_PACKAGE_LOST (R419): A failed LPDDR5X package abandons rounds holding far tiles and disables far admission. -/
  | farPackageLost (p : Nat)
  /-- BOOK_AUDIT (R424): The device-wide books are audited every 10 ms, and a second failure raises 0x0A28. -/
  | bookAudit
  /-- CREEL_SCRUB (R69): The scrubber reads and verifies the next near tile with no folds in flight. -/
  | creelScrub (t : Nat)
  /-- SCRUB_FOLD_HOLD (R70): A tile with folds in flight for 1 ms has new fold issues held until the scrub read. -/
  | scrubFoldHold (t : Nat)
  /-- FAR_SCRUB (R69): The far scrubber verifies the next admitted far tile. -/
  | farScrub (t : Nat)
  /-- STAGING_DONE (R71): Lockage stages a far tile in the pool, after evicting one if needed, and stalled instructions proceed. -/
  | stagingDone (f t : Nat)
  /-- FRZ_N_ASSERT (R431): FRZ_N asserted freezes the clocks, after zeroisation in FIELD. -/
  | frzNAssert
  /-- FREEZE_ZEROISE_DONE (R432): FIELD freeze zeroisation completes, and the clocks stop. -/
  | freezeZeroiseDone
  /-- BYPASS (R433): TAP BYPASS instruction. -/
  | bypass
  /-- IDCODE (R433): TAP IDCODE instruction returns the device identity. -/
  | idcode
  /-- SAMPLE_PRELOAD (R433): TAP SAMPLE/PRELOAD instruction. -/
  | samplePreload
  /-- EXTEST (R433): TAP EXTEST, only in reset or freeze. -/
  | extest
  /-- DBG_TOKEN (R330): Shifts in a debug token for freeze read-out, which is accepted or refused. -/
  | dbgToken (token : Bytes)
  /-- FRZ_ADDR (R433): Sets the freeze read-out address. -/
  | frzAddr (v : BitVec 64)
  /-- FRZ_DATA (R433): Reads 64 bits at FRZ_ADDR while frozen, within token scope. -/
  | frzData
  /-- FULL (R443): BIST_CMD FULL runs full logic and memory BIST, destroying all state. -/
  | full (r : Req)
  /-- FIELD_NOW (R444): BIST_CMD FIELD_NOW tests one physical spindle now. -/
  | fieldNow (r : Req) (pspin : Nat)
  /-- FUSE_REPAIR (R440): BIST_CMD FUSE_REPAIR burns the soft repairs into OTP. -/
  | fuseRepair (r : Req)
  /-- FIELD_SELF_TEST (R444): Every FS_INTERVAL seconds the next spindle is swapped to a spare and tested. -/
  | fieldSelfTest
  /-- BIST_DONE (R446): A BIST run ends as pass, fail or invalid, and soft repairs are applied. -/
  | bistDone (res : BistResult)
  /-- WEIR_SAMPLE (R453): Every 100 µs the weir samples temperature and power and chooses a target step. -/
  | weirSample (temps : List Nat) (power : Nat)
  /-- VID_STEP (R454): Every 10 µs of ramping, VID moves one code and the divider changes at the end of a step up. -/
  | vidStep
  /-- THERMAL_TRIP (R455): A sensor at 110 °C stops DMA and ports and fails the device. -/
  | thermalTrip (temp : Nat)
  /-- RAIL_FAULT (R457): A supply rail leaves tolerance while PERST_N is released. -/
  | railFault (rail : Rail)
  /-- UNIT_INSTRUCTION_RETIRE (R188): A unit instruction other than a fold segment or drain retires asynchronously: its last effect takes place, its code goes to SC and PD, its descriptor is updated and its unit-queue entry frees. -/
  | unitInstructionRetire (sp i : Nat)
  /-- ROOT_PLL_LOCK (R393): The root PLL locks after PERST_N release; the ROM moves to CLK_CTL, reads the life-cycle fuses and enters WAIT_IMAGE. -/
  | rootPllLock
  /-- ROOT_PLL_FAIL (R393): The root PLL does not lock within 1 ms of PERST_N release, and the boot fails with 0x0A1C. -/
  | rootPllFail
  /-- VF_ENABLE (R402): The host enables, or disables, SR-IOV VFs through configuration space; a VF enabled after READY enters START. -/
  | vfEnable (num : Nat)
  /-- IDE_KM (R370): A function's selective IDE stream is keyed through IDE_KM in its SPDM session and enters the secure state, which resumes its DMA after a stream failure. -/
  | ideKm (f : Nat) (q : SpdmReq)
  /-- EVT_TAIL (R281): The driver writes EVT_TAIL, freeing event-ring space and re-arming the ring's MSI-X vector. -/
  | evtTail (f : Nat) (v : BitVec 32)
  /-- HOST_ACCESS_FAIL (R372): A device read of host memory ends in Unsupported Request, Completer Abort, completion timeout or a poisoned completion, and the waiting operation fails with 0x0A15. -/
  | hostAccessFail (what : HostOp)
  /-- PARTITION_REVOCATION_DONE (R355): Zeroisation of the resources a PART_CMD revoked completes, and PART_BUSY clears. -/
  | partitionRevocationDone (f : Nat)
  /-- PLY_RANGE_EXCHANGE (R302): The partner's ply protocol range, grade, stepping and QG range arrive on the PF0 ply QP, and the ply forms or is refused, leaving FORMING. -/
  | plyRangeExchange (x : PlyRange)
  deriving DecidableEq, Repr

end Sys2Proof
end

