-- ==== Sys2Proof/WellFormed.lean ====
section
/-! DEFINITION. Well-formed commands: their operands lie within the ranges the spec gives them. -/
namespace Sys2Proof

/-- A requester that exists: VF1 to VF63 (R353). -/
def Req.wf : Req → Bool
  | .pf0 _ => true
  | .vf n _ => decide (1 ≤ n) && decide (n < 64)
  | .nalam => true
  | .cc => true

/-- A command path: ring 0 to 3 and a 64-byte descriptor (R380, R383). -/
def CmdPath.wf : CmdPath → Bool
  | .reg => true
  | .ring n desc _ => decide (n < 4) && decide (desc.length = 64)

/-- The header fields of a packet fit their widths (R236, R237). -/
def Packet.wf (p : Packet) : Bool :=
  decide (p.port < 64) && decide (p.ver < 2 ^ 16) && decide (p.opcode < 256) && decide (p.flags < 256)
    && decide (p.dst < 2 ^ 20) && decide (p.psn < 2 ^ 24) && decide (p.epoch < 2 ^ 32) && decide (p.msn < 2 ^ 24)
    && decide (p.path < 256) && decide (p.tstamp < 2 ^ 32) && decide (p.plen < 2 ^ 16) && decide (p.off < 2 ^ 64)
    && decide (p.arg < 2 ^ 40) && decide (p.tag.length ≤ 16)

/-- An SPDM request's version is a byte. -/
def SpdmReq.wf (q : SpdmReq) : Bool := decide (q.ver < 256)

/-- A BIST result names blocks that exist (R435 to R439). -/
def BistResult.wf (b : BistResult) : Bool :=
  decide (b.lbist < 2 ^ 34) && decide (b.cc < 16) && decide (b.slices < 2 ^ 64) && decide (b.scratch < 2 ^ 34)

/-- A reference clock that exists (R451). -/
def ClockRef.wf : ClockRef → Bool
  | .portLine p => decide (p < 64)
  | .sysRefclk => true
  | .rootPll => true
  | .pcieRefclk => true
  | .sync => true

/-- A host operation names a function and ring that exist. -/
def HostOp.wf : HostOp → Bool
  | .progImage f => decide (f < 64)
  | .sq f n => decide (f < 64) && decide (n < 4)
  | .sqRecord f n desc => decide (f < 64) && decide (n < 4) && decide (desc.length = 64)
  | .fwImage => true
  | .warmImage => true
  | .twrSend _ => true

/-- A well-formed command. -/
def Instr.wf (i : Instr) : Bool :=
  match i with
  | .registerWrite r addr size _ =>
    r.wf && decide (addr < 2 ^ 26) && (size == 4 || size == 8)
  | .counterReadClear r addr | .rngData r addr =>
    r.wf && decide (addr < 2 ^ 26)
  | .add sp | .sub sp | .and sp | .or sp | .xor sp | .sll sp | .srl sp | .sra sp | .mul sp | .mulhu sp | .cmpeq sp
  | .cmplt sp | .cmpltu sp | .sel sp | .pand sp | .por sp | .pxor sp | .movp sp | .addi sp | .andi sp | .ori sp
  | .xori sp | .slli sp | .srli sp | .srai sp | .cmpeqi sp | .cmplti sp | .cmpltui sp | .lih sp | .ld1 sp | .ld2 sp
  | .ld4 sp | .ld8 sp | .ld16 sp | .st1 sp | .st2 sp | .st4 sp | .st8 sp | .st16 sp | .sysr sp | .br sp | .fold sp
  | .foldr sp | .directoryPageFetch sp | .zero sp | .copy sp | .drain sp | .drainCombine sp | .drainRead sp | .chkt sp
  | .takeD sp | .takeWake sp | .takeO sp | .takeS sp | .takeA sp | .expand sp | .seedrec sp | .prgh sp | .openMsg sp
  | .ntt sp | .intt sp | .pmul sp | .padd sp | .auto sp | .modup sp | .moddn sp | .resc sp | .ksw sp | .lutr sp
  | .decode sp | .noise sp | .clip sp | .clipFinish sp | .apply sp | .release sp | .gate sp | .gateTimeout sp
  | .waitc sp | .waitTimeout sp | .signal sp | .signalApply sp | .fence sp | .trap sp | .trapReturn sp | .halt sp
  | .haltDone sp | .step sp | .stepSetround sp | .lockkeeperWatchdog sp | .spindleStopped sp | .spareSubstituted sp
  | .journalPoint sp =>
    decide (sp < 32)
  | .foldSegmentRetire sp _ | .residueCheckFail sp _ | .unitInstructionRetire sp _ =>
    decide (sp < 32)
  | .releaseTrailerDone f r | .roundEnterOpen f r | .periodicRoundOpen f r | .roundGuardTimer f r | .roundDeadline f r
  | .candidatesResolved f r | .unmaskTimeout f r | .releaseDestTimeout f r | .partialDecryptTimeout f r
  | .canonicalPassDone f r | .childWaitExpiry f r | .partialDigestDone f r | .plyLateSlotExpiry f r =>
    decide (f < 64) && decide (r < 2 ^ 40)
  | .gateRelease f _ | .load f _ | .nlTimeout f _ | .ctrVal f _ | .kem f _ | .bind f _ | .policy f _ | .joinList f _
  | .noiseSeed f _ | .memKey f _ | .checkpointKey f _ | .evtTail f _ =>
    decide (f < 64)
  | .start f | .stop f | .resume f | .unload f | .fkeyZero f | .memKeyInitDone f | .memRotationSweep f | .flr f
  | .functionResetDone f | .fsnapCmd f | .ideReq f | .ideStreamFailed f | .attach f | .goService f
  | .partitionRevocationDone f =>
    decide (f < 64)
  | .openRound f n desc _ | .hostSubmit f n desc _ | .applyRound f n desc _ | .createQp f n desc _
  | .checkpointResume f n desc _ =>
    decide (f < 64) && decide (n < 4) && decide (desc.length = 64)
  | .abandonRound f n desc | .roundStatus f n desc | .setDest f n desc | .nop f n desc | .qpClose f n desc
  | .qpDestroy f n desc | .qpPin f n desc | .qpUnpin f n desc | .qpBind f n desc | .checkpoint f n desc
  | .leafDigests f n desc =>
    decide (f < 64) && decide (n < 4) && decide (desc.length = 64)
  | .contribution f qp lz _ | .recoveryMessage f qp lz _ =>
    decide (f < 64) && qp.all (fun n => decide (n < 2 ^ 20)) && decide (lz < 2 ^ 24)
  | .committeeReturn f qpn _ | .partialDecryption f qpn _ | .cohortMessage f qpn _ | .plyAsset f qpn _
  | .plyOpen f qpn _ | .plyCohort f qpn _ | .plyVerdict f qpn _ | .plyShare f qpn _ | .plyReturn f qpn _
  | .plyDigest f qpn _ | .plyDone f qpn _ =>
    decide (f < 64) && decide (qpn < 2 ^ 20)
  | .hello p | .accept p | .refuse p | .send p | .write p | .ack p | .nak p | .close p =>
    p.wf
  | .handshakeRetry qpn | .kztPacketTransmit qpn | .ackTimer qpn | .creditProbe qpn | .drainingTimeout qpn
  | .fetchTimeout qpn =>
    decide (qpn < 2 ^ 20)
  | .rtoExpiry qpn _ =>
    decide (qpn < 2 ^ 20)
  | .pathSuspectExpiry qpn h =>
    decide (qpn < 2 ^ 20) && decide (h < 256)
  | .contextFetchDone qpn _ _ =>
    decide (qpn < 2 ^ 20)
  | .portDown port | .portUp port =>
    decide (port < 64)
  | .openWin f path | .revokeWin f path | .postTwr f path | .cancelTwr f path =>
    decide (f < 64) && path.wf
  | .twrFire _ _ | .creelDone _ _ =>
    true
  | .syncEpoch r m =>
    r.wf && decide (m < 2 ^ 64)
  | .syncMarker | .syncMarkerTimeout | .plyHeartbeat | .plyPartnerLost | .rngCollectionDone | .reseedTimer
  | .generateRequest | .rngWordServe | .remask | .pcieLinkDown | .pcieLinkUp | .perstNAssert | .perstNRelease
  | .fwImageTimeout | .attestDone | .fwinitDone | .ready | .bootTimeout | .nalamWatchdog
  | .creelTierLost | .bookAudit | .frzNAssert | .freezeZeroiseDone | .bypass | .idcode | .samplePreload | .extest
  | .frzData | .fieldSelfTest | .vidStep | .rootPllLock | .rootPllFail =>
    true
  | .plyForm r | .plyDissolve r | .lcVoid r | .rollbackCommit r | .partCmd r | .frGo r | .snapCmd r | .fwDoorbell r
  | .full r | .fuseRepair r =>
    r.wf
  | .rngSourceSettled k | .rngStartupTestDone k =>
    decide (k < 8)
  | .rngHealthFail k _ =>
    decide (k < 8)
  | .assign r slot func _ =>
    r.wf && decide (slot < 64) && decide (func < 64)
  | .keyRelease r slot | .keyZero r slot =>
    r.wf && decide (slot < 64)
  | .lifecycleTransition _ | .mctpControl _ | .fwImageArrival _ | .warmImageVerified _ | .dbgToken _ | .frzAddr _
  | .thermalTrip _ | .railFault _ | .plyRangeExchange _ =>
    true
  | .getVersion f q | .getCapabilities f q | .negotiateAlgorithms f q | .getDigests f q | .getCertificate f q
  | .challenge f q | .getMeasurements f q | .keyExchange f q | .finish f q | .heartbeat f q | .keyUpdate f q
  | .endSession f q | .ideKm f q =>
    decide (f < 64) && q.wf
  | .evk f _ _ | .committeeKey f _ _ =>
    decide (f < 64)
  | .ringCreate f n | .ringDestroy f n =>
    decide (f < 64) && decide (n < 4)
  | .sqTail f n _ | .cqHead f n _ =>
    decide (f < 64) && decide (n < 4)
  | .farDone fast slow =>
    decide (fast < 2 ^ 16) && decide (slow < 2 ^ 16)
  | .portsDone up =>
    decide (up < 2 ^ 64)
  | .warmGo r _ =>
    r.wf
  | .ccWatchdog core =>
    decide (core < 4)
  | .clockLoss ref =>
    ref.wf
  | .farPackageLost p =>
    decide (p < 16)
  | .creelScrub t | .scrubFoldHold t | .farScrub t =>
    decide (t < 2 ^ 24)
  | .stagingDone f t =>
    decide (f < 64) && decide (t < 2 ^ 24)
  | .fieldNow r pspin =>
    r.wf && (decide (pspin < 34) || pspin == 63)
  | .bistDone res | .drbgSeededAtBoot res =>
    res.wf
  | .weirSample temps _ =>
    decide (temps.length = 64)
  | .vfEnable num =>
    decide (num < 64)
  | .hostAccessFail what =>
    what.wf

end Sys2Proof
end

