-- ==== Sys2Proof/Decode.lean ====
section
/-! DEFINITION. The opcode table gives no command any bits: the device takes commands, not words, so no word spells one. -/
namespace Sys2Proof

/-- The command a word spells by the opcode table's bits: none, since the table gives its rows no bits. -/
def decodeTableWord (_nbits _w : Nat) : Option Instr := none

end Sys2Proof
end

