-- ==== Sys2Proof/Config.lean ====
section
/-! DEFINITION. What the spec and the standards it names leave open, as constants with no body: nothing in Lean can evaluate
them, so a claim holds whatever they are. `free` gives a value the spec does not state. -/
namespace Sys2Proof.Config

/-- A value the spec leaves open, by the model's own counter. -/
opaque free : Nat → Nat

/-! ## What the standards of R12 leave to an implementation -/

/-- The per-message number of an ECDSA signature (FIPS 186-5): scalar, message. -/
opaque ecdsaNonce : Nat → Bytes → Nat
/-- The randomiser C of an LM-OTS signature (RFC 8554): seed, leaf, message. -/
opaque lmsRandom : Nat → Nat → Bytes → Nat

/-! ## Sources of randomness -/

/-- The decimated bits of the `i`-th collection: entropy input, then nonce (R316, R317). -/
opaque entropy : Nat → Nat
/-- What a page of a lost LPDDR5X package reads as, by its far address (R419). -/
opaque lostPage : Nat → Nat
/-- The 256-bit PUF key (R331). -/
opaque pufKey : BitVec 256
/-- Whether the PUF key is regenerated within three attempts, by draw (R331). -/
opaque pufOk : Nat → Bool

/-! ## Formats and results the spec does not lay out -/

/-- The roster of a mode 0 round holds a slot: contents of the roster tiles by offset, slot (R93). -/
opaque rosterHas : List (Nat × Byte) → Nat → Bool
/-- The neighbours the roster gives a slot. -/
opaque rosterNeighbours : List (Nat × Byte) → Nat → List Nat
/-- The public key the roster gives a slot, 49 bytes compressed. -/
opaque rosterKey : List (Nat × Byte) → Nat → Bytes
/-- Limb `j`, coefficient `i` of component `k` of the ciphertext LUTR writes (R134): operand coefficients and table, then
`k`, `j`, `i`. -/
opaque lutrLimb : List Nat → Nat → Nat → Nat → Nat
/-- Component `k`, slot `j`, coefficient `i` that MODUP alone leaves (R123): how D digits lie in one component is not
stated. -/
opaque modupLimb : List Nat → Nat → Nat → Nat → Nat
/-- From byte 16, the program image that the firmware in an image binds to the spindles of a basic-level round (R384): its
text is not part of the spec. -/
opaque firmwareProgram : Bytes → Bytes
/-- The 240 bytes a spilled queue-pair context seals, by draw (R254): their layout is not part of the spec. -/
opaque contextBody : Nat → Bytes
/-- The body of an SPDM response of a code, by draw: DSP0274 lays it out (R347). -/
opaque spdmBody : Nat → Nat → Bytes
/-- The body of a checkpoint: the function's saved state, by draw (R428). -/
opaque checkpointBody : Nat → Bytes
/-- The VID code of a weir step, fused per die (R458). -/
opaque vidCode : Nat → Nat
/-- Fliren's manufacturer identity, as IDCODE carries it (R433). -/
opaque manufacturerId : BitVec 11

end Sys2Proof.Config
end

