-- ==== Sys2Proof/Machine/Sha.lean ====
section
/-! DEFINITION. The hash functions of R12: SHA-256 and SHA-384 of FIPS 180-4, and the sponge of FIPS 202 that FIPS 203
uses. Words are natural numbers below 2^w. -/
namespace Sys2Proof.Machine
open Sys2Proof

/-- The number a run of big-endian bytes spells. -/
def beNat (b : Bytes) : Nat := b.foldl (fun a x => 256 * a + x.toNat) 0
/-- `n` big-endian bytes of `x`. -/
def toBe (n x : Nat) : Bytes := (toLe n x).reverse
/-- `n` blocks of `k` bytes. -/
def blocksOf (k : Nat) : Nat → Bytes → List Bytes
  | 0, _ => []
  | n + 1, b => b.take k :: blocksOf k n (b.drop k)
/-- `x` turned right by `n` bits in a word of `w`. -/
def rotr (w n x : Nat) : Nat := x / 2 ^ n + x % 2 ^ n * 2 ^ (w - n)

/-! ## FIPS 180-4 -/

/-- What tells SHA-256 from SHA-384: word width, rounds, rotations, and the round constants packed one after another. -/
structure ShaKind where
  w : Nat
  rounds : Nat
  /-- Σ0, Σ1: three rotations each; σ0, σ1: two rotations and a shift each -/
  big0 : List Nat
  big1 : List Nat
  small0 : List Nat
  small1 : List Nat
  ks : Nat
  init : List Nat

/-- The first 64 round constants of SHA-256, the lowest first. -/
def sha256K : Nat :=
  0xc67178f2bef9a3f7a4506ceb90befffa8cc7020884c8781478a5636f748f82ee682e6ff35b9cca4f4ed8aa4a391c0cb334b0bcb52748774c1e376c0819a4c116106aa070f40e3585d6990624d192e819c76c51a3c24b8b70a81a664ba2bfe8a192722c8581c2c92e766a0abb650a735453380d134d2c6dfc2e1b213827b70a851429296706ca6351d5a79147c6e00bf3bf597fc7b00327c8a831c66d983e515276f988da5cb0a9dc4a7484aa2de92c6f240ca1cc0fc19dc6efbe4786e49b69c1c19bf1749bdc06a780deb1fe72be5d74550c7dc3243185be12835b01d807aa98ab1c5ed5923f82a459f111f13956c25be9b5dba5b5c0fbcf71374491428a2f98

/-- The 80 round constants of SHA-384, the lowest first. -/
def sha512K : Nat := 
  0x6c44198c4a4758175fcb6fab3ad6faec597f299cfc657e2a4cc5d4becb3e42b6431d67c49c100d4c3c9ebe0a15c9bebc32caab7b40c7249328db77f523047d841b710b35131c471b113f9804bef90dae0a637dc5a2c898a606f067aa72176fbaf57d4f7fee6ed178eada7dd6cde0eb1ed186b8c721c0c207ca273eceea26619cc67178f2e372532bbef9a3f7b2c67915a4506cebde82bde990befffa23631e288cc702081a6439ec84c87814a1f0ab7278a5636f43172f60748f82ee5defb2fc682e6ff3d6b2b8a35b9cca4f7763e3734ed8aa4ae3418acb391c0cb3c5c95a6334b0bcb5e19b48a82748774cdf8eeb991e376c085141ab5319a4c116b8d2d0c8106aa07032bbd1b8f40e35855771202ad69906245565a910d192e819d6ef5218c76c51a30654be30c24b8b70d0f89791a81a664bbc423001a2bfe8a14cf1036492722c851482353b81c2c92e47edaee6766a0abb3c77b2a8650a73548baf63de53380d139d95b3df4d2c6dfc5ac42aed2e1b21385c26c92627b70a8546d22ffc142929670a0e6e7006ca6351e003826fd5a79147930aa725c6e00bf33da88fc2bf597fc7beef0ee4b00327c898fb213fa831c66d2db43210983e5152ee66dfab76f988da831153b55cb0a9dcbd41fbd44a7484aa6ea6e4832de92c6f592b0275240ca1cc77ac9c650fc19dc68b8cd5b5efbe4786384f25e3e49b69c19ef14ad2c19bf174cf6926949bdc06a725c7123580deb1fe3b1696b172be5d74f27b896f550c7dc3d5ffb4e2243185be4ee4b28c12835b0145706fbed807aa98a3030242ab1c5ed5da6d8118923f82a4af194f9b59f111f1b605d0193956c25bf348b538e9b5dba58189dbbcb5c0fbcfec4d3b2f7137449123ef65cd428a2f98d728ae22

/-- SHA-256. -/
def sha256Kind : ShaKind :=
  { w := 32, rounds := 64, big0 := [2, 13, 22], big1 := [6, 11, 25], small0 := [7, 18, 3], small1 := [17, 19, 10], ks := sha256K
    init := [0x6a09e667, 0xbb67ae85, 0x3c6ef372, 0xa54ff53a, 0x510e527f, 0x9b05688c, 0x1f83d9ab, 0x5be0cd19] }

/-- SHA-384. -/
def sha384Kind : ShaKind :=
  { w := 64, rounds := 80, big0 := [28, 34, 39], big1 := [14, 18, 41], small0 := [1, 8, 7], small1 := [19, 61, 6], ks := sha512K
    init := [0xcbbb9d5dc1059ed8, 0x629a292a367cd507, 0x9159015a3070dd17, 0x152fecd8f70e5939
             , 0x67332667ffc00b31, 0x8eb44a8768581511, 0xdb0c2e0d64f98fa7, 0x47b5481dbefa4fa4] }

/-- Σ: three rotations. -/
def ShaKind.big (h : ShaKind) (r : List Nat) (x : Nat) : Nat :=
  Nat.xor (Nat.xor (rotr h.w (r.getD 0 0) x) (rotr h.w (r.getD 1 0) x)) (rotr h.w (r.getD 2 0) x)
/-- σ: two rotations and a shift. -/
def ShaKind.small (h : ShaKind) (r : List Nat) (x : Nat) : Nat :=
  Nat.xor (Nat.xor (rotr h.w (r.getD 0 0) x) (rotr h.w (r.getD 1 0) x)) (x / 2 ^ r.getD 2 0)

/-- `n` more words of the message schedule, newest first. -/
def ShaKind.schedule (h : ShaKind) : Nat → List Nat → List Nat
  | 0, l => l
  | n + 1, l =>
    h.schedule n ((h.small h.small1 (l.getD 1 0) + l.getD 6 0 + h.small h.small0 (l.getD 14 0) + l.getD 15 0) % 2 ^ h.w :: l)

/-- One round: working variables a to h, the round constant plus the schedule word. -/
def ShaKind.round (h : ShaKind) (v : List Nat) (kw : Nat) : List Nat :=
  match v with
  | [a, b, c, d, e, f, g, x] =>
    let m := 2 ^ h.w
    let t1 := x + h.big h.big1 e + Nat.xor (Nat.land e f) (Nat.land (m - 1 - e) g) + kw
    let t2 := h.big h.big0 a + Nat.xor (Nat.xor (Nat.land a b) (Nat.land a c)) (Nat.land b c)
    [(t1 + t2) % m, a, b, c, (d + t1) % m, e, f, g]
  | _ => v

/-- The compression of one block. -/
def ShaKind.compress (h : ShaKind) (v : List Nat) (block : Bytes) : List Nat :=
  let ws := (blocksOf (h.w / 8) 16 block).map beNat
  let sched := (h.schedule (h.rounds - 16) ws.reverse).reverse
  let out := (List.range h.rounds).foldl (fun v i => h.round v (bits h.ks (h.w * i) h.w + sched.getD i 0)) v
  (v.zip out).map (fun p => (p.1 + p.2) % 2 ^ h.w)

/-- The padded message: 0x80, zeros, and the length in bits. -/
def ShaKind.pad (h : ShaKind) (b : Bytes) : Bytes :=
  let n := 2 * h.w
  let lenb := h.w / 4
  let z := (n - (b.length + 1 + lenb) % n) % n
  b ++ [0x80] ++ List.replicate z 0 ++ toBe lenb (8 * b.length)

/-- The digest's bytes, the whole state. -/
def ShaKind.hash (h : ShaKind) (b : Bytes) : Bytes :=
  let p := h.pad b
  ((blocksOf (2 * h.w) (p.length / (2 * h.w)) p).foldl h.compress h.init).flatMap (toBe (h.w / 8))

/-- SHA-256, 32 bytes. -/
def sha256Bytes (b : Bytes) : Bytes := sha256Kind.hash b
/-- SHA-384, 48 bytes. -/
def sha384Bytes (b : Bytes) : Bytes := (sha384Kind.hash b).take 48

/-! ## FIPS 202 -/

/-- The round constants of Keccak-f[1600], the first lowest. -/
def keccakRC : Nat := 
  0x8000000080008008000000008000000180000000000080808000000080008081800000008000000a000000000000800a8000000000000080800000000000800280000000000080038000000000008089800000000000008b000000008000808b000000008000000a00000000800080090000000000000088000000000000008a800000000000800980000000800080810000000080000001000000000000808b8000000080008000800000000000808a00000000000080820000000000000001

/-- Rotations of the ρ step by lane x + 5·y. -/
def keccakRho : List Nat :=
  [0, 1, 62, 28, 27, 36, 44, 6, 55, 20, 3, 10, 43, 25, 39, 41, 45, 15, 21, 8, 18, 2, 61, 56, 14]

/-- A lane turned left. -/
def rotl64 (n x : Nat) : Nat := x * 2 ^ n % 2 ^ 64 + x / 2 ^ (64 - n)

/-- One round of Keccak-f[1600] on 25 lanes. -/
def keccakRound (a : List Nat) (i : Nat) : List Nat :=
  let l (j : Nat) : Nat := a.getD j 0
  let c := (List.range 5).map (fun x => Nat.xor (l x) (Nat.xor (l (x + 5)) (Nat.xor (l (x + 10)) (Nat.xor (l (x + 15)) (l (x + 20))))))
  let d := (List.range 5).map (fun x => Nat.xor (c.getD ((x + 4) % 5) 0) (rotl64 1 (c.getD ((x + 1) % 5) 0)))
  let t := (List.range 25).map (fun j => rotl64 (keccakRho.getD j 0) (Nat.xor (l j) (d.getD (j % 5) 0)))
  -- π: lane (x, y) takes lane (x + 3y, x)
  let b := (List.range 25).map (fun j => t.getD ((j % 5 + 3 * (j / 5)) % 5 + 5 * (j % 5)) 0)
  (List.range 25).map (fun j =>
    let y := j / 5 * 5
    let v := Nat.xor (b.getD j 0) (Nat.land (2 ^ 64 - 1 - b.getD (y + (j + 1) % 5) 0) (b.getD (y + (j + 2) % 5) 0))
    if j = 0 then Nat.xor v (bits keccakRC (64 * i) 64) else v)

/-- Keccak-f[1600]. -/
def keccakF (a : List Nat) : List Nat := (List.range 24).foldl keccakRound a

/-- Absorb one block of the rate. -/
def absorb (a : List Nat) (block : Bytes) : List Nat :=
  keccakF ((List.range 25).map (fun j => Nat.xor (a.getD j 0) (leAt block (8 * j) 8)))

/-- Squeeze `n` blocks of `rate` bytes. -/
def squeeze (rate : Nat) : Nat → List Nat → Bytes
  | 0, _ => []
  | n + 1, a => (a.flatMap (toLe 8)).take rate ++ squeeze rate n (keccakF a)

/-- The sponge: rate in bytes, domain byte, message, output bytes. -/
def sponge (rate dom : Nat) (b : Bytes) (n : Nat) : Bytes :=
  let z := rate - 1 - b.length % rate
  let p := if z = 0 then b ++ [BitVec.ofNat 8 (dom + 0x80)]
    else b ++ [BitVec.ofNat 8 dom] ++ List.replicate (z - 1) 0 ++ [0x80]
  (squeeze rate (ceilDiv n rate) ((blocksOf rate (p.length / rate) p).foldl absorb (List.replicate 25 0))).take n

/-- SHA3-256. -/
def sha3_256 (b : Bytes) : Bytes := sponge 136 0x06 b 32
/-- SHA3-512. -/
def sha3_512 (b : Bytes) : Bytes := sponge 72 0x06 b 64
/-- SHAKE128, `n` bytes. -/
def shake128 (b : Bytes) (n : Nat) : Bytes := sponge 168 0x1F b n
/-- SHAKE256, `n` bytes. -/
def shake256 (b : Bytes) (n : Nat) : Bytes := sponge 136 0x1F b n

end Sys2Proof.Machine
end

