-- ==== Sys2Proof/Machine/State.lean ====
section
/-! DEFINITION. The state of the SX-1 as plain data, its reasons to stop, and the state right after a full reset.
Every docstring names the rule that gives the item; "reset" is its value in `State.reset`. -/
namespace Sys2Proof.Machine

/-! ## Tiles -/

/-- The tile tag (R56). Reserved bits have no field: they read as 0. -/
structure TileTag where
  tenant : Nat := 0
  mode : Nat := 0
  wsel : Nat := 0
  limb : Nat := 0
  count : Nat := 0
  ovr : Bool := false
  sealed : Bool := false
  far : Bool := false
  epoch : Nat := 0
  keygen : Nat := 0
  csum : Nat := 0
  /-- mode 3: the tile's primes are those below 2^60 (R58 takes the checksum modulo the tile's prime, which LIMB names
  within its set); not a bit of the tag -/
  b60 : Bool := false
  deriving DecidableEq, Repr

/-- A far tile staged in a function's pool (R71); `slot` is the near tile that holds the copy. -/
structure Staged where
  func : Nat
  tile : Nat
  slot : Nat
  dirty : Bool
  lastUse : Nat
  /-- the tag as it stands in far memory, which a discarded copy goes back to (R389) -/
  farTag : TileTag
  deriving DecidableEq, Repr

/-- A 4 KiB page of a far row block in a function's staging pool (R148): page `page` of `tile` lies at page `pos` of the
near tile `slot`. -/
structure PageCopy where
  func : Nat
  tile : Nat
  page : Nat
  slot : Nat
  pos : Nat
  dirty : Bool
  lastUse : Nat
  deriving DecidableEq, Repr

/-! ## Ciphertexts and keys -/

/-- The ciphertext descriptor (R113). -/
structure CtDesc where
  ps : Nat := 0
  level : Nat := 0
  noise : Nat := 0
  keyset : Nat := 0
  ntt : Bool := false
  ext : Bool := false
  three : Bool := false
  alloc3 : Bool := false
  marked : Bool := false
  autoK : Nat := 0
  tile : Nat := 0
  wsel : Nat := 0
  count : Nat := 0
  nuIn : Nat := 0
  res : Nat := 0
  deriving DecidableEq, Repr

/-- An evaluation-key tag (R124). -/
structure EvkTag where
  keyset : Nat
  ps : Nat
  kind : Nat
  level : Nat
  galK : Nat
  tile : Nat
  ntiles : Nat
  digest : Nat
  deriving DecidableEq, Repr

/-- A slice of an evaluation key in cache tiles (R125): the table index, the level it serves, its tiles in order. -/
structure EvkSlice where
  key : Nat
  level : Nat
  tiles : List Nat
  lastUse : Nat
  deriving DecidableEq, Repr

/-- A committee public key held for a key set (R349, KIND 5). -/
structure CommKey where
  keyset : Nat
  tile : Nat
  len : Nat
  digest : Nat
  deriving DecidableEq, Repr

/-! ## Policy and assets -/

/-- A destination entry of the policy (R157). -/
structure PolDest where
  kind : Nat
  peer : Nat
  deriving DecidableEq, Repr

/-- The release policy (R157). -/
structure Policy where
  modes : Nat
  format : Nat
  form : Nat
  ndest : Nat
  id : Nat
  tag : Nat
  kMin : Nat
  sigma : Nat
  tau : Nat
  digest : Nat
  dests : List PolDest
  deriving DecidableEq, Repr

/-- A join-list entry (R288). -/
structure JoinEntry where
  lid : Nat
  stair : Bool
  ply : Bool
  peer : Nat
  deriving DecidableEq, Repr

/-! ## Messages and rounds -/

/-- What a landing-zone message is (R89, R466). -/
inductive MsgKind where
  | contribution
  | recovery
  | guardRelease
  deriving DecidableEq, Repr

/-- A completed message held by the device: queued, held or live (R84 to R89, R207). -/
structure Msg where
  func : Nat
  round : Nat
  slot : Nat
  kind : MsgKind
  /-- first landing-zone tile -/
  lz : Nat
  /-- PAYLOAD_LEN -/
  len : Nat
  /-- completion time (R89) -/
  time : Nat
  /-- the 64-byte header (R83) -/
  hdr : Bytes
  /-- arrived on a QP bound to its round (R107) -/
  bound : Bool
  /-- landed in a LANDING window, whose space does not return to the pool (R266) -/
  window : Bool := false
  /-- elements folded or being folded (R207) -/
  cursor : Nat := 0
  /-- rows FOLDR has resolved (R145) -/
  resolved : Nat := 0
  /-- the preparation of the first FOLD has passed (R208) -/
  prepared : Bool := false
  /-- OPEN has run and passed (R218) -/
  opened : Bool := false
  /-- CLIP has run (R225) -/
  clipped : Bool := false
  /-- CLIP scaled it (R161) -/
  scaled : Bool := false
  /-- fold segments issued and not yet retired -/
  segs : Nat := 0
  /-- tiles and epochs whose COUNT its segments already give 1 (R30) -/
  counted : List (Nat × Nat) := []
  deriving DecidableEq, Repr

/-- Round states (R80); `opening` is an accepted open that has not entered OPEN (R465). -/
inductive RState where
  | opening | open | guard | closed | unmask | gated | released | abandoned
  deriving DecidableEq, Repr

/-- The mode 3 fields of an open (R116, R387). -/
structure M3Cfg where
  ps : Nat
  levelIn : Nat
  nlPath : Nat
  keyset : Nat
  nlTimeout : Nat
  evkBase : Nat
  evkCount : Nat
  workBase : Nat
  workCount : Nat
  committeeQp : Nat
  deriving DecidableEq, Repr

/-- The row fields of an open (R138, R387). -/
structure RowCfg where
  rows : Nat
  rw : Nat
  maxRows : Nat
  accBase : Nat
  accTiles : Nat
  dirBase : Nat
  dirTiles : Nat
  cacheBase : Nat
  cacheCount : Nat
  windows : List (Nat × Nat)
  deriving DecidableEq, Repr

/-- The staircase fields of an open (R289, R387). -/
structure StairCfg where
  height : Nat
  childPolicy : Nat
  nch : Nat
  parentQp : Nat
  slotLo : Nat
  slotHi : Nat
  childWait : Nat
  deriving DecidableEq, Repr

/-- The open record (R387). -/
structure RoundCfg where
  round : Nat := 0
  mode : Nat := 0
  rowMode : Nat := 0
  ply : Bool := false
  encoding : Nat := 0
  slots : Nat := 0
  tileBase : Nat := 0
  l : Nat := 0
  m : Nat := 0
  tOpen : Nat := 0
  window : Nat := 0
  period : Nat := 0
  floor : Nat := 0
  guardBand : Nat := 0
  dest : Nat := 0
  unmaskTimeout : Nat := 0
  threshold : Nat := 0
  committee : Nat := 0
  rosterBase : Nat := 0
  rosterNt : Nat := 0
  statusAddr : Nat := 0
  lzBase : Nat := 0
  lzCount : Nat := 0
  stageBase : Nat := 0
  stageCount : Nat := 0
  ctlBase : Nat := 0
  ctlCount : Nat := 0
  m3 : Option M3Cfg := none
  rows : Option RowCfg := none
  stair : Option StairCfg := none
  deriving DecidableEq, Repr

/-- The counts of the round status record (R109). -/
structure RoundCounts where
  accepted : Nat := 0
  cohort : Nat := 0
  duplicate : Nat := 0
  mismatch : Nat := 0
  malformed : Nat := 0
  late : Nat := 0
  rejected : Nat := 0
  sharesOk : Nat := 0
  sharesDenied : Nat := 0
  /-- held contributions discarded at close (R106, R424) -/
  guardDiscarded : Nat := 0
  /-- rejected with 0x011D, which were never appended or held (R107) -/
  full : Nat := 0
  deriving DecidableEq, Repr

/-- A mode 0 share record received (R93). -/
structure Share where
  owner : Nat
  kind : Nat
  x : Nat
  ys : List Nat
  deriving DecidableEq, Repr

/-- A mode 1 aggregated share received (R97). -/
structure AggShare where
  x : Nat
  coef : List Nat
  deriving DecidableEq, Repr

/-- The unmasking of a round (R94 to R99, R215, R216). -/
structure Unmask where
  /-- the time the round entered UNMASK (R96) -/
  since : Nat := 0
  /-- the published cohort bitmap and its SHA-256 (R96) -/
  bitmap : Bytes := []
  digest : Nat := 0
  shares : List Share := []
  aggShares : List AggShare := []
  /-- reconstructed secrets by OWNER and KIND (R95) -/
  secrets : List (Nat × Nat × Nat) := []
  /-- pending expansions by OWNER and KIND (R215) -/
  queue : List (Nat × Nat) := []
  /-- secrets already expanded -/
  expanded : List (Nat × Nat) := []
  /-- Σs of mode 1 (R99) -/
  sigma : Option (List Nat) := none
  /-- parts of the mode 1 expansion begun, and done (R204) -/
  ran : List Nat := []
  parts : List Nat := []
  deriving DecidableEq, Repr

/-- A DECODE output tile (R224), with the tag DECODE gave it: what is written to the tile later leaves another. -/
structure OutTile where
  tile : Nat
  logical : Nat
  fmt : Nat
  bytes : Nat
  tag : TileTag
  deriving DecidableEq, Repr

/-- A destination as step 6 of the gate resolved it (R169): an address in host memory, or a QP. -/
inductive Path where
  | host (addr : Nat)
  | peer (qpn : Nat)
  deriving DecidableEq, Repr

/-- A partial decryption record received (R137). -/
structure PartialDec where
  x : Nat
  smudge : Nat
  polys : List (List (List Nat))
  deriving DecidableEq, Repr

/-- The gate sequence of a round (R168 to R173). -/
structure GateSt where
  /-- the time the round entered GATED -/
  since : Nat := 0
  /-- step reached: 0 none, 4 steps 1 to 4 passed, 5 noise pass complete, 7 releasing, 8 trailer -/
  step : Nat := 0
  /-- parts of the noise pass begun, and done (R204) -/
  noiseRan : List Nat := []
  noiseParts : List Nat := []
  /-- kept ACC_DIGEST leaves with their logical tile (R172) -/
  accLeaves : List (Nat × Nat) := []
  relLeaves : List (Nat × Nat) := []
  outs : List OutTile := []
  /-- destination index the first RELEASE named, and what step 6 has resolved it to (R169) -/
  dest : Option Nat := none
  path : Option Path := none
  nextIdx : Nat := 0
  tilesSent : Nat := 0
  /-- bytes handed to the destination path -/
  sent : Nat := 0
  /-- the RELEASE that carries the last tile has retired (R171) -/
  committed : Bool := false
  /-- a stop recorded during step 7 (R170, R171) -/
  stop : Option Nat := none
  /-- partial decryptions (R137) -/
  ctDigest : Nat := 0
  partials : List PartialDec := []
  /-- n′ of joint decryption -/
  kept : Option Nat := none
  /-- partial sums of squares of APPLY: step counter, part, sum in binary64 (R47, R227) -/
  applySums : List (Nat × Nat × Nat) := []
  deriving DecidableEq, Repr

/-- The staircase part of a round (R293 to R295). -/
structure StairSt where
  combined : Nat := 0
  children : List Nat := []
  mergedCount : Nat := 0
  merged : List Nat := []
  settled : Bool := false
  passed : Bool := false
  /-- row lists of children of a sparse round, by QP: row, slot, count (R153) -/
  lists : List (Nat × List (Nat × Nat × Nat)) := []
  /-- row-block records whose row list has not arrived: QP, tile number, tag and data, and the counter and addend of their
  window -/
  early : List (Nat × Nat × Bytes × Nat × Nat) := []
  deriving DecidableEq, Repr

/-- The ply part of a round (R305 to R308). -/
structure PlyRound where
  /-- the round runs plied (R303) -/
  plied : Bool := false
  /-- A's closing cohort at B (R306) -/
  cohort : Option (List Nat) := none
  awaiting : List Nat := []
  /-- B's verdict on the digest, at A (R307) -/
  verdict : Option Nat := none
  /-- the partner's digest, at B -/
  peerDigest : Option Nat := none
  /-- own ACC_DIGEST or partial digest once formed -/
  digest : Option Nat := none
  /-- DONE received at B (R308) -/
  done : Bool := false
  /-- SHA-256 of the open record (R304) -/
  openDigest : Nat := 0
  /-- VERDICTs received at A: to OPEN, COHORT and DIGEST in turn (R304) -/
  answers : Nat := 0
  /-- slots whose contribution failed before COHORT was applied (R306) -/
  failed : List Nat := []
  deriving DecidableEq, Repr

/-- How the indicator b of a mode 3 query was decided (R129, R132). With no norm check the contribution is kept as it is. -/
inductive QDecision where
  | unchecked
  | returned (ct : List (List (List Nat)))
  | excluded
  | chain
  deriving DecidableEq, Repr

/-- An outstanding mode 3 CLIP handle (R130, R225). -/
structure Query where
  handle : Nat
  func : Nat
  round : Nat
  slot : Nat
  lz : Nat
  qid : Nat
  sign : Bool
  noise : Nat
  /-- the counter a CLIP names; none under FOLD -/
  ctr : Option Nat
  sentAt : Nat
  onWire : Bool
  decided : Option QDecision
  /-- the query as it is sent; strand B keeps it to query after a partner loss (R133) -/
  msg : Bytes
  /-- the ciphertext v of R129 step 2: descriptor and component, limb, coefficient -/
  desc : CtDesc
  v : List (List (List Nat))
  deriving DecidableEq, Repr

/-- The mode 3 part of a round (R113, R129, R136). -/
structure M3St where
  acc : List CtDesc := []
  cnt : CtDesc := {}
  /-- accepted returns and timeout decisions by QUERY_ID, kept until the round leaves GATED (R133) -/
  returns : List (Nat × QDecision) := []
  deriving DecidableEq, Repr

/-- An entry of the row directory (R142). -/
structure DirEntry where
  row : Nat := 0
  valid : Bool := false
  slot : Nat := 0
  count : Nat := 0
  deriving DecidableEq, Repr

/-- A directory page in the cache (R144): it lies at page `slot` of the DIRCACHE tiles. -/
structure CachePage where
  page : Nat
  slot : Nat
  dirty : Bool
  deriving DecidableEq, Repr

/-- The sparse part of a round (R142 to R152). -/
structure SparseSt where
  /-- the entries in use, by entry number (4 · bucket + position): what the directory's tiles and their cached pages spell -/
  dir : List (Nat × DirEntry) := []
  accNext : Nat := 0
  /-- cached directory pages, most recently used first (R144) -/
  pages : List CachePage := []
  /-- page fetches outstanding, by spindle, oldest first (R144) -/
  misses : List (Nat × Nat) := []
  /-- the canonical pass has run (R150) -/
  canonical : Bool := false
  /-- rows listed in the release (R152): row, slot, count -/
  released : List (Nat × Nat × Nat) := []
  suppressed : Nat := 0
  deriving DecidableEq, Repr

/-- A mode 2 round key pair (R101). -/
structure RoundKey where
  scalar : Nat := 0
  kem : Nat := 0
  rpk : Nat := 0
  deriving DecidableEq, Repr

/-- A round whose record the device holds (R80, R213). -/
structure Round where
  func : Nat
  cfg : RoundCfg
  /-- opened through a ring (R384), so the firmware placed it and binds its own program -/
  basic : Bool
  /-- accumulator tiles by logical tile (R75), DECODE output tiles of the basic level -/
  acc : List Nat
  outTiles : List Nat
  policy : Policy
  st : RState := .opening
  reason : Nat := 0
  tLast : Nat := 0
  /-- the deadline d -/
  deadline : Nat
  /-- the time the round entered GUARD: a contribution completing then or earlier is treated as OPEN (R105) -/
  guardAt : Nat := 0
  lag : Nat := 0
  /-- number in its periodic series (R108) -/
  series : Nat := 0
  /-- posting order of its first FORWARD that failed, which has not completed and never will (R278, R280) -/
  fwdFailed : Option Nat := none
  /-- the next round of the series has been opened or refused -/
  followed : Bool := false
  counts : RoundCounts := {}
  seed : Nat := 0
  /-- the class-1 request has been served (R465) -/
  drawn : Bool := false
  zeroed : Bool := false
  keys : Option RoundKey := none
  /-- PENDING slots are 1, DONE slots 2 (R87) -/
  dedup : List (Nat × Nat) := []
  intake : List Msg := []
  live : List Msg := []
  guardHold : List Msg := []
  dupHold : List Msg := []
  progressCtr : Option Nat := none
  progress : Nat := 0
  nClipped : Nat := 0
  /-- codes of R84 already raised for the round -/
  raised : List Nat := []
  um : Unmask := {}
  gate : GateSt := {}
  stair : StairSt := {}
  ply : PlyRound := {}
  m3 : M3St := {}
  sparse : SparseSt := {}
  deriving DecidableEq, Repr

/-! ## Spindles -/

/-- Spindle program states (R200). -/
inductive SpState where
  | unassigned | idle | loaded | running | handler | trapped | stopped | done
  deriving DecidableEq, Repr

/-- The unit operations (R202). -/
inductive UOp where
  | fold | foldr | zero | copy | drain | drainCombine | chkt | takeD | takeO | takeS | takeA | expand | seedrec | prgh
  | openMsg | ntt | intt | pmul | padd | auto | modup | moddn | resc | ksw | lutr | decode | noise | clip | clipFinish
  | apply | release
  deriving DecidableEq, Repr

/-- A tile of a DRAIN or ZERO not yet read: the tile, the epoch that ends, the target (a tile or a record number, R211), and
for a tile the epoch the combine joins (R65). -/
structure DrainPart where
  tile : Nat
  epoch : Nat
  target : Nat := 0
  join : Nat := 0
  deriving DecidableEq, Repr

/-- A unit-queue entry: an instruction issued and not yet retired, with its captured operands (R188, R189). -/
structure UnitEntry where
  id : Nat
  op : UOp
  word : Word
  pc : Nat
  stepc : Nat
  /-- code reported at retirement (R190) -/
  code : Nat := 0
  reports : Bool := false
  /-- scratch spans written at retirement -/
  writes : List (Nat × Bytes) := []
  /-- scratch spans it will write whose bytes are not known yet (R189) -/
  later : List (Nat × Nat) := []
  /-- stream register written at retirement -/
  qdst : Option (Nat × Nat) := none
  /-- round the instruction works on -/
  round : Option Nat := none
  /-- landing-zone tile and slot of the message it works on -/
  msg : Option (Nat × Nat) := none
  /-- a failure of that message takes effect at retirement, with this code (R87) -/
  failCode : Option Nat := none
  /-- fold segments or drain tiles outstanding -/
  parts : Nat := 0
  /-- spread step: the parts it performs (R181, R204) -/
  spread : List Nat := []
  /-- DRAIN with DEST 1: the QP it sends on -/
  qpn : Nat := 0
  /-- APPLY, RELEASE: operands captured at issue (R189): qD, qA, sB, sC -/
  ops : List Nat := []
  /-- APPLY, RELEASE: the record or status records read from scratch -/
  data : Bytes := []
  /-- DRAIN, ZERO: tiles not yet read, in order -/
  drains : List DrainPart := []
  /-- DRAIN with DEST 1: window handle and byte offset -/
  handle : Nat := 0
  offset : Nat := 0
  /-- RELEASE: the last tile of the round (R171) -/
  last : Bool := false
  /-- RELEASE held until DONE or the destination can send (R169, R308) -/
  held : Bool := false
  deriving DecidableEq, Repr

/-- A tile of a DRAIN or ZERO that has issued (R65, R66), in order of issue: the epoch it ends, the spindle and cycle of its
issue, its queue entry, and whether it is a ZERO. -/
structure DrainOut where
  tile : Nat
  epoch : Nat
  spindle : Nat
  time : Nat
  entry : Nat
  zero : Bool
  deriving DecidableEq, Repr

/-- A record that waits to be combined into an epoch of its target that has not begun (R65, R267). -/
structure CombineWait where
  func : Nat
  tile : Nat
  epoch : Nat
  /-- the round that owns the target -/
  round : Option Nat
  /-- the old tag and the tile's data -/
  record : Bytes
  /-- of a record of a TILE window: the counter and addend of the window (R267) -/
  credit : Option (Nat × Nat) := none
  deriving DecidableEq, Repr

/-- A near tile whose data is held in far memory after a tier loss (R418): the far tile, and whether a device key encrypts
it because its function held no memory key. -/
structure Remap where
  near : Nat
  far : Nat
  device : Bool
  deriving DecidableEq, Repr

/-- A fold segment in flight (R62 to R65). -/
structure FoldSeg where
  entry : Nat
  round : Nat
  slot : Nat
  lz : Nat
  tile : Nat
  epoch : Nat
  /-- MODE, WSEL and prime size the fold gives a tile of COUNT 0 (R57) -/
  mode : Nat
  wsel : Nat
  b60 : Bool
  /-- index of its first element within the tile: 0, or the first element of a row (R145) -/
  base : Nat
  elems : List Nat
  /-- modulus index of a mode 3 segment (R114) -/
  limb : Nat
  /-- its message takes 1 in the tag COUNT of the tile's epoch here, once (R30, R147) -/
  counts : Bool
  /-- row folded, for the directory COUNT (R145) -/
  row : Option Nat
  /-- last segment of its message (R87) -/
  last : Bool
  deriving DecidableEq, Repr

/-- What a lockkeeper waits for (R189, R195). -/
inductive Wait where
  | none
  | take
  | waitc (since : Nat)
  | gate (since : Nat)
  | fence
  | step
  | halt
  deriving DecidableEq, Repr

/-- A posted SIGNAL (R195): the unit entries it waits for and its addition. -/
structure PendSignal where
  id : Nat
  entries : List Nat
  ctr : Nat
  addend : Nat
  deriving DecidableEq, Repr

/-- A retirement-log entry (R412). -/
structure RetRec where
  entry : Nat
  code : Nat
  word : Word
  writes : List (Nat × Bytes)
  deriving DecidableEq, Repr

/-- A journal point (R412). -/
structure JPoint where
  s : List Word := []
  p : List Bool := []
  q : List QWord := []
  pc : Nat := 0
  stepc : Nat := 0
  uq : List UnitEntry := []
  time : Nat := 0
  deriving DecidableEq, Repr

/-- A logical spindle: what a program sees (R175) and what the device keeps for it. -/
structure Spindle where
  /-- s0 to s31; s0 reads as 0 (R175); reset 0 -/
  s : List Word := List.replicate 32 0
  /-- p0 to p7; p0 reads as 1; reset 0 -/
  p : List Bool := List.replicate 8 false
  /-- q0 to q15; reset 0 -/
  q : List QWord := List.replicate 16 0
  /-- word index of the next instruction (R175); reset 0 -/
  pc : Nat := 0
  /-- step counter (R175); reset 0 -/
  stepc : Nat := 0
  /-- spindle scratch, byte addressed (R178); unlisted bytes are 0 -/
  scratch : List Host.Cell := []
  /-- program-control state (R200); reset UNASSIGNED -/
  st : SpState := .unassigned
  /-- loaded through the FUNC page (R198) -/
  expert : Bool := false
  /-- loaded by the firmware (R198) -/
  firmware : Bool := false
  textLen : Nat := 0
  handler : Option Nat := none
  /-- logical spindles bound to the same program, ascending (R180) -/
  bound : List Nat := []
  /-- declared tile ranges of the program's image (R199) -/
  decls : List (Nat × Nat) := []
  image : Bytes := []
  /-- unit queue (R188) -/
  uq : List UnitEntry := []
  segs : List FoldSeg := []
  nextId : Nat := 0
  signals : List PendSignal := []
  wait : Wait := .none
  /-- STOP accepted, in-flight instructions not yet retired (R201) -/
  stopping : Bool := false
  /-- the time that STOP was accepted -/
  stopAt : Nat := 0
  /-- TRAP_j: the latest trap record (R191, R200); reset 0 -/
  trap : Nat := 0
  /-- the record at 0x1F_F000 counts later faults of instructions issued before this entry number (R191) -/
  trapId : Nat := 0
  /-- the 64 KiB drain buffer holds tile data of the last drain read (R65) -/
  drainBuf : Bytes := []
  /-- last cycle in which it issued or retired, or in which the watchdog did not count (R192) -/
  active : Nat := 0
  /-- DRAIN and RELEASE messages not yet acknowledged (R195) -/
  unacked : Nat := 0
  journal : JPoint := {}
  /-- undo log: address and earlier byte, newest first (R412) -/
  undo : List Host.Cell := []
  retLog : List RetRec := []
  /-- values returned by SYSR 5, 6 and 7 since the journal point (R412) -/
  sysrLog : List Word := []
  /-- a substitution or time-sharing is in progress (R414 to R416) -/
  recovering : Bool := false
  /-- an UNLOAD or a function reset waits for the substitution to end (R414) -/
  unloading : Bool := false
  deriving DecidableEq, Repr

/-- A physical spindle (R435, R414, R444). -/
structure Phys where
  /-- 0 ACTIVE, 1 SPARE, 2 HOST, 3 FAILED, 4 FUSED; reset from OTP -/
  role : Nat := 0
  lspin0 : Nat := 0
  lspin1 : Nat := 0
  /-- code that failed it; reset 0 -/
  lastCode : Nat := 0
  /-- times of its latest residue mismatches (R411) -/
  mismatches : List Nat := []
  /-- 2 MiB write shadow holds an incomplete unit (R410) -/
  shadow : Bool := false
  deriving DecidableEq, Repr

/-! ## Lock counters -/

/-- What a CLK_CTL cycle has changed: counters and their values before it, one-bit fields set in it, captures that found their
log full (VALID, then each field and value), and the functions whose page a snapshot has covered (R377, R378). -/
structure CtlCycle where
  was : List (Nat × Nat) := []
  set : List Nat := []
  next : List (Nat × List (Nat × Nat)) := []
  snaps : List Nat := []
  deriving DecidableEq, Repr

/-- What has reached a lock counter in this cycle (R260): its value after the last write, the highest progress raise, and the
sum of the additions. -/
structure CtrCyc where
  dev : Nat
  base : Nat
  raise : Nat := 0
  add : Nat := 0
  deriving DecidableEq, Repr

/-! ## Windows, triggers -/

/-- An open memory window (R262, R263). -/
structure Window where
  index : Nat
  gen : Nat
  func : Nat
  tileKind : Bool
  qpn : Nat
  base : Nat
  nt : Nat
  ctr : Nat
  addend : Nat
  round : Nat
  deriving DecidableEq, Repr

/-- A triggered work request (R275). -/
structure Twr where
  id : Nat
  func : Nat
  /-- posting order -/
  order : Nat
  op : Nat
  roundDone : Bool
  ctr : Nat
  qpn : Nat
  threshold : Nat
  tile : Nat
  nt : Nat
  stride : Nat
  doneCtr : Nat
  handle : Nat
  arg : Nat
  round : Nat
  len : Nat
  /-- place in the order of firing, once its counter has reached THRESHOLD at the end of a cycle (R277) -/
  due : Option Nat := none
  fired : Bool := false
  /-- FORWARD or SEND: messages not yet handed over, and messages not yet acknowledged -/
  left : Nat := 0
  unacked : Nat := 0
  deriving DecidableEq, Repr

/-! ## Transport -/

/-- Queue-pair states (R244). -/
inductive QpState where
  | init | listen | handshake | rts | draining | closed | error
  deriving DecidableEq, Repr

/-- What a message being sent belongs to. -/
inductive TxOwner where
  | fwd (twr : Nat)
  | twrSend (twr : Nat)
  | drain (sp : Nat)
  | release (f r : Nat) (sp : Option Nat)
  | cohort (f r : Nat)
  | query (handle : Nat)
  | ply (type : Nat)
  /-- nobody waits for it any more -/
  | nobody
  deriving DecidableEq, Repr

/-- A message queued or being sent (R236, R237, R250). -/
structure TxMsg where
  /-- given when its first packet is sent -/
  msn : Nat := 0
  /-- sequence number of its first packet -/
  seq0 : Option Nat := none
  write : Bool
  handle : Nat
  offset : Nat
  data : Bytes
  owner : TxOwner
  /-- bytes sent for the first time -/
  sent : Nat := 0
  /-- 0xFF padding after a NAK (R269) -/
  naked : Bool := false
  deriving DecidableEq, Repr

/-- A data packet sent and not yet acknowledged (R247). -/
structure TxPkt where
  /-- EPOCH · 2^24 + PSN -/
  seq : Nat
  msn : Nat
  off : Nat
  len : Nat
  /-- RETRY of the last transmission, and transmissions so far -/
  retry : Nat
  sends : Nat
  path : Nat
  sentAt : Nat
  blockAt : Nat
  lost : Bool
  /-- declared lost by a timeout at this time (R235, R247) -/
  lateAt : Option Nat := none
  deriving DecidableEq, Repr

/-- A message being received (R237, R265 to R273). -/
structure RxMsg where
  msn : Nat
  write : Bool
  /-- WRITE: the window's handle -/
  handle : Nat
  /-- MSG_LEN of a SEND; 0 for a WRITE -/
  len : Nat
  /-- sequence number and offset of the FIRST packet, once known -/
  first : Option (Nat × Nat)
  /-- sequence number of the FINAL packet and the offset of the message's end, once arrived -/
  final : Option (Nat × Nat)
  /-- sequence numbers received -/
  got : List Nat
  /-- bytes received, by offset -/
  data : List Host.Cell
  /-- the FINAL packet is held in a reassembly slot (R273) -/
  held : Bool
  /-- the message has failed: what follows is marked received and not placed (R268) -/
  failed : Bool
  /-- TILE: records combined -/
  recs : List Nat
  deriving DecidableEq, Repr

/-- The sending half of a QP. -/
structure QpTx where
  /-- next data packet, EPOCH · 2^24 + PSN; reset 0 -/
  seq : Nat := 0
  msn : Nat := 0
  cseq : Nat := 1
  credit : Option Nat := none
  queue : List TxMsg := []
  unacked : List TxPkt := []
  rate : Nat := 0
  lastAdjust : Nat := 0
  nextSend : Nat := 0
  srtt : Nat := 0
  rttvar : Nat := 0
  /-- (time, sample) pairs of the last 10 s (R251) -/
  rtts : List (Nat × Nat) := []
  backoff : Nat := 0
  tracker : Bool := false
  path : Nat := 0
  port : Nat := 0
  /-- credit probes that used the next PSN: its RETRY starts there (R243, R250) -/
  probes : Nat := 0
  /-- suspect paths and the time each ends (R235) -/
  suspects : List (Nat × Nat) := []
  blockedSince : Option Nat := none
  /-- send time of the block of 64 sequence numbers the last new packet lies in (R247) -/
  blockAt : Nat := 0
  deriving DecidableEq, Repr

/-- The receiving half of a QP. -/
structure QpRx where
  /-- CUM, the next expected EPOCH · 2^24 + PSN; reset 0 -/
  cum : Nat := 0
  /-- received above CUM -/
  got : List Nat := []
  highest : Nat := 0
  cseq : Nat := 0
  msgs : List RxMsg := []
  credit : Option Nat := none
  /-- reservations: MSN, first landing tile, tiles (R250) -/
  resv : List (Nat × Nat × Nat) := []
  tracker : Bool := false
  sinceAck : Nat := 0
  firstUnacked : Option Nat := none
  echo : Nat := 0
  echoAt : Nat := 0
  /-- last time 0x0403 was raised (R239) -/
  authAt : Option Nat := none
  deriving DecidableEq, Repr

/-- A control packet to be sent (R238): an ACK with the TSTAMP of the arrival that triggered it and its time, a NAK with its body, a
CLOSE. -/
inductive CtlPkt where
  | ack (echo echoAt : Nat)
  | nak (body : Bytes)
  | close
  deriving DecidableEq, Repr

/-- A queue pair (R240 to R256). -/
structure Qp where
  qpn : Nat
  func : Nat
  st : QpState
  initiate : Bool
  bundle : Nat
  npath : Nat
  mtu : Nat
  maxMsg : Nat
  ipv4 : Bool
  peerAddr : Nat
  peerPort : Nat
  peerQpn : Nat
  filter : Nat
  tq : Nat
  ai : Nat
  round : Nat
  plyAttr : Bool
  pinned : Bool
  ver : Nat := 0
  peerId : Nat := 0
  keyIR : Nat := 0
  keyRI : Nat := 0
  nonceI : Bytes := []
  hello : Bytes := []
  acceptPkt : Bytes := []
  attempts : Nat := 0
  helloAt : Nat := 0
  /-- ephemeral scalar and ML-KEM seed of the initiator (R241) -/
  ephScalar : Nat := 0
  ephKem : Nat := 0
  /-- a HELLO has been accepted and its ACCEPT waits for random words -/
  accepting : Bool := false
  /-- ports of the bundle when the QP was created (R257) -/
  ports : Nat := 0
  lastCode : Nat := 0
  /-- entered DRAINING at (R244) -/
  drainAt : Nat := 0
  tx : QpTx := {}
  rx : QpRx := {}
  /-- context on chip (R253) -/
  cached : Bool := true
  lastUse : Nat := 0
  /-- time of the last packet received, and of the last eviction (R253) -/
  rxAt : Option Nat := none
  evictedAt : Option Nat := none
  /-- fetch outstanding since (R255), parked packets in arrival order -/
  fetchAt : Option Nat := none
  parked : List Packet := []
  /-- control packets that wait for their function's slot (R361), or for a port -/
  ctl : List CtlPkt := []
  deriving DecidableEq, Repr

/-- What a completed message does when its completion is posted: a SEND message in its reservation, a LANDING message in its
window (R266, R272). -/
inductive PostKind where
  | send (lz : Nat) (msg : Bytes)
  | landing (ctr addend lz : Nat) (msg : Bytes)
  deriving DecidableEq, Repr

/-- A message that has completed in this cycle and whose completion is not posted yet (R272, R274). -/
structure Completion where
  qpn : Nat
  msn : Nat
  kind : PostKind
  deriving DecidableEq, Repr

/-- What a waiting handshake packet is (R241, R243): a first HELLO or ACCEPT, the same one again, a REFUSE. -/
inductive ShakeKind where
  | hello
  | helloAgain
  | accept
  | acceptAgain
  | refuse (dst code : Nat) (nonce : Bytes)
  deriving DecidableEq, Repr

/-- A handshake packet of a QP that waits for its turn on the bundle (R251). -/
structure Shake where
  qpn : Nat
  kind : ShakeKind
  deriving DecidableEq, Repr

/-! ## Random numbers -/

/-- An entropy source (R312 to R315). -/
structure Source where
  ok : Bool := false
  disabled : Bool := false
  /-- 0 off, 1 settling, 2 start-up test, 3 running -/
  phase : Nat := 0
  since : Nat := 0
  fails : Nat := 0
  decim : Nat := 16
  deriving DecidableEq, Repr

/-- What a DRBG request is for (R320). -/
inductive RngUse where
  | identity (f : Nat)
  | lmsKey
  | ctxSeal
  | slotMask (slot : Nat)
  | handshake (qpn : Nat)
  /-- an SPDM response of function `f` that carries a nonce: its code, and the body known so far -/
  | nonce (f resp : Nat) (body : Bytes)
  | lcNonce
  | remask
  | roundOpen (f r : Nat)
  | checkpoint (f : Nat)
  | stream (sp entry : Nat)
  | sampler (sp entry : Nat)
  | software (r : Req)
  deriving DecidableEq, Repr

/-- A pending DRBG request: class, order within the class, words wanted, words served (R320). -/
structure RngReq where
  cls : Nat
  order : Nat
  words : Nat
  got : List Word
  use : RngUse
  deriving DecidableEq, Repr

/-- The working state of the DRBG (R316): key and V, as big-endian bytes spell them. -/
structure DrbgState where
  key : Nat := 0
  v : Nat := 0
  deriving DecidableEq, Repr

/-- The random bit generator (R312 to R327): what has no register of its own. -/
structure Rng where
  sources : List Source := List.replicate 8 {}
  queue : List Word := []
  reqs : List RngReq := []
  /-- words ever generated -/
  index : Nat := 0
  /-- working state of the DRBG -/
  drbg : DrbgState := {}
  /-- collections completed -/
  collections : Nat := 0
  /-- the DRBG has been instantiated -/
  seeded : Bool := false
  requestsSinceSeed : Nat := 0
  seededAt : Nat := 0
  /-- an entropy input is being collected since (R317) -/
  collecting : Bool := false
  collectAt : Nat := 0
  /-- 0x0502 has been raised for this failure to these functions (R325) -/
  raised : List Nat := []
  lastWord : Word := 0
  lastCode : Nat := 0
  /-- code of the last word each requester took (R321) -/
  codes : List (Req × Nat) := []
  deriving DecidableEq, Repr

/-! ## Nalam core -/

/-- A slot's attribute word (R335). -/
structure KeyAttr where
  ownerKind : Nat := 3
  func : Nat := 0
  secure : Bool := false
  wrap : Bool := false
  derive_ : Bool := false
  aesData : Bool := false
  sign : Bool := false
  verify : Bool := false
  lcMask : Nat := 0
  noExport : Bool := false
  valid : Bool := false
  ktype : Nat := 0
  deriving DecidableEq, Repr

/-- A key slot: attribute word and the two shares v ⊕ m and m (R334, R337, R338). -/
structure KeySlot where
  attr : KeyAttr := {}
  masked : Nat := 0
  mask : Nat := 0
  deriving DecidableEq, Repr

/-- What a subslot under a function key holds (R334): in the core's table, and the keys of a QP in its context. -/
inductive SubKind where
  | identity
  | round (r : Nat)
  | noise
  | memory (gen : Nat)
  | checkpoint
  | qpOut (qpn : Nat)
  | qpIn (qpn : Nat)
  deriving DecidableEq, Repr

/-- A subslot held under a function key (R334): what it is, its attribute word and its key. -/
structure Subslot where
  kind : SubKind
  attr : KeyAttr
  key : Nat
  deriving DecidableEq, Repr

/-- A function's SPDM session (R347, R348). -/
structure Session where
  isOpen : Bool := false
  mutAuth : Bool := false
  finished : Bool := false
  measured : Bool := false
  kem : Bool := false
  key : Bytes := []
  ekSeed : Nat := 0
  /-- SPDM export master secret (R348) -/
  master : Nat := 0
  assetKey : Nat := 0
  deriving DecidableEq, Repr

/-- The Nalam core (R328 to R352): what has no register of its own. -/
structure Nalam where
  slots : List KeySlot := List.replicate 64 {}
  /-- SHA-384 of the running image's signed message, FW_DIGEST (R340) -/
  fwDigest : Nat := 0
  fwImage : Bytes := []
  bootLmsPub : Nat := 0
  factorySig : Nat := 0
  /-- device-derived keys (R334): far-tag key, context sealing key, scramble key -/
  farTagKey : Nat := 0
  ctxKey : Nat := 0
  scrambleKey : Nat := 0
  remaskAt : Nat := 0
  /-- a slot is being overwritten until this time (R339, R351) -/
  keyUntil : Nat := 0
  /-- endpoint ID of the I3C sideband (R373) and messages dropped there -/
  mctpEid : Nat := 0
  mctpDropped : Nat := 0
  /-- a life-cycle transition or a FULL run holds the device (R329, R443) -/
  held : Bool := false
  /-- times of control-core restarts by core, and cores out of service (R420) -/
  ccRestarts : List (Nat × Nat) := []
  ccOut : List Nat := []
  ccRunning : Bool := false
  /-- upTime of the image's arrival and of the start of step 6 (R393) -/
  imageAt : Nat := 0
  initAt : Nat := 0
  /-- a warm reset is between its two reads of the image: the verified digest (R404) -/
  warmDigest : Option Nat := none
  /-- the boot in progress is a warm reset -/
  warm : Bool := false
  deriving DecidableEq, Repr

/-- The one-time-programmable fuses (R10, R328, R342, R343, R440). -/
structure Otp where
  /-- life-cycle field -/
  lc : Nat := 0x00FF
  gradeE : Bool := false
  dieId : Nat := 0
  svn : Nat := 0
  /-- boot-index fuses burned -/
  boots : Nat := 0
  /-- anchor of slot 3 -/
  anchor : Nat := 0
  pufHelper : Nat := 0
  /-- fused repairs, 4,096 entries at most -/
  repairs : List Nat := []
  deriving DecidableEq, Repr

/-! ## Functions -/

/-- A registered destination buffer (R169). -/
structure DestBuf where
  index : Nat
  addr : Nat
  len : Nat
  deriving DecidableEq, Repr

/-- A command ring (R380 to R386): what has no register of its own. -/
structure Ring where
  /-- completions posted: the internal index j -/
  posted : Nat := 0
  /-- finished entries held by a full completion queue -/
  held : List Bytes := []
  /-- CQ_VEC sent since the driver last wrote CQ_HEAD (R385) -/
  sent : Bool := false
  deriving DecidableEq, Repr

/-- A coalescing window of an event code and object (R284). -/
structure Coalesce where
  code : Nat
  obj : Nat
  at_ : Nat
  repeats : Nat
  deriving DecidableEq, Repr

/-- An event that waits for the function's DMA (R370): code, object kind, object, AUX0, fatal. -/
structure EvtWait where
  code : Nat
  kind : Nat
  obj : Nat
  aux : Nat
  fatal : Bool
  /-- time of detection (R282) -/
  at_ : Nat
  deriving DecidableEq, Repr

/-- The assets an open looks at (R349). -/
structure AssetView where
  policy : Option Policy
  joinList : List JoinEntry
  evks : List (Nat × EvkTag)
  commKeys : List CommKey
  deriving DecidableEq, Repr

/-- A function: PF0 or VF1 to VF63; what has no register of its own. -/
structure Func where
  /-- exists on the bus (R369) -/
  exists_ : Bool := false
  rings : List Ring := List.replicate 4 {}
  /-- the ring whose descriptor the firmware took last (R386) -/
  ringTurn : Nat := 3
  /-- events (R281, R284) -/
  evtSent : Bool := false
  evtLostMark : Bool := false
  coalesce : List Coalesce := []
  /-- highest round number opened since its last reset (R78) -/
  lastRound : Option Nat := none
  dests : List DestBuf := []
  /-- assets (R349) -/
  policy : Option Policy := none
  /-- the cycle of the last installation, and the assets in force at its start (R159, R349) -/
  assetsWas : Option (Nat × AssetView) := none
  lastPolicy : Nat := 0
  joinList : List JoinEntry := []
  evks : List (Nat × EvkTag) := []
  /-- key slices cached in EVK_CACHE tiles (R125) -/
  evkCache : List EvkSlice := []
  commKeys : List CommKey := []
  noiseSeed : Option Nat := none
  memKey0 : Option Nat := none
  memKey1 : Option Nat := none
  ckptKey : Option Nat := none
  /-- the cycle in which the current memory key was installed over an earlier one (R358) -/
  memKeyAt : Option Nat := none
  assetFlags : Nat := 0
  tenantKey : Nat := 0
  /-- identity key (R346) -/
  idKey : Option Nat := none
  session : Session := {}
  /-- in function reset since, and started by FR_GO (R389) -/
  resetAt : Option Nat := none
  resetByGo : Bool := false
  /-- IDE (R370) -/
  ideKeyed : Bool := false
  ideFailed : Bool := false
  /-- the stream's keys came from a session presenting TENANT_KEY (R368) -/
  ideSecure : Bool := false
  /-- writes to host memory and events that wait for DMA (R370, R422) -/
  dmaWait : List (Nat × Bytes) := []
  evtWait : List EvtWait := []
  /-- sweep position of a memory-key rotation (R358) -/
  sweep : Nat := 0
  /-- a CHECKPOINT that waits for its CKPT_ID, or with it for folds in flight: ring and descriptor (R72, R428) -/
  ckptJob : Option (Nat × Nat) := none
  /-- its CKPT_ID once drawn -/
  ckptId : Option Nat := none
  deriving DecidableEq, Repr

/-! ## Checkpoints -/

/-- What a checkpoint saves of a function (R427). -/
structure Ckpt where
  /-- CKPT_ID -/
  id : Nat
  rounds : List Round
  lastRound : Option Nat
  ctrs : List (Nat × Nat)
  spindles : List (Nat × Spindle)
  /-- the tiles by name, with their tags -/
  tags : List (Nat × TileTag)
  /-- their bytes as the function sees them, by name · 65,536 + byte; the others are 0 -/
  tiles : List Host.Cell
  deriving DecidableEq, Repr, Inhabited

/-! ## Partitions -/

/-- Resources a PART_CMD has revoked and not yet zeroised (R355): tiles, device counters and spindles. -/
structure PartRev where
  func : Nat
  tiles : List Nat
  ctrs : List Nat
  spindles : List Nat
  deriving DecidableEq, Repr

/-! ## Device-wide parts -/

/-- Pins and links. -/
structure Pins where
  /-- PERST_N is asserted (R392); reset true -/
  perst : Bool := true
  /-- FRZ_N has been asserted (R431) -/
  frz : Bool := false
  /-- BOOTFAIL_N is driven low (R398) -/
  bootfail : Bool := false
  /-- DMA and port transmission stopped (R392, R408, R455) -/
  stopped : Bool := true
  /-- PCIe link in L0 (R422) -/
  pcieUp : Bool := true
  /-- all other blocks held in reset (R393, R398): the data path is out of reset -/
  dataPath : Bool := false
  deriving DecidableEq, Repr

/-- A gate (R300). -/
structure Gate where
  func : Nat
  num : Nat
  time : Nat
  conflict : Bool
  arrived : List Nat
  deriving DecidableEq, Repr

/-- The ply (R302 to R309): what has no register of its own. -/
structure Ply where
  partner : Option PlyRange := none
  txSeq : List (Nat × Nat) := []
  rxSeq : List (Nat × Nat) := []
  /-- last heartbeat sent, and last authenticated ply message on the PF0 ply QP (R309) -/
  lastBeat : Nat := 0
  heard : Nat := 0
  /-- mirrored OPENs at B: function, round, digest, seed, keys -/
  opens : List (Nat × Nat × Nat × Nat × Nat) := []
  deriving DecidableEq, Repr

/-- The weir's memory between samples (R453, R454). -/
structure Weir where
  lastChange : Option Nat := none
  /-- consecutive samples with tj_max at most T_COOL -/
  cool : Nat := 0
  /-- code VID moves to -/
  vidGoal : Nat := 20
  /-- the step the divider changes to when VID arrives (a step up) -/
  stepUp : Option Nat := none
  /-- last VID change -/
  vidAt : Nat := 0
  powers : List Nat := []
  /-- samples spent at each step (R464) -/
  atStep : List Nat := [0, 0, 0, 0]
  deriving DecidableEq, Repr

/-- Built-in self-test (R436 to R447): what has no register of its own. -/
structure Bist where
  /-- 0 none, 1 FULL, 2 field test -/
  kind : Nat := 0
  target : Nat := 0
  broken : Bool := false
  next : Nat := 0
  lastAt : Nat := 0
  log : List Nat := []
  soft : List Nat := []
  deriving DecidableEq, Repr

/-- A rotation of sealed slots over functions (R361, R362). -/
structure Rotation where
  /-- sealed scheduling is on -/
  on : Bool := false
  /-- CLK_FAB cycles of a slot -/
  slot : Nat := 0
  funcs : List Nat := []
  /-- cycle its first slot begins -/
  start : Nat := 0
  deriving DecidableEq, Repr

/-- Freeze and the TAP (R431 to R433). -/
structure Tap where
  ir : Nat := 0x01
  addr : Nat := 0
  tdo : Nat := 0
  scope : Nat := 0
  tokenOk : Bool := false
  samples : Nat := 0
  deriving DecidableEq, Repr

/-- The SYNC input (R296 to R299). -/
structure Sync where
  staged : Option Nat := none
  /-- upTime of the last marker (R296, R299) -/
  lastMarker : Option Nat := none
  deriving DecidableEq, Repr

/-- What leaves the package, oldest first (R16). -/
inductive Out where
  /-- MSI-X vector of a function (R371) -/
  | msix (f vec : Nat)
  /-- an SPDM or asset response on a DOE mailbox -/
  | doe (f code : Nat) (body : Bytes)
  /-- an MCTP response on the sideband -/
  | mctp (body : Bytes)
  /-- a KZT handshake or control packet: QP, opcode, body -/
  | control (qpn opcode : Nat) (body : Bytes)
  /-- a KZT data packet: QP, opcode, sequence number, retry, path, port, payload, tag -/
  | data (qpn opcode seq retry path port : Nat) (payload : Bytes) (tag : Nat)
  /-- the cohort bitmap and digest published to the share collector (R96) -/
  | cohort (f r : Nat) (bitmap : Bytes) (digest : Nat)
  /-- the round public seed (R465); in mode 2 the round public key record and its signature too (R101, R346) -/
  | roundKey (f r seed : Nat) (record sig : Bytes)
  /-- a register read answered: address and value (R10) -/
  | read (addr value : Nat)
  /-- CT_DIGEST published (R137) -/
  | ctDigest (f r digest : Nat)
  /-- the device's range, role and grade sent to the partner on the PF0 ply QP (R302) -/
  | plyRange (own : PlyRange)
  deriving DecidableEq, Repr

/-- Why a step stops with a fault. -/
inductive Fault where
  /-- Raised by RAIL_FAULT alone: a supply rail left tolerance while PERST_N was released, and R457 leaves the
  device's behaviour unspecified until the next full reset. Safe: nothing is claimed of the device after it. -/
  | railOutOfTolerance
  deriving DecidableEq, Repr

/-- Why a step refuses a command. -/
inductive Refusal where
  /-- A command with no meaning in this model yet. Safe. -/
  | notModelled (mnemonic : String)
  deriving DecidableEq, Repr

/-- The whole device. -/
structure State where
  /-- the timebase in CLK_FAB cycles (R78 and after, R298); reset 0 (R406: cleared by a full reset) -/
  time : Nat := 0
  /-- CLK_FAB cycles since PERST_N was released (R399); reset 0 -/
  upTime : Nat := 0
  /-- the register fields that differ from their reset value, by key (R374; the rows are in Machine/Regs.lean) -/
  regs : List (Nat × Nat) := []
  /-- holding copies of RC fields (R378); reset 0 -/
  holding : List (Nat × Nat) := []
  /-- WOT fields that have had their first write, by key (R10) -/
  wot : List Nat := []
  /-- pins and links (R392, R398, R422, R431) -/
  pins : Pins := {}
  /-- the one-time-programmable fuses (R328, R342, R440) -/
  otp : Otp := {}
  /-- PF0 and VF1 to VF63 (R369); at reset only PF0 exists -/
  funcs : List Func := { exists_ := true } :: List.replicate 63 {}
  /-- the logical spindles (R175) -/
  spindles : List Spindle := List.replicate 32 {}
  /-- the physical spindles (R435); reset `physReset` -/
  phys : List Phys := []
  /-- creel and far memory as bytes, keyed by tile · 65,536 + byte (R49, R53); unlisted bytes are 0 -/
  tiles : List Host.Cell := []
  /-- tile tags by tile index (R56); unlisted tags are all zero -/
  tags : List (Nat × TileTag) := []
  /-- drains and ZEROs issued and not yet done, in order of issue (R65, R66) -/
  drainsOut : List DrainOut := []
  /-- records that wait for an epoch of their target (R65, R267) -/
  combines : List CombineWait := []
  /-- tiles with folds in flight, and since when without a break (R70) -/
  flights : List (Nat × Nat) := []
  /-- far tiles staged in near slots (R71) -/
  staged : List Staged := []
  /-- pages of far row blocks in the staging pools (R148) -/
  pages : List PageCopy := []
  /-- near tiles remapped to far memory after a tier loss (R418) -/
  remap : List Remap := []
  /-- words of tile storage in error since written: byte address over 8, and whether the syndrome shows a double-bit error
  (R50, R55). The stored bytes are what a read returns: a word of three or more bits in error is one of the two as its
  syndrome dictates, with wrong bytes -/
  upsets : List (Nat × Bool) := []
  /-- words of the tag SRAM in error, by 4 · tile + word, the same way (R50) -/
  tagUpsets : List (Nat × Bool) := []
  /-- tiles whose new folds the scrubber holds (R70) -/
  scrubHold : List Nat := []
  /-- the rounds whose records the device holds (R80) -/
  rounds : List Round := []
  /-- outstanding mode 3 queries (R130) -/
  queries : List Query := []
  /-- lock counters by device counter number (R259); unlisted counters are 0 -/
  ctrs : List (Nat × Nat) := []
  /-- counters changed in this cycle (R260) -/
  ctrCyc : List CtrCyc := []
  /-- open memory windows (R262) -/
  windows : List Window := []
  /-- generations of window entries opened at least once (R263) -/
  winGens : List (Nat × Nat) := []
  /-- triggered work requests not yet fired (R275) -/
  twrs : List Twr := []
  /-- posting order of the next triggered work request (R276), and firing order of the next (R277) -/
  twrOrder : Nat := 0
  twrDue : Nat := 0
  /-- the queue pairs (R240) -/
  qps : List Qp := []
  /-- eviction counts of QPNs (R254); unlisted counts are 0 -/
  evictions : List (Nat × Nat) := []
  /-- completions of this cycle (R274) -/
  posts : List Completion := []
  /-- handshake packets that wait for their turn, oldest first, and the time each bundle's next may go (R251) -/
  shakes : List Shake := []
  shakeNext : List (Nat × Nat) := []
  /-- armed gates (R300) -/
  gates : List Gate := []
  /-- the random bit generator (R312) -/
  rng : Rng := {}
  /-- the Nalam core (R328) -/
  nalam : Nalam := {}
  /-- the ply (R302) -/
  ply : Ply := {}
  /-- the SYNC input (R296) -/
  sync : Sync := {}
  /-- the weir (R453) -/
  weir : Weir := {}
  /-- built-in self-test (R436) -/
  bist : Bist := {}
  /-- freeze and the TAP (R433) -/
  tap : Tap := {}
  /-- what this CLK_CTL cycle has changed (R377, R378) -/
  ctl : CtlCycle := {}
  /-- the function whose descriptor the firmware took last (R386) -/
  fwTurn : Nat := 63
  /-- which books failed their last audit (R424): book number and function -/
  books : List (Nat × Nat) := []
  /-- host memory as the device has written it, keyed by function · 2^64 + address (R372) -/
  host : List Host.Cell := []
  /-- what the checkpoints this device has written hold: their layout is not part of the spec; the model's own record -/
  ckpts : List Ckpt := []
  /-- what crossed the boundary, oldest first; the model's own record -/
  out : List Out := []
  /-- the model's own counter of free values drawn -/
  fresh : Nat := 0
  /-- the modulus whose constants the mask and share arithmetic has loaded (R32); none at reset -/
  modulus : Option Nat := none
  /-- rotations by resource, bundles 0 to 63 and far memory 64: the one that completes, and the one after it (R361, R362,
  R366); unlisted ones are off -/
  rots : List (Nat × Rotation × Rotation) := []
  /-- the revocation PART_BUSY stands for (R355) -/
  partRev : Option PartRev := none
  /-- the commands waiting, first in, first out -/
  pending : List Instr := []
  deriving DecidableEq, Repr

/-- The physical spindles after a full reset: 32 active ones, then the two spares (R435, R15). -/
def physReset : List Phys :=
  (List.range 32).map (fun j => { role := 0, lspin0 := j : Phys }) ++ [{ role := 1 }, { role := 1 }]

/-- The device right after a full reset: PERST_N is asserted and its release starts step 1 (R391 to R393). -/
def State.reset : State := { phys := physReset }

end Sys2Proof.Machine
end

