-- ==== Sys2Proof/Machine/Aes.lean ====
section
/-! DEFINITION. AES-256 of FIPS 197, its counter mode with authentication of SP 800-38D, its sector mode of IEEE 1619 and
the generator of SP 800-90A (R12). A block's state is 16 bytes as natural numbers. -/
namespace Sys2Proof.Machine
open Sys2Proof

/-! ## FIPS 197 -/

/-- The S-box, entry 0 lowest. -/
def aesS : Nat :=
  0x16bb54b00f2d99416842e6bf0d89a18cdf2855cee9871e9b948ed9691198f8e19e1dc186b95735610ef6034866b53e708a8bbd4b1f74dde8c6b4a61c2e2578ba08ae7a65eaf4566ca94ed58d6d37c8e779e4959162acd3c25c2406490a3a32e0db0b5ede14b8ee4688902a22dc4f816073195d643d7ea7c41744975fec130ccdd2f3ff1021dab6bcf5389d928f40a351a89f3c507f02f94585334d43fbaaefd0cf584c4a39becb6a5bb1fc20ed00d153842fe329b3d63b52a05a6e1b1a2c830975b227ebe28012079a059618c323c7041531d871f1e5a534ccf73f362693fdb7c072a49cafa2d4adf04759fa7dc982ca76abd7fe2b670130c56f6bf27b777c63
/-- The inverse S-box. -/
def aesSInv : Nat :=
  0x7d0c2155631469e126d677ba7e042b17619953833cbbebc8b0f52aae4d3be0a0ef9cc9939f7ae52d0d4ab519a97f51605fec8027591012b131c7078833a8dd1ff45acd78fec0db9a2079d2c64b3e56fc1bbe18aa0e62b76f89c5291d711af1476edf751ce837f9e28535ade72274ac9673e6b4f0cecff297eadc674f4111913a6b8a130103bdafc1020f3fca8f1e2cd00645b3b80558e4f70ad3bc8c00abd890849d8da75746155edab9edfd5048706c92b6655dcc5ca4d41698688664f6f87225d18b6d49a25b76b224d92866a12e084ec3fa420b954cee3d23c2a632947b54cbe9dec444438e3487ff2f9b8239e37cfbd7f3819ea340bf38a53630d56a0952
/-- A byte through a box. -/
def viaBox (box x : Nat) : Nat := bits box (8 * x) 8

/-- Multiply by x in GF(2^8). -/
def gfTimes2 (a : Nat) : Nat := if a < 128 then 2 * a else Nat.xor (2 * a % 256) 0x1b
/-- Multiply in GF(2^8), over the low `n` bits of the second factor. -/
def gfMul : Nat → Nat → Nat → Nat
  | 0, _, _ => 0
  | n + 1, a, b => Nat.xor (if bit b 0 then a else 0) (gfMul n (gfTimes2 a) (b / 2))

/-- `n` more words of the key schedule from word `i` on, newest first, with the round constant due. -/
def aesExpand : Nat → Nat → Nat → List (List Nat) → List (List Nat)
  | 0, _, _, l => l
  | n + 1, i, rc, l =>
    let t := l.getD 0 []
    let u := if i % 8 = 0 then
        [Nat.xor (viaBox aesS (t.getD 1 0)) rc, viaBox aesS (t.getD 2 0), viaBox aesS (t.getD 3 0), viaBox aesS (t.getD 0 0)]
      else if i % 8 = 4 then t.map (viaBox aesS) else t
    aesExpand n (i + 1) (if i % 8 = 0 then gfTimes2 rc else rc) ((((l.getD 7 []).zip u).map (fun p => Nat.xor p.1 p.2)) :: l)

/-- `n` bytes of a number, lowest first. -/
def natBytes : Nat → Nat → List Nat
  | 0, _ => []
  | n + 1, x => x % 256 :: natBytes n (x / 256)
/-- The number a list of bytes spells, lowest first. -/
def ofNatBytes : List Nat → Nat
  | [] => 0
  | b :: bs => b + 256 * ofNatBytes bs

/-- The 15 round keys of a key, given as its 32 bytes' little-endian number. -/
def aesKeys (k : Nat) : List (List Nat) :=
  let ws := (List.range 8).map (fun i => natBytes 4 (k / 2 ^ (32 * i)))
  let all := (aesExpand 52 8 1 ws.reverse).reverse
  (List.range 15).map (fun r => ((all.drop (4 * r)).take 4).flatten)

/-- AddRoundKey. -/
def addKey (st k : List Nat) : List Nat := (st.zip k).map (fun p => Nat.xor p.1 p.2)
/-- Every byte in the place a map of places names. -/
def permute (st : List Nat) (g : Nat → Nat) : List Nat := (List.range 16).map (fun i => st.getD (g i) 0)
/-- A column transform by a circulant row. -/
def mixWith (row : List Nat) (st : List Nat) : List Nat :=
  (List.range 16).map (fun i => (List.range 4).foldl (fun a j =>
    Nat.xor a (gfMul 4 (st.getD (i / 4 * 4 + (i + j) % 4) 0) (row.getD j 0))) 0)

/-- AES-256 of a block under round keys. -/
def aesEnc (ks : List (List Nat)) (b : List Nat) : List Nat :=
  (List.range 14).foldl (fun st r =>
    let st1 := permute (st.map (viaBox aesS)) (fun i => (i + 4 * (i % 4)) % 16)
    addKey (if r = 13 then st1 else mixWith [2, 3, 1, 1] st1) (ks.getD (r + 1) [])) (addKey b (ks.getD 0 []))

/-- The inverse cipher. -/
def aesDec (ks : List (List Nat)) (b : List Nat) : List Nat :=
  (List.range 14).foldl (fun st r =>
    let st1 := addKey ((permute st (fun i => (i + 12 * (i % 4)) % 16)).map (viaBox aesSInv)) (ks.getD (13 - r) [])
    if r = 13 then st1 else mixWith [14, 11, 13, 9] st1) (addKey b (ks.getD 14 []))

/-- AES-256 of a block under a key, as little-endian numbers. -/
def aesN (k b : Nat) : Nat := ofNatBytes (aesEnc (aesKeys k) (natBytes 16 b))
/-- Its inverse. -/
def aesInvN (k b : Nat) : Nat := ofNatBytes (aesDec (aesKeys k) (natBytes 16 b))

/-! ## SP 800-38D -/

/-- The product of two blocks of GF(2^128), as the numbers their bytes spell big-endian: over the low `n` bits of the first. -/
def ghashMul : Nat → Nat → Nat → Nat → Nat
  | 0, _, _, z => z
  | n + 1, x, v, z =>
    ghashMul n x (if bit v 0 then Nat.xor (v / 2) (0xE1 * 2 ^ 120) else v / 2) (if bit x n then Nat.xor z v else z)

/-- A run of bytes filled up to whole blocks. -/
def padBlocks (b : Bytes) : Bytes := b ++ List.replicate ((16 - b.length % 16) % 16) 0
/-- GHASH under a hash key. -/
def ghash (h : Nat) (b : Bytes) : Nat :=
  (blocksOf 16 (b.length / 16) b).foldl (fun y x => ghashMul 128 (Nat.xor y (beNat x)) h 0) 0
/-- The big-endian number of AES of a big-endian block. -/
def aesBe (ks : List (List Nat)) (x : Nat) : Nat := beNat ((aesEnc ks ((toBe 16 x).map (·.toNat))).map (BitVec.ofNat 8))
/-- The block before the first counter block. -/
def gcmJ0 (h : Nat) (iv : Bytes) : Nat :=
  if iv.length = 12 then beNat (iv ++ [0, 0, 0, 1]) else ghash h (padBlocks iv ++ toBe 16 (8 * iv.length))
/-- A counter block, `i` after `j`. -/
def gcmCtr (j i : Nat) : Nat := j / 2 ^ 32 * 2 ^ 32 + (j + i) % 2 ^ 32

/-- AES-256-GCM as its counter mode: the same function encrypts and decrypts. -/
def gcmCrypt (k : Nat) (iv _aad data : Bytes) : Bytes :=
  let ks := aesKeys k
  let j := gcmJ0 (aesBe ks 0) iv
  let stream := (List.range (ceilDiv data.length 16)).flatMap (fun i => toBe 16 (aesBe ks (gcmCtr j (i + 1))))
  (data.zip stream).map (fun p => p.1 ^^^ p.2)
/-- The GCM tag of a ciphertext, 16 bytes. -/
def gcmMac (k : Nat) (iv aad ct : Bytes) : Bytes :=
  let ks := aesKeys k
  let h := aesBe ks 0
  let s := ghash h (padBlocks aad ++ padBlocks ct ++ toBe 8 (8 * aad.length) ++ toBe 8 (8 * ct.length))
  toBe 16 (Nat.xor s (aesBe ks (gcmJ0 h iv)))

/-! ## IEEE 1619 -/

/-- The next block's tweak. -/
def xtsNext (t : Nat) : Nat := if bit t 127 then Nat.xor (2 * t % 2 ^ 128) 0x87 else 2 * t
/-- The blocks of a data unit through a cipher between two additions of the running tweak. -/
def xtsRun (f : List Nat → List Nat) : Nat → List Nat → List Nat
  | _, [] => []
  | t, b :: bs => Nat.xor (ofNatBytes (f (natBytes 16 (Nat.xor b t)))) t :: xtsRun f (xtsNext t) bs
/-- A data unit of whole blocks through XTS-AES-256: the key's first half ciphers the data, its second half the tweak. -/
def xts (enc : Bool) (key tweak : Nat) (data : Bytes) : Bytes :=
  let k1 := aesKeys (key % 2 ^ 256)
  let t := aesN (key / 2 ^ 256) tweak
  (xtsRun (if enc then aesEnc k1 else aesDec k1) t ((blocksOf 16 (data.length / 16) data).map leNat)).flatMap (toLe 16)

/-! ## SP 800-90A: CTR_DRBG with the derivation function -/

/-- AES-256 of a big-endian block under a big-endian key. -/
def aesBeKey (k x : Nat) : Nat := aesBe (aesKeys (leNat (toBe 32 k))) x

/-- BCC: the chained encryption of whole blocks. -/
def bcc (k : Nat) (b : Bytes) : Nat :=
  (blocksOf 16 (b.length / 16) b).foldl (fun c x => aesBeKey k (Nat.xor c (beNat x))) 0

/-- Block_Cipher_df: 48 bytes of seed material from an input string. -/
def drbgDf (b : Bytes) : Nat :=
  let s := padBlocks (toBe 4 b.length ++ toBe 4 48 ++ b ++ [0x80])
  let k0 := beNat ((List.range 32).map (BitVec.ofNat 8))
  let t := (List.range 3).flatMap (fun i => toBe 16 (bcc k0 (toBe 16 (i * 2 ^ 96) ++ s)))
  let k := beNat (t.take 32)
  let x := beNat (t.drop 32)
  let x1 := aesBeKey k x
  let x2 := aesBeKey k x1
  x1 * 2 ^ 256 + x2 * 2 ^ 128 + aesBeKey k x2

/-- `n` blocks of the counter after V. -/
def DrbgState.blocks (d : DrbgState) (n : Nat) : List Nat := (List.range n).map (fun i => aesBeKey d.key ((d.v + i + 1) % 2 ^ 128))

/-- CTR_DRBG_Update with 48 bytes of data. -/
def DrbgState.update (d : DrbgState) (data : Nat) : DrbgState :=
  let t := Nat.xor (d.blocks 3 |>.foldl (fun a x => a * 2 ^ 128 + x) 0) data
  { key := t / 2 ^ 128, v := t % 2 ^ 128 }

/-- Instantiate, or reseed an instance, with seed material. -/
def DrbgState.seed (d : DrbgState) (material : Bytes) : DrbgState := d.update (drbgDf material)

/-- Generate `n` blocks: their bytes, and the state after. -/
def DrbgState.generate (d : DrbgState) (n : Nat) : Bytes × DrbgState :=
  let out := (d.blocks n).flatMap (toBe 16)
  (out, { d with v := (d.v + n) % 2 ^ 128 }.update 0)

end Sys2Proof.Machine
end

