-- ==== Sys2Proof/Machine/Mem.lean ====
section
/-! DEFINITION. Sparse maps in one canonical form: keys strictly rising, no entry equal to what an unlisted key reads
as. Tiles, scratch, host memory, tags, registers and lock counters are kept in this form. -/
namespace Sys2Proof.Machine

/-- The value at `k`; an unlisted key reads as `d`. -/
def Sparse.get {α : Type} (d : α) (m : List (Nat × α)) (k : Nat) : α :=
  match m with
  | [] => d
  | (k', v) :: m => if k' = k then v else Sparse.get d m k

/-- Write `v` at `k`, keeping the canonical form. -/
def Sparse.set {α : Type} [DecidableEq α] (d : α) (m : List (Nat × α)) (k : Nat) (v : α) : List (Nat × α) :=
  match m with
  | [] => if v = d then [] else [(k, v)]
  | (k', v') :: m =>
    if k < k' then (if v = d then (k', v') :: m else (k, v) :: (k', v') :: m)
    else if k = k' then (if v = d then m else (k, v) :: m)
    else (k', v') :: Sparse.set d m k v

/-- Forget every key in `[lo, hi)`. -/
def Sparse.clear {α : Type} (m : List (Nat × α)) (lo hi : Nat) : List (Nat × α) :=
  m.filter (fun p => p.1 < lo || hi ≤ p.1)

/-- The canonical form. -/
def Sparse.wf {α : Type} [DecidableEq α] (d : α) : List (Nat × α) → Bool
  | [] => true
  | (k, v) :: m => decide (v ≠ d) && m.all (fun p => k < p.1) && Sparse.wf d m

/-- The bytes `a` to `a + n − 1` of a byte memory whose unlisted bytes are zero. -/
def readBytes (m : List (Nat × Byte)) (a n : Nat) : Bytes := (List.range n).map (fun i => Sparse.get 0 m (a + i))

/-- Write a run of bytes from `a`. -/
def writeBytes (m : List (Nat × Byte)) (a : Nat) : Bytes → List (Nat × Byte)
  | [] => m
  | b :: bs => writeBytes (Sparse.set 0 m a b) (a + 1) bs

/-- The little-endian number of `n` bytes from `a` (R8). -/
def readNat (m : List (Nat × Byte)) (a n : Nat) : Nat := leNat (readBytes m a n)

/-- Write a number as `n` little-endian bytes (R8). -/
def writeNat (m : List (Nat × Byte)) (a n v : Nat) : List (Nat × Byte) := writeBytes m a (toLe n v)

/-- The list with item `i` changed by `g`; unchanged when there is none. -/
def updAt {α : Type} (l : List α) (i : Nat) (g : α → α) : List α :=
  match l, i with
  | [], _ => []
  | a :: l, 0 => g a :: l
  | a :: l, i + 1 => a :: updAt l i g

/-- The list with every item that satisfies `p` changed by `g`. -/
def updIf {α : Type} (l : List α) (p : α → Bool) (g : α → α) : List α := l.map (fun a => if p a then g a else a)

/-- The first `some` of `f` over a list. -/
def firstSome {α β : Type} (f : α → Option β) : List α → Option β
  | [] => none
  | a :: l => match f a with
    | some b => some b
    | none => firstSome f l

/-- The least element by a key, earliest among equals. -/
def minBy? {α : Type} (key : α → Nat) : List α → Option α
  | [] => none
  | a :: l => match minBy? key l with
    | none => some a
    | some b => if key b < key a then some b else some a

/-- A list sorted by a key, stably. -/
def sortBy {α : Type} (key : α → Nat) : List α → List α
  | [] => []
  | a :: l => insertBy a (sortBy key l)
where
  insertBy (a : α) : List α → List α
    | [] => [a]
    | b :: l => if key b < key a then b :: insertBy a l else a :: b :: l

end Sys2Proof.Machine
end

