-- ==== Sys2Proof/Machine/Regs.lean ====
section
/-! DEFINITION. The register fields of the spec's register tables (R76, R77, R200, R257, R258, R285, R310, R311, R327,
R351, R352, R365, R366, R378 to R380, R390, R399, R403, R405, R434, R435, R447, R463, R464): page, offset, bits, access
code and reset value of each. A field that another part of State holds (a queue's length, a program state) is read from
there (Machine/RegFile.lean). -/
namespace Sys2Proof.Machine

/-- The register pages (R374). -/
inductive Page where
  | dev | rst | clk | weir | event | snap | spindle | creel | far | port | qpc | rng | nalam | ply | gate | func
  deriving DecidableEq, Repr

/-- BAR0 offset of a page's first instance (R374). -/
def Page.base : Page → Nat
  | .dev => 0x0 | .rst => 0x10000 | .clk => 0x20000 | .weir => 0x30000 | .event => 0x40000 | .snap => 0x50000
  | .spindle => 0x100000 | .creel => 0x400000 | .far => 0x500000 | .port => 0x600000 | .qpc => 0xA00000
  | .rng => 0xB00000 | .nalam => 0xC00000 | .ply => 0xD00000 | .gate => 0xE00000 | .func => 0x1000000

/-- Number of instances of a page (R374). -/
def Page.count : Page → Nat
  | .spindle => 34 | .far => 4 | .port => 64 | .func => 64
  | _ => 1

/-- Access codes (R10). -/
inductive Acc where
  | rw | ro | rc | w1c | wo | rwl | wot
  deriving DecidableEq, Repr

/-- A register field: row of a register table (R10). -/
structure Fld where
  page : Page
  off : Nat
  lsb : Nat
  w : Nat
  acc : Acc
  /-- access code P -/
  priv : Bool := false
  reset : Nat := 0
  /-- distance between the items of an indexed register, and their number -/
  stride : Nat := 0
  n : Nat := 1
  /-- key of the lock of an RWL field -/
  lock : Option Nat := none
  deriving DecidableEq, Repr

/-- The key of field `f`, item `j`, of page instance `i` in `State.regs`. -/
def Fld.key (f : Fld) (i j : Nat) : Nat := (f.page.base + i * 0x10000 + f.off + j * f.stride) * 1024 + f.lsb

namespace Reg

/-- LOCK (R76). -/
def creelLock : Fld := { page := .creel, off := 0x8, lsb := 63, w := 1, acc := .wot, priv := true }
/-- LOCK (R257). -/
def qpcLock : Fld := { page := .qpc, off := 0x0, lsb := 63, w := 1, acc := .wot, priv := true }
/-- NET_LOCK (R257). -/
def qpcNetLock : Fld := { page := .qpc, off := 0xA0, lsb := 63, w := 1, acc := .wot, priv := true }
/-- LOCK (R310). -/
def gateLock : Fld := { page := .gate, off := 0x8, lsb := 63, w := 1, acc := .wot, priv := true }
/-- LOCK (R311). -/
def plyLock : Fld := { page := .ply, off := 0x0, lsb := 63, w := 1, acc := .wot, priv := true }
/-- LOCK (R327). -/
def rngLock : Fld := { page := .rng, off := 0x8, lsb := 63, w := 1, acc := .wot, priv := true }
/-- IDE_REQ (R379). -/
def fnIdeReq : Fld := { page := .func, off := 0x38, lsb := 8, w := 1, acc := .wot }
/-- LOCK (R447). -/
def bistLock : Fld := { page := .nalam, off := 0x1220, lsb := 63, w := 1, acc := .wot, priv := true }
/-- LOCK (R464). -/
def weirLock : Fld := { page := .weir, off := 0x8, lsb := 63, w := 1, acc := .wot, priv := true }
/-- TIER0_OK (R76). -/
def creelTier0Ok : Fld := { page := .creel, off := 0x0, lsb := 0, w := 1, acc := .ro, reset := 1 }
/-- TIER1_OK (R76). -/
def creelTier1Ok : Fld := { page := .creel, off := 0x0, lsb := 1, w := 1, acc := .ro, reset := 1 }
/-- SCRUB_ACTIVE (R76). -/
def creelScrubActive : Fld := { page := .creel, off := 0x0, lsb := 2, w := 1, acc := .ro }
/-- ZEROISE_BUSY (R76). -/
def creelZeroiseBusy : Fld := { page := .creel, off := 0x0, lsb := 3, w := 1, acc := .ro, reset := 1 }
/-- SCRUB_EN (R76). -/
def creelScrubEn : Fld := { page := .creel, off := 0x8, lsb := 0, w := 1, acc := .rwl, priv := true, reset := 1, lock := some (creelLock.key 0 0) }
/-- PERIOD_MS (R76). -/
def creelPeriodMs : Fld := { page := .creel, off := 0x8, lsb := 8, w := 8, acc := .rwl, priv := true, reset := 80, lock := some (creelLock.key 0 0) }
/-- CREEL_CE_COUNT (R76). -/
def creelCeCount : Fld := { page := .creel, off := 0x10, lsb := 0, w := 64, acc := .rc }
/-- CREEL_UE_COUNT (R76). -/
def creelUeCount : Fld := { page := .creel, off := 0x18, lsb := 0, w := 64, acc := .rc }
/-- UE_TILE (R76). -/
def creelUeTile : Fld := { page := .creel, off := 0x20, lsb := 0, w := 24, acc := .ro }
/-- UE_SLICE (R76). -/
def creelUeSlice : Fld := { page := .creel, off := 0x20, lsb := 24, w := 6, acc := .ro }
/-- VALID (R76). -/
def creelUeValid : Fld := { page := .creel, off := 0x20, lsb := 63, w := 1, acc := .w1c }
/-- CSUM_TILE (R76). -/
def creelCsumTile : Fld := { page := .creel, off := 0x28, lsb := 0, w := 24, acc := .ro }
/-- SOURCE (R76). -/
def creelCsumSource : Fld := { page := .creel, off := 0x28, lsb := 24, w := 4, acc := .ro }
/-- VALID (R76). -/
def creelCsumValid : Fld := { page := .creel, off := 0x28, lsb := 63, w := 1, acc := .w1c }
/-- SB_OCC (R76). -/
def creelSbOcc : Fld := { page := .creel, off := 0x30, lsb := 0, w := 13, acc := .ro }
/-- PKG_OK (R77). -/
def farPkgOk : Fld := { page := .far, off := 0x0, lsb := 0, w := 4, acc := .ro }
/-- RATE_FALLBACK (R77). -/
def farRateFallback : Fld := { page := .far, off := 0x0, lsb := 4, w := 1, acc := .ro }
/-- TRAINED (R77). -/
def farTrained : Fld := { page := .far, off := 0x0, lsb := 5, w := 1, acc := .ro }
/-- FAR_Qn_CE_COUNT (R77). -/
def farCeCount : Fld := { page := .far, off := 0x8, lsb := 0, w := 64, acc := .rc }
/-- FAR_Qn_UE_COUNT (R77). -/
def farUeCount : Fld := { page := .far, off := 0x10, lsb := 0, w := 64, acc := .rc }
/-- UE_TILE (R77). -/
def farUeTile : Fld := { page := .far, off := 0x18, lsb := 0, w := 24, acc := .ro }
/-- UE_PAGE (R77). -/
def farUePage : Fld := { page := .far, off := 0x18, lsb := 24, w := 4, acc := .ro }
/-- VALID (R77). -/
def farUeValid : Fld := { page := .far, off := 0x18, lsb := 63, w := 1, acc := .w1c }
/-- LOCKAGE_BYTES (R77). -/
def farLockageBytes : Fld := { page := .far, off := 0x20, lsb := 0, w := 64, acc := .rc }
/-- PROG_SRC (R200). -/
def progSrc : Fld := { page := .func, off := 0x2000, lsb := 0, w := 64, acc := .rw }
/-- PROG_LEN (R200). -/
def progLen : Fld := { page := .func, off := 0x2008, lsb := 0, w := 32, acc := .rw }
/-- PROG_SPINDLES (R200). -/
def progSpindles : Fld := { page := .func, off := 0x2010, lsb := 0, w := 32, acc := .rw }
/-- CMD (R200). -/
def progCmd : Fld := { page := .func, off := 0x2018, lsb := 0, w := 3, acc := .wo }
/-- CODE (R200). -/
def progCode : Fld := { page := .func, off := 0x2020, lsb := 0, w := 16, acc := .ro }
/-- BUSY (R200). -/
def progBusy : Fld := { page := .func, off := 0x2020, lsb := 16, w := 1, acc := .ro }
/-- DROPPED (R200). -/
def progDropped : Fld := { page := .func, off := 0x2020, lsb := 17, w := 1, acc := .w1c }
/-- PROG_DIGEST (R200). -/
def progDigest : Fld := { page := .func, off := 0x2040, lsb := 0, w := 384, acc := .ro }
/-- STATE (R200). -/
def progState : Fld := { page := .func, off := 0x2100, lsb := 0, w := 3, acc := .ro, stride := 8, n := 32 }
/-- LEVEL (R200). -/
def progLevel : Fld := { page := .func, off := 0x2100, lsb := 3, w := 1, acc := .ro, stride := 8, n := 32 }
/-- PC (R200). -/
def progPc : Fld := { page := .func, off := 0x2100, lsb := 32, w := 18, acc := .ro, stride := 8, n := 32 }
/-- TRAP_j (R200). -/
def progTrap : Fld := { page := .func, off := 0x2200, lsb := 0, w := 512, acc := .ro, stride := 64, n := 32 }
/-- KZT_UDP_PORT (R257). -/
def qpcKztUdpPort : Fld := { page := .qpc, off := 0x0, lsb := 0, w := 16, acc := .rwl, priv := true, reset := 49431, lock := some (qpcLock.key 0 0) }
/-- PATH_BASE (R257). -/
def qpcPathBase : Fld := { page := .qpc, off := 0x0, lsb := 16, w := 16, acc := .rwl, priv := true, reset := 49152, lock := some (qpcLock.key 0 0) }
/-- QP_TABLE_BASE (R257). -/
def qpcQpTableBase : Fld := { page := .qpc, off := 0x8, lsb := 0, w := 64, acc := .rwl, priv := true, lock := some (qpcNetLock.key 0 0) }
/-- REORDER_T (R257). -/
def qpcReorderT : Fld := { page := .qpc, off := 0x10, lsb := 0, w := 32, acc := .rwl, priv := true, reset := 13500, lock := some (qpcLock.key 0 0) }
/-- RTO_MIN (R257). -/
def qpcRtoMin : Fld := { page := .qpc, off := 0x18, lsb := 0, w := 32, acc := .rwl, priv := true, reset := 67500, lock := some (qpcLock.key 0 0) }
/-- RTO_MAX (R257). -/
def qpcRtoMax : Fld := { page := .qpc, off := 0x20, lsb := 0, w := 32, acc := .rwl, priv := true, reset := 13500000, lock := some (qpcLock.key 0 0) }
/-- RETRY_LIMIT (R257). -/
def qpcRetryLimit : Fld := { page := .qpc, off := 0x28, lsb := 0, w := 5, acc := .rwl, priv := true, reset := 12, lock := some (qpcLock.key 0 0) }
/-- FETCH_TIMEOUT (R257). -/
def qpcFetchTimeout : Fld := { page := .qpc, off := 0x30, lsb := 0, w := 32, acc := .rwl, priv := true, reset := 135000, lock := some (qpcLock.key 0 0) }
/-- PROBE_T (R257). -/
def qpcProbeT : Fld := { page := .qpc, off := 0x38, lsb := 0, w := 32, acc := .rwl, priv := true, reset := 135000, lock := some (qpcLock.key 0 0) }
/-- CACHE_OCC (R257). -/
def qpcCacheOcc : Fld := { page := .qpc, off := 0x40, lsb := 0, w := 15, acc := .ro }
/-- PINNED (R257). -/
def qpcPinned : Fld := { page := .qpc, off := 0x40, lsb := 16, w := 14, acc := .ro }
/-- FETCH_OUT (R257). -/
def qpcFetchOut : Fld := { page := .qpc, off := 0x40, lsb := 30, w := 12, acc := .ro }
/-- TRACKERS_FREE (R257). -/
def qpcTrackersFree : Fld := { page := .qpc, off := 0x40, lsb := 42, w := 13, acc := .ro, reset := 4096 }
/-- BASIN_OCC (R257). -/
def qpcBasinOcc : Fld := { page := .qpc, off := 0x48, lsb := 0, w := 25, acc := .ro }
/-- CACHE_HITS (R257). -/
def qpcCacheHits : Fld := { page := .qpc, off := 0x50, lsb := 0, w := 64, acc := .rc }
/-- CACHE_MISSES (R257). -/
def qpcCacheMisses : Fld := { page := .qpc, off := 0x58, lsb := 0, w := 64, acc := .rc }
/-- DROP_CTX_MISS (R257). -/
def qpcDropCtxMiss : Fld := { page := .qpc, off := 0x60, lsb := 0, w := 64, acc := .rc }
/-- DROP_AUTH (R257). -/
def qpcDropAuth : Fld := { page := .qpc, off := 0x68, lsb := 0, w := 64, acc := .rc }
/-- DROP_MALFORMED (R257). -/
def qpcDropMalformed : Fld := { page := .qpc, off := 0x70, lsb := 0, w := 64, acc := .rc }
/-- DROP_WINDOW (R257). -/
def qpcDropWindow : Fld := { page := .qpc, off := 0x78, lsb := 0, w := 64, acc := .rc }
/-- DROP_DUP (R257). -/
def qpcDropDup : Fld := { page := .qpc, off := 0x80, lsb := 0, w := 64, acc := .rc }
/-- RETRANSMITS (R257). -/
def qpcRetransmits : Fld := { page := .qpc, off := 0x88, lsb := 0, w := 64, acc := .rc }
/-- RTO_EXPIRIES (R257). -/
def qpcRtoExpiries : Fld := { page := .qpc, off := 0x90, lsb := 0, w := 64, acc := .rc }
/-- BUNDLE_b (R257). -/
def qpcBundle : Fld := { page := .qpc, off := 0x100, lsb := 0, w := 64, acc := .rwl, priv := true, stride := 8, n := 64, lock := some (qpcNetLock.key 0 0) }
/-- ADDR6_b (R257). -/
def qpcAddr6 : Fld := { page := .qpc, off := 0x300, lsb := 0, w := 128, acc := .rwl, priv := true, stride := 32, n := 64, lock := some (qpcNetLock.key 0 0) }
/-- ADDR4_b (R257). -/
def qpcAddr4 : Fld := { page := .qpc, off := 0x300, lsb := 128, w := 32, acc := .rwl, priv := true, stride := 32, n := 64, lock := some (qpcNetLock.key 0 0) }
/-- VLAN_b (R257). -/
def qpcVlan : Fld := { page := .qpc, off := 0x300, lsb := 160, w := 12, acc := .rwl, priv := true, stride := 32, n := 64, lock := some (qpcNetLock.key 0 0) }
/-- DSCP_b (R257). -/
def qpcDscp : Fld := { page := .qpc, off := 0x300, lsb := 172, w := 6, acc := .rwl, priv := true, stride := 32, n := 64, lock := some (qpcNetLock.key 0 0) }
/-- ENABLED (R258). -/
def portEnabled : Fld := { page := .port, off := 0x0, lsb := 0, w := 1, acc := .ro }
/-- UP (R258). -/
def portUp : Fld := { page := .port, off := 0x0, lsb := 1, w := 1, acc := .ro }
/-- AN_DONE (R258). -/
def portAnDone : Fld := { page := .port, off := 0x0, lsb := 2, w := 1, acc := .ro }
/-- BUNDLE (R258). -/
def portBundle : Fld := { page := .port, off := 0x0, lsb := 3, w := 6, acc := .ro }
/-- IN_BUNDLE (R258). -/
def portInBundle : Fld := { page := .port, off := 0x0, lsb := 9, w := 1, acc := .ro }
/-- MAC_ADDR (R258). -/
def portMacAddr : Fld := { page := .port, off := 0x8, lsb := 0, w := 48, acc := .rwl, priv := true, lock := some (qpcNetLock.key 0 0) }
/-- TX_FRAMES (R258). -/
def portTxFrames : Fld := { page := .port, off := 0x10, lsb := 0, w := 64, acc := .rc }
/-- RX_FRAMES (R258). -/
def portRxFrames : Fld := { page := .port, off := 0x18, lsb := 0, w := 64, acc := .rc }
/-- FEC_CORRECTED (R258). -/
def portFecCorrected : Fld := { page := .port, off := 0x20, lsb := 0, w := 64, acc := .rc }
/-- FEC_UNCORRECTED (R258). -/
def portFecUncorrected : Fld := { page := .port, off := 0x28, lsb := 0, w := 64, acc := .rc }
/-- FCS_ERRORS (R258). -/
def portFcsErrors : Fld := { page := .port, off := 0x30, lsb := 0, w := 64, acc := .rc }
/-- LINK_DOWNS (R258). -/
def portLinkDowns : Fld := { page := .port, off := 0x38, lsb := 0, w := 64, acc := .rc }
/-- EVT_BASE (R285). -/
def fnEvtBase : Fld := { page := .func, off := 0x3000, lsb := 0, w := 64, acc := .rw }
/-- EVT_LOG2 (R285). -/
def fnEvtLog2 : Fld := { page := .func, off := 0x3008, lsb := 0, w := 5, acc := .rw, reset := 6 }
/-- EVT_VEC (R285). -/
def fnEvtVec : Fld := { page := .func, off := 0x3008, lsb := 16, w := 11, acc := .rw }
/-- EVT_EN (R285). -/
def fnEvtEn : Fld := { page := .func, off := 0x3008, lsb := 63, w := 1, acc := .rw }
/-- EVT_HEAD (R285). -/
def fnEvtHead : Fld := { page := .func, off := 0x3010, lsb := 0, w := 32, acc := .ro }
/-- EVT_TAIL (R285). -/
def fnEvtTail : Fld := { page := .func, off := 0x3018, lsb := 0, w := 32, acc := .rw }
/-- EVT_CLASS_EN (R285). -/
def fnEvtClassEn : Fld := { page := .func, off := 0x3020, lsb := 1, w := 10, acc := .rw, reset := 1023 }
/-- EVT_LOST (R285). -/
def fnEvtLost : Fld := { page := .func, off := 0x3028, lsb := 0, w := 64, acc := .rc }
/-- CTR_COUNT (R285). -/
def fnCtrCount : Fld := { page := .func, off := 0x3030, lsb := 0, w := 13, acc := .ro }
/-- CTR_SEL (R285). -/
def fnCtrSel : Fld := { page := .func, off := 0x3038, lsb := 0, w := 16, acc := .rw }
/-- CTR_VAL (R285). -/
def fnCtrVal : Fld := { page := .func, off := 0x3040, lsb := 0, w := 64, acc := .rw }
/-- WIN_QUOTA (R285). -/
def fnWinQuota : Fld := { page := .func, off := 0x3048, lsb := 0, w := 13, acc := .ro }
/-- WIN_USED (R285). -/
def fnWinUsed : Fld := { page := .func, off := 0x3048, lsb := 16, w := 13, acc := .ro }
/-- TWR_QUOTA (R285). -/
def fnTwrQuota : Fld := { page := .func, off := 0x3048, lsb := 32, w := 13, acc := .ro }
/-- TWR_USED (R285). -/
def fnTwrUsed : Fld := { page := .func, off := 0x3048, lsb := 48, w := 13, acc := .ro }
/-- XDESC (R285). -/
def fnXdesc : Fld := { page := .func, off := 0x3080, lsb := 0, w := 512, acc := .wo }
/-- XCMD (R285). -/
def fnXcmd : Fld := { page := .func, off := 0x30C0, lsb := 0, w := 3, acc := .wo }
/-- XARG (R285). -/
def fnXarg : Fld := { page := .func, off := 0x30C0, lsb := 32, w := 32, acc := .wo }
/-- XCODE (R285). -/
def fnXcode : Fld := { page := .func, off := 0x30C8, lsb := 0, w := 16, acc := .ro }
/-- XBUSY (R285). -/
def fnXbusy : Fld := { page := .func, off := 0x30C8, lsb := 16, w := 1, acc := .ro }
/-- XDROPPED (R285). -/
def fnXdropped : Fld := { page := .func, off := 0x30C8, lsb := 17, w := 1, acc := .w1c }
/-- XRESULT (R285). -/
def fnXresult : Fld := { page := .func, off := 0x30C8, lsb := 32, w := 32, acc := .ro }
/-- SYNC_PRESENT (R310). -/
def gateSyncPresent : Fld := { page := .gate, off := 0x0, lsb := 0, w := 1, acc := .ro }
/-- SYNC_LOCK (R310). -/
def gateSyncLock : Fld := { page := .gate, off := 0x0, lsb := 1, w := 1, acc := .ro }
/-- EPOCH_VALID (R310). -/
def gateEpochValid : Fld := { page := .gate, off := 0x0, lsb := 2, w := 1, acc := .ro }
/-- GATE_LID (R310). -/
def gateLid : Fld := { page := .gate, off := 0x8, lsb := 0, w := 14, acc := .rwl, priv := true, lock := some (gateLock.key 0 0) }
/-- SYNC_EPOCH (R310). -/
def gateSyncEpoch : Fld := { page := .gate, off := 0x10, lsb := 0, w := 48, acc := .wo, priv := true }
/-- SYNC_TRIM (R310). -/
def gateSyncTrim : Fld := { page := .gate, off := 0x18, lsb := 0, w := 6, acc := .rwl, priv := true, lock := some (gateLock.key 0 0) }
/-- MARK_TIME (R310). -/
def gateMarkTime : Fld := { page := .gate, off := 0x20, lsb := 0, w := 64, acc := .ro }
/-- GATE_LATE_COUNT (R310). -/
def gateLateCount : Fld := { page := .gate, off := 0x28, lsb := 0, w := 64, acc := .rc }
/-- SYNC_LOSS_COUNT (R310). -/
def gateSyncLossCount : Fld := { page := .gate, off := 0x30, lsb := 0, w := 64, acc := .rc }
/-- ROLE (R311). -/
def plyRole : Fld := { page := .ply, off := 0x0, lsb := 0, w := 2, acc := .rwl, priv := true, lock := some (plyLock.key 0 0) }
/-- BUNDLE (R311). -/
def plyBundle : Fld := { page := .ply, off := 0x0, lsb := 2, w := 6, acc := .rwl, priv := true, lock := some (plyLock.key 0 0) }
/-- PLY_QPN (R311). -/
def plyQpn : Fld := { page := .ply, off := 0x0, lsb := 8, w := 20, acc := .rwl, priv := true, lock := some (plyLock.key 0 0) }
/-- CMD (R311). -/
def plyCmd : Fld := { page := .ply, off := 0x8, lsb := 0, w := 2, acc := .wo, priv := true }
/-- STATE (R311). -/
def plyState : Fld := { page := .ply, off := 0x10, lsb := 0, w := 2, acc := .ro }
/-- VER (R311). -/
def plyVer : Fld := { page := .ply, off := 0x10, lsb := 16, w := 16, acc := .ro }
/-- CODE (R311). -/
def plyCode : Fld := { page := .ply, off := 0x10, lsb := 32, w := 16, acc := .ro }
/-- LAST_SEEN (R311). -/
def plyLastSeen : Fld := { page := .ply, off := 0x18, lsb := 0, w := 64, acc := .ro }
/-- MIRROR_TX_BYTES (R311). -/
def plyMirrorTxBytes : Fld := { page := .ply, off := 0x20, lsb := 0, w := 64, acc := .rc }
/-- MIRROR_RX_BYTES (R311). -/
def plyMirrorRxBytes : Fld := { page := .ply, off := 0x28, lsb := 0, w := 64, acc := .rc }
/-- DIVERGENCES (R311). -/
def plyDivergences : Fld := { page := .ply, off := 0x30, lsb := 0, w := 64, acc := .rc }
/-- FAILOVERS (R311). -/
def plyFailovers : Fld := { page := .ply, off := 0x38, lsb := 0, w := 64, acc := .rc }
/-- STATE (R327). -/
def rngState : Fld := { page := .rng, off := 0x0, lsb := 0, w := 3, acc := .ro }
/-- SRC_OK (R327). -/
def rngSrcOk : Fld := { page := .rng, off := 0x0, lsb := 3, w := 8, acc := .ro }
/-- SRC_DISABLED (R327). -/
def rngSrcDisabled : Fld := { page := .rng, off := 0x0, lsb := 11, w := 8, acc := .ro }
/-- QUEUE_WORDS (R327). -/
def rngQueueWords : Fld := { page := .rng, off := 0x0, lsb := 19, w := 10, acc := .ro }
/-- DECIM (R327). -/
def rngDecim : Fld := { page := .rng, off := 0x8, lsb := 0, w := 7, acc := .rwl, priv := true, reset := 16, lock := some (rngLock.key 0 0) }
/-- RCT_CUTOFF (R327). -/
def rngRctCutoff : Fld := { page := .rng, off := 0x8, lsb := 8, w := 8, acc := .rwl, priv := true, reset := 41, lock := some (rngLock.key 0 0) }
/-- APT_CUTOFF (R327). -/
def rngAptCutoff : Fld := { page := .rng, off := 0x8, lsb := 16, w := 11, acc := .rwl, priv := true, reset := 795, lock := some (rngLock.key 0 0) }
/-- RESEED_MS (R327). -/
def rngReseedMs : Fld := { page := .rng, off := 0x8, lsb := 32, w := 7, acc := .rwl, priv := true, reset := 10, lock := some (rngLock.key 0 0) }
/-- RCT_FAIL_COUNT (R327). -/
def rngRctFailCount : Fld := { page := .rng, off := 0x10, lsb := 0, w := 64, acc := .rc }
/-- APT_FAIL_COUNT (R327). -/
def rngAptFailCount : Fld := { page := .rng, off := 0x18, lsb := 0, w := 64, acc := .rc }
/-- RESEED_COUNT (R327). -/
def rngReseedCount : Fld := { page := .rng, off := 0x20, lsb := 0, w := 64, acc := .rc }
/-- IDLE_WORDS (R327). -/
def rngIdleWords : Fld := { page := .rng, off := 0x28, lsb := 0, w := 64, acc := .rc }
/-- FAIL_SRC (R327). -/
def rngFailSrc : Fld := { page := .rng, off := 0x30, lsb := 0, w := 3, acc := .ro }
/-- FAIL_TEST (R327). -/
def rngFailTest : Fld := { page := .rng, off := 0x30, lsb := 3, w := 1, acc := .ro }
/-- FAIL_STARTUP (R327). -/
def rngFailStartup : Fld := { page := .rng, off := 0x30, lsb := 4, w := 1, acc := .ro }
/-- VALID (R327). -/
def rngFailValid : Fld := { page := .rng, off := 0x30, lsb := 63, w := 1, acc := .w1c }
/-- WORD (R327). -/
def rngWord : Fld := { page := .rng, off := 0x40, lsb := 0, w := 64, acc := .ro, priv := true }
/-- CODE (R327). -/
def rngCode : Fld := { page := .rng, off := 0x40, lsb := 64, w := 16, acc := .ro, priv := true }
/-- LC (R351). -/
def nalamLc : Fld := { page := .nalam, off := 0x1000, lsb := 0, w := 3, acc := .ro }
/-- ROOT_OK (R351). -/
def nalamRootOk : Fld := { page := .nalam, off := 0x1000, lsb := 3, w := 1, acc := .ro }
/-- ATTEST_READY (R351). -/
def nalamAttestReady : Fld := { page := .nalam, off := 0x1000, lsb := 4, w := 1, acc := .ro }
/-- BOOT_LIMIT (R351). -/
def nalamBootLimit : Fld := { page := .nalam, off := 0x1000, lsb := 5, w := 1, acc := .ro }
/-- OTP_SVN (R351). -/
def nalamOtpSvn : Fld := { page := .nalam, off := 0x1008, lsb := 0, w := 7, acc := .ro }
/-- FW_SVN (R351). -/
def nalamFwSvn : Fld := { page := .nalam, off := 0x1008, lsb := 8, w := 7, acc := .ro }
/-- ROLLBACK_COMMIT (R351). -/
def nalamRollbackCommit : Fld := { page := .nalam, off := 0x1010, lsb := 0, w := 1, acc := .wo, priv := true }
/-- BOOT_INDEX (R351). -/
def nalamBootIndex : Fld := { page := .nalam, off := 0x1018, lsb := 0, w := 16, acc := .ro }
/-- BOOTS_LEFT (R351). -/
def nalamBootsLeft : Fld := { page := .nalam, off := 0x1018, lsb := 16, w := 16, acc := .ro }
/-- LEAVES_LEFT (R351). -/
def nalamLeavesLeft : Fld := { page := .nalam, off := 0x1018, lsb := 32, w := 11, acc := .ro }
/-- SLOT_SEL (R351). -/
def nalamSlotSel : Fld := { page := .nalam, off := 0x1020, lsb := 0, w := 6, acc := .rw, priv := true }
/-- SLOT_ATTR (R351). -/
def nalamSlotAttr : Fld := { page := .nalam, off := 0x1028, lsb := 0, w := 64, acc := .ro, priv := true }
/-- KEY_CMD (R351). -/
def nalamKeyCmd : Fld := { page := .nalam, off := 0x1030, lsb := 0, w := 3, acc := .wo, priv := true }
/-- SLOT (R351). -/
def nalamSlot : Fld := { page := .nalam, off := 0x1030, lsb := 3, w := 6, acc := .wo, priv := true }
/-- FUNC (R351). -/
def nalamFunc : Fld := { page := .nalam, off := 0x1030, lsb := 9, w := 6, acc := .wo, priv := true }
/-- TO_CC (R351). -/
def nalamToCc : Fld := { page := .nalam, off := 0x1030, lsb := 15, w := 1, acc := .wo, priv := true }
/-- KEY_CODE (R351). -/
def nalamKeyCode : Fld := { page := .nalam, off := 0x1038, lsb := 0, w := 16, acc := .ro, priv := true }
/-- KEY_BUSY (R351). -/
def nalamKeyBusy : Fld := { page := .nalam, off := 0x1038, lsb := 16, w := 1, acc := .ro, priv := true }
/-- LC_NONCE (R351). -/
def nalamLcNonce : Fld := { page := .nalam, off := 0x1040, lsb := 0, w := 256, acc := .ro }
/-- REMASK_MISSED (R351). -/
def nalamRemaskMissed : Fld := { page := .nalam, off := 0x1060, lsb := 0, w := 64, acc := .rc }
/-- EVIDENCE_COUNT (R351). -/
def nalamEvidenceCount : Fld := { page := .nalam, off := 0x1068, lsb := 0, w := 64, acc := .rc }
/-- ASSET_REFUSED_COUNT (R351). -/
def nalamAssetRefusedCount : Fld := { page := .nalam, off := 0x1070, lsb := 0, w := 64, acc := .rc }
/-- FKEY_SLOT (R352). -/
def fnFkeySlot : Fld := { page := .func, off := 0x3400, lsb := 0, w := 6, acc := .ro }
/-- FKEY_VALID (R352). -/
def fnFkeyValid : Fld := { page := .func, off := 0x3400, lsb := 6, w := 1, acc := .ro }
/-- BOUND (R352). -/
def fnBound : Fld := { page := .func, off := 0x3400, lsb := 7, w := 1, acc := .ro }
/-- TENANT_TAG (R352). -/
def fnTenantTag : Fld := { page := .func, off := 0x3400, lsb := 32, w := 32, acc := .ro }
/-- FKEY_ZERO (R352). -/
def fnFkeyZero : Fld := { page := .func, off := 0x3408, lsb := 0, w := 1, acc := .wo }
/-- ASSET_SEQ (R352). -/
def fnAssetSeq : Fld := { page := .func, off := 0x3410, lsb := 0, w := 64, acc := .ro }
/-- SPINDLES (R365). -/
def fnSpindles : Fld := { page := .func, off := 0x3800, lsb := 0, w := 32, acc := .ro }
/-- NEAR_BASE (R365). -/
def fnNearBase : Fld := { page := .func, off := 0x3808, lsb := 0, w := 16, acc := .ro }
/-- NEAR_COUNT (R365). -/
def fnNearCount : Fld := { page := .func, off := 0x3808, lsb := 32, w := 17, acc := .ro }
/-- FAR_BASE (R365). -/
def fnFarBase : Fld := { page := .func, off := 0x3810, lsb := 0, w := 23, acc := .ro }
/-- FAR_COUNT (R365). -/
def fnFarCount : Fld := { page := .func, off := 0x3810, lsb := 24, w := 23, acc := .ro }
/-- BUNDLES (R365). -/
def fnBundles : Fld := { page := .func, off := 0x3818, lsb := 0, w := 64, acc := .ro }
/-- CTR_BASE (R365). -/
def fnCtrBase : Fld := { page := .func, off := 0x3820, lsb := 0, w := 13, acc := .ro }
/-- PIN_QUOTA (R365). -/
def fnPinQuota : Fld := { page := .func, off := 0x3820, lsb := 32, w := 14, acc := .ro }
/-- SEALED_NET (R365). -/
def fnSealedNet : Fld := { page := .func, off := 0x3828, lsb := 0, w := 1, acc := .ro }
/-- SEALED_FAR (R365). -/
def fnSealedFar : Fld := { page := .func, off := 0x3828, lsb := 1, w := 1, acc := .ro }
/-- THROTTLE_STEP (R365). -/
def fnThrottleStep : Fld := { page := .func, off := 0x3828, lsb := 2, w := 2, acc := .ro }
/-- ROT_STATE (R365). -/
def fnRotState : Fld := { page := .func, off := 0x3828, lsb := 4, w := 2, acc := .ro }
/-- CURGEN (R365). -/
def fnCurgen : Fld := { page := .func, off := 0x3828, lsb := 6, w := 1, acc := .ro }
/-- MEMKEY (R365). -/
def fnMemkey : Fld := { page := .func, off := 0x3828, lsb := 7, w := 1, acc := .ro }
/-- OLD_PAGES (R365). -/
def fnOldPages : Fld := { page := .func, off := 0x3830, lsb := 0, w := 32, acc := .ro }
/-- PART_FUNC (R366). -/
def partFunc : Fld := { page := .func, off := 0x3C00, lsb := 0, w := 6, acc := .rw, priv := true }
/-- PART_SPINDLES (R366). -/
def partSpindles : Fld := { page := .func, off := 0x3C08, lsb := 0, w := 32, acc := .rw, priv := true }
/-- PART_NEAR (R366). -/
def partNear : Fld := { page := .func, off := 0x3C10, lsb := 0, w := 64, acc := .rw, priv := true }
/-- PART_FAR (R366). -/
def partFar : Fld := { page := .func, off := 0x3C18, lsb := 0, w := 64, acc := .rw, priv := true }
/-- PART_BUNDLES (R366). -/
def partBundles : Fld := { page := .func, off := 0x3C20, lsb := 0, w := 64, acc := .rw, priv := true }
/-- PART_CTR_BASE (R366). -/
def partCtrBase : Fld := { page := .func, off := 0x3C28, lsb := 0, w := 13, acc := .rw, priv := true }
/-- PART_CTR_COUNT (R366). -/
def partCtrCount : Fld := { page := .func, off := 0x3C28, lsb := 16, w := 13, acc := .rw, priv := true }
/-- PART_PIN_QUOTA (R366). -/
def partPinQuota : Fld := { page := .func, off := 0x3C28, lsb := 32, w := 14, acc := .rw, priv := true }
/-- PART_WIN_QUOTA (R366). -/
def partWinQuota : Fld := { page := .func, off := 0x3C30, lsb := 0, w := 13, acc := .rw, priv := true }
/-- PART_TWR_QUOTA (R366). -/
def partTwrQuota : Fld := { page := .func, off := 0x3C30, lsb := 16, w := 13, acc := .rw, priv := true }
/-- PART_CMD (R366). -/
def partCmd : Fld := { page := .func, off := 0x3C38, lsb := 0, w := 1, acc := .wo, priv := true }
/-- PART_CODE (R366). -/
def partCode : Fld := { page := .func, off := 0x3C40, lsb := 0, w := 16, acc := .ro, priv := true }
/-- PART_BUSY (R366). -/
def partBusy : Fld := { page := .func, off := 0x3C40, lsb := 16, w := 1, acc := .ro, priv := true }
/-- SEALED_BUNDLES (R366). -/
def partSealedBundles : Fld := { page := .func, off := 0x3C48, lsb := 0, w := 64, acc := .rw, priv := true }
/-- NET_SLOT (R366). -/
def partNetSlot : Fld := { page := .func, off := 0x3C50, lsb := 0, w := 21, acc := .rw, priv := true, reset := 13500 }
/-- FAR_SLOT (R366). -/
def partFarSlot : Fld := { page := .func, off := 0x3C50, lsb := 32, w := 21, acc := .rw, priv := true, reset := 13500 }
/-- SEALED_FAR (R366). -/
def partSealedFar : Fld := { page := .func, off := 0x3C50, lsb := 63, w := 1, acc := .rw, priv := true }
/-- SNAP_CMD (R378). -/
def snapCmd : Fld := { page := .snap, off := 0x0, lsb := 0, w := 1, acc := .wo, priv := true }
/-- SNAP_SEQ (R378). -/
def snapSeq : Fld := { page := .snap, off := 0x8, lsb := 0, w := 32, acc := .ro }
/-- STEPPING (R379). -/
def devStepping : Fld := { page := .dev, off := 0x0, lsb := 0, w := 8, acc := .ro }
/-- GRADE (R379). -/
def devGrade : Fld := { page := .dev, off := 0x0, lsb := 8, w := 1, acc := .ro }
/-- LGRADE (R379). -/
def devLgrade : Fld := { page := .dev, off := 0x0, lsb := 16, w := 6, acc := .ro }
/-- PORTS (R379). -/
def devPorts : Fld := { page := .dev, off := 0x0, lsb := 24, w := 7, acc := .ro }
/-- DIE_ID_LO (R379). -/
def devDieIdLo : Fld := { page := .dev, off := 0x8, lsb := 0, w := 64, acc := .ro }
/-- DIE_ID_HI (R379). -/
def devDieIdHi : Fld := { page := .dev, off := 0x10, lsb := 0, w := 64, acc := .ro }
/-- QG_VER_MIN (R379). -/
def devQgVerMin : Fld := { page := .dev, off := 0x18, lsb := 0, w := 16, acc := .ro, reset := 256 }
/-- QG_VER_MAX (R379). -/
def devQgVerMax : Fld := { page := .dev, off := 0x18, lsb := 16, w := 16, acc := .ro, reset := 256 }
/-- KZT_VER_MIN (R379). -/
def devKztVerMin : Fld := { page := .dev, off := 0x18, lsb := 32, w := 16, acc := .ro, reset := 256 }
/-- KZT_VER_MAX (R379). -/
def devKztVerMax : Fld := { page := .dev, off := 0x18, lsb := 48, w := 16, acc := .ro, reset := 256 }
/-- PLY_VER_MIN (R379). -/
def devPlyVerMin : Fld := { page := .dev, off := 0x20, lsb := 0, w := 16, acc := .ro, reset := 256 }
/-- PLY_VER_MAX (R379). -/
def devPlyVerMax : Fld := { page := .dev, off := 0x20, lsb := 16, w := 16, acc := .ro, reset := 256 }
/-- FW_ABI_MIN (R379). -/
def devFwAbiMin : Fld := { page := .dev, off := 0x20, lsb := 32, w := 16, acc := .ro }
/-- FW_ABI_MAX (R379). -/
def devFwAbiMax : Fld := { page := .dev, off := 0x20, lsb := 48, w := 16, acc := .ro }
/-- RING_MIN (R379). -/
def devRingMin : Fld := { page := .dev, off := 0x28, lsb := 0, w := 16, acc := .ro }
/-- RING_MAX (R379). -/
def devRingMax : Fld := { page := .dev, off := 0x28, lsb := 16, w := 16, acc := .ro }
/-- QG_FEATURES (R379). -/
def devQgFeatures : Fld := { page := .dev, off := 0x30, lsb := 0, w := 64, acc := .ro, reset := 16383 }
/-- FUNC (R379). -/
def fnFunc : Fld := { page := .func, off := 0x38, lsb := 0, w := 6, acc := .ro }
/-- IS_PF (R379). -/
def fnIsPf : Fld := { page := .func, off := 0x38, lsb := 6, w := 1, acc := .ro }
/-- IDE_ACTIVE (R379). -/
def fnIdeActive : Fld := { page := .func, off := 0x38, lsb := 7, w := 1, acc := .ro }
/-- SECURE (R379). -/
def fnSecure : Fld := { page := .func, off := 0x38, lsb := 9, w := 1, acc := .ro }
/-- LOCK_VIOLATION (R379). -/
def fnLockViolation : Fld := { page := .func, off := 0x40, lsb := 0, w := 1, acc := .w1c }
/-- PRIV_DENIED (R379). -/
def fnPrivDenied : Fld := { page := .func, off := 0x40, lsb := 1, w := 1, acc := .w1c }
/-- REFUSED (R379). -/
def fnRefused : Fld := { page := .func, off := 0x40, lsb := 2, w := 1, acc := .w1c }
/-- CAP_VALID (R379). -/
def fnCapValid : Fld := { page := .func, off := 0x40, lsb := 3, w := 1, acc := .w1c }
/-- OFFSET (R379). -/
def fnOffset : Fld := { page := .func, off := 0x40, lsb := 32, w := 26, acc := .ro }
/-- FSNAP_CMD (R379). -/
def fnFsnapCmd : Fld := { page := .func, off := 0x48, lsb := 0, w := 1, acc := .wo }
/-- FSNAP_SEQ (R379). -/
def fnFsnapSeq : Fld := { page := .func, off := 0x50, lsb := 0, w := 32, acc := .ro }
/-- F_UNMATCHED (R379). -/
def fnFUnmatched : Fld := { page := .func, off := 0x3100, lsb := 0, w := 64, acc := .rc }
/-- F_DROP_CTX_MISS (R379). -/
def fnFDropCtxMiss : Fld := { page := .func, off := 0x3108, lsb := 0, w := 64, acc := .rc }
/-- F_DROP_AUTH (R379). -/
def fnFDropAuth : Fld := { page := .func, off := 0x3110, lsb := 0, w := 64, acc := .rc }
/-- F_DROP_WINDOW (R379). -/
def fnFDropWindow : Fld := { page := .func, off := 0x3118, lsb := 0, w := 64, acc := .rc }
/-- F_DROP_DUP (R379). -/
def fnFDropDup : Fld := { page := .func, off := 0x3120, lsb := 0, w := 64, acc := .rc }
/-- F_RETRANSMITS (R379). -/
def fnFRetransmits : Fld := { page := .func, off := 0x3128, lsb := 0, w := 64, acc := .rc }
/-- F_REASM_DROPS (R379). -/
def fnFReasmDrops : Fld := { page := .func, off := 0x3130, lsb := 0, w := 64, acc := .rc }
/-- SQ_BASE (R380). -/
def ringSqBase : Fld := { page := .func, off := 0x200, lsb := 0, w := 64, acc := .rw, stride := 64, n := 4 }
/-- SQ_LOG2 (R380). -/
def ringSqLog2 : Fld := { page := .func, off := 0x208, lsb := 0, w := 5, acc := .rw, reset := 6, stride := 64, n := 4 }
/-- CQ_LOG2 (R380). -/
def ringCqLog2 : Fld := { page := .func, off := 0x208, lsb := 8, w := 5, acc := .rw, reset := 6, stride := 64, n := 4 }
/-- CQ_VEC (R380). -/
def ringCqVec : Fld := { page := .func, off := 0x208, lsb := 16, w := 11, acc := .rw, stride := 64, n := 4 }
/-- VMIN (R380). -/
def ringVmin : Fld := { page := .func, off := 0x208, lsb := 32, w := 16, acc := .rw, stride := 64, n := 4 }
/-- VMAX (R380). -/
def ringVmax : Fld := { page := .func, off := 0x208, lsb := 48, w := 16, acc := .rw, stride := 64, n := 4 }
/-- CQ_BASE (R380). -/
def ringCqBase : Fld := { page := .func, off := 0x210, lsb := 0, w := 64, acc := .rw, stride := 64, n := 4 }
/-- RING_CMD (R380). -/
def ringCmd : Fld := { page := .func, off := 0x218, lsb := 0, w := 2, acc := .wo, stride := 64, n := 4 }
/-- STATE (R380). -/
def ringState : Fld := { page := .func, off := 0x220, lsb := 0, w := 2, acc := .ro, stride := 64, n := 4 }
/-- BUSY (R380). -/
def ringBusy : Fld := { page := .func, off := 0x220, lsb := 2, w := 1, acc := .ro, stride := 64, n := 4 }
/-- VER (R380). -/
def ringVer : Fld := { page := .func, off := 0x220, lsb := 16, w := 16, acc := .ro, stride := 64, n := 4 }
/-- CODE (R380). -/
def ringCode : Fld := { page := .func, off := 0x220, lsb := 32, w := 16, acc := .ro, stride := 64, n := 4 }
/-- SQ_TAIL (R380). -/
def ringSqTail : Fld := { page := .func, off := 0x228, lsb := 0, w := 32, acc := .rw, stride := 64, n := 4 }
/-- SQ_HEAD (R380). -/
def ringSqHead : Fld := { page := .func, off := 0x230, lsb := 0, w := 32, acc := .ro, stride := 64, n := 4 }
/-- CQ_HEAD (R380). -/
def ringCqHead : Fld := { page := .func, off := 0x238, lsb := 0, w := 32, acc := .rw, stride := 64, n := 4 }
/-- FR_FUNC (R390). -/
def rstFrFunc : Fld := { page := .rst, off := 0x0, lsb := 0, w := 6, acc := .rw, priv := true }
/-- FR_GO (R390). -/
def rstFrGo : Fld := { page := .rst, off := 0x8, lsb := 0, w := 1, acc := .wo, priv := true }
/-- FR_CODE (R390). -/
def rstFrCode : Fld := { page := .rst, off := 0x10, lsb := 0, w := 16, acc := .ro, priv := true }
/-- FR_BUSY (R390). -/
def rstFrBusy : Fld := { page := .rst, off := 0x10, lsb := 16, w := 1, acc := .ro, priv := true }
/-- RESET_MASK (R390). -/
def rstResetMask : Fld := { page := .rst, off := 0x18, lsb := 0, w := 64, acc := .ro, priv := true }
/-- STAGE (R399). -/
def bootStage : Fld := { page := .nalam, off := 0x0, lsb := 0, w := 3, acc := .ro }
/-- CREEL_DONE (R399). -/
def bootCreelDone : Fld := { page := .nalam, off := 0x0, lsb := 3, w := 1, acc := .ro }
/-- FAR_DONE (R399). -/
def bootFarDone : Fld := { page := .nalam, off := 0x0, lsb := 4, w := 1, acc := .ro }
/-- ATTEST_DONE (R399). -/
def bootAttestDone : Fld := { page := .nalam, off := 0x0, lsb := 5, w := 1, acc := .ro }
/-- PORTS_DONE (R399). -/
def bootPortsDone : Fld := { page := .nalam, off := 0x0, lsb := 6, w := 1, acc := .ro }
/-- FWINIT_DONE (R399). -/
def bootFwinitDone : Fld := { page := .nalam, off := 0x0, lsb := 7, w := 1, acc := .ro }
/-- WARM (R399). -/
def bootWarm : Fld := { page := .nalam, off := 0x0, lsb := 8, w := 1, acc := .ro }
/-- CODE (R399). -/
def bootCode : Fld := { page := .nalam, off := 0x0, lsb := 16, w := 16, acc := .ro }
/-- DETAIL (R399). -/
def bootDetail : Fld := { page := .nalam, off := 0x0, lsb := 32, w := 8, acc := .ro }
/-- T_IMAGE (R399). -/
def bootTImage : Fld := { page := .nalam, off := 0x8, lsb := 0, w := 32, acc := .ro }
/-- T_READY (R399). -/
def bootTReady : Fld := { page := .nalam, off := 0x8, lsb := 32, w := 32, acc := .ro }
/-- FW_SRC (R399). -/
def bootFwSrc : Fld := { page := .nalam, off := 0x10, lsb := 0, w := 64, acc := .rw }
/-- FW_LEN (R399). -/
def bootFwLen : Fld := { page := .nalam, off := 0x18, lsb := 0, w := 32, acc := .rw }
/-- FW_DOORBELL (R399). -/
def bootFwDoorbell : Fld := { page := .nalam, off := 0x20, lsb := 0, w := 1, acc := .wo }
/-- IMG_CODE (R399). -/
def bootImgCode : Fld := { page := .nalam, off := 0x28, lsb := 0, w := 16, acc := .ro }
/-- IMG_BUSY (R399). -/
def bootImgBusy : Fld := { page := .nalam, off := 0x28, lsb := 16, w := 1, acc := .ro }
/-- DRV_ABI_MIN (R403). -/
def attDrvAbiMin : Fld := { page := .func, off := 0x100, lsb := 0, w := 16, acc := .rw }
/-- DRV_ABI_MAX (R403). -/
def attDrvAbiMax : Fld := { page := .func, off := 0x100, lsb := 16, w := 16, acc := .rw }
/-- ATTACH (R403). -/
def attAttach : Fld := { page := .func, off := 0x108, lsb := 0, w := 1, acc := .wo }
/-- GO_SERVICE (R403). -/
def attGoService : Fld := { page := .func, off := 0x108, lsb := 1, w := 1, acc := .wo }
/-- ABI_VER (R403). -/
def attAbiVer : Fld := { page := .func, off := 0x110, lsb := 0, w := 16, acc := .ro }
/-- ATTACH_CODE (R403). -/
def attAttachCode : Fld := { page := .func, off := 0x110, lsb := 16, w := 16, acc := .ro }
/-- ATTACHED (R403). -/
def attAttached : Fld := { page := .func, off := 0x110, lsb := 32, w := 1, acc := .ro }
/-- ATTACH_BUSY (R403). -/
def attAttachBusy : Fld := { page := .func, off := 0x110, lsb := 33, w := 1, acc := .ro }
/-- SVC (R403). -/
def attSvc : Fld := { page := .func, off := 0x110, lsb := 34, w := 2, acc := .ro }
/-- WARM_GO (R405). -/
def warmGo : Fld := { page := .rst, off := 0x20, lsb := 0, w := 1, acc := .wo, priv := true }
/-- WARM_CODE (R405). -/
def warmCode : Fld := { page := .rst, off := 0x28, lsb := 0, w := 16, acc := .ro, priv := true }
/-- WARM_BUSY (R405). -/
def warmBusy : Fld := { page := .rst, off := 0x28, lsb := 16, w := 1, acc := .ro, priv := true }
/-- FATAL_CODE (R434). -/
def evFatalCode : Fld := { page := .event, off := 0x0, lsb := 0, w := 16, acc := .ro }
/-- FATAL (R434). -/
def evFatal : Fld := { page := .event, off := 0x0, lsb := 16, w := 1, acc := .ro }
/-- FROZEN (R434). -/
def evFrozen : Fld := { page := .event, off := 0x0, lsb := 17, w := 1, acc := .ro }
/-- FATAL_TIME (R434). -/
def evFatalTime : Fld := { page := .event, off := 0x8, lsb := 0, w := 64, acc := .ro }
/-- RESIDUE_FAILS (R434). -/
def evResidueFails : Fld := { page := .event, off := 0x10, lsb := 0, w := 64, acc := .rc }
/-- UNIT_REPAIRS (R434). -/
def evUnitRepairs : Fld := { page := .event, off := 0x18, lsb := 0, w := 64, acc := .rc }
/-- SPARE_SUBS (R434). -/
def evSpareSubs : Fld := { page := .event, off := 0x20, lsb := 0, w := 64, acc := .rc }
/-- TIMESHARES (R434). -/
def evTimeshares : Fld := { page := .event, off := 0x28, lsb := 0, w := 64, acc := .rc }
/-- CC_WDOG (R434). -/
def evCcWdog : Fld := { page := .event, off := 0x30, lsb := 0, w := 64, acc := .rc }
/-- PCIE_DOWNS (R434). -/
def evPcieDowns : Fld := { page := .event, off := 0x38, lsb := 0, w := 64, acc := .rc }
/-- BOOK_MISMATCHES (R434). -/
def evBookMismatches : Fld := { page := .event, off := 0x40, lsb := 0, w := 64, acc := .rc }
/-- SPARES_LEFT (R434). -/
def evSparesLeft : Fld := { page := .event, off := 0x48, lsb := 0, w := 2, acc := .ro, reset := 2 }
/-- SHARED (R434). -/
def evShared : Fld := { page := .event, off := 0x48, lsb := 2, w := 5, acc := .ro }
/-- TIER1_LOST (R434). -/
def evTier1Lost : Fld := { page := .event, off := 0x48, lsb := 7, w := 1, acc := .ro }
/-- PKG_LOST (R434). -/
def evPkgLost : Fld := { page := .event, off := 0x48, lsb := 8, w := 16, acc := .ro }
/-- ROLE (R435). -/
def physRole : Fld := { page := .spindle, off := 0x0, lsb := 0, w := 3, acc := .ro }
/-- LSPIN0 (R435). -/
def physLspin0 : Fld := { page := .spindle, off := 0x0, lsb := 3, w := 5, acc := .ro }
/-- LSPIN1 (R435). -/
def physLspin1 : Fld := { page := .spindle, off := 0x0, lsb := 8, w := 5, acc := .ro }
/-- FUNC (R435). -/
def physFunc : Fld := { page := .spindle, off := 0x0, lsb := 13, w := 6, acc := .ro }
/-- ASSIGNED (R435). -/
def physAssigned : Fld := { page := .spindle, off := 0x0, lsb := 19, w := 1, acc := .ro }
/-- LAST_CODE (R435). -/
def physLastCode : Fld := { page := .spindle, off := 0x0, lsb := 20, w := 16, acc := .ro }
/-- SP_RESIDUE_FAILS (R435). -/
def physSpResidueFails : Fld := { page := .spindle, off := 0x8, lsb := 0, w := 64, acc := .rc }
/-- SP_ECC_CE (R435). -/
def physSpEccCe : Fld := { page := .spindle, off := 0x10, lsb := 0, w := 64, acc := .rc }
/-- CMD (R447). -/
def bistCmd : Fld := { page := .nalam, off := 0x1200, lsb := 0, w := 2, acc := .wo, priv := true }
/-- PSPIN (R447). -/
def bistPspin : Fld := { page := .nalam, off := 0x1200, lsb := 8, w := 6, acc := .wo, priv := true }
/-- STATE (R447). -/
def bistState : Fld := { page := .nalam, off := 0x1208, lsb := 0, w := 3, acc := .ro, priv := true }
/-- PASS (R447). -/
def bistPass : Fld := { page := .nalam, off := 0x1208, lsb := 3, w := 1, acc := .ro, priv := true }
/-- REPAIRED (R447). -/
def bistRepaired : Fld := { page := .nalam, off := 0x1208, lsb := 4, w := 1, acc := .ro, priv := true }
/-- CODE (R447). -/
def bistCode : Fld := { page := .nalam, off := 0x1208, lsb := 16, w := 16, acc := .ro, priv := true }
/-- LBIST_FAIL (R447). -/
def bistLbistFail : Fld := { page := .nalam, off := 0x1210, lsb := 0, w := 34, acc := .ro, priv := true }
/-- CC_FAIL (R447). -/
def bistCcFail : Fld := { page := .nalam, off := 0x1210, lsb := 34, w := 4, acc := .ro, priv := true }
/-- SLICE_UNREP (R447). -/
def bistSliceUnrep : Fld := { page := .nalam, off := 0x1218, lsb := 0, w := 64, acc := .ro, priv := true }
/-- FS_INTERVAL (R447). -/
def bistFsInterval : Fld := { page := .nalam, off := 0x1220, lsb := 0, w := 32, acc := .rwl, priv := true, reset := 3600, lock := some (bistLock.key 0 0) }
/-- FS_PSPIN (R447). -/
def bistFsPspin : Fld := { page := .nalam, off := 0x1228, lsb := 0, w := 6, acc := .ro, priv := true }
/-- FS_RESULT (R447). -/
def bistFsResult : Fld := { page := .nalam, off := 0x1228, lsb := 6, w := 2, acc := .ro, priv := true }
/-- FS_TIME (R447). -/
def bistFsTime : Fld := { page := .nalam, off := 0x1230, lsb := 0, w := 64, acc := .ro, priv := true }
/-- FS_FAILS (R447). -/
def bistFsFails : Fld := { page := .nalam, off := 0x1238, lsb := 0, w := 64, acc := .rc }
/-- FS_INVALID (R447). -/
def bistFsInvalid : Fld := { page := .nalam, off := 0x1240, lsb := 0, w := 64, acc := .rc }
/-- LOG_SEL (R447). -/
def bistLogSel : Fld := { page := .nalam, off := 0x1248, lsb := 0, w := 8, acc := .rw, priv := true }
/-- LOG_ENTRY (R447). -/
def bistLogEntry : Fld := { page := .nalam, off := 0x1250, lsb := 0, w := 64, acc := .ro, priv := true }
/-- ENTRIES (R447). -/
def bistEntries : Fld := { page := .nalam, off := 0x1258, lsb := 0, w := 9, acc := .ro, priv := true }
/-- OVERFLOWED (R447). -/
def bistOverflowed : Fld := { page := .nalam, off := 0x1258, lsb := 9, w := 32, acc := .ro, priv := true }
/-- SOFT_USED (R447). -/
def bistSoftUsed : Fld := { page := .nalam, off := 0x1260, lsb := 0, w := 16, acc := .ro, priv := true }
/-- FUSE_LEFT (R447). -/
def bistFuseLeft : Fld := { page := .nalam, off := 0x1260, lsb := 16, w := 13, acc := .ro }
/-- ROOT_LOCK (R463). -/
def clkRootLock : Fld := { page := .clk, off := 0x0, lsb := 0, w := 1, acc := .ro }
/-- SYSREF_OK (R463). -/
def clkSysrefOk : Fld := { page := .clk, off := 0x0, lsb := 1, w := 1, acc := .ro }
/-- PCIEREF_OK (R463). -/
def clkPcierefOk : Fld := { page := .clk, off := 0x0, lsb := 2, w := 1, acc := .ro }
/-- LNK_LOCK (R463). -/
def clkLnkLock : Fld := { page := .clk, off := 0x0, lsb := 3, w := 8, acc := .ro }
/-- LNK_SRC (R463). -/
def clkLnkSrc : Fld := { page := .clk, off := 0x8, lsb := 0, w := 48, acc := .ro, reset := 281474976710655 }
/-- CLK_LOSS_COUNT (R463). -/
def clkLossCount : Fld := { page := .clk, off := 0x10, lsb := 0, w := 64, acc := .rc }
/-- STEP (R464). -/
def weirStep : Fld := { page := .weir, off := 0x0, lsb := 0, w := 2, acc := .ro }
/-- TARGET (R464). -/
def weirTarget : Fld := { page := .weir, off := 0x0, lsb := 2, w := 2, acc := .ro }
/-- VID (R464). -/
def weirVid : Fld := { page := .weir, off := 0x0, lsb := 4, w := 6, acc := .ro, reset := 20 }
/-- RAMPING (R464). -/
def weirRamping : Fld := { page := .weir, off := 0x0, lsb := 10, w := 1, acc := .ro }
/-- STEP_FLOOR (R464). -/
def weirStepFloor : Fld := { page := .weir, off := 0x8, lsb := 0, w := 2, acc := .rwl, priv := true, lock := some (weirLock.key 0 0) }
/-- T_HOT (R464). -/
def weirTHot : Fld := { page := .weir, off := 0x8, lsb := 8, w := 8, acc := .rwl, priv := true, reset := 100, lock := some (weirLock.key 0 0) }
/-- T_COOL (R464). -/
def weirTCool : Fld := { page := .weir, off := 0x8, lsb := 16, w := 8, acc := .rwl, priv := true, reset := 95, lock := some (weirLock.key 0 0) }
/-- P_LIMIT (R464). -/
def weirPLimit : Fld := { page := .weir, off := 0x8, lsb := 32, w := 16, acc := .rwl, priv := true, reset := 1450, lock := some (weirLock.key 0 0) }
/-- TJ_MAX (R464). -/
def weirTjMax : Fld := { page := .weir, off := 0x10, lsb := 0, w := 8, acc := .ro }
/-- POWER_W (R464). -/
def weirPowerW : Fld := { page := .weir, off := 0x10, lsb := 8, w := 16, acc := .ro }
/-- STEP_CHANGES (R464). -/
def weirStepChanges : Fld := { page := .weir, off := 0x18, lsb := 0, w := 64, acc := .rc }
/-- TIME_AT_STEP_k (R464). -/
def weirTimeAtStep : Fld := { page := .weir, off := 0x20, lsb := 0, w := 64, acc := .rc, stride := 8, n := 4 }

/-- MSI-X table: message address of a vector (R371; the layout is PCI Express's). PRESUMED. -/
def msixAddr : Fld := { page := .func, off := 0x800, lsb := 0, w := 64, acc := .rw, stride := 16, n := 32 }
/-- MSI-X table: message data of a vector (R371). PRESUMED. -/
def msixData : Fld := { page := .func, off := 0x808, lsb := 0, w := 32, acc := .rw, stride := 16, n := 32 }
/-- MSI-X table: the mask bit of a vector, set at reset (R371). PRESUMED. -/
def msixMask : Fld := { page := .func, off := 0x808, lsb := 32, w := 1, acc := .rw, reset := 1, stride := 16, n := 32 }
/-- MSI-X pending bits (R371). PRESUMED. -/
def msixPending : Fld := { page := .func, off := 0xA00, lsb := 0, w := 32, acc := .ro }
/-- REASM_DROPS (R273). -/
def qpcReasmDrops : Fld := { page := .qpc, off := 0x98, lsb := 0, w := 64, acc := .rc }

/-- Rows of the register tables, part 1. -/
def rows1 : List Fld :=
  [creelTier0Ok, creelTier1Ok, creelScrubActive, creelZeroiseBusy, creelScrubEn, creelPeriodMs,
   creelLock, creelCeCount, creelUeCount, creelUeTile, creelUeSlice, creelUeValid,
   creelCsumTile, creelCsumSource, creelCsumValid, creelSbOcc, farPkgOk, farRateFallback,
   farTrained, farCeCount, farUeCount, farUeTile, farUePage, farUeValid,
   farLockageBytes, progSrc, progLen, progSpindles, progCmd, progCode,
   progBusy, progDropped, progDigest, progState, progLevel, progPc,
   progTrap, qpcKztUdpPort, qpcPathBase, qpcLock, qpcQpTableBase, qpcReorderT,
   qpcRtoMin, qpcRtoMax, qpcRetryLimit, qpcFetchTimeout, qpcProbeT, qpcCacheOcc,
   qpcPinned, qpcFetchOut, qpcTrackersFree, qpcBasinOcc, qpcCacheHits, qpcCacheMisses,
   qpcDropCtxMiss, qpcDropAuth, qpcDropMalformed, qpcDropWindow, qpcDropDup, qpcRetransmits]

/-- Rows of the register tables, part 2. -/
def rows2 : List Fld :=
  [qpcRtoExpiries, qpcNetLock, qpcBundle, qpcAddr6, qpcAddr4, qpcVlan,
   qpcDscp, portEnabled, portUp, portAnDone, portBundle, portInBundle,
   portMacAddr, portTxFrames, portRxFrames, portFecCorrected, portFecUncorrected, portFcsErrors,
   portLinkDowns, fnEvtBase, fnEvtLog2, fnEvtVec, fnEvtEn, fnEvtHead,
   fnEvtTail, fnEvtClassEn, fnEvtLost, fnCtrCount, fnCtrSel, fnCtrVal,
   fnWinQuota, fnWinUsed, fnTwrQuota, fnTwrUsed, fnXdesc, fnXcmd,
   fnXarg, fnXcode, fnXbusy, fnXdropped, fnXresult, gateSyncPresent,
   gateSyncLock, gateEpochValid, gateLid, gateLock, gateSyncEpoch, gateSyncTrim,
   gateMarkTime, gateLateCount, gateSyncLossCount, plyRole, plyBundle, plyQpn,
   plyLock, plyCmd, plyState, plyVer, plyCode, plyLastSeen]

/-- Rows of the register tables, part 3. -/
def rows3 : List Fld :=
  [plyMirrorTxBytes, plyMirrorRxBytes, plyDivergences, plyFailovers, rngState, rngSrcOk,
   rngSrcDisabled, rngQueueWords, rngDecim, rngRctCutoff, rngAptCutoff, rngReseedMs,
   rngLock, rngRctFailCount, rngAptFailCount, rngReseedCount, rngIdleWords, rngFailSrc,
   rngFailTest, rngFailStartup, rngFailValid, rngWord, rngCode, nalamLc,
   nalamRootOk, nalamAttestReady, nalamBootLimit, nalamOtpSvn, nalamFwSvn, nalamRollbackCommit,
   nalamBootIndex, nalamBootsLeft, nalamLeavesLeft, nalamSlotSel, nalamSlotAttr, nalamKeyCmd,
   nalamSlot, nalamFunc, nalamToCc, nalamKeyCode, nalamKeyBusy, nalamLcNonce,
   nalamRemaskMissed, nalamEvidenceCount, nalamAssetRefusedCount, fnFkeySlot, fnFkeyValid, fnBound,
   fnTenantTag, fnFkeyZero, fnAssetSeq, fnSpindles, fnNearBase, fnNearCount,
   fnFarBase, fnFarCount, fnBundles, fnCtrBase, fnPinQuota, fnSealedNet]

/-- Rows of the register tables, part 4. -/
def rows4 : List Fld :=
  [fnSealedFar, fnThrottleStep, fnRotState, fnCurgen, fnMemkey, fnOldPages,
   partFunc, partSpindles, partNear, partFar, partBundles, partCtrBase,
   partCtrCount, partPinQuota, partWinQuota, partTwrQuota, partCmd, partCode,
   partBusy, partSealedBundles, partNetSlot, partFarSlot, partSealedFar, snapCmd,
   snapSeq, devStepping, devGrade, devLgrade, devPorts, devDieIdLo,
   devDieIdHi, devQgVerMin, devQgVerMax, devKztVerMin, devKztVerMax, devPlyVerMin,
   devPlyVerMax, devFwAbiMin, devFwAbiMax, devRingMin, devRingMax, devQgFeatures,
   fnFunc, fnIsPf, fnIdeActive, fnIdeReq, fnSecure, fnLockViolation,
   fnPrivDenied, fnRefused, fnCapValid, fnOffset, fnFsnapCmd, fnFsnapSeq,
   fnFUnmatched, fnFDropCtxMiss, fnFDropAuth, fnFDropWindow, fnFDropDup, fnFRetransmits]

/-- Rows of the register tables, part 5. -/
def rows5 : List Fld :=
  [fnFReasmDrops, ringSqBase, ringSqLog2, ringCqLog2, ringCqVec, ringVmin,
   ringVmax, ringCqBase, ringCmd, ringState, ringBusy, ringVer,
   ringCode, ringSqTail, ringSqHead, ringCqHead, rstFrFunc, rstFrGo,
   rstFrCode, rstFrBusy, rstResetMask, bootStage, bootCreelDone, bootFarDone,
   bootAttestDone, bootPortsDone, bootFwinitDone, bootWarm, bootCode, bootDetail,
   bootTImage, bootTReady, bootFwSrc, bootFwLen, bootFwDoorbell, bootImgCode,
   bootImgBusy, attDrvAbiMin, attDrvAbiMax, attAttach, attGoService, attAbiVer,
   attAttachCode, attAttached, attAttachBusy, attSvc, warmGo, warmCode,
   warmBusy, evFatalCode, evFatal, evFrozen, evFatalTime, evResidueFails,
   evUnitRepairs, evSpareSubs, evTimeshares, evCcWdog, evPcieDowns, evBookMismatches]

/-- Rows of the register tables, part 6. -/
def rows6 : List Fld :=
  [evSparesLeft, evShared, evTier1Lost, evPkgLost, physRole, physLspin0,
   physLspin1, physFunc, physAssigned, physLastCode, physSpResidueFails, physSpEccCe,
   bistCmd, bistPspin, bistState, bistPass, bistRepaired, bistCode,
   bistLbistFail, bistCcFail, bistSliceUnrep, bistFsInterval, bistLock, bistFsPspin,
   bistFsResult, bistFsTime, bistFsFails, bistFsInvalid, bistLogSel, bistLogEntry,
   bistEntries, bistOverflowed, bistSoftUsed, bistFuseLeft, clkRootLock, clkSysrefOk,
   clkPcierefOk, clkLnkLock, clkLnkSrc, clkLossCount, weirStep, weirTarget,
   weirVid, weirRamping, weirStepFloor, weirTHot, weirTCool, weirPLimit,
   weirLock, weirTjMax, weirPowerW, weirStepChanges, weirTimeAtStep]

/-- Every named field of the register tables. -/
def rows : List Fld := [msixAddr, msixData, msixMask, msixPending, qpcReasmDrops] ++ rows1 ++ rows2 ++ rows3 ++ rows4 ++ rows5 ++ rows6

end Reg

end Sys2Proof.Machine
end

