-- ==== Sys2Proof/Machine/Ops.lean ====
section
/-! DEFINITION. The named operations over State: register fields, functions, spindles, rounds, queue pairs, host memory,
lock counters, event records and traps. -/
namespace Sys2Proof.Machine

/-- The runs (offset, length) of a record are zero. -/
def zerosAt (b : Bytes) (runs : List (Nat × Nat)) : Bool := runs.all (fun p => allZero (slice b p.1 p.2))

/-- What a command answers. -/
abbrev Res := Host.Outcome State Fault Refusal

/-! ## Register fields (R10) -/

/-- The value of a register field: page instance `i`, item `j`. -/
def State.rd (s : State) (f : Fld) (i : Nat := 0) (j : Nat := 0) : Nat := Sparse.get f.reset s.regs (f.key i j)

/-- The device sets a register field. -/
def State.wr (s : State) (f : Fld) (v : Nat) (i : Nat := 0) (j : Nat := 0) : State :=
  { s with regs := Sparse.set f.reset s.regs (f.key i j) (v % 2 ^ f.w) }

/-- The value a counter field had before this CLK_CTL cycle is kept (R377). -/
def State.noteWas (s : State) (f : Fld) (i : Nat := 0) (j : Nat := 0) : State :=
  if f.acc = .rc ∧ !s.ctl.was.any (fun p => p.1 == f.key i j) then
    { s with ctl := { s.ctl with was := (f.key i j, s.rd f i j) :: s.ctl.was } }
  else s

/-- The device adds to a counter field. -/
def State.bump (s : State) (f : Fld) (i : Nat := 0) (n : Nat := 1) (j : Nat := 0) : State :=
  (s.noteWas f i j).wr f (s.rd f i j + n) i j

/-- The device sets a one-bit field that a write of 1 clears; a write in the same CLK_CTL cycle leaves it set (R377). -/
def State.flag (s : State) (f : Fld) (i : Nat := 0) : State :=
  let s1 := s.wr f 1 i
  { s1 with ctl := { s1.ctl with set := (f.key i 0 :: s1.ctl.set).dedup } }

/-- A capture log whose VALID is clear takes the fields `vs`; a full one takes them only when its VALID is cleared in the same
CLK_CTL cycle (R377). -/
def State.capture (s : State) (valid : Fld) (vs : List (Fld × Nat)) (i : Nat := 0) : State :=
  if s.rd valid i = 1 then
    { s with ctl := { s.ctl with next := s.ctl.next ++ [(valid.key i 0, vs.map (fun p => (p.1.key i 0, p.2 % 2 ^ p.1.w)))] } }
  else (vs.foldl (fun s p => s.wr p.1 p.2 i) s).flag valid i

/-- A one-bit field. -/
def State.rdb (s : State) (f : Fld) (i : Nat := 0) : Bool := s.rd f i == 1

/-! ## Parts of State by name -/

/-- Function `f`. -/
def State.fn (s : State) (f : Nat) : Func := s.funcs.getD f {}
/-- Change function `f`. -/
def State.updFn (s : State) (f : Nat) (g : Func → Func) : State := { s with funcs := updAt s.funcs f g }
/-- Logical spindle `j`. -/
def State.spin (s : State) (j : Nat) : Spindle := s.spindles.getD j {}
/-- Change logical spindle `j`. -/
def State.updSpin (s : State) (j : Nat) (g : Spindle → Spindle) : State := { s with spindles := updAt s.spindles j g }
/-- The round `r` of function `f` whose record the device holds (R213). -/
def State.round? (s : State) (f r : Nat) : Option Round := s.rounds.find? (fun x => x.func == f && x.cfg.round == r)
/-- Change round `r` of function `f`. -/
def State.updRound (s : State) (f r : Nat) (g : Round → Round) : State :=
  { s with rounds := updIf s.rounds (fun x => x.func == f && x.cfg.round == r) g }
/-- Queue pair `n`. -/
def State.qp? (s : State) (n : Nat) : Option Qp := s.qps.find? (fun q => q.qpn == n)
/-- Change queue pair `n`. -/
def State.updQp (s : State) (n : Nat) (g : Qp → Qp) : State := { s with qps := updIf s.qps (fun q => q.qpn == n) g }
/-- The next free value of the model (an unconstrained number for a value the spec leaves open). -/
def State.draw (s : State) : Nat × State := (s.fresh, { s with fresh := s.fresh + 1 })
/-- Append to what left the package. -/
def State.emit (s : State) (o : Out) : State := { s with out := s.out ++ [o] }

/-! ## The grade (R15) -/

/-- LGRADE: logical spindles of the grade. -/
def State.lgrade (s : State) : Nat := if s.otp.gradeE then 24 else 32
/-- Enabled Ethernet ports of the grade. -/
def State.nports (s : State) : Nat := if s.otp.gradeE then 48 else 64
/-- First far index that is not admissible to functions (R51). -/
def State.farTop (s : State) : Nat := if s.otp.gradeE then 0xBFF800 else 0xFFF000

/-- BOOT_STATUS.STAGE is READY and nothing holds the device (R396, R398, R408, R431). -/
def State.ready (s : State) : Bool := s.rd Reg.bootStage == 6 && !s.pins.stopped && !s.pins.frz && !s.pins.perst

/-! ## Spindles and functions -/

/-- The function logical spindle `j` is assigned to (R354). -/
def State.owner? (s : State) (j : Nat) : Option Nat := (List.range 64).find? (fun f => bit (s.rd Reg.fnSpindles f) j)

/-- The spindles assigned to function `f`, ascending. -/
def State.spindlesOf (s : State) (f : Nat) : List Nat := (List.range 32).filter (fun j => bit (s.rd Reg.fnSpindles f) j)

/-- Function `f` may reach its pages and rings (R369, R370, R389). -/
def State.funcUp (s : State) (f : Nat) : Bool :=
  s.ready && (s.fn f).exists_ && (s.fn f).resetAt.isNone && !(s.fn f).ideFailed

/-- DMA for function `f` is possible now (R370, R389, R392, R422). -/
def State.dmaOk (s : State) (f : Nat) : Bool :=
  !s.pins.stopped && s.pins.pcieUp && (s.fn f).resetAt.isNone && !(s.fn f).ideFailed

/-- Key of host address `a` of function `f` in `State.host`. -/
def hostKey (f a : Nat) : Nat := f * 2 ^ 64 + a % 2 ^ 64

/-- The device writes host memory of function `f` (R372): at once, or when its DMA resumes (R370, R422); in a function
reset no new DMA is issued (R389). -/
def State.hostPut (s : State) (f a : Nat) (bs : Bytes) : State :=
  if s.dmaOk f then { s with host := writeBytes s.host (hostKey f a) bs }
  else if (s.fn f).resetAt.isSome || s.pins.stopped then s
  else s.updFn f (fun x => { x with dmaWait := x.dmaWait ++ [(a, bs)] })

/-- Send MSI-X vector `v` of function `f` (R371): a vector above 31 sends no message; a masked one stays pending, and one
that waits for the function's DMA (R370, R422). -/
def State.sendVec (s : State) (f v : Nat) : State :=
  if 32 ≤ v then s
  else if s.rd Reg.msixMask f v = 1 || !s.dmaOk f then s.wr Reg.msixPending (Nat.lor (s.rd Reg.msixPending f) (2 ^ v)) f
  else s.emit (.msix f v)

/-! ## Lock counters (R259 to R261) -/

/-- The device counter of function `f`'s counter `c`, when it is in the set. -/
def State.ctrDev (s : State) (f c : Nat) : Option Nat :=
  if c < s.rd Reg.fnCtrCount f then some (s.rd Reg.fnCtrBase f + c) else none

/-- The value of function `f`'s counter `c`; 0 outside the set. -/
def State.ctrGet (s : State) (f c : Nat) : Nat :=
  match s.ctrDev f c with
  | some d => Sparse.get 0 s.ctrs d
  | none => 0

/-- Set function `f`'s counter `c`. -/
def State.ctrPut (s : State) (f c v : Nat) : State :=
  match s.ctrDev f c with
  | some d => { s with ctrs := Sparse.set 0 s.ctrs d v }
  | none => s

/-- What has reached device counter `d` in this cycle. -/
def State.ctrCycle (s : State) (d : Nat) : CtrCyc :=
  (s.ctrCyc.find? (fun x => x.dev == d)).getD { dev := d, base := Sparse.get 0 s.ctrs d }
/-- The value that the order of R260 gives: the write, the raises, the additions. -/
def CtrCyc.val (x : CtrCyc) : Nat := min (max x.base x.raise + x.add) (2 ^ 64 - 1)
/-- Note a change of function `f`'s counter `c` in this cycle. -/
def State.ctrNote (s : State) (f c : Nat) (g : CtrCyc → CtrCyc) : State :=
  match s.ctrDev f c with
  | some d => { s with ctrCyc := g (s.ctrCycle d) :: s.ctrCyc.filter (fun x => x.dev != d) }
  | none => s
/-- Function `f`'s counter `c` takes the value of its cycle's changes. -/
def State.ctrSettle (s : State) (f c : Nat) : State :=
  match s.ctrDev f c with
  | some d => s.ctrPut f c (s.ctrCycle d).val
  | none => s

/-- Add to a counter, saturating at 2^64 − 1 (R260). -/
def State.ctrAdd (s : State) (f c v : Nat) : State :=
  (s.ctrNote f c (fun x => { x with add := x.add + v })).ctrPut f c (min (s.ctrGet f c + v) (2 ^ 64 - 1))

/-- Raise a counter to a code; never lower it (R205, R260): under the additions of the same cycle. -/
def State.ctrRaise (s : State) (f c v : Nat) : State :=
  (s.ctrNote f c (fun x => { x with raise := max x.raise v })).ctrSettle f c

/-- Write a counter (R260): under the raises and additions of the same cycle. -/
def State.ctrWrite (s : State) (f c v : Nat) : State := (s.ctrNote f c (fun x => { x with base := v })).ctrSettle f c

/-- Set a device counter to a value from outside R260: function reset, a partition, a resume (R261). -/
def State.ctrForce (s : State) (d v : Nat) : State :=
  { s with ctrs := Sparse.set 0 s.ctrs d v, ctrCyc := s.ctrCyc.filter (fun x => x.dev != d) }

/-! ## Events (R281 to R284) -/

/-- Coalescing time of a code and object, CLK_FAB cycles (R284). -/
def coalesceT : Nat := 1350000

/-- The 64-byte event record (R282). -/
def evtRecord (code kind : Nat) (fatal lost : Bool) (f seq time obj aux reps : Nat) : Bytes :=
  toLe 64 (code + kind * 2 ^ 16 + b2n fatal * 2 ^ 20 + b2n lost * 2 ^ 21 + f * 2 ^ 24 + (seq % 2 ^ 32) * 2 ^ 32
    + (time % 2 ^ 64) * 2 ^ 64 + (obj % 2 ^ 64) * 2 ^ 128 + (aux % 2 ^ 64) * 2 ^ 192 + min reps (2 ^ 32 - 1) * 2 ^ 256)

/-- The event is enabled for function `f` (R281): EVT_EN, and the class of the code. -/
def State.evtEnabled (s : State) (f code : Nat) : Bool :=
  s.rdb Reg.fnEvtEn f && bit (s.rd Reg.fnEvtClassEn f) (code / 256 - 1)

/-- Records between EVT_TAIL and EVT_HEAD. -/
def State.evtUsed (s : State) (f : Nat) : Nat := (s.rd Reg.fnEvtHead f + 2 ^ 32 - s.rd Reg.fnEvtTail f) % 2 ^ 32

/-- Host address of record number `h` of function `f`'s event ring. -/
def State.evtSlot (s : State) (f h : Nat) : Nat := s.rd Reg.fnEvtBase f + 64 * (h % 2 ^ s.rd Reg.fnEvtLog2 f)
/-- Record number `h` as the device wrote it. -/
def State.evtAt (s : State) (f h : Nat) : Nat := leNat (readBytes s.host (hostKey f (s.evtSlot f h)) 64)

/-- How many of the newest `k` records before number `h` have this TIME and a later CODE, or the same and a later OBJ: a new
record goes before them (R281). -/
def State.evtLater (s : State) (f code obj h now : Nat) : Nat → Nat
  | 0 => 0
  | k + 1 =>
    let p := (h + 2 ^ 32 - 1) % 2 ^ 32
    let r := s.evtAt f p
    if bits r 64 64 = now % 2 ^ 64 ∧ (code < bits r 0 16 ∨ (code = bits r 0 16 ∧ obj % 2 ^ 64 < bits r 128 64)) then
      s.evtLater f code obj p now k + 1
    else 0

/-- The `k` records before number `h` move up by one, each with its new SEQ. -/
def State.evtShift (s : State) (f h k : Nat) : State :=
  (List.range k).foldl (fun u i =>
    let q := (h + 2 ^ 32 - i) % 2 ^ 32
    u.hostPut f (s.evtSlot f q) (toLe 64 (putBits (s.evtAt f ((q + 2 ^ 32 - 1) % 2 ^ 32)) 32 32 q))) s

/-- The ring's vector goes, unless one has gone since EVT_TAIL was written (R281). -/
def State.evtNotify (s : State) (f : Nat) : State :=
  if (s.fn f).evtSent then s
  else (s.updFn f (fun x => { x with evtSent := true })).sendVec f (s.rd Reg.fnEvtVec f)

/-- A record of a pair has been written: its window starts (R284). -/
def State.evtWindow (s : State) (f code obj now : Nat) : State :=
  s.updFn f (fun x => { x with
    evtLostMark := false
    coalesce := { code := code, obj := obj, at_ := now, repeats := 0 } ::
      x.coalesce.filter (fun c => !(c.code == code && c.obj == obj)) })

/-- Write a record at EVT_HEAD, in the order of R281 among the unread records of the same TIME, and send the vector. `now` is
the time of detection. -/
def State.evtWrite (s : State) (f code kind obj aux reps : Nat) (fatal : Bool) (now : Nat) : State :=
  let h := s.rd Reg.fnEvtHead f
  let k := if s.dmaOk f then s.evtLater f code obj h now (min (s.evtUsed f) (2 ^ s.rd Reg.fnEvtLog2 f - 1)) else 0
  let q := (h + 2 ^ 32 - k) % 2 ^ 32
  let s1 := (s.evtShift f h k).hostPut f (s.evtSlot f q)
    (evtRecord code kind fatal (s.fn f).evtLostMark f q now obj aux reps)
  ((s1.wr Reg.fnEvtHead (h + 1) f).evtWindow f code obj now).evtNotify f

/-- A record lost to a full ring, or to a link that is down (R284, R422). -/
def State.evtLose (s : State) (f code obj : Nat) : State :=
  (s.bump Reg.fnEvtLost f).updFn f (fun x => { x with
    evtLostMark := true
    coalesce := x.coalesce.filter (fun c => !(c.code == code && c.obj == obj)) })

/-- A fatal event at a full ring overwrites the newest unread record (R284), and the vector goes as after any record (R281). -/
def State.evtOverwrite (s : State) (f code kind obj aux reps now : Nat) : State :=
  let h := (s.rd Reg.fnEvtHead f + 2 ^ 32 - 1) % 2 ^ 32
  let s1 := s.hostPut f (s.rd Reg.fnEvtBase f + 64 * (h % 2 ^ s.rd Reg.fnEvtLog2 f))
    (evtRecord code kind true true f h now obj aux reps)
  ((s1.bump Reg.fnEvtLost f).evtWindow f code obj now).evtNotify f

/-- Raise to function `f` an event detected at `now` (R281, R282, R284). -/
def State.raiseAt (s : State) (now f code kind obj aux : Nat) (fatal : Bool) : State :=
  if !s.evtEnabled f code || (s.fn f).resetAt.isSome then s
  else if (s.fn f).ideFailed then
    s.updFn f (fun x => { x with evtWait := x.evtWait ++ [{ code := code, kind := kind, obj := obj, aux := aux, fatal := fatal, at_ := now }] })
  else
    let reps := (((s.fn f).coalesce.find? (fun c => c.code == code && c.obj == obj)).map (·.repeats)).getD 0
    let open_ := (s.fn f).coalesce.any (fun c => c.code == code && c.obj == obj && now < c.at_ + coalesceT)
    if open_ then
      s.updFn f (fun x =>
        { x with
          coalesce := updIf x.coalesce (fun c => c.code == code && c.obj == obj) (fun c => { c with repeats := c.repeats + 1 }) })
    else if !s.pins.pcieUp then s.evtLose f code obj
    else if s.evtUsed f = 2 ^ s.rd Reg.fnEvtLog2 f then
      (if fatal then s.evtOverwrite f code kind obj aux reps now else s.evtLose f code obj)
    else s.evtWrite f code kind obj aux reps fatal now

/-- Raise an event to function `f` now. -/
def State.raise (s : State) (f code : Nat) (kind : Nat := 0) (obj : Nat := 0) (aux : Nat := 0) (fatal : Bool := false) :
    State := s.raiseAt s.time f code kind obj aux fatal

/-- Raise an event to each function of a list. -/
def State.raiseAll (s : State) (fs : List Nat) (code : Nat) (kind : Nat := 0) (obj : Nat := 0) (fatal : Bool := false) :
    State := fs.foldl (fun s f => s.raise f code kind obj 0 fatal) s

/-- Raise a class 0x0A code of function `f`'s own instruction, trap or command: to PF0, without the function's objects,
and to `f` (R283). -/
def State.raiseOwn (s : State) (f code : Nat) (kind : Nat := 0) (obj : Nat := 0) : State :=
  if f = 0 then s.raise 0 code kind obj else (s.raise 0 code).raise f code kind obj

/-! ## Registers and scratch of a spindle (R175, R178) -/

/-- Scalar register `i`; s0 reads as 0. -/
def Spindle.sreg (x : Spindle) (i : Nat) : Word := if i = 0 then 0 else x.s.getD i 0
/-- Predicate `i`; p0 reads as 1. -/
def Spindle.preg (x : Spindle) (i : Nat) : Bool := if i = 0 then true else x.p.getD i false
/-- Stream register `i`. -/
def Spindle.qreg (x : Spindle) (i : Nat) : QWord := x.q.getD i 0
/-- Write scalar register `i`; s0 ignores writes. -/
def Spindle.setS (x : Spindle) (i : Nat) (v : Word) : Spindle := if i = 0 then x else { x with s := updAt x.s i (fun _ => v) }
/-- Write predicate `i`; p0 ignores writes. -/
def Spindle.setP (x : Spindle) (i : Nat) (v : Bool) : Spindle := if i = 0 then x else { x with p := updAt x.p i (fun _ => v) }
/-- Write stream register `i`. -/
def Spindle.setQ (x : Spindle) (i : Nat) (v : QWord) : Spindle := { x with q := updAt x.q i (fun _ => v) }

/-- First scratch address of the trap records (R178). -/
def scratchTrap : Nat := 0x1FF000

/-- Write scratch bytes and log what they replace for the journal (R412). -/
def Spindle.poke (x : Spindle) (a : Nat) (bs : Bytes) : Spindle :=
  { x with
    undo := ((List.range bs.length).map (fun i => (a + i, Sparse.get 0 x.scratch (a + i)))).reverse ++ x.undo
    scratch := writeBytes x.scratch a bs }

/-! ## Traps (R190, R191) -/

/-- The 64-byte trap record (R191). -/
def trapRecord (code sp : Nat) (precise nested : Bool) (pc resume : Nat) (insn : Word) (step time tile qreg extra : Nat) :
    Nat :=
  code + sp * 2 ^ 16 + b2n precise * 2 ^ 21 + b2n nested * 2 ^ 22 + pc % 2 ^ 18 * 2 ^ 32
    + resume % 2 ^ 18 * 2 ^ 64 + insn.toNat * 2 ^ 96 + step * 2 ^ 160 + (time % 2 ^ 64) * 2 ^ 224 + tile * 2 ^ 288 + qreg * 2 ^ 312 + extra * 2 ^ 316

/-- Codes a trap reports of a tile (R283). -/
def tileCode (code : Nat) : Bool := code == 0x0101 || code == 0x010B || code == 0x010C || code == 0x0119

/-- Raise a trap's code against the function of spindle `j` (R191, R283). -/
def State.raiseTrap (s : State) (j code tile : Nat) : State :=
  match s.owner? j with
  | none => s
  | some f => if code / 256 = 0x0A then s.raiseOwn f code 8 j else s.raise f code (if tileCode code then 5 else 0) tile

/-- Roles (R435). -/
def roleActive : Nat := 0
def roleSpare : Nat := 1
def roleHost : Nat := 2
def roleFailed : Nat := 3

/-- The logical spindles a physical one runs. -/
def Phys.logical (x : Phys) : List Nat :=
  if x.role = roleActive then [x.lspin0] else if x.role = roleHost then [x.lspin0, x.lspin1] else []

/-- A substitution is under way for logical spindle `j`: a physical spindle has been found for it (R414). One that has lost its
spindle for good waits for none (R415). -/
def State.substituting (s : State) (j : Nat) : Bool := (s.spin j).recovering && s.phys.any (fun x => x.logical.contains j)

/-- A STOP or UNLOAD in progress completes, with CODE 0, once no spindle of function `f` is still stopping, or
waits to be unloaded (R200, R201, R414). -/
def State.settleBusy (s : State) (f : Nat) : State :=
  if !s.rdb Reg.progBusy f || (s.spindlesOf f).any (fun j => (s.spin j).stopping || (s.spin j).unloading) then s
  else (s.wr Reg.progCode 0 f).wr Reg.progBusy 0 f

/-- Take a trap on spindle `j` (R191): the one operation every trapping fault goes through. `pc`, `insn` and `step` are
those of the faulting instruction; RESUME_PC is the spindle's PC, the first word not issued. A STOP of the same cycle is
ordered after the trap, which then enters no handler; an earlier one, still waiting, goes on in the handler (R201). -/
def State.trap (s : State) (j code : Nat) (precise : Bool) (pc : Nat) (insn : Word) (step : Nat) (tile : Nat := 0)
    (qreg : Nat := 0) : State :=
  let x := s.spin j
  let nested := x.st = .handler
  let rec_ := trapRecord code j precise nested pc x.pc insn step s.time tile qreg 0
  let toHandler : Bool := x.handler.isSome && !decide nested && !(x.stopping && x.stopAt == s.time)
  let s1 := s.updSpin j (fun x =>
    let x1 := x.poke (if nested then scratchTrap + 64 else scratchTrap) (toLe 64 rec_)
    { x1 with
      trap := rec_
      trapId := x.nextId
      wait := .none
      stopping := toHandler && x.stopping
      active := s.time
      st := if toHandler then .handler else .trapped
      pc := if toHandler then x.handler.getD 0 else x.pc })
  ((s1.raiseTrap j code tile)).settleBusy ((s1.owner? j).getD 0)

/-- An imprecise fault of unit entry `id`: the SIGNALs that wait for the entry are cancelled (R195); a fault of an
instruction issued before an earlier trap only counts in EXTRA (R191). -/
def State.trapLate (s : State) (j code id pc : Nat) (insn : Word) (step : Nat) (tile : Nat := 0) (qreg : Nat := 0) : State :=
  let s0 := s.updSpin j (fun x => { x with signals := x.signals.filter (fun g => !g.entries.contains id) })
  let x := s0.spin j
  if (x.st = .handler ∨ x.st = .trapped) ∧ id < x.trapId then
    s0.updSpin j (fun x =>
      let e := min (bits x.trap 316 8 + 1) 255
      let t := putBits x.trap 316 8 e
      { x.poke (if bit x.trap 22 then scratchTrap + 64 else scratchTrap) (toLe 64 t) with trap := t })
  else s0.trap j code false pc insn step tile qreg

/-! ## Refused register accesses (R11, R370, R379) -/

/-- The function whose FUNC_ACCESS_ERR records a requester's refusals (R379). -/
def reqHome : Req → Nat
  | .pf0 _ => 0
  | .vf n _ => n
  | .nalam => 0
  | .cc => 0

/-- Log a refused access at offset `off` of the requester's BAR0 (R11, R379). -/
def State.accErr (s : State) (r : Req) (code off : Nat) : State :=
  let f := reqHome r
  ((s.flag (if code = 0x0701 then Reg.fnLockViolation else if code = 0x0702 then Reg.fnPrivDenied else Reg.fnRefused) f).capture
    Reg.fnCapValid [(Reg.fnOffset, off)] f).raise f code

/-- A request that its function's IDE_REQ shuts out: it does not arrive in the stream, or the stream has left the secure state
(R370). -/
def State.outside (s : State) (r : Req) : Bool :=
  match r with
  | .pf0 sec => s.rdb Reg.fnIdeReq 0 && !(sec && (s.fn 0).ideKeyed)
  | .vf n sec => s.rdb Reg.fnIdeReq n && !(sec && (s.fn n).ideKeyed)
  | _ => false

/-- Function `f` as a requester of its own page, in its stream. -/
def selfReq (f : Nat) : Req := if f = 0 then .pf0 true else .vf f

/-- Offset of item `j` of field `g` of function `f`'s page, in `f`'s own BAR0. -/
def ownOff (f : Nat) (g : Fld) (j : Nat := 0) : Nat := (if f = 0 then Page.func.base else 0) + g.off + j * g.stride

/-- A register command of function `f` through field `g`: ignored while the function is away or in reset, refused and logged
while its IDE stream has failed (R370, R389). -/
def State.funcCmd (s : State) (f : Nat) (g : Fld) (j : Nat) (body : State → State) : State :=
  if s.funcUp f then body s
  else if s.ready && (s.fn f).exists_ && (s.fn f).resetAt.isNone then s.accErr (selfReq f) 0x0703 (ownOff f g j)
  else s

end Sys2Proof.Machine
end

