-- ==== Sys2Proof/Machine/Flags.lean ====
section
/-! DEFINITION. The computations of status: encodings (R25, R26), the sum-length limits behind OVERRANGE_POSSIBLE (R33,
R34, R36), the decode bound (R41), ERR_HALF (R40), status records (R45) and the outcome predicate of a code (R186). -/
namespace Sys2Proof.Machine

/-! ## Encodings -/

/-- B of an encoding field (R25). -/
def encB (e : Nat) : Nat := bits e 0 6
/-- F of an encoding field. -/
def encF (e : Nat) : Nat := bits e 6 6
/-- WSEL of an encoding field. -/
def encWsel (e : Nat) : Nat := bits e 12 2
/-- RND of an encoding field. -/
def encRnd (e : Nat) : Bool := bit e 14

/-- Accumulator width W of a WSEL code (R25). -/
def wOf (wsel : Nat) : Nat := 32 * 2 ^ wsel
/-- Bytes of an element. -/
def wBytes (wsel : Nat) : Nat := wOf wsel / 8
/-- Elements of a tile at a width. -/
def elemsOf (wsel : Nat) : Nat := 65536 / wBytes wsel

/-- An encoding field that is malformed under R26. -/
def encMalformed (e : Nat) : Bool :=
  encB e < 8 || 32 < encB e || 48 < encF e || encWsel e == 3 || bit e 15 || 2 ^ 16 ≤ e

/-- A well-formed encoding refused at open (R26; R110 for mode 3). -/
def encRefused (mode e : Nat) : Bool := wOf (encWsel e) < encB e + 8 || (mode == 3 && encWsel e == 2)

/-- Payload bytes per element P_e (R85). -/
def payloadBytes (e : Nat) : Nat := (encB e + 7) / 8

/-! ## Sum-length limits -/

/-- The sum-length limit (R33, R34). -/
def nMax (mode w m : Nat) : Nat := if mode = 1 then 2 ^ (w - 1) / (m + 1) else (2 ^ (w - 1) - 1) / m

/-- The count exceeds the limit at the default M (R36); mode 3 has none. -/
def overLimit (mode e n : Nat) : Bool := mode != 3 && nMax mode (wOf (encWsel e)) (2 ^ (encB e - 1)) < n

/-- The M a decode uses (R38, R41). -/
def boundM (e m : Nat) : Nat := if m = 0 then 2 ^ (encB e - 1) else m

/-- E of R41. -/
def slackE (mode n : Nat) : Nat := if mode = 1 then n - 1 else 0

/-- D of R41. -/
def decodeBound (mode e m n h : Nat) : Nat := n * boundM e m + slackE mode n + h

/-- ERR_HALF (R40). -/
def errHalf (mode e n nClipped : Nat) : Nat :=
  min ((if encRnd e then 2 * n else n) + (if mode = 2 then nClipped else 0) + (if mode = 1 then 2 * (n - 1) else 0))
    (2 ^ 64 - 1)

/-- The 16-byte status record (R45) as a number. -/
def statusRecord (status fmt : Nat) (ovr bound slack noise : Bool) (count err : Nat) : Nat :=
  status + fmt * 2 ^ 16 + b2n ovr * 2 ^ 20 + b2n bound * 2 ^ 21 + b2n slack * 2 ^ 22 + b2n noise * 2 ^ 23
    + count * 2 ^ 24 + err * 2 ^ 64

/-- The signed lift of a residue (R42). -/
def lift (w r : Nat) : Int := if r < 2 ^ (w - 1) then (r : Int) else (r : Int) - 2 ^ w

/-- The residue of an integer modulo 2^w. -/
def wrap (w : Nat) (x : Int) : Nat := (x % (2 ^ w : Int)).toNat

/-- A code that is informational (R84, R357, R414). -/
def informational (code : Nat) : Bool := code == 0x0113 || code == 0x0610 || code == 0x0A03

/-- The outcome predicate of a reporting instruction (R186). -/
def outcome (code : Nat) : Bool := code == 0 || informational code

end Sys2Proof.Machine
end

