-- ==== Sys2Proof/Machine/Operands.lean ====
section
/-! DEFINITION. QG instruction words (R182 to R187, R202, R203, R206), the operand forms an instruction captures at issue,
stream registers (R176, R177), tile indices (R51, R52), and the issue of an instruction with its conditions (R185, R187 to
R189). -/
namespace Sys2Proof.Machine

/-! ## Words -/

/-- OP (R182). -/
def wOp (w : Nat) : Nat := bits w 0 6
/-- CLASS. -/
def wClass (w : Nat) : Nat := bits w 6 4
/-- PRED. -/
def wPred (w : Nat) : Nat := bits w 10 3
/-- PNEG. -/
def wNeg (w : Nat) : Bool := bit w 13
/-- FMT. -/
def wFmt (w : Nat) : Nat := bits w 14 2
/-- SD, or SL of a branch (R183 to R185). -/
def wSD (w : Nat) : Nat := bits w 16 5
/-- SA of formats R, I and B. -/
def wSA (w : Nat) : Nat := bits w 21 5
/-- SB of format R. -/
def wSB (w : Nat) : Nat := bits w 26 5
/-- PD of format R. -/
def wPDr (w : Nat) : Nat := bits w 36 3
/-- PD of format I. -/
def wPDi (w : Nat) : Nat := bits w 26 3
/-- IMM, sign-extended (R184). -/
def wImm (w : Nat) : Word := (BitVec.ofNat 34 (bits w 30 34)).signExtend 64
/-- OFFSET of a branch, sign-extended (R185). -/
def wOff (w : Nat) : Word := (BitVec.ofNat 38 (bits w 26 38)).signExtend 64
/-- QD, QA, QB, SA, SB, SC, PD and MOD of format T (R186). -/
def tQD (w : Nat) : Nat := bits w 16 4
def tQA (w : Nat) : Nat := bits w 20 4
def tQB (w : Nat) : Nat := bits w 24 4
def tSA (w : Nat) : Nat := bits w 28 5
def tSB (w : Nat) : Nat := bits w 33 5
def tSC (w : Nat) : Nat := bits w 38 5
def tPD (w : Nat) : Nat := bits w 43 3
def tMod (w : Nat) : Nat := bits w 46 18

/-- The fields of a word that an instruction uses. -/
structure Uses where
  sd : Bool := false
  sa : Bool := false
  sb : Bool := false
  sc : Bool := false
  pd : Bool := false
  qd : Bool := false
  qa : Bool := false
  qb : Bool := false
  /-- reports a code in SC and an outcome in PD (R190) -/
  reports : Bool := false
  deriving DecidableEq, Repr

/-- The fields each format T instruction uses (R202, R203); none for an undefined OP of classes 1 to 9 or a MOD value the
instruction does not define. `nctr` is the size of the function's counter set. -/
def usesT (cls op m nctr : Nat) : Option Uses :=
  let rep : Uses := { sc := true, pd := true, reports := true }
  let z (u : Uses) : Option Uses := if m = 0 then some u else none
  match cls, op with
  | 1, 0 => z { rep with qd := true, qa := true }
  | 1, 1 => z { rep with qa := true }
  | 1, 2 => z { qd := true }
  | 1, 3 => z { qd := true, qa := true }
  | 1, 4 => if m = 1 then some { qa := true, sa := true, sb := true } else z { qd := true, qa := true }
  | 1, 5 => z { rep with qa := true }
  | 2, 0 =>
    match m % 4 with
    | 0 => z { rep with qd := true, qb := true, sa := true }
    | 1 => if m / 4 < nctr then some { rep with qb := true } else none
    | _ => if m / 4 = 0 then some { rep with sa := true } else none
  | 3, 0 => z { rep with qb := true, sa := true }
  | 3, 1 => z { rep with qa := true }
  | 3, 2 => if m < 8 ∧ m % 4 ≠ 0 then some { rep with qd := true, sa := true, sb := true } else none
  | 4, 0 => z { rep with qa := true }
  | 5, 2 =>
    if m % 4 = 1 then
      (if m < 2 ^ 9 ∧ 1 ≤ m / 4 ∧ m / 4 ≤ 64 then some { qd := true, qa := true, qb := true, sa := true, sb := true } else none)
    else if m = 0 then some { qd := true, qa := true, qb := true, sa := true, sb := true }
    else if m = 2 then some { qd := true, qa := true, sa := true, sb := true, sc := true }
    else none
  | 5, 3 => if m < 4 then some { qd := true, qa := true, qb := true, sa := true, sb := true } else none
  | 5, 4 => if m % 2 = 1 then some { qd := true, qa := true, sa := true, sb := true } else none
  | 5, 8 => if m < 256 then some { qd := true, qa := true, sa := true, sb := true } else none
  | 5, _ => if op ≤ 7 then z { qd := true, qa := true, sa := true, sb := true } else none
  | 6, 0 => if 2 ^ 12 ≤ m then none else some { qd := true, qa := true, qb := true, sa := true, sb := true, sc := true }
  | 7, 0 => z { rep with qd := true, qa := true, qb := true, sa := true }
  | 7, 1 => z { sa := true }
  | 7, 2 =>
    if m = 1 then some { rep with qa := true }
    else if m % 4 = 0 ∧ (m / 4 = 0 ∨ m / 4 < nctr) then some { rep with qd := true, qa := true }
    else none
  | 7, 3 => if m < 16 then some { qd := true, qa := true, qb := true, sa := true } else none
  | 7, 4 => z { qa := true, qb := true, sa := true, sb := true, sc := true }
  | 8, 0 => if m < 64 then some { rep with sa := true, sb := true } else none
  | 8, 1 => if m < nctr then some { rep with sa := true, sb := true } else none
  | 8, 2 => if m < nctr then some { sa := true } else none
  | 8, 3 => if m < 4 then some {} else none
  | 9, 0 => if m = 1 then some { sa := true } else z {}
  | 9, 1 => z {}
  | 9, 2 => if m = 1 then some { sa := true } else z {}
  | _, _ => none

/-- The fields each scalar instruction uses, by OP and format (R206). -/
def usesS (op : Nat) : Option (Nat × Uses) :=
  if op ≤ 9 then some (0, { sd := true, sa := true, sb := true })
  else if op ≤ 12 then some (0, { sa := true, sb := true, pd := true })
  else if op = 13 then some (0, { sd := true, sa := true, sb := true, pd := true })
  else if op ≤ 16 then some (0, { sa := true, sb := true, pd := true })
  else if op = 17 then some (0, { sd := true, sa := true })
  else if op ≤ 24 then some (1, { sd := true, sa := true })
  else if op ≤ 27 then some (1, { sa := true, pd := true })
  else if op ≤ 38 then some (1, { sd := true, sa := true })
  else if op = 39 then some (1, { sd := true })
  else if op = 40 then some (2, { sd := true, sa := true })
  else none

/-- The fields a well-formed word's instruction uses; none for a word that traps at decode (R187). -/
def usesOf (w nctr : Nat) : Option Uses :=
  let un (b : Bool) (v : Nat) : Bool := b || v == 0
  if wClass w = 0 then
    match usesS (wOp w) with
    | none => none
    | some (fmt, u) =>
      if wFmt w ≠ fmt then none
      else
        let ok :=
          match fmt with
          | 0 => un u.sd (wSD w) && un u.sa (wSA w) && un u.sb (wSB w) && bits w 31 5 == 0 && un u.pd (wPDr w)
            && bits w 39 25 == 0
            && (!((14 ≤ wOp w && wOp w ≤ 17)) || (wSA w < 8 && wSB w < 8))
          | 1 => un u.sd (wSD w) && un u.sa (wSA w) && un u.pd (wPDi w) && !bit w 29
            && (!(wOp w == 33 || wOp w == 38) || wSD w < 16)
            && (!(22 ≤ wOp w && wOp w ≤ 24) || bits w 36 28 == 0)
            && (!(wOp w == 39) || bits w 30 34 ≤ 9)
          | _ => true
        if ok then some u else none
  else
    match usesT (wClass w) (wOp w) (tMod w) nctr with
    | none => none
    | some u =>
      if wFmt w = 3 ∧ un u.qd (tQD w) ∧ un u.qa (tQA w) ∧ un u.qb (tQB w) ∧ un u.sa (tSA w) ∧ un u.sb (tSB w)
          ∧ un u.sc (tSC w) ∧ un u.pd (tPD w) then some u else none

/-- Which command of the table a well-formed word is: class, operation and form (R202, R203). -/
def wKey (w : Nat) : Nat × Nat × Nat :=
  let m := tMod w
  match wClass w, wOp w with
  | 1, 4 => (1, 4, m)
  | 2, 0 => (2, 0, m % 4)
  | 7, 2 => (7, 2, m % 2)
  | 9, 0 => (9, 0, m)
  | 9, 2 => (9, 2, m)
  | c, o => (c, o, 0)

/-! ## Captured operands (R189) -/

/-- A format T instruction's operands as captured when it issues. -/
structure TOps where
  f : Nat
  w : Nat
  qd : Nat
  qa : Nat
  qb : Nat
  sa : Nat
  sb : Nat
  sc : Nat
  deriving DecidableEq, Repr

/-- Capture the operands of word `w` on a spindle of function `f`. -/
def Spindle.capture (x : Spindle) (f w : Nat) : TOps :=
  { f := f, w := w
    qd := (x.qreg (tQD w)).toNat, qa := (x.qreg (tQA w)).toNat, qb := (x.qreg (tQB w)).toNat
    sa := (x.sreg (tSA w)).toNat, sb := (x.sreg (tSB w)).toNat, sc := (x.sreg (tSC w)).toNat }

/-! ## Stream registers (R176, R177) -/

def qKind (q : Nat) : Nat := bits q 0 2
def qTile (q : Nat) : Nat := bits q 8 24
def qAddr (q : Nat) : Nat := bits q 32 21
def qNt (q : Nat) : Nat := bits q 64 24
def qStride (q : Nat) : Nat := bits q 88 16
def qLast (q : Nat) : Nat := bits q 104 15
/-- LEN of kinds 1 and 3. -/
def qLen (q : Nat) : Nat := bits q 64 40
/-- SLOT of kind 1. -/
def qSlot (q : Nat) : Nat := bits q 104 24

/-- The tiles a KIND 0 descriptor names, in order. -/
def qTiles (q : Nat) : List Nat := (List.range (qNt q)).map (fun k => qTile q + k * qStride q)

/-- A KIND 1 descriptor (R176). -/
def lzDesc (tile len slot : Nat) : Nat := 1 + tile * 2 ^ 8 + len * 2 ^ 64 + slot * 2 ^ 104

/-- First byte after the data area of scratch (R178). -/
def dataEnd : Nat := 0x1FF000

/-- The content of a stream register is well formed under R177. `e` is the elements of a tile at the instruction's W. -/
def qWf (textLen e q : Nat) : Bool :=
  bits q 2 6 == 0 && bits q 53 11 == 0 &&
  match qKind q with
  | 0 =>
    qAddr q == 0 && bits q 119 9 == 0 && bits q 32 21 == 0 && decide (1 ≤ qNt q) && decide (qLast q ≤ e)
      && decide (qTile q + (qNt q - 1) * qStride q < 2 ^ 24)
      && (bit (qTile q + (qNt q - 1) * qStride q) 23 == bit (qTile q) 23)
  | 1 => bits q 32 21 == 0
  | 2 =>
    bits q 8 24 == 0 && bits q 64 64 == 0 && qAddr q % 64 == 0 && decide (textLen ≤ qAddr q)
      && decide (qAddr q + 64 ≤ dataEnd)
  | _ =>
    bits q 8 24 == 0 && bits q 104 24 == 0 && decide (textLen ≤ qAddr q) && decide (qAddr q < dataEnd)
      && decide (qAddr q + qLen q ≤ dataEnd)

/-- Bytes of a tile. -/
def tileSize : Nat := 65536

/-- Landing-zone tiles of a message of `len` payload bytes (R250). -/
def lzTiles (len : Nat) : Nat := ceilDiv (64 + len) tileSize

/-- Tiles a KIND 0 or KIND 1 descriptor names (R177). -/
def opTiles (q : Nat) : List Nat :=
  if qKind q = 0 then qTiles q
  else if qKind q = 1 then (List.range (lzTiles (qLen q))).map (qTile q + ·) else []

/-! ## Tile indices (R51, R52) -/

/-- `t` lies in function `f`'s near or far range, below the far-tag region and the grade's top (R52). -/
def State.tileOk (s : State) (f t : Nat) : Bool :=
  if t < 0x10000 then
    decide (s.rd Reg.fnNearBase f ≤ t) && decide (t < s.rd Reg.fnNearBase f + s.rd Reg.fnNearCount f)
  else
    decide (0x800000 + s.rd Reg.fnFarBase f ≤ t)
      && decide (t < 0x800000 + s.rd Reg.fnFarBase f + s.rd Reg.fnFarCount f) && decide (t < s.farTop)

/-- A far tile of the namespace: bit 23 set (R51). -/
def isFar (t : Nat) : Bool := decide (0x800000 ≤ t)

/-! ## Issue (R187 to R189) -/

/-- The counters of the function a spindle belongs to; 0 when it has none. -/
def State.nctr (s : State) (j : Nat) : Nat :=
  match s.owner? j with
  | some f => s.rd Reg.fnCtrCount f
  | none => 0

/-- The word at PC; none when PC lies outside the text (R178, R185). -/
def Spindle.fetch (x : Spindle) : Option Nat :=
  if x.pc * 8 < x.textLen then some (readNat x.scratch (x.pc * 8) 8) else none

/-- Every instruction issued before the latest trap has retired: a handler sees registers and scratch as they stand then
(R191). -/
def Spindle.settled (x : Spindle) : Bool := x.uq.all (fun e => decide (x.trapId ≤ e.id))

/-- The lockkeeper issues instructions: RUNNING or HANDLER, not stopping, not being replaced (R200, R201, R414). -/
def State.issuing (s : State) (j : Nat) : Bool :=
  let x := s.spin j
  s.ready && (x.st == .running || (x.st == .handler && x.settled)) && !x.stopping && !x.recovering && (s.owner? j).isSome

/-- The guard of a word holds (R182, R187). -/
def Spindle.guard (x : Spindle) (w : Nat) : Bool := x.preg (wPred w) != wNeg w

/-- Scalar registers an instruction names. -/
def namesS (u : Uses) (w : Nat) : List Nat :=
  if wClass w = 0 then
    (if 14 ≤ wOp w ∧ wOp w ≤ 16 then [] else if wOp w = 17 then [wSD w] else
      (if u.sd && wOp w != 33 && wOp w != 38 then [wSD w] else []) ++ (if u.sa then [wSA w] else []) ++ (if u.sb then [wSB w] else []))
  else (if u.sa then [tSA w] else []) ++ (if u.sb then [tSB w] else []) ++ (if u.sc then [tSC w] else [])

/-- Predicates an instruction names. -/
def namesP (u : Uses) (w : Nat) : List Nat :=
  wPred w :: (if wClass w = 0 then
    (if 14 ≤ wOp w ∧ wOp w ≤ 16 then [wPDr w, wSA w, wSB w] else if wOp w = 17 then [wSA w] else
      if u.pd then [if wFmt w = 0 then wPDr w else wPDi w] else [])
  else if u.pd then [tPD w] else [])

/-- Stream registers an instruction names. -/
def namesQ (u : Uses) (w : Nat) : List Nat :=
  if wClass w = 0 then (if wOp w = 33 ∨ wOp w = 38 then [wSD w] else [])
  else (if u.qd then [tQD w] else []) ++ (if u.qa then [tQA w] else []) ++ (if u.qb then [tQB w] else [])

/-- Two scratch spans share a 64-byte line (R189). -/
def shareLine (a n b m : Nat) : Bool :=
  decide (0 < n) && decide (0 < m) && decide (a / 64 ≤ (b + m - 1) / 64) && decide (b / 64 ≤ (a + n - 1) / 64)

/-- Scratch spans an instruction reads or writes: a load or store, a ciphertext descriptor, a scratch span. -/
def Spindle.spans (x : Spindle) (u : Uses) (w : Nat) : List (Nat × Nat) :=
  if wClass w = 0 then
    (if 29 ≤ wOp w ∧ wOp w ≤ 38 then [((x.sreg (wSA w) + wImm w).toNat, 2 ^ ((wOp w - 29) % 5))] else [])
  else
    (namesQ u w).filterMap (fun i =>
      let q := (x.qreg i).toNat
      if qKind q = 2 then some (qAddr q, 64) else if qKind q = 3 then some (qAddr q, qLen q) else none)

/-- A register or scratch condition of R189 holds: the instruction waits for an unretired one. -/
def Spindle.hazard (x : Spindle) (u : Uses) (w : Nat) : Bool :=
  x.uq.any (fun e =>
    let ew := e.word.toNat
    (e.reports && tSC ew != 0 && (namesS u w).contains (tSC ew))
      || (e.reports && tPD ew != 0 && (namesP u w).contains (tPD ew))
      || (match e.qdst with
          | some (i, _) => (namesQ u w).contains i
          | none => false)
      || (e.writes.map (fun p => (p.1, p.2.length)) ++ e.later).any (fun p => (x.spans u w).any (fun q => shareLine p.1 p.2 q.1 q.2)))

/-- The instruction takes an entry of the unit queue (R188). -/
def unitClass (w : Nat) : Bool := 1 ≤ wClass w && wClass w ≤ 7

/-- The conditions of R189 on registers, scratch and the unit queue hold off issue. -/
def Spindle.stalls (x : Spindle) (u : Uses) (w : Nat) : Bool :=
  x.hazard u w || (unitClass w && decide (16 ≤ x.uq.length))

/-- The spindle issues one instruction and goes on at the next word. -/
def State.advance (s : State) (j : Nat) : State :=
  s.updSpin j (fun x => { x with pc := x.pc + 1, active := s.time, wait := .none })

/-- A precise trap of the instruction at PC (R191). -/
def State.trapHere (s : State) (j code w : Nat) (tile : Nat := 0) (qreg : Nat := 0) : State :=
  s.trap j code true (s.spin j).pc (BitVec.ofNat 64 w) (s.spin j).stepc tile qreg

/-- The issue of the instruction `key` on spindle `j`: fetch (R178), decode (R187), guard, the conditions of R189, then
`body f w`. A command for another instruction than the one at PC, or on a spindle that issues nothing, changes nothing. -/
def State.issue (s : State) (j : Nat) (key : Nat × Nat × Nat) (body : Nat → Nat → State → State) : State :=
  if !s.issuing j then s
  else
    let x := s.spin j
    match x.fetch with
    | none => s.trapHere j 0x0A08 0
    | some w =>
      match usesOf w (s.nctr j) with
      | none => s.trapHere j 0x0A07 w
      | some u =>
        if wKey w ≠ key then s
        else if !x.guard w then s.advance j
        else if x.stalls u w then s
        else body ((s.owner? j).getD 0) w s

/-! ## Unit queue (R188, R190) -/

/-- Place an instruction in the unit queue and go on. -/
def State.enqueue (s : State) (j w : Nat) (e : UnitEntry) : State :=
  (s.updSpin j (fun x =>
    { x with
      uq := x.uq ++ [{ e with id := x.nextId, word := BitVec.ofNat 64 w, pc := x.pc, stepc := x.stepc }]
      nextId := x.nextId + 1 })).advance j

/-- Write what an instruction reports (R190) and its other register and scratch results, and free its entry. -/
def Spindle.retire (x : Spindle) (e : UnitEntry) (now : Nat) : Spindle :=
  let w := e.word.toNat
  let x1 := e.writes.foldl (fun x p => x.poke p.1 p.2) x
  let x2 := match e.qdst with
    | some (i, v) => x1.setQ i (BitVec.ofNat 128 v)
    | none => x1
  let x3 := if e.reports then (x2.setS (tSC w) (BitVec.ofNat 64 e.code)).setP (tPD w) (outcome e.code) else x2
  { x3 with
    uq := x3.uq.filter (fun y => y.id != e.id)
    active := now
    retLog := x3.retLog ++ [{ entry := e.id, code := e.code, word := e.word, writes := e.writes }] }

end Sys2Proof.Machine
end

