-- ==== Sys2Proof/Machine/Primes.lean ====
section
/-! DEFINITION. The primes and roots of the parameter sets (R111, R112): the constants that the two rules fix, worked out
once. `primes54` and `primes60` are the primes p < 2^b with p ≡ 1 (mod 2^18) in descending order, and `psi…` are the
smallest primitive 2N-th roots of unity modulo each. -/
namespace Sys2Proof.Machine

/-! ## Arithmetic modulo an odd modulus (R32) -/

/-- b^e mod m, over the low `k` bits of e. -/
def powMod (m b : Nat) : Nat → Nat → Nat
  | 0, _ => 1 % m
  | k + 1, e => if e % 2 = 1 then b * powMod m (b * b % m) k (e / 2) % m else powMod m (b * b % m) k (e / 2)

/-- The inverse of a modulo a prime below 2^64. -/
def invMod (m a : Nat) : Nat := powMod m (a % m) 64 (m - 2)

/-! ## The parameter sets -/

/-- The first 64 primes below 2^54 that are 1 modulo 2^18 (R111). -/
def primes54 : List Nat :=
  [18014398492704769, 18014398491918337, 18014398484316161, 18014398476451841,
   18014398472519681, 18014398470946817, 18014398463868929, 18014398458888193,
   18014398446305281, 18014398438440961, 18014398431363073, 18014398429003777,
   18014398411964417, 18014398403051521, 18014398401740801, 18014398399905793] ++
  [18014398397546497, 18014398393876481, 18014398391255041, 18014398388371457,
   18014398385750017, 18014398382866433, 18014398381817857, 18014398378147841,
   18014398370807809, 18014398360846337, 18014398358224897, 18014398357700609,
   18014398351933441, 18014398351409153, 18014398349049857, 18014398345117697] ++
  [18014398343544833, 18014398326767617, 18014398326243329, 18014398323884033,
   18014398322835457, 18014398317330433, 18014398313660417, 18014398311301121,
   18014398311038977, 18014398307368961, 18014398300028929, 18014398298718209,
   18014398295310337, 18014398290067457, 18014398287708161, 18014398287446017] ++
  [18014398284300289, 18014398283776001, 18014398255464449, 18014398249172993,
   18014398236590081, 18014398235803649, 18014398233968641, 18014398232657921,
   18014398230822913, 18014398227939329, 18014398226104321, 18014398221385729,
   18014398218240001, 18014398210375681, 18014398207492097, 18014398206443521]

/-- The first 56 primes below 2^60 that are 1 modulo 2^18 (R111). -/
def primes60 : List Nat :=
  [1152921504606584833, 1152921504598720513, 1152921504592429057, 1152921504581419009,
   1152921504580894721, 1152921504578273281, 1152921504577748993, 1152921504577486849,
   1152921504568836097, 1152921504565166081, 1152921504563331073, 1152921504556515329,
   1152921504555466753, 1152921504554156033, 1152921504552583169, 1152921504542883841] ++
  [1152921504538951681, 1152921504537378817, 1152921504531873793, 1152921504521650177,
   1152921504509853697, 1152921504508280833, 1152921504506970113, 1152921504495697921,
   1152921504491241473, 1152921504488620033, 1152921504479444993, 1152921504470794241,
   1152921504468172801, 1152921504462929921, 1152921504462667777, 1152921504455589889] ++
  [1152921504447987713, 1152921504442482689, 1152921504436191233, 1152921504427278337,
   1152921504419414017, 1152921504409190401, 1152921504403947521, 1152921504396869633,
   1152921504395821057, 1152921504373014529, 1152921504369344513, 1152921504368558081,
   1152921504364625921, 1152921504362790913, 1152921504361218049, 1152921504353615873] ++
  [1152921504337887233, 1152921504337625089, 1152921504321372161, 1152921504314032129,
   1152921504303022081, 1152921504301449217, 1152921504288342017, 1152921504287293441]

/-- ψ for N = 2^13 modulo each of the primes below 2^54 that a set of that N uses (R112). -/
def psi13b54 : List Nat :=
  [424035791962, 3084293407691, 2288504334406, 7863763158004]

/-- ψ for N = 2^14 modulo each of the primes below 2^54 that a set of that N uses (R112). -/
def psi14b54 : List Nat :=
  [1247945411997, 269809723980, 322287039200, 332234997616,
   524464867987, 558408617911, 51124439399, 929765590]

/-- ψ for N = 2^15 modulo each of the primes below 2^54 that a set of that N uses (R112). -/
def psi15b54 : List Nat :=
  [289580390589, 202777580567, 1080344651636, 240972186180,
   325787497765, 462486348905, 25941330368, 1630921488802,
   661953268791, 216194783207, 2110787573681, 314063424724,
   520936920427, 264908815353, 171570834803, 428802865337]

/-- ψ for N = 2^16 modulo each of the primes below 2^60 that a set of that N uses (R112). -/
def psi16b60 : List Nat :=
  [18043022392882, 800790938143, 6744827058362, 10353721066739,
   24765266806070, 9400973607813, 812464573628, 9774667295417,
   18130347337066, 23495237002403, 6547011624767, 28502194778354,
   2579829083408, 1687280697751, 7603654715030, 11220650490728] ++
  [3996335478774, 29417238963661, 19782050095570, 16249570861499,
   6261478231955, 24189428560325, 4582678711138, 4775013952331,
   10606823526495, 28914786178965, 34803919959343, 3882256189067]

/-- ψ for N = 2^16 modulo each of the primes below 2^54 that a set of that N uses (R112). -/
def psi16b54 : List Nat :=
  [564729892429, 59292334712, 93115899193, 373140636041,
   213287720777, 12791402752, 498421936944, 348231807226,
   271699686883, 631369602474, 184071027747, 139927715785,
   953437093071, 1327939066194, 719007633861, 1070403705880] ++
  [61337866399, 9186699501, 214644520162, 28278964920,
   769618221586, 225355058582, 214475814954, 706173697762,
   158429711913, 287924262973, 744158530338, 36647203815,
   655144131451, 118761336571, 33770696492, 148077635570]

/-- ψ for N = 2^17 modulo each of the primes below 2^60 that a set of that N uses (R112). -/
def psi17b60 : List Nat :=
  [30403152079314, 11565110459493, 37675653583, 2965188311474,
   1491348944157, 33773555664922, 2134070710646, 2751528309919,
   1231993829490, 4456710111956, 18114192495419, 1509736630122,
   3025199356441, 1786181913980, 1948955934882, 16387427035170] ++
  [660894674846, 2554849277417, 4341807824733, 12500319084805,
   16261427554110, 2152938773822, 6940529132897, 16146034452285,
   14721531643044, 10327577183769, 523783613257, 3278062912784,
   1189862661647, 13993843697642, 2020391828415, 2596897023117] ++
  [1689983901522, 255935744077, 926777019594, 12774779169855,
   4985597634119, 6401629681318, 3732386930961, 5425994531620,
   19781399655060, 26417971365416, 15601964651569, 3773127444541,
   6539232008843, 7117785740637, 2128240450920, 14655344973975] ++
  [2950202795771, 6491891799598, 9722053456471, 3103822587380,
   22904903851800, 1803425972678, 16289137664497, 2969766984423]

/-- ψ for N = 2^17 modulo each of the primes below 2^54 that a set of that N uses (R112). -/
def psi17b54 : List Nat :=
  [206377597733, 48566276861, 233889465810, 1161104724238,
   188472960491, 369930214601, 149570134302, 246265857356,
   399784019, 95667136329, 69025619164, 111258735095,
   285385380318, 81038697330, 166847210535, 132078535651] ++
  [553094845216, 202574014467, 217998965468, 130399064964,
   139052951224, 381701618837, 48520926929, 41931198188,
   60245158919, 140809819672, 38996897130, 70996219040,
   217518522402, 34036141132, 51876669960, 213824537212] ++
  [164856841214, 131430476556, 94003942036, 144176005127,
   192314191667, 32044891699, 49842018376, 91940158245,
   258614493533, 200408305816, 7212734022, 32159768426,
   24170947329, 199753341202, 260131546623, 26780996957] ++
  [3249741926, 203204816542, 32110044624, 14249902569,
   61480180048, 146630716542, 28188543317, 171902145998,
   597264516490, 192821820256, 129779305914, 46508454190,
   97855209649, 159325374955, 357213529200, 65516472641]

/-- A parameter set (R111). -/
structure ParamSet where
  /-- log2 N -/
  logN : Nat
  /-- ciphertext primes -/
  lq : Nat
  /-- special primes -/
  k : Nat
  /-- prime bits b are 60, otherwise 54 -/
  b60 : Bool
  deriving DecidableEq, Repr

/-- The eight parameter sets (R111). -/
def paramSet (ps : Nat) : ParamSet :=
  match ps with
  | 0 => ⟨13, 3, 1, false⟩
  | 1 => ⟨14, 7, 1, false⟩
  | 2 => ⟨15, 14, 2, false⟩
  | 3 => ⟨16, 24, 4, true⟩
  | 4 => ⟨16, 28, 4, false⟩
  | 5 => ⟨17, 48, 8, true⟩
  | 6 => ⟨17, 56, 8, false⟩
  | _ => ⟨17, 52, 12, false⟩

/-- Ring degree N. -/
def ParamSet.n (p : ParamSet) : Nat := 2 ^ p.logN
/-- Tiles of one limb of one component: N / 8,192 (R114). -/
def ParamSet.tiles (p : ParamSet) : Nat := p.n / 8192
/-- The prime with global index `i` among the primes of `b` bits (R111, R114). -/
def primeAt (b60 : Bool) (i : Nat) : Nat := (if b60 then primes60 else primes54).getD i 1
/-- The prime of global index `i`: q_i, or p_(i − Lq) from Lq on (R114). -/
def ParamSet.prime (p : ParamSet) (i : Nat) : Nat := primeAt p.b60 i
/-- ψ for the prime of global index `i` (R112). -/
def ParamSet.psi (p : ParamSet) (i : Nat) : Nat :=
  (match p.logN, p.b60 with
    | 13, _ => psi13b54
    | 14, _ => psi14b54
    | 15, _ => psi15b54
    | 16, true => psi16b60
    | 16, false => psi16b54
    | _, true => psi17b60
    | _, false => psi17b54).getD i 1
/-- Global index of the prime in slot `j` of a ciphertext at level `l` (R114). -/
def ParamSet.slotPrime (p : ParamSet) (l j : Nat) : Nat := if j ≤ l then j else p.lq + (j - l - 1)
/-- Q_ℓ. -/
def ParamSet.bigQ (p : ParamSet) (l : Nat) : Nat := (List.range (l + 1)).foldl (fun a j => a * p.prime j) 1
/-- P, the product of the special primes. -/
def ParamSet.bigP (p : ParamSet) : Nat := (List.range p.k).foldl (fun a j => a * p.prime (p.lq + j)) 1

end Sys2Proof.Machine
end

