-- ==== Sys2Proof/Machine/Tiles.lean ====
section
/-! DEFINITION. Tiles: where a tile's bytes lie (R49, R51, R71, R418), its tag (R56), its checksum (R58), verification
(R61), epochs (R65, R66), memory errors (R50, R55), the scoreboard (R64) and lockage (R71). -/
namespace Sys2Proof.Machine

/-! ## Tags (R56) -/

/-- The tag of tile `t`. -/
def State.tag (s : State) (t : Nat) : TileTag := Sparse.get {} s.tags t
/-- Set the tag of tile `t`. -/
def State.setTag (s : State) (t : Nat) (g : TileTag) : State := { s with tags := Sparse.set {} s.tags t g }

/-- The 32-byte tag as a number (R56). -/
def TileTag.toNat (g : TileTag) : Nat :=
  g.tenant + g.mode * 2 ^ 6 + g.wsel * 2 ^ 8 + g.limb * 2 ^ 10 + g.count * 2 ^ 16 + b2n g.ovr * 2 ^ 56
    + b2n g.sealed * 2 ^ 57 + b2n g.far * 2 ^ 58 + g.epoch * 2 ^ 64 + g.keygen * 2 ^ 80 + g.csum * 2 ^ 128

/-- The tag a 32-byte record spells. -/
def TileTag.ofNat (x : Nat) : TileTag :=
  { tenant := bits x 0 6, mode := bits x 6 2, wsel := bits x 8 2, limb := bits x 10 6, count := bits x 16 40
    ovr := bit x 56, sealed := bit x 57, far := bit x 58, epoch := bits x 64 16, keygen := bits x 80 16
    csum := bits x 128 128 }

/-- A tag record is well formed (R56): reserved bits zero, a width code that exists, LIMB only in mode 3, the high half of
the checksum only at W = 128. -/
def tagWf (x : Nat) : Bool :=
  bits x 59 5 == 0 && bits x 96 32 == 0 && bits x 8 2 != 3 && (bits x 6 2 == 3 || bits x 10 6 == 0)
    && (bits x 8 2 == 2 || bits x 192 64 == 0)

/-- The tile holds ciphertext limbs: mode 3 and not the plaintext of joint decryption (R110, R137). -/
def TileTag.cipher (g : TileTag) : Bool := g.mode == 3 && !g.sealed
/-- Bytes of an element of the tile (R31, R114). -/
def TileTag.eb (g : TileTag) : Nat := if g.cipher then 8 else wBytes g.wsel
/-- The modulus of the tile's arithmetic (R58). -/
def TileTag.modulus (g : TileTag) : Nat := if g.cipher then primeAt g.b60 g.limb else 2 ^ wOf g.wsel

/-! ## Where data lies -/

/-- The staged copy of a far tile (R71). -/
def State.stagedOf (s : State) (t : Nat) : Option Staged := s.staged.find? (fun g => g.tile == t)
/-- The tile that holds far data under the name `t`: itself, or the far tile it was remapped to (R418). -/
def State.home (s : State) (t : Nat) : Nat :=
  match s.remap.find? (fun p => p.near == t) with
  | some p => p.far
  | none => t
/-- The storage tile that holds the bytes of tile `t` now. -/
def State.loc (s : State) (t : Nat) : Nat :=
  match s.stagedOf t with
  | some g => g.slot
  | none => s.home t
/-- Tile `t` is held in far memory: a far tile, or a near one remapped (R418). -/
def State.isFarNow (s : State) (t : Nat) : Bool := isFar (s.home t)
/-- Tile `t` is near, or staged (R71, R189). -/
def State.present (s : State) (t : Nat) : Bool := !s.isFarNow t || (s.stagedOf t).isSome

/-! ## Far memory as stored (R53, R54, R358) -/

/-- The key of page `p` of far data held under the name `t`: its function's key of the page's generation, or the device key
of a remapped tile (R418). -/
def State.pageKey (s : State) (t p : Nat) : Option Nat :=
  let g := s.tag t
  if s.remap.any (fun x => x.near == t && x.device) then some s.nalam.farTagKey
  else if bit g.keygen p then (s.fn g.tenant).memKey1 else (s.fn g.tenant).memKey0

/-- The far byte address of page `p` of far tile `h`, which is the tweak of its XTS data unit (R357). DEDUCED -/
def pageAddr (h p : Nat) : Nat := (h - 0x800000) * tileSize + 4096 * p

/-- Package `p` is in service. -/
def State.pkgOk (s : State) (p : Nat) : Bool := bit (s.rd Reg.farPkgOk (p / 4)) (p % 4)

/-- Page `p` of far tile `t` as a read returns it: the stored page decrypted. A page of a lost package is a free value
(R419); a page that no key covers is read as stored. -/
def State.farPage (s : State) (t p : Nat) : Bytes :=
  let h := s.home t
  if !s.pkgOk p then toLe 4096 (Config.lostPage (pageAddr h p))
  else
    let raw := readBytes s.tiles (h * tileSize + 4096 * p) 4096
    match s.pageKey t p with
    | some k => xts false k (pageAddr h p) raw
    | none => raw

/-- Store a page of far tile `t` under the key of its generation. -/
def State.putFarPage (s : State) (t p : Nat) (bs : Bytes) : State :=
  let h := s.home t
  let a := h * tileSize + 4096 * p
  { s with
    tiles := writeBytes s.tiles a (match s.pageKey t p with
      | some k => xts true k (pageAddr h p) bs
      | none => bs)
    upsets := Sparse.clear s.upsets (a / 8) ((a + 4096) / 8) }

/-- The pool's copy of page `p` of far tile `t` (R148). -/
def State.pageOf (s : State) (t p : Nat) : Option PageCopy := s.pages.find? (fun g => g.tile == t && g.page == p)
/-- First byte of a page's copy. -/
def PageCopy.addr (g : PageCopy) : Nat := g.slot * tileSize + 4096 * g.pos

/-- Page `p` of far tile `t` as it stands: the pool's copy, or the far page. -/
def State.pageNow (s : State) (t p : Nat) : Bytes :=
  match s.pageOf t p with
  | some g => readBytes s.tiles g.addr 4096
  | none => s.farPage t p

/-- Write page `p` of far tile `t`: in the pool, where its copy then waits to be written back, or in far memory. -/
def State.setPage (s : State) (t p : Nat) (bs : Bytes) : State :=
  match s.pageOf t p with
  | some g =>
    { s with
      tiles := writeBytes s.tiles g.addr bs
      upsets := Sparse.clear s.upsets (g.addr / 8) ((g.addr + 4096) / 8)
      pages := updIf s.pages (fun x => x.tile == t && x.page == p) (fun x => { x with dirty := true }) }
  | none => s.putFarPage t p bs

/-- Pages that bytes `off` to `off + n − 1` touch. -/
def pagesIn (off n : Nat) : List Nat := (List.range (ceilDiv (off % 4096 + n) 4096)).map (off / 4096 + ·)

/-- A page with the bytes written from byte `off` of its tile. -/
def patchPage (old : Bytes) (p off : Nat) (bs : Bytes) : Bytes :=
  let lo := max off (4096 * p) - 4096 * p
  let hi := min (off + bs.length) (4096 * p + 4096) - 4096 * p
  old.take lo ++ slice bs (4096 * p + lo - off) (hi - lo) ++ old.drop hi

/-- Write the whole of far tile `t`. -/
def State.putFar (s : State) (t : Nat) (bs : Bytes) : State :=
  (List.range 16).foldl (fun s p => s.setPage t p (slice bs (4096 * p) 4096)) s

/-- The tag of far tile `t` as bytes at 32 · FTILE of the far-tag region (R54). -/
def State.farTagBytes (s : State) (i : Nat) : Bytes := toLe 32 (s.tag (0x800000 + i)).toNat
/-- Page `k` of the far-tag region as it is stored, under the device key no function holds (R54): 128 tags. Its cipher is
not stated; the one of far pages. PRESUMED -/
def State.farTagPage (s : State) (k : Nat) : Bytes :=
  xts true s.nalam.farTagKey (pageAddr s.farTop 0 + 4096 * k) ((List.range 128).flatMap (fun i => s.farTagBytes (128 * k + i)))

/-! ## Data -/

/-- `n` bytes of tile `t` from byte `off`. -/
def State.tileBytes (s : State) (t off n : Nat) : Bytes :=
  if isFar (s.loc t) then slice ((pagesIn off n).flatMap (s.pageNow t)) (off % 4096) n
  else readBytes s.tiles (s.loc t * tileSize + off) n
/-- Write bytes of tile `t` from byte `off`; a word written whole or in part holds a fresh codeword (R50). -/
def State.putTile (s : State) (t off : Nat) (bs : Bytes) : State :=
  if isFar (s.loc t) then (pagesIn off bs.length).foldl (fun s p => s.setPage t p (patchPage (s.pageNow t p) p off bs)) s
  else
    let a := s.loc t * tileSize + off
    { s with
      tiles := writeBytes s.tiles a bs
      upsets := Sparse.clear s.upsets (a / 8) ((a + bs.length + 7) / 8) }
/-- Element `i` of tile `t`, `eb` bytes an element. -/
def State.elem (s : State) (t eb i : Nat) : Nat := leNat (s.tileBytes t (i * eb) eb)
/-- Set element `i` of tile `t`. -/
def State.setElem (s : State) (t eb i v : Nat) : State := s.putTile t (i * eb) (toLe eb v)
/-- Add residues to consecutive elements of tile `t` from element `i`, modulo `m` (R30, R118). -/
def State.addElems (s : State) (t eb m i : Nat) : List Nat → State
  | [] => s
  | x :: xs => (s.setElem t eb i ((s.elem t eb i + x) % m)).addElems t eb m (i + 1) xs
/-- Set consecutive elements of tile `t` from element `i`. -/
def State.setElems (s : State) (t eb i : Nat) : List Nat → State
  | [] => s
  | x :: xs => (s.setElem t eb i x).setElems t eb (i + 1) xs
/-- Zero the bytes of tile `t`. -/
def State.zeroTile (s : State) (t : Nat) : State :=
  if isFar (s.loc t) then s.putFar t (toLe tileSize 0)
  else
    { s with
      tiles := Sparse.clear s.tiles (s.loc t * tileSize) ((s.loc t + 1) * tileSize)
      upsets := Sparse.clear s.upsets (s.loc t * (tileSize / 8)) ((s.loc t + 1) * (tileSize / 8)) }

/-! ## Checksums (R58, R59) -/

/-- C(x) of residues that lie from element `i`, before reduction. -/
def csumOf (i : Nat) : List Nat → Nat
  | [] => 0
  | x :: xs => (2 * i + 1) * x + csumOf (i + 1) xs

/-- C recomputed over a tile's stored bytes, taken byte by byte (the sum is linear in the elements). -/
def csumCells (m : List (Nat × Byte)) (a eb : Nat) : Nat :=
  ((m.filter (fun p => a ≤ p.1 && p.1 < a + tileSize)).map
    (fun p => (2 * ((p.1 - a) / eb) + 1) * (p.2.toNat * 256 ^ ((p.1 - a) % eb)))).sum

/-- C over the stored elements of tile `t` in the arithmetic of its tag. -/
def State.csum (s : State) (t : Nat) : Nat :=
  let g := s.tag t
  if isFar (s.loc t) then
    let d := s.tileBytes t 0 tileSize
    csumOf 0 ((List.range (tileSize / g.eb)).map (fun i => leAt d (i * g.eb) g.eb)) % g.modulus
  else csumCells s.tiles (s.loc t * tileSize) g.eb % g.modulus

/-! ## Memory errors (R50, R55) -/

/-- The slice of stripe `k` of near tile `t` (R49). -/
def sliceOf (t k : Nat) : Nat := 32 * (t % 2) + (k + bits t 1 5) % 32

/-- A read meets the word at byte `8 · w` of storage, held under the name `t`: a single-bit error is corrected and
counted; a double-bit error is counted, logged and raised (R50, R55). -/
def State.eccWord (s : State) (t w : Nat) (double : Bool) : State :=
  let st := w * 8 / tileSize
  let b := w * 8 % tileSize
  if isFar st then
    let q := b / 4096 / 4
    if double then
      ((s.bump Reg.farUeCount q).capture Reg.farUeValid [(Reg.farUeTile, st), (Reg.farUePage, b / 4096)] q).raise (s.tag t).tenant 0x010E 5 t
    else { s.bump Reg.farCeCount q with upsets := Sparse.clear s.upsets w (w + 1) }
  else if double then
    ((s.bump Reg.creelUeCount).capture Reg.creelUeValid [(Reg.creelUeTile, st), (Reg.creelUeSlice, sliceOf st (b / 2048))]).raise (s.tag t).tenant 0x010D 5 t
  else { s.bump Reg.creelCeCount with upsets := Sparse.clear s.upsets w (w + 1) }

/-- Where bytes of tile `t` lie in storage: first byte and length of each piece. -/
def State.pieces (s : State) (t off n : Nat) : List (Nat × Nat) :=
  if isFar (s.loc t) then
    (pagesIn off n).map (fun p =>
      let lo := max off (4096 * p) - 4096 * p
      let hi := min (off + n) (4096 * p + 4096) - 4096 * p
      ((match s.pageOf t p with
        | some g => g.addr
        | none => s.home t * tileSize + 4096 * p) + lo, hi - lo))
  else [(s.loc t * tileSize + off, n)]

/-- A read of `n` bytes of tile `t` from byte `off` checks every codeword they touch (R50). -/
def State.eccSpan (s : State) (t off n : Nat) : State :=
  (s.upsets.filter (fun p => (s.pieces t off n).any (fun q => q.1 / 8 ≤ p.1 && p.1 < (q.1 + q.2 + 7) / 8))).foldl
    (fun s p => s.eccWord t p.1 p.2) s

/-- A read of a near tile's tag from the tag SRAM, under the same code and through the same path (R50). The slice captured
is that of the tile's stripe 0. DESIGN CHOICE (log entry 103) -/
def State.eccTag (s : State) (t : Nat) : State :=
  if isFar t then s
  else (s.tagUpsets.filter (fun p => p.1 / 4 == t)).foldl (fun s p =>
    let s1 := s.eccWord t (t * (tileSize / 8)) p.2
    if p.2 then s1 else { s1 with tagUpsets := s1.tagUpsets.filter (fun q => q != p) }) s

/-- A read of tile `t`, tag and every word. -/
def State.eccRead (s : State) (t : Nat) : State := (s.eccTag t).eccSpan t 0 tileSize

/-! ## Verification (R61) -/

/-- A checksum mismatch of tile `t` at a use (R61, R76): the event, and the first capture. -/
def State.csumFail (s : State) (t src : Nat) : State :=
  (s.raise (s.tag t).tenant 0x0101 5 t).capture Reg.creelCsumValid [(Reg.creelCsumTile, t), (Reg.creelCsumSource, src)]

/-- Read and verify tile `t` for the use `src` of CREEL_CSUM_FAIL_LOG (R61). -/
def State.verify (s : State) (t src : Nat) : Bool × State :=
  let s1 := s.eccRead t
  if s1.csum t = (s1.tag t).csum then (true, s1) else (false, s1.csumFail t src)

/-- Verify tiles in order; true when all pass. -/
def State.verifyAll (s : State) (src : Nat) : List Nat → Bool × State
  | [] => (true, s)
  | t :: ts =>
    let (b, s1) := s.verify t src
    let (b', s2) := s1.verifyAll src ts
    (b && b', s2)

/-! ## The scoreboard (R64) -/

/-- Fold segments in flight on tile `t`. -/
def State.inflight (s : State) (t : Nat) : Nat :=
  (s.spindles.map (fun x => (x.segs.filter (fun g => g.tile == t)).length)).sum
/-- Tiles with folds in flight: the scoreboard entries in use. -/
def State.sbTiles (s : State) : List Nat := ((s.spindles.flatMap (fun x => x.segs.map (·.tile)))).dedup
/-- Room for one more fold on each of `ts`: 4,096 entries, 255 folds on a tile (R64). -/
def State.sbRoom (s : State) (ts : List Nat) : Bool :=
  decide ((s.sbTiles ++ ts).dedup.length ≤ 4096) && ts.all (fun t => decide (s.inflight t + ts.count t ≤ 255))
/-- Drains and ZEROs issued to tile `t` and not yet done (R65). -/
def State.draining (s : State) (t : Nat) : Nat := (s.drainsOut.filter (fun d => d.tile == t)).length

/-! ## Epochs (R65 to R67) -/

/-- The epoch after the last of a list of drains of tile `t`; the tag's without one. -/
def State.epochAfter (s : State) (t : Nat) (l : List DrainOut) : Nat :=
  match (l.filter (fun d => d.tile == t)).getLast? with
  | some d => (d.epoch + 1) % 2 ^ 16
  | none => (s.tag t).epoch
/-- The epoch a DRAIN of tile `t` that issues now ends. -/
def State.drainEpoch (s : State) (t : Nat) : Nat := s.epochAfter t s.drainsOut
/-- The epoch that a fold issued now on spindle `j` to tile `t` carries: a DRAIN that another spindle issued in the same cycle
leaves it in the old one (R65). -/
def State.issueEpoch (s : State) (j t : Nat) : Nat :=
  s.epochAfter t (s.drainsOut.filter (fun d => d.spindle == j || decide (d.time < s.time)))
/-- Every fold and combine of tile `t`'s epoch `e` has retired, and `e` is the epoch it is in (R65). -/
def State.oldDone (s : State) (t e : Nat) : Bool :=
  (s.tag t).epoch == e && s.spindles.all (fun x =>
    x.segs.all (fun g => g.tile != t || g.epoch != e)
      && x.uq.all (fun u => u.op != .drainCombine || u.drains.all (fun p => p.target != t || p.join != e)))
    && s.combines.all (fun c => c.tile != t || c.epoch != e)

/-- No fold and no drain is in flight on any of `ts` (R65, R127). -/
def State.quiet (s : State) (ts : List Nat) : Bool := ts.all (fun t => s.inflight t == 0 && s.draining t == 0)
/-- The scrubber takes tile `t` to have folds in flight: it has, or a page of it in the pool is dirty (R70, R148). -/
def State.aloft (s : State) (t : Nat) : Bool := s.inflight t != 0 || s.pages.any (fun g => g.tile == t && g.dirty)
/-- Folds to `ts` have been issued: a tile that had none in flight has had some since now (R70). -/
def State.takeOff (s : State) (ts : List Nat) : State :=
  { s with flights := ts.foldl (fun m t => if s.aloft t then m else Sparse.set 0 m t (s.time + 1)) s.flights }
/-- Tile `t` has had folds in flight without a break for `n` cycles. -/
def State.flying (s : State) (t n : Nat) : Bool :=
  let a := Sparse.get 0 s.flights t
  s.aloft t && a != 0 && decide (a - 1 + n ≤ s.time)

/-! ## Far memory: generations and lockage (R53, R71, R358) -/

/-- The number of set bits among the low `n`. -/
def popcount (x n : Nat) : Nat := ((List.range n).filter (fun i => bit x i)).length

/-- The rotation of function `f` ends when no page of the old generation is left: the old key is zeroised (R357). -/
def State.rotated (s : State) (f : Nat) : State :=
  if s.rd Reg.fnRotState f = 2 ∧ s.rd Reg.fnOldPages f = 0 then
    ((s.updFn f (fun x => if s.rd Reg.fnCurgen f = 1 then { x with memKey0 := none } else { x with memKey1 := none })).wr
      Reg.fnRotState 0 f).raise f 0x0610
  else s

/-- The generation under which function `f`'s far pages are written: in the cycle of a rotation's key the one before (R358). -/
def State.writeGen (s : State) (f : Nat) : Nat :=
  let g := if s.rd Reg.fnCurgen f = 1 then 1 else 0
  if (s.fn f).memKeyAt == some s.time && s.rd Reg.fnRotState f = 2 then 1 - g else g

/-- Pages `ps` of far tile `t` have been written in far memory: they lie under the function's current key generation (R358);
a tile under the device key has none. -/
def State.rekeyPages (s : State) (t : Nat) (ps : List Nat) : State :=
  if s.remap.any (fun x => x.near == t && x.device) then s else
  let g := s.tag t
  let gen := s.writeGen g.tenant
  let old := ps.filter (fun p => bits g.keygen p 1 != gen)
  let s1 := s.setTag t { g with keygen := old.foldl (fun k p => putBits k p 1 gen) g.keygen }
  let s2 := old.foldl (fun u p => u.putFarPage t p (s.farPage t p)) s1
  (s2.wr Reg.fnOldPages (s.rd Reg.fnOldPages g.tenant - old.length) g.tenant).rotated g.tenant

/-- Every page of far tile `t` has been written. -/
def State.farWritten (s : State) (t : Nat) : State := s.rekeyPages t (List.range 16)

/-- Tile `t` has been written by other than lockage: a staged copy is to be written back, an unstaged far tile has new
pages but for those in the pool (R71, R148, R358). -/
def State.wrote (s : State) (t : Nat) : State :=
  match s.stagedOf t with
  | some _ => { s with staged := updIf s.staged (fun g => g.tile == t) (fun g => { g with dirty := true }) }
  | none => if s.isFarNow t then s.rekeyPages t ((List.range 16).filter (fun p => (s.pageOf t p).isNone)) else s

/-- Count a tile's move between near and far memory (R77). -/
def State.lockBytes (s : State) : State :=
  (List.range 4).foldl (fun s q => s.bump Reg.farLockageBytes q 16384) s

/-- Start tile `t`'s next epoch: bytes zero, COUNT 0, checksum 0, EPOCH + 1, OVERRANGE_POSSIBLE and SEALED clear (R65,
R66). -/
def State.newEpoch (s : State) (t : Nat) : State :=
  let g := s.tag t
  ((s.zeroTile t).setTag t { g with count := 0, csum := 0, epoch := (g.epoch + 1) % 2 ^ 16, ovr := false, sealed := false }).wrote t

/-- Write a staged tile back (R71): verified as it is read, then far memory takes data and tag under the current key
generation. On a mismatch the far copy is not written. -/
def State.writeBack (s : State) (t : Nat) : State :=
  match s.stagedOf t with
  | none => s
  | some g =>
    if !g.dirty then s
    else
      let (ok, s1) := s.verify t 3
      if !ok then s1
      else
        let s2 := ((s1.putFar t (s1.tileBytes t 0 tileSize)).lockBytes).farWritten t
        { s2 with
          staged := updIf s2.staged (fun x => x.tile == t) (fun x => { x with dirty := false, farTag := s2.tag t }) }

/-- The pool tile keeps what it held, data and tag, as a near tile's own (R71: lockage writes the destination and its tag). -/
def State.leaveSlot (s : State) (g : Staged) : State := s.setTag g.slot { s.tag g.tile with far := false, keygen := 0 }

/-- Take a staged tile out of the pool after writing it back. -/
def State.unstage (s : State) (t : Nat) : State :=
  let s1 := s.writeBack t
  match s1.stagedOf t with
  | none => s1
  | some g => { s1.leaveSlot g with staged := s1.staged.filter (fun x => x.tile != t) }

/-- Discard a staged copy: the tile is again what far memory holds (R389). -/
def State.discardStage (s : State) (t : Nat) : State :=
  match s.stagedOf t with
  | none => s
  | some g => { (s.leaveSlot g).setTag t g.farTag with staged := s.staged.filter (fun x => x.tile != t) }

/-! ## The page pool of far row blocks (R148) -/

/-- A dirty page of the pool is written back, unverified, under the current key generation. -/
def State.pageBack (s : State) (g : PageCopy) : State :=
  if !g.dirty then s
  else
    let s1 := ((s.rekeyPages g.tile [g.page]).putFarPage g.tile g.page (readBytes s.tiles g.addr 4096)).bump
      Reg.farLockageBytes (g.page / 4) 4096
    { s1 with pages := updIf s1.pages (fun x => x.tile == g.tile && x.page == g.page) (fun x => { x with dirty := false }) }

/-- The pool's pages of tile `t` are written back. -/
def State.pagesBack (s : State) (t : Nat) : State := (s.pages.filter (fun g => g.tile == t)).foldl (fun s g => s.pageBack g) s

/-- A page leaves the pool without being written back. The checksum of a pool tile no page lies in any more is that of what it
holds. DESIGN CHOICE (log entry 107) -/
def State.pageOut (s : State) (g : PageCopy) : State :=
  let s1 := { s with pages := s.pages.erase g }
  if s1.pages.any (fun x => x.slot == g.slot) then s1
  else s1.setTag g.slot { s1.tag g.slot with csum := s1.csum g.slot }

/-- The pages of tile `t` leave the pool, written back. -/
def State.dropPages (s : State) (t : Nat) : State :=
  let s1 := s.pagesBack t
  (s1.pages.filter (fun g => g.tile == t)).foldl (fun s g => s.pageOut g) s1

/-- Tile `t`'s last fold in flight may have retired; a tile the scrubber holds then has its pages written back (R70, R148). -/
def State.land (s : State) (t : Nat) : State :=
  let s1 := if s.inflight t = 0 ∧ s.scrubHold.contains t then s.pagesBack t else s
  if s1.aloft t then s1 else { s1 with flights := Sparse.set 0 s1.flights t 0 }

/-! ## Landing zones -/

/-- First byte of a message in its landing zone: the 64-byte header, then the payload. DEDUCED -/
def lzBase (lz : Nat) : Nat := lz * tileSize
/-- `n` payload bytes of the message that lies at landing-zone tile `lz`, from byte `off`. -/
def State.payload (s : State) (lz off n : Nat) : Bytes := readBytes s.tiles (lzBase lz + 64 + off) n
/-- Payload element `j` of `pe` bytes from byte `off`. -/
def State.payElem (s : State) (lz off pe j : Nat) : Nat := readNat s.tiles (lzBase lz + 64 + off + j * pe) pe
/-- Zero `n` landing-zone tiles from `lz`. -/
def State.zeroLz (s : State) (lz n : Nat) : State :=
  { s with tiles := Sparse.clear s.tiles (lz * tileSize) ((lz + n) * tileSize) }

/-- Sign-extend a residue of `8 · pe` bits to W bits (R86). -/
def extend (pe w r : Nat) : Nat := wrap w (lift (8 * pe) r)

end Sys2Proof.Machine
end

