-- ==== Sys2Proof/Machine/Rounds.lean ====
section
/-! DEFINITION. Rounds: their layout (R75, R114, R138), states and transitions (R80, R205, R465), the status record (R109),
abandonment (R81), the dedup map (R87, R88) and the books of a round (R424). -/
namespace Sys2Proof.Machine

/-! ## Layout -/

/-- W code of the round. -/
def RoundCfg.wsel (c : RoundCfg) : Nat := encWsel c.encoding
/-- Elements per tile at the round's W. -/
def RoundCfg.elems (c : RoundCfg) : Nat := elemsOf c.wsel
/-- P_e of the round (R85). -/
def RoundCfg.pe (c : RoundCfg) : Nat := payloadBytes c.encoding
/-- Parameter set of a mode 3 round. -/
def RoundCfg.pset (c : RoundCfg) : ParamSet := paramSet ((c.m3.map (·.ps)).getD 0)
/-- Limbs of a mode 3 contribution: LEVEL_IN + 1. -/
def RoundCfg.limbs (c : RoundCfg) : Nat := (c.m3.map (·.levelIn)).getD 0 + 1
/-- Ciphertexts of a mode 3 contribution: ⌈L / N⌉ (R117). -/
def RoundCfg.cts (c : RoundCfg) : Nat := ceilDiv c.l c.pset.n
/-- Tiles of one ciphertext of the round. -/
def RoundCfg.ctTiles (c : RoundCfg) : Nat := 2 * c.limbs * c.pset.tiles
/-- NL_PATH of a mode 3 round, 0 otherwise. -/
def RoundCfg.nlPath (c : RoundCfg) : Nat := (c.m3.map (·.nlPath)).getD 0
/-- The round keeps a count ciphertext: it excludes contributions (R129). DEDUCED -/
def RoundCfg.hasCount (c : RoundCfg) : Bool := c.mode == 3 && c.nlPath != 0
/-- A sparse round (R138). -/
def RoundCfg.sparse (c : RoundCfg) : Bool := c.rowMode == 1
/-- Rows of a row block, R_t (R138). -/
def RoundCfg.rowsPerTile (c : RoundCfg) : Nat := c.elems / max 1 ((c.rows.map (·.rw)).getD 1)
/-- Elements per row. -/
def RoundCfg.rw (c : RoundCfg) : Nat := (c.rows.map (·.rw)).getD 0
/-- Accumulator tiles, NT: dense, row blocks, or the ciphertexts and the count ciphertext (R75, R117, R138). -/
def RoundCfg.nt (c : RoundCfg) : Nat :=
  if c.mode = 3 then (c.cts + b2n c.hasCount) * c.ctTiles
  else if c.sparse then (c.rows.map (·.accTiles)).getD 0
  else ceilDiv c.l c.elems

/-- Logical index of tile `t` in the round (R75). -/
def Round.logical? (r : Round) (t : Nat) : Option Nat := r.acc.findIdx? (fun x => x == t)
/-- Modulus and element bytes of the round's accumulator arithmetic, mode 3 apart. -/
def Round.w (r : Round) : Nat := wOf r.cfg.wsel
/-- Global prime index of logical tile `l` of a mode 3 round (R114). -/
def RoundCfg.limbOf (c : RoundCfg) (l : Nat) : Nat := l / c.pset.tiles % c.limbs
/-- Elements the round holds in logical tile `l`: all but in the last tile of a dense round (R224). -/
def RoundCfg.held (c : RoundCfg) (l : Nat) : Nat :=
  if c.mode = 3 then min c.pset.n c.elems
  else if c.sparse then c.rowsPerTile * c.rw else min c.elems (c.l - l * c.elems)

/-- The round is neither RELEASED nor ABANDONED. -/
def Round.live_ (r : Round) : Bool := r.st != .released && r.st != .abandoned
/-- At the top of its staircase, or in none (R289). -/
def Round.top (r : Round) : Bool :=
  match r.cfg.stair with
  | some c => c.parentQp == 0xFFFFF
  | none => true
/-- A staircase round (R289). -/
def RoundCfg.isStair (c : RoundCfg) : Bool :=
  match c.stair with
  | some x => decide (0 < x.nch) || x.parentQp != 0xFFFFF
  | none => false
/-- NCH, 0 outside a staircase. -/
def RoundCfg.nch (c : RoundCfg) : Nat := (c.stair.map (·.nch)).getD 0
/-- Every tile a live round declares (R75, R79). -/
def Round.tiles (r : Round) : List Nat :=
  let run (b n : Nat) := (List.range n).map (b + ·)
  let c := r.cfg
  r.acc ++ r.outTiles ++ run c.lzBase c.lzCount ++ run c.stageBase c.stageCount ++ run c.ctlBase c.ctlCount
    ++ (if c.mode = 0 then run c.rosterBase c.rosterNt else [])
    ++ (match c.rows with
        | some w => if c.sparse then run w.dirBase w.dirTiles ++ run w.cacheBase w.cacheCount else []
        | none => [])
    ++ (match c.m3 with
        | some m => run m.evkBase m.evkCount ++ run m.workBase m.workCount
        | none => [])

/-! ## Status (R109) -/

/-- STATE of the status record. -/
def RState.code : RState → Nat
  | .opening => 0 | .open => 0 | .guard => 1 | .closed => 2 | .unmask => 3 | .gated => 4 | .released => 5 | .abandoned => 6

/-- A 32-bit saturating count. -/
def sat32 (n : Nat) : Nat := min n (2 ^ 32 - 1)

/-- COHORT as the record shows it: the merged count of a staircase once settled and consistent (R293, R294). -/
def Round.cohort (r : Round) : Nat := if r.cfg.isStair ∧ r.stair.passed then r.stair.mergedCount else r.counts.cohort

/-- The 64-byte round status record (R109). -/
def Round.status (r : Round) : Bytes :=
  let c := r.counts
  toLe 64 (r.st.code + r.reason * 2 ^ 8 + r.cfg.round * 2 ^ 24 + sat32 c.accepted * 2 ^ 64 + sat32 r.cohort * 2 ^ 96
    + sat32 c.duplicate * 2 ^ 128 + sat32 c.mismatch * 2 ^ 160 + sat32 c.malformed * 2 ^ 192 + sat32 c.late * 2 ^ 224
    + sat32 c.rejected * 2 ^ 256 + sat32 r.guardHold.length * 2 ^ 288 + sat32 c.sharesOk * 2 ^ 320
    + sat32 c.sharesDenied * 2 ^ 352 + (r.tLast % 2 ^ 64) * 2 ^ 384 + (r.lag % 2 ^ 64) * 2 ^ 448)

/-- Write the status record to the round's status location (R109). -/
def State.putStatus (s : State) (f r : Nat) : State :=
  match s.round? f r with
  | some x => if x.cfg.statusAddr = 0 then s else s.hostPut f x.cfg.statusAddr x.status
  | none => s

/-! ## Progress (R205) and transitions (R80) -/

/-- Raise the round's progress counter to a stage code. -/
def State.progress (s : State) (f r c : Nat) : State :=
  let s1 := s.updRound f r (fun x => { x with progress := max x.progress c })
  match (s.round? f r).bind (·.progressCtr) with
  | some n => s1.ctrRaise f n c
  | none => s1

/-- Progress code of a state that has one. -/
def RState.progress : RState → Nat
  | .opening => 0 | .open => 1 | .guard => 2 | .closed => 3 | .unmask => 4 | .gated => 6 | .released => 9 | .abandoned => 15

/-- A round enters a state: T_LAST, the progress counter and the status record (R80, R109, R205). -/
def State.enter (s : State) (f r : Nat) (st : RState) : State :=
  ((s.updRound f r (fun x =>
    { x with
      st := st
      tLast := s.time
      guardAt := if st = .guard then s.time else x.guardAt
      m3 := if st = .released ∨ st = .abandoned then { x.m3 with returns := [] } else x.m3 })).progress f r st.progress).putStatus f r

/-- Raise a code of R84 once per round, on first occurrence. -/
def State.raiseOnce (s : State) (f r code : Nat) : State :=
  match s.round? f r with
  | none => s
  | some x => if x.raised.contains code then s
    else (s.raise f code 4 r).updRound f r (fun x => { x with raised := code :: x.raised })

/-- Change the counts of a round. -/
def State.count (s : State) (f r : Nat) (g : RoundCounts → RoundCounts) : State :=
  s.updRound f r (fun x => { x with counts := g x.counts })

/-! ## Messages to a peer (R250) -/

/-- Queue a message on a QP: SEND, or WRITE to a window. -/
def State.post (s : State) (qpn : Nat) (owner : TxOwner) (data : Bytes) (write : Bool := false) (handle : Nat := 0)
    (offset : Nat := 0) : State :=
  s.updQp qpn (fun q => { q with tx := { q.tx with
    queue := q.tx.queue ++ [{ write := write, handle := handle, offset := offset, data := data, owner := owner }] } })

/-! ## Triggered work that fails (R280) -/

/-- A failed TWR sends no further message; one in progress goes on as bytes of 0xFF (R269, R280). -/
def Qp.dropTwr (q : Qp) (id : Nat) : Qp :=
  let mine (m : TxMsg) : Bool := m.owner == .fwd id || m.owner == .twrSend id
  { q with tx := { q.tx with
    queue := updIf (q.tx.queue.filter (fun m => !(mine m && m.seq0.isNone))) mine (fun m => { m with naked := true, owner := .nobody }) } }

/-- A TWR fails with a cause: 0x040F, and DONE_CTR is never raised. -/
def State.twrFail (s : State) (id cause : Nat) : State :=
  match s.twrs.find? (fun w => w.id == id) with
  | none => s
  | some w =>
    let s1 := if w.op = 1 then s.updRound w.func w.round (fun x =>
      { x with fwdFailed := some (min w.order (x.fwdFailed.getD w.order)) }) else s
    ({ s1 with twrs := s1.twrs.filter (fun w => w.id != id), qps := s1.qps.map (fun (q : Qp) => q.dropTwr id) }).raise w.func
      0x040F 7 id cause

/-- The FORWARDs of an abandoned round fail. -/
def State.twrFailRound (s : State) (f r cause : Nat) : State :=
  (s.twrs.filter (fun w => w.func == f && w.op == 1 && w.round == r)).foldl (fun s w => s.twrFail w.id cause) s

/-! ## Abandonment (R81) -/

/-- Unit instructions of the function's spindles that work on an abandoned round: their fold segments are dropped and
they report 0x0110 when they retire (R190). -/
def cancelRound (r : Nat) (x : Spindle) : Spindle :=
  { x with
    segs := x.segs.filter (fun g => g.round != r)
    uq := x.uq.map (fun e =>
      if e.round = some r then { e with code := 0x0110, failCode := none, parts := 0, msg := none, drains := [], held := false }
      else e) }

/-- A round becomes ABANDONED with a code (R80, R81): its tiles start new epochs, its messages and landing zones, keys,
seeds and dedup map are gone, its FORWARDs fail, and the status record is written. -/
def State.abandon (s : State) (f r code : Nat) : State :=
  match s.round? f r with
  | none => s
  | some x =>
    if !x.live_ then s
    else
      let s1 := s.twrFailRound f r code
      let s2 := { s1 with
        spindles := (List.range s1.spindles.length).map (fun j =>
          if s1.owner? j = some f then cancelRound r (s1.spin j) else s1.spin j)
        queries := s1.queries.filter (fun q => !(q.func == f && q.round == r)) }
      let s3 := (x.acc ++ x.outTiles ++ x.gate.outs.map (·.tile)).dedup.foldl (fun s t => s.newEpoch t) s2
      let s4 := s3.zeroLz x.cfg.lzBase x.cfg.lzCount
      let s5 := s4.updRound f r (fun x =>
        { x with
          reason := code
          seed := 0
          keys := none
          dedup := []
          intake := []
          live := []
          guardHold := []
          dupHold := []
          um := {}
          gate := { x.gate with outs := [], partials := [] }
          sparse := {} })
      let s6 := { s5 with
        rng := { s5.rng with reqs := s5.rng.reqs.filter (fun q => q.use != RngUse.roundOpen f r) } }
      let s7 := if code = 0x0801 then s6.bump Reg.plyDivergences else s6
      s7.enter f r .abandoned

/-- Abandon every live round of a function that satisfies `p`. -/
def State.abandonAll (s : State) (f code : Nat) (p : Round → Bool) : State :=
  (s.rounds.filter (fun x => x.func == f && x.live_ && p x)).foldl (fun s x => s.abandon f x.cfg.round code) s

/-! ## The dedup map and duplicates (R87, R88) -/

/-- State of a slot: 0 EMPTY, 1 PENDING, 2 DONE. -/
def Round.slotSt (r : Round) (slot : Nat) : Nat := Sparse.get 0 r.dedup slot
/-- Set a slot's state. -/
def Round.setSlot (r : Round) (slot v : Nat) : Round := { r with dedup := Sparse.set 0 r.dedup slot v }
/-- Intake-queue entries in use: queued and on the guard hold (R107). -/
def Round.entries (r : Round) : Nat := r.intake.length + r.guardHold.length
/-- Entries of the intake queue. -/
def intakeMax : Nat := 65536

/-- A message completed in OPEN, in the round's GUARD timer's cycle at the latest (R105). -/
def Round.inOpen (r : Round) (m : Msg) : Bool := r.st == .open || decide (m.time ≤ r.guardAt)

/-- Append a contribution, or hold one that completed in GUARD while the round is there (R84, R105, R106). -/
def Round.take_ (r : Round) (m : Msg) : Round :=
  if r.st = .guard ∧ !r.inOpen m then { r with guardHold := r.guardHold ++ [m] } else { r with intake := r.intake ++ [m] }

/-- The candidates of a round: slots appended or held and not failed (R80). -/
def Round.candidates (r : Round) : List Nat := r.dedup.map (·.1)

/-- Append held contributions as guard-band releases (R106). -/
def Round.releaseHold (r : Round) (p : Msg → Bool) : Round :=
  { r with
    intake := r.intake ++ (r.guardHold.filter p).map (fun m => { m with kind := .guardRelease })
    guardHold := r.guardHold.filter (fun m => !p m) }

/-- Discard what stays on the guard hold: slots return to EMPTY, and duplicates held for them go. -/
def Round.dropHold (r : Round) : Round :=
  let slots := r.guardHold.map (·.slot)
  let dups := r.dupHold.filter (fun m => slots.contains m.slot)
  { slots.foldl (fun r s => r.setSlot s 0) r with
    guardHold := []
    dupHold := r.dupHold.filter (fun m => !slots.contains m.slot)
    counts := { r.counts with
      guardDiscarded := r.counts.guardDiscarded + slots.length, duplicate := r.counts.duplicate + dups.length } }

/-- The first held duplicate of a slot goes on when the earlier contribution has failed (R88). -/
def Round.nextDup (r : Round) (slot : Nat) : Round :=
  match r.dupHold.find? (fun m => m.slot == slot) with
  | none => r
  | some m =>
    let r1 := { r with dupHold := r.dupHold.erase m, counts := { r.counts with accepted := r.counts.accepted + 1 } }
    (r1.setSlot slot 1).take_ m

/-- A contribution failed (R87): its slot returns to EMPTY, it is counted in REJECTED, its landing space is freed and the
next held duplicate of the slot is appended. -/
def Round.reject (r : Round) (slot lz : Nat) : Round :=
  let r1 := { r.setSlot slot 0 with
    live := r.live.filter (fun m => m.lz != lz)
    ply := if r.ply.plied then { r.ply with failed := slot :: r.ply.failed } else r.ply
    counts := { r.counts with rejected := r.counts.rejected + 1 } }
  r1.nextDup slot

/-- A contribution's last segment has retired (R87, R88): its slot becomes DONE and held duplicates are discarded. -/
def Round.slotDone (r : Round) (slot lz : Nat) (scaled : Bool) : Round :=
  let held := r.dupHold.filter (fun m => m.slot == slot)
  { r.setSlot slot 2 with
    live := r.live.filter (fun m => m.lz != lz)
    dupHold := r.dupHold.filter (fun m => m.slot != slot)
    nClipped := r.nClipped + b2n scaled
    counts := { r.counts with
      cohort := r.counts.cohort + 1
      duplicate := r.counts.duplicate + held.length } }

/-- Discarded duplicates raise 0x0113. -/
def State.slotDone (s : State) (f r slot lz : Nat) (scaled : Bool) : State :=
  match s.round? f r with
  | none => s
  | some x =>
    let s1 := s.updRound f r (fun x => x.slotDone slot lz scaled)
    if x.dupHold.any (fun m => m.slot == slot) then s1.raiseOnce f r 0x0113 else s1

/-- A contribution failed with a code found by an instruction (R87). -/
def State.rejectMsg (s : State) (f r slot lz code : Nat) : State :=
  (s.updRound f r (fun x => x.reject slot lz)).raiseOnce f r code

/-- Every candidate has retired or failed: no slot is PENDING, and in a plied round the closing cohort is known and strand
B awaits no slot (R80, R306). -/
def Round.resolved (r : Round) : Bool :=
  r.dedup.all (fun p => p.2 != 1) && r.ply.awaiting.isEmpty && r.live.all (fun m => m.kind == .recovery)
    && (!r.ply.plied || r.ply.cohort.isSome)

/-- The leaf digests of the ended rounds of function `f` whose tiles are reassigned are kept no longer (R172). -/
def State.dropLeaves (s : State) (f : Nat) (gone : Nat → Bool) : State :=
  { s with rounds := updIf s.rounds (fun x => x.func == f && !x.live_ && x.tiles.any gone) (fun x =>
      { x with gate := { x.gate with accLeaves := [] } }) }

/-! ## Books of a round (R424) -/

/-- The identities a round keeps: contributions (1), the dedup map (2) and, once its candidates are resolved in CLOSED,
the dense tile counts (3). -/
def State.roundBook (s : State) (x : Round) (book : Nat) : Bool :=
  let pend := (x.dedup.filter (fun p => p.2 == 1)).length
  match book with
  | 1 => x.counts.accepted == x.counts.cohort + (x.counts.rejected - x.counts.full) + pend + x.counts.guardDiscarded
  | 2 => (x.dedup.filter (fun p => p.2 == 2)).length == x.counts.cohort
  | _ =>
    x.st != .closed || x.cfg.sparse || x.cfg.mode == 3 || !x.resolved
      || x.cfg.isStair || x.acc.all (fun t => (s.tag t).count == x.counts.cohort)

/-- Audit one book of a function's live rounds; a second consecutive failure raises 0x0A28 and abandons them. -/
def State.auditBook (s : State) (f book : Nat) : State :=
  let bad := s.rounds.filter (fun x => x.func == f && x.live_ && !s.roundBook x book)
  if bad.isEmpty then { s with books := s.books.filter (fun b => b != (book, f)) }
  else if s.books.contains (book, f) then
    let s1 := ((s.bump Reg.evBookMismatches).raiseAll [0, f].dedup 0x0A28)
    bad.foldl (fun s x => s.abandon f x.cfg.round 0x0A28) { s1 with books := s1.books.filter (fun b => b != (book, f)) }
  else { s with books := (book, f) :: s.books }

/-- Audit a function's books (R424). -/
def State.audit (s : State) (f : Nat) : State := [1, 2, 3].foldl (fun s b => s.auditBook f b) s

end Sys2Proof.Machine
end

