-- ==== Sys2Proof/Machine/Noise.lean ====
section
/-! DEFINITION. Ciphertext descriptors (R113 to R115) and noise accounting (R119 to R122): estimates are numbers of bits in
8.8 fixed point, held as multiples of 1/256. -/
namespace Sys2Proof.Machine

/-! ## The descriptor (R113) -/

/-- The 64-byte descriptor as a number. -/
def CtDesc.toNat (d : CtDesc) : Nat :=
  d.ps + d.level * 2 ^ 8 + d.noise * 2 ^ 16 + d.keyset * 2 ^ 32 + b2n d.ntt * 2 ^ 96 + b2n d.ext * 2 ^ 97
    + b2n d.three * 2 ^ 98 + b2n d.alloc3 * 2 ^ 99 + b2n d.marked * 2 ^ 100 + d.autoK * 2 ^ 104 + d.tile * 2 ^ 128
    + d.wsel * 2 ^ 152 + d.count * 2 ^ 160 + d.nuIn * 2 ^ 200 + d.res * 2 ^ 216

/-- The descriptor a 64-byte record spells. -/
def CtDesc.ofNat (x : Nat) : CtDesc :=
  { ps := bits x 0 3, level := bits x 8 6, noise := bits x 16 16, keyset := bits x 32 64, ntt := bit x 96
    ext := bit x 97, three := bit x 98, alloc3 := bit x 99, marked := bit x 100, autoK := bits x 104 18
    tile := bits x 128 24, wsel := bits x 152 2, count := bits x 160 40, nuIn := bits x 200 16, res := bits x 216 7 }

/-- Parameter set of a descriptor. -/
def CtDesc.pset (d : CtDesc) : ParamSet := paramSet d.ps
/-- Components held. -/
def CtDesc.comps (d : CtDesc) : Nat := if d.three then 3 else 2
/-- Limb slots held per component (R114). -/
def CtDesc.slots (d : CtDesc) : Nat := d.level + 1 + (if d.ext then d.pset.k else 0)
/-- Tile of slot `j` of component `k`, column `c` (R114). -/
def CtDesc.tileAt (d : CtDesc) (k j c : Nat) : Nat := d.tile + (k * d.res + j) * d.pset.tiles + c
/-- Every tile the ciphertext reserves (R210). -/
def CtDesc.reserved (d : CtDesc) : List Nat :=
  (List.range ((if d.alloc3 then 3 else 2) * d.res * d.pset.tiles)).map (d.tile + ·)

/-- A record's descriptor is well formed under R115, its tiles within function `f`'s ranges. -/
def State.ctWf (s : State) (f x : Nat) : Bool :=
  let d := CtDesc.ofNat x
  bits x 3 5 == 0 && bits x 14 2 == 0 && bits x 101 3 == 0 && bits x 122 6 == 0 && bits x 154 6 == 0
    && bits x 223 289 == 0 && decide (d.level < d.pset.lq) && decide (1 ≤ d.res) && decide (d.res ≤ 64)
    && (d.autoK == 0 || (d.autoK % 2 == 1 && decide (d.autoK ≤ 2 * d.pset.n - 1)))
    && (!d.three || d.alloc3) && !(d.ext && d.ntt) && d.reserved.all (fun t => s.tileOk f t)

/-! ## Fixed-point logarithms (R119) -/

/-- The least `n` with `x ≤ 2^n`. -/
def ceilLog2 (x : Nat) : Nat := if x ≤ 1 then 0 else Nat.log2 (x - 1) + 1
/-- lg(x), in 1/256 bits, rounded up. -/
def lg (x : Nat) : Nat := ceilLog2 (x ^ 256)
/-- 256 · log2 x rounded down. -/
def lgDown (x : Nat) : Nat := Nat.log2 (x ^ 256)

/-- LOGQ[ℓ]. -/
def ParamSet.logQ (p : ParamSet) (l : Nat) : Nat := lgDown (p.bigQ l)
/-- LOGP. -/
def ParamSet.logP (p : ParamSet) : Nat := lgDown p.bigP
/-- Budget at a level, with or without the special primes; none when the level has no budget (R119). -/
def ParamSet.budget (p : ParamSet) (l w : Nat) (ext : Bool) : Option Nat :=
  let q := p.logQ l
  if q < (2 * w + 2) * 256 then none else some ((if ext then q + p.logP else q) - (w + 2) * 256)

/-- An estimate is within the budget (R119, R121 check 6). -/
def ParamSet.within (p : ParamSet) (l w : Nat) (ext : Bool) (nu : Nat) : Bool :=
  match p.budget l w ext with
  | some b => decide (nu ≤ b) && decide (nu < 2 ^ 16)
  | none => false

/-! ## Estimates (R120) -/

/-- NU_FRESH. -/
def ParamSet.nuFresh (p : ParamSet) : Nat := lg p.n + 6 * 256
/-- Key-switch digits D. -/
def ParamSet.digits (p : ParamSet) (l : Nat) : Nat := ceilDiv (l + 1) p.k
/-- ν_ks. -/
def ParamSet.nuKs (p : ParamSet) (l : Nat) : Nat := lg p.n + lg (p.digits l) + 9 * 256
/-- NU_LUTR. -/
def ParamSet.nuLutr (p : ParamSet) (l : Nat) : Nat := lg p.n + lg (p.digits l) + 12 * 256
/-- An additive result's estimate. -/
def nuAdd (w nuIn count : Nat) : Nat := if count ≤ 1 then nuIn else max nuIn (w * 256) + 256 + lg count
/-- Ciphertext × ciphertext. -/
def ParamSet.nuMul (p : ParamSet) (w a b : Nat) : Nat := max a b + w * 256 + lg p.n + 2 * 256
/-- KSW. -/
def ParamSet.nuKsw (p : ParamSet) (l nu : Nat) : Nat := max nu (p.nuKs l) + 256
/-- MODDN. -/
def ParamSet.nuModdn (p : ParamSet) (nu : Nat) : Nat := max (nu - p.logP) (lg p.n + 256) + 256
/-- RESC from level `l`. -/
def ParamSet.nuResc (p : ParamSet) (w l nu : Nat) : Nat := max (nu - lgDown (p.prime l)) (w * 256) + 256

/-- The descriptor after an additive operation with another summand's COUNT and NU_IN. -/
def CtDesc.add (d : CtDesc) (count nuIn : Nat) : CtDesc :=
  let c := d.count + count
  let v := max d.nuIn nuIn
  { d with count := c, nuIn := v, noise := nuAdd (wOf d.wsel) v c }

/-- The descriptor after an operation that is not additive: COUNT 1, NU_IN = NOISE. -/
def CtDesc.fresh (d : CtDesc) (nu : Nat) : CtDesc := { d with noise := nu, count := 1, nuIn := nu }

/-- Norms of R130: b_y from the round's L, M and the policy's τ. -/
def nlBits (l m tau : Nat) : Nat := ceilLog2 (max (l * m ^ 2) (tau ^ 2) + 1)

/-- The estimate of b on the blind path (R130): a fresh return times s, plus (1 − s)/2. -/
def ParamSet.nuBlind (p : ParamSet) (w : Nat) : Nat := max (p.nuFresh + 256) (w * 256) + 256 + 256
/-- The estimate of a contribution after step 4 of R129 with an indicator of estimate `nub`. -/
def ParamSet.nuKept (p : ParamSet) (w l nub : Nat) : Nat := p.nuKsw l (p.nuMul w p.nuFresh nub)

/-- NU_ENTRY: the larger over the paths NL_PATH enables (R120). -/
def ParamSet.nuEntry (p : ParamSet) (w l path : Nat) : Nat :=
  let blind := p.nuKept w l (p.nuBlind w)
  let lutr := p.nuKept w l (p.nuLutr l)
  match path with
  | 0 => p.nuFresh
  | 1 => blind
  | 2 => lutr
  | _ => max blind lutr

/-- `n` contributions are within the mode 3 sum limit (R120). -/
def ParamSet.sumOk (p : ParamSet) (w l path n : Nat) : Bool :=
  p.within l w false (max (p.nuEntry w l path) (w * 256) + 256 + lg n)

/-- The accumulator descriptors of a mode 3 round when it opens: empty, one per ciphertext, and the count ciphertext
(R114, R116). -/
def Round.ctAt (r : Round) (i : Nat) : CtDesc :=
  let c := r.cfg
  { ps := (c.m3.map (·.ps)).getD 0, level := c.limbs - 1, keyset := (c.m3.map (·.keyset)).getD 0
    tile := r.acc.getD (i * c.ctTiles) 0, wsel := c.wsel, res := c.limbs }

end Sys2Proof.Machine
end

