-- ==== Sys2Proof/Machine/Curve.lean ====
section
/-! DEFINITION. P-384: its points, ECDH, and ECDSA of FIPS 186-5 over SHA-384 (R12). -/
namespace Sys2Proof.Machine
open Sys2Proof

/-- The field's prime. -/
def p384P : Nat := 2 ^ 384 - 2 ^ 128 - 2 ^ 96 + 2 ^ 32 - 1
/-- The order. -/
def p384N : Nat :=
  0xffffffffffffffffffffffffffffffffffffffffffffffffc7634d81f4372ddf581a0db248b0a77aecec196accc52973
/-- b of y² = x³ − 3x + b. -/
def p384B : Nat :=
  0xb3312fa7e23ee7e4988e056be3f82d19181d9c6efe8141120314088f5013875ac656398d8a2ed19d2a85c8edd3ec2aef
/-- The base point. -/
def p384G : Nat × Nat :=
  (0xaa87ca22be8b05378eb1c71ef320ad746e1d3b628ba79b9859f741e082542a385502f25dbf55296c3a545e3872760ab7
   , 0x3617de4a96262c6f5d9e98bf9292dc29f8f41dbd289a147ce9da3113b5f0b8c00a60b1ce1d7e819d7a431d7c90ea0e5f)

/-- a − b in the field. -/
def fsub (a b : Nat) : Nat := (a + (p384P - b % p384P)) % p384P
/-- The inverse modulo an odd prime of 384 bits. -/
def inv384 (q a : Nat) : Nat := powMod q a 384 (q - 2)

/-- A point in Jacobian coordinates; z = 0 is the point at infinity. -/
structure Jac where
  x : Nat
  y : Nat
  z : Nat
  deriving DecidableEq, Repr

/-- The point at infinity. -/
def jacZero : Jac := ⟨1, 1, 0⟩

/-- Double a point. -/
def Jac.dbl (p : Jac) : Jac :=
  let q := p384P
  let yy := p.y * p.y % q
  let s := 4 * p.x * yy % q
  let zz := p.z * p.z % q
  let m := 3 * fsub p.x zz * (p.x + zz) % q
  let x := fsub (m * m) (2 * s)
  ⟨x, fsub (m * fsub s x) (8 * yy * yy), 2 * p.y * p.z % q⟩

/-- Add two points. -/
def Jac.add (a b : Jac) : Jac :=
  if a.z = 0 then b else if b.z = 0 then a
  else
    let q := p384P
    let z1 := a.z * a.z % q
    let z2 := b.z * b.z % q
    let u1 := a.x * z2 % q
    let u2 := b.x * z1 % q
    let s1 := a.y * z2 * b.z % q
    let s2 := b.y * z1 * a.z % q
    if u1 = u2 then (if s1 = s2 then a.dbl else jacZero)
    else
      let h := fsub u2 u1
      let r := fsub s2 s1
      let hh := h * h % q
      let hhh := hh * h % q
      let v := u1 * hh % q
      let x := fsub (fsub (r * r) hhh) (2 * v)
      ⟨x, fsub (r * fsub v x) (s1 * hhh), a.z * b.z * h % q⟩

/-- The multiple of a point by the low `n` bits of a scalar. -/
def Jac.mul (p : Jac) (k : Nat) : Nat → Jac
  | 0 => jacZero
  | n + 1 =>
    -- bits n and up first, then one doubling for each lower one
    (List.range (n + 1)).foldl (fun a i => if bit k (n - i) then a.dbl.add p else a.dbl) jacZero

/-- The affine coordinates; none at infinity. -/
def Jac.affine (p : Jac) : Option (Nat × Nat) :=
  if p.z = 0 then none
  else
    let i := inv384 p384P p.z
    some (p.x * (i * i % p384P) % p384P, p.y * (i * i % p384P * i % p384P) % p384P)

/-- An affine point. -/
def jacOf (p : Nat × Nat) : Jac := ⟨p.1, p.2, 1⟩
/-- A multiple of the base point. -/
def baseMul (k : Nat) : Jac := (jacOf p384G).mul k 384

/-- A pair lies on the curve. -/
def onCurve (p : Nat × Nat) : Bool :=
  decide (p.1 < p384P) && decide (p.2 < p384P)
    && (p.2 * p.2 + 3 * p.1) % p384P == (p.1 * p.1 % p384P * p.1 + p384B) % p384P

/-- The y of a compressed point: the root of the parity, when there is one. -/
def rootY (x par : Nat) : Nat :=
  let q := p384P
  let y := powMod q ((x * x % q * x + (q - 3) * x + p384B) % q) 384 ((q + 1) / 4)
  if y % 2 = par then y else (q - y) % q

/-- The point of an encoding of 97 or 49 bytes; none when it spells no point of the curve. -/
def pointOf (b : Bytes) : Option (Nat × Nat) :=
  let h := (b.headD 0).toNat
  let p := if b.length = 97 ∧ h = 4 then (beNat (slice b 1 48), beNat (slice b 49 48))
    else if b.length = 49 ∧ (h = 2 ∨ h = 3) then (beNat (slice b 1 48), rootY (beNat (slice b 1 48)) (h % 2))
    else (p384P, 0)
  if onCurve p then some p else none

/-- The uncompressed encoding of a multiple of the base point, 97 bytes. -/
def p384Point (k : Nat) : Bytes :=
  match (baseMul k).affine with
  | some (x, y) => 4 :: (toBe 48 x ++ toBe 48 y)
  | none => [0]

/-- ECDH: the 48 bytes of the shared x-coordinate, as the number they spell little-endian; zeros for no point. -/
def ecdh (k : Nat) (pub : Bytes) : Nat :=
  match (pointOf pub).bind (fun p => ((jacOf p).mul k 384).affine) with
  | some (x, _) => leNat (toBe 48 x)
  | none => 0

/-- ECDSA verification over SHA-384: public point, message, signature r ‖ s. -/
def ecdsaVerify (pub m sig : Bytes) : Bool :=
  let r := beNat (sig.take 48)
  let s := beNat (slice sig 48 48)
  match pointOf pub with
  | none => false
  | some q =>
    if sig.length ≠ 96 ∨ r = 0 ∨ p384N ≤ r ∨ s = 0 ∨ p384N ≤ s then false
    else
      let w := inv384 p384N s
      let e := beNat (sha384Bytes m)
      match ((baseMul (e * w % p384N)).add ((jacOf q).mul (r * w % p384N) 384)).affine with
      | some (x, _) => x % p384N == r
      | none => false

/-- ECDSA signature of a message under a scalar, 96 bytes. FIPS 186-5 leaves the choice of the per-message number. -/
def ecdsaSign (d : Nat) (m : Bytes) : Bytes :=
  let k := 1 + Config.ecdsaNonce d m % (p384N - 1)
  let r := match (baseMul k).affine with
    | some (x, _) => x % p384N
    | none => 0
  toBe 48 r ++ toBe 48 (inv384 p384N k * (beNat (sha384Bytes m) + r * d) % p384N)

end Sys2Proof.Machine
end

