-- ==== Sys2Proof/Machine/Float.lean ====
section
/-! DEFINITION. IEEE 754-2019 binary arithmetic to nearest, ties to even (R43, R46, R162): binary32, binary64 and binary128
as bit patterns. Every operation is exact and rounded once. -/
namespace Sys2Proof.Machine

/-- A binary interchange format: fraction bits and exponent bits. -/
structure FpFmt where
  mb : Nat
  eb : Nat
  deriving DecidableEq, Repr

/-- binary32. -/
def f32 : FpFmt := ⟨23, 8⟩
/-- binary64. -/
def f64 : FpFmt := ⟨52, 11⟩
/-- binary128. -/
def f128 : FpFmt := ⟨112, 15⟩

/-- All exponent bits set. -/
def FpFmt.emax (f : FpFmt) : Nat := 2 ^ f.eb - 1
/-- The exponent of the least significant fraction bit of a subnormal, as a negative power of two. -/
def FpFmt.low (f : FpFmt) : Nat := 2 ^ (f.eb - 1) - 2 + f.mb
/-- The canonical quiet NaN (R46). -/
def FpFmt.nan (f : FpFmt) : Nat := f.emax * 2 ^ f.mb + 2 ^ (f.mb - 1)
/-- Infinity of a sign. -/
def FpFmt.inf (f : FpFmt) (neg : Bool) : Nat := b2n neg * 2 ^ (f.mb + f.eb) + f.emax * 2 ^ f.mb
/-- Zero of a sign. -/
def FpFmt.zero (f : FpFmt) (neg : Bool) : Nat := b2n neg * 2 ^ (f.mb + f.eb)

/-- The value of a pattern: not a number, infinite, or a sign and a magnitude in units of 2^−low. -/
inductive FpVal where
  | nan
  | inf (neg : Bool)
  | fin (neg : Bool) (mag : Nat)
  deriving DecidableEq, Repr

/-- Read a pattern. -/
def FpFmt.val (f : FpFmt) (x : Nat) : FpVal :=
  let neg := bit x (f.mb + f.eb)
  let e := bits x f.mb f.eb
  let m := bits x 0 f.mb
  if e = f.emax then (if m = 0 then .inf neg else .nan)
  else if e = 0 then .fin neg m
  else .fin neg ((2 ^ f.mb + m) * 2 ^ (e - 1))

/-- Round a quotient to the nearest integer, ties to even. -/
def rne (num den : Nat) : Nat :=
  let q := num / den
  let r := num % den
  if den < 2 * r then q + 1 else if 2 * r = den then q + q % 2 else q

/-- The pattern nearest to ± num / den, in units of 2^−low, ties to even. -/
def FpFmt.round (f : FpFmt) (neg : Bool) (num den : Nat) : Nat :=
  let q := num / den
  let k := if q < 2 ^ (f.mb + 1) then 0 else Nat.log2 q - f.mb
  let m := rne num (den * 2 ^ k)
  let (m, k) := if m = 2 ^ (f.mb + 1) then (2 ^ f.mb, k + 1) else (m, k)
  if m < 2 ^ f.mb then f.zero neg + m
  else if f.emax ≤ k + 1 then f.inf neg
  else f.zero neg + (k + 1) * 2 ^ f.mb + (m - 2 ^ f.mb)

/-- The pattern nearest to the rational ± num / den. -/
def FpFmt.ofRat (f : FpFmt) (neg : Bool) (num den : Nat) : Nat := f.round neg (num * 2 ^ f.low) den

/-- The pattern nearest to a sum of two signed magnitudes over a common denominator. A zero sum takes the sign both have,
and + otherwise. -/
def FpFmt.sum (f : FpFmt) (n1 : Bool) (m1 : Nat) (n2 : Bool) (m2 den : Nat) : Nat :=
  if n1 = n2 then f.round n1 (m1 + m2) den
  else if m1 = m2 then f.zero false
  else if m2 < m1 then f.round n1 (m1 - m2) den
  else f.round n2 (m2 - m1) den

/-- Addition. -/
def FpFmt.add (f : FpFmt) (a b : Nat) : Nat :=
  match f.val a, f.val b with
  | .nan, _ => f.nan
  | _, .nan => f.nan
  | .inf s, .inf t => if s = t then f.inf s else f.nan
  | .inf s, .fin _ _ => f.inf s
  | .fin _ _, .inf t => f.inf t
  | .fin s m, .fin t n => f.sum s m t n 1

/-- Multiplication. -/
def FpFmt.mul (f : FpFmt) (a b : Nat) : Nat :=
  match f.val a, f.val b with
  | .nan, _ => f.nan
  | _, .nan => f.nan
  | .inf s, .inf t => f.inf (s != t)
  | .inf s, .fin t n => if n = 0 then f.nan else f.inf (s != t)
  | .fin s m, .inf t => if m = 0 then f.nan else f.inf (s != t)
  | .fin s m, .fin t n => f.round (s != t) (m * n) (2 ^ f.low)

/-- Division. -/
def FpFmt.div (f : FpFmt) (a b : Nat) : Nat :=
  match f.val a, f.val b with
  | .nan, _ => f.nan
  | _, .nan => f.nan
  | .inf _, .inf _ => f.nan
  | .inf s, .fin t _ => f.inf (s != t)
  | .fin s _, .inf t => f.zero (s != t)
  | .fin s m, .fin t n =>
    if n = 0 then (if m = 0 then f.nan else f.inf (s != t)) else f.round (s != t) (m * 2 ^ f.low) n

/-- Fused multiply-add a · b + c, rounded once. -/
def FpFmt.fma (f : FpFmt) (a b c : Nat) : Nat :=
  match f.val a, f.val b, f.val c with
  | .fin s m, .fin t n, .fin u k => f.sum (s != t) (m * n) u (k * 2 ^ f.low) (2 ^ f.low)
  | .fin _ _, .fin _ _, .inf u => f.inf u
  | _, _, _ => f.add (f.mul a b) c

/-- The pattern nearest to the square root of num / den, in units of 2^−low, ties to even. -/
def FpFmt.roundSqrt (f : FpFmt) (num den : Nat) : Nat :=
  -- scale so that the integer root carries more bits than the format, and let a sticky bit decide ties
  let k := 2 * (f.mb + 4)
  let q := num * 4 ^ k / den
  let r := Nat.sqrt q
  let sticky := if r * r * den = num * 4 ^ k then 0 else 1
  f.round false (2 * r + sticky) (2 * 2 ^ k)

/-- Square root. -/
def FpFmt.sqrt (f : FpFmt) (a : Nat) : Nat :=
  match f.val a with
  | .nan => f.nan
  | .inf neg => if neg then f.nan else f.inf false
  | .fin neg m => if m = 0 then f.zero neg else if neg then f.nan else f.roundSqrt (m * 2 ^ f.low) 1

/-- a > b, false when either is NaN. -/
def FpFmt.gt (f : FpFmt) (a b : Nat) : Bool :=
  match f.val a, f.val b with
  | .nan, _ => false
  | _, .nan => false
  | .inf s, .inf t => !s && t
  | .inf s, .fin _ _ => !s
  | .fin _ _, .inf t => t
  | .fin s m, .fin t n =>
    decide ((if t then -(n : Int) else (n : Int)) < (if s then -(m : Int) else (m : Int)))

/-- The negation of a number. -/
def FpFmt.neg (f : FpFmt) (a : Nat) : Nat :=
  match f.val a with
  | .nan => f.nan
  | _ => if bit a (f.mb + f.eb) then a - f.zero true else a + f.zero true

/-- Convert between formats, rounded once. -/
def FpFmt.convert (f g : FpFmt) (a : Nat) : Nat :=
  match f.val a with
  | .nan => g.nan
  | .inf s => g.inf s
  | .fin s m => g.round s (m * 2 ^ g.low) (2 ^ f.low)

/-- The pattern is infinite or NaN. -/
def FpFmt.nonfinite (f : FpFmt) (a : Nat) : Bool := bits a f.mb f.eb == f.emax

end Sys2Proof.Machine
end

