-- ==== Sys2Proof/Machine/Exp.lean ====
section
/-! DEFINITION. e to a non-positive quotient, correctly rounded to binary128 (R162). A bound below and one above are sharpened
until both round to the same pattern: e^(−p/q) of a quotient that is not 0 is irrational, so some precision decides. -/
namespace Sys2Proof.Machine

/-- Partial sums of e^y for y = p/q below 1, in units of 2^−w: `n` terms from term `i` on, the term and the sum so far, each
division rounded down, or up. -/
def expSum (up : Bool) (p q : Nat) : Nat → Nat → Nat → Nat → Nat
  | 0, _, t, s => if up then s + 2 * t else s
  | n + 1, i, t, s =>
    let t' := if up then (t * p + (q * i - 1)) / (q * i) else t * p / (q * i)
    expSum up p q n (i + 1) t' (s + t')

/-- Square `n` times, in units of 2^−w, rounded down or up. -/
def expSquare (up : Bool) (w : Nat) : Nat → Nat → Nat
  | 0, x => x
  | n + 1, x => expSquare up w n (if up then (x * x + (2 ^ w - 1)) / 2 ^ w else x * x / 2 ^ w)

/-- A bound of e^(p/q) in units of 2^−w: e^(p/(q · 2^k)) by its series, squared k times. -/
def expBound (up : Bool) (w p q : Nat) : Nat :=
  let k := Nat.log2 (p / q + 1) + 1
  expSquare up w k (expSum up p (q * 2 ^ k) w 1 (2 ^ w) (2 ^ w))

/-- e^(−p/q) as a binary128 pattern, with `n` more precisions to try from `w` bits on. -/
def expTry (p q : Nat) : Nat → Nat → Nat
  | 0, w => f128.ofRat false (2 ^ w) (expBound false w p q)
  | n + 1, w =>
    let lo := f128.ofRat false (2 ^ w) (expBound true w p q)
    let hi := f128.ofRat false (2 ^ w) (expBound false w p q)
    if lo = hi then lo else expTry p q n (2 * w)

/-- e^(−p/q) in binary128, correctly rounded. -/
def exp128 (p q : Nat) : Nat := expTry p q 12 320

end Sys2Proof.Machine
end

