-- ==== Sys2Proof/Machine/Lms.lean ====
section
/-! DEFINITION. LMS with LMOTS_SHA256_N32_W8 (RFC 8554, SP 800-208; R12, R340, R343). A private key is 48 bytes: the 32-byte
seed, then the 16-byte identifier I. -/
namespace Sys2Proof.Machine
open Sys2Proof

/-- The 34 digits of a message digest with its checksum. -/
def otsDigits (q : Bytes) : List Nat :=
  let ds := q.map (·.toNat)
  let c := (ds.map (255 - ·)).sum
  ds ++ [c / 256, c % 256]

/-- Chain `i` of leaf `q` run over the digits `ds`. -/
def otsChain (id : Bytes) (q i : Nat) (ds : List Nat) (x : Bytes) : Bytes :=
  ds.foldl (fun x j => sha256Bytes (id ++ toBe 4 q ++ toBe 2 i ++ toBe 1 j ++ x)) x

/-- The LM-OTS public key from the ends of the 34 chains. -/
def otsPublic (id : Bytes) (q : Nat) (zs : List Bytes) : Bytes := sha256Bytes (id ++ toBe 4 q ++ toBe 2 0x8080 ++ zs.flatten)
/-- The digest a signature of leaf `q` signs. -/
def otsDigest (id : Bytes) (q : Nat) (c m : Bytes) : Bytes := sha256Bytes (id ++ toBe 4 q ++ toBe 2 0x8181 ++ c ++ m)
/-- The private value of chain `i` (SP 800-208, appendix A of RFC 8554). -/
def otsPrivate (seed id : Bytes) (q i : Nat) : Bytes := sha256Bytes (id ++ toBe 4 q ++ toBe 2 i ++ [0xFF] ++ seed)

/-- The leaf node of an LM-OTS public key in a tree of height `h`. -/
def lmsLeaf (id : Bytes) (h q : Nat) (k : Bytes) : Bytes := sha256Bytes (id ++ toBe 4 (2 ^ h + q) ++ toBe 2 0x8282 ++ k)
/-- An interior node from its children. -/
def lmsJoin (id : Bytes) (r : Nat) (a b : Bytes) : Bytes := sha256Bytes (id ++ toBe 4 r ++ toBe 2 0x8383 ++ a ++ b)

/-- The node numbered `r`, `n` levels above the leaves, of a private key's tree of height `h`. -/
def lmsNode (seed id : Bytes) (h : Nat) : Nat → Nat → Bytes
  | 0, r =>
    let q := r - 2 ^ h
    lmsLeaf id h q (otsPublic id q ((List.range 34).map (fun i => otsChain id q i (List.range 255) (otsPrivate seed id q i))))
  | n + 1, r => lmsJoin id r (lmsNode seed id h n (2 * r)) (lmsNode seed id h n (2 * r + 1))

/-- The root reached from the node numbered `r` by a path. -/
def lmsClimb (id : Bytes) : Nat → Bytes → List Bytes → Bytes
  | _, x, [] => x
  | r, x, p :: ps => lmsClimb id (r / 2) (if r % 2 = 1 then lmsJoin id (r / 2) p x else lmsJoin id (r / 2) x p) ps

/-- The typecode of a tree of height `h`: 5, 10, 15, 20, 25. -/
def lmsType (h : Nat) : Nat := h / 5 + 4

/-- Verification: public key (type, LM-OTS type, I, root), message, signature, for a tree of height `h`. -/
def lmsVerify (h : Nat) (pub m sig : Bytes) : Bool :=
  let id := slice pub 8 16
  let q := beNat (sig.take 4)
  let c := slice sig 8 32
  let ys := blocksOf 32 34 (slice sig 40 1088)
  let zs := (ys.zip (otsDigits (otsDigest id q c m))).mapIdx (fun i p => otsChain id q i ((List.range 255).drop p.2) p.1)
  decide (pub.length = 56) && pub.take 8 == toBe 4 (lmsType h) ++ toBe 4 4 && decide (sig.length = 1132 + 32 * h)
    && slice sig 4 4 == toBe 4 4 && slice sig 1128 4 == toBe 4 (lmsType h) && decide (q < 2 ^ h)
    && lmsClimb id (2 ^ h + q) (lmsLeaf id h q (otsPublic id q zs)) (blocksOf 32 h (sig.drop 1132)) == pub.drop 24

/-- The seed and the identifier of a private key given as the number its 48 bytes spell. -/
def lmsSplit (key : Nat) : Bytes × Bytes := (toLe 32 key, toLe 16 (key / 2 ^ 256))

/-- The public key of a private key, for a tree of height `h`: 56 bytes. -/
def lmsPublic (h key : Nat) : Bytes :=
  let (seed, id) := lmsSplit key
  toBe 4 (lmsType h) ++ toBe 4 4 ++ id ++ lmsNode seed id h h 1

/-- The signature of a message with leaf `q`, for a tree of height `h`. -/
def lmsSign (h key q : Nat) (m : Bytes) : Bytes :=
  let (seed, id) := lmsSplit key
  let c := toLe 32 (Config.lmsRandom key q m)
  let ys := (otsDigits (otsDigest id q c m)).mapIdx (fun i d => otsChain id q i (List.range d) (otsPrivate seed id q i))
  let path := (List.range h).map (fun n => lmsNode seed id h n (Nat.xor ((2 ^ h + q) / 2 ^ n) 1))
  toBe 4 q ++ toBe 4 4 ++ c ++ ys.flatten ++ toBe 4 (lmsType h) ++ path.flatten

end Sys2Proof.Machine
end

