-- ==== Sys2Proof/Machine/MlKem.lean ====
section
/-! DEFINITION. ML-KEM-1024 of FIPS 203 (R12): k = 4, η = 2, d_u = 11, d_v = 5, over polynomials of 256 coefficients modulo
3,329. -/
namespace Sys2Proof.Machine
open Sys2Proof

/-- The modulus. -/
def kemQ : Nat := 3329
/-- The low seven bits of `i` in reverse order. -/
def rev7 (i : Nat) : Nat := (List.range 7).foldl (fun a j => a + (if bit i j then 2 ^ (6 - j) else 0)) 0
/-- ζ^e, ζ = 17. -/
def kemZeta (e : Nat) : Nat := powMod kemQ 17 8 e

/-! ## Polynomials -/

/-- One layer of the transform: blocks of 2 · `len`, the first with twiddle number `k`. -/
def kemLayer (len : Nat) (a : List Nat) : List Nat :=
  (List.range 256).map (fun j =>
    let b := j / (2 * len)
    let z := kemZeta (rev7 (128 / len + b))
    let i := j % (2 * len)
    let lo := a.getD (b * 2 * len + i % len) 0
    let t := z * a.getD (b * 2 * len + i % len + len) 0 % kemQ
    if i < len then (lo + t) % kemQ else (lo + kemQ - t) % kemQ)

/-- NTT. -/
def kemNtt (a : List Nat) : List Nat := [128, 64, 32, 16, 8, 4, 2].foldl (fun a l => kemLayer l a) a

/-- One layer of the inverse transform. -/
def kemLayerInv (len : Nat) (a : List Nat) : List Nat :=
  (List.range 256).map (fun j =>
    let b := j / (2 * len)
    let z := kemZeta (rev7 (256 / len - 1 - b))
    let i := j % (2 * len)
    let lo := a.getD (b * 2 * len + i % len) 0
    let hi := a.getD (b * 2 * len + i % len + len) 0
    if i < len then (lo + hi) % kemQ else z * ((hi + kemQ - lo) % kemQ) % kemQ)

/-- Inverse NTT. -/
def kemIntt (a : List Nat) : List Nat :=
  ([2, 4, 8, 16, 32, 64, 128].foldl (fun a l => kemLayerInv l a) a).map (fun x => x * 3303 % kemQ)

/-- The product of two transformed polynomials. -/
def kemMul (a b : List Nat) : List Nat :=
  (List.range 256).map (fun j =>
    let i := j / 2
    let a0 := a.getD (2 * i) 0
    let a1 := a.getD (2 * i + 1) 0
    let b0 := b.getD (2 * i) 0
    let b1 := b.getD (2 * i + 1) 0
    if j % 2 = 0 then (a0 * b0 + a1 * b1 % kemQ * kemZeta (2 * rev7 i + 1)) % kemQ else (a0 * b1 + a1 * b0) % kemQ)

/-- The sum of two polynomials. -/
def kemAdd (a b : List Nat) : List Nat := (a.zip b).map (fun p => (p.1 + p.2) % kemQ)
/-- The difference. -/
def kemSub (a b : List Nat) : List Nat := (a.zip b).map (fun p => (p.1 + kemQ - p.2) % kemQ)
/-- The sum of products of two vectors. -/
def kemDot (a b : List (List Nat)) : List Nat :=
  (a.zip b).foldl (fun s p => kemAdd s (kemMul p.1 p.2)) (List.replicate 256 0)

/-! ## Encodings -/

/-- Coefficients of `d` bits as bytes. -/
def kemEncode (d : Nat) (a : List Nat) : Bytes :=
  toLe (32 * d) ((List.range 256).foldl (fun s i => s + a.getD i 0 * 2 ^ (d * i)) 0)
/-- Bytes as coefficients of `d` bits. -/
def kemDecode (d : Nat) (b : Bytes) : List Nat :=
  let x := leNat b
  (List.range 256).map (fun i => bits x (d * i) d)
/-- Compress to `d` bits. -/
def kemCompress (d x : Nat) : Nat := (2 * x * 2 ^ d + kemQ) / (2 * kemQ) % 2 ^ d
/-- Decompress from `d` bits. -/
def kemDecompress (d y : Nat) : Nat := (2 * y * kemQ + 2 ^ d) / 2 ^ (d + 1)

/-! ## Sampling -/

/-- Coefficients below q among pairs cut from three bytes, `n` of them at most. -/
def kemReject : Nat → Nat → Bytes → List Nat
  | _, 0, _ => []
  | 0, _, _ => []
  | fuel + 1, n + 1, b =>
    let x := leNat (b.take 3)
    let d1 := x % 4096
    let d2 := x / 4096
    if d1 < kemQ then d1 :: (match n with
      | 0 => []
      | n' + 1 => if d2 < kemQ then d2 :: kemReject fuel n' (b.drop 3) else kemReject fuel (n' + 1) (b.drop 3))
    else if d2 < kemQ then d2 :: kemReject fuel n (b.drop 3) else kemReject fuel (n + 1) (b.drop 3)

/-- SampleNTT: entry (i, j) of the matrix of ρ; 16 blocks of SHAKE128 hold 256 coefficients but for odds below 2^−200. -/
def kemMatrix (rho : Bytes) (i j : Nat) : List Nat :=
  kemReject 896 256 (shake128 (rho ++ [BitVec.ofNat 8 j, BitVec.ofNat 8 i]) 2688)

/-- SamplePolyCBD with η = 2. -/
def kemCbd (b : Bytes) : List Nat :=
  let x := leNat b
  (List.range 256).map (fun i =>
    let y := bits x (4 * i) 4
    (y % 2 + y / 2 % 2 + kemQ - y / 4 % 2 - y / 8) % kemQ)
/-- The noise polynomial `n` of a seed. -/
def kemNoise (s : Bytes) (n : Nat) : List Nat := kemCbd (shake256 (s ++ [BitVec.ofNat 8 n]) 128)

/-! ## K-PKE -/

/-- Keys of d: the encryption key and the transformed secret. -/
def kemKeys (d : Bytes) : Bytes × List (List Nat) :=
  let g := sha3_512 (d ++ [4])
  let rho := g.take 32
  let sigma := g.drop 32
  let s := (List.range 4).map (fun i => kemNtt (kemNoise sigma i))
  let t := (List.range 4).map (fun i =>
    kemAdd (kemDot ((List.range 4).map (kemMatrix rho i)) s) (kemNtt (kemNoise sigma (4 + i))))
  (t.flatMap (kemEncode 12) ++ rho, s)

/-- Encryption of 32 bytes under a key with randomness `r`: 1,568 bytes. -/
def kemEncrypt (ek m r : Bytes) : Bytes :=
  let t := (List.range 4).map (fun i => (kemDecode 12 (slice ek (384 * i) 384)).map (· % kemQ))
  let rho := ek.drop 1536
  let y := (List.range 4).map (fun i => kemNtt (kemNoise r i))
  let u := (List.range 4).map (fun i =>
    kemAdd (kemIntt (kemDot ((List.range 4).map (fun j => kemMatrix rho j i)) y)) (kemNoise r (4 + i)))
  let mu := (kemDecode 1 m).map (kemDecompress 1)
  let v := kemAdd (kemAdd (kemIntt (kemDot t y)) (kemNoise r 8)) mu
  u.flatMap (fun p => kemEncode 11 (p.map (kemCompress 11))) ++ kemEncode 5 (v.map (kemCompress 5))

/-- Decryption under the transformed secret. -/
def kemDecrypt (s : List (List Nat)) (c : Bytes) : Bytes :=
  let u := (List.range 4).map (fun i => (kemDecode 11 (slice c (352 * i) 352)).map (kemDecompress 11))
  let v := (kemDecode 5 (c.drop 1408)).map (kemDecompress 5)
  kemEncode 1 ((kemSub v (kemIntt (kemDot s (u.map kemNtt)))).map (kemCompress 1))

/-! ## ML-KEM -/

/-- The encapsulation key of a seed d ‖ z, given as the number its 64 bytes spell: 1,568 bytes. -/
def mlkemPublic (seed : Nat) : Bytes := (kemKeys (toLe 32 seed)).1

/-- The shared secret and randomness of a message and a key. -/
def kemDerive (m ek : Bytes) : Bytes × Bytes :=
  let g := sha3_512 (m ++ sha3_256 ek)
  (g.take 32, g.drop 32)

/-- Encapsulation under a key with 32 random bytes, given as a number: the ciphertext. -/
def mlkemEncap (ek : Bytes) (m : Nat) : Bytes := kemEncrypt ek (toLe 32 m) (kemDerive (toLe 32 m) ek).2
/-- The shared secret of that encapsulation, as the number its bytes spell. -/
def mlkemShared (ek : Bytes) (m : Nat) : Nat := leNat (kemDerive (toLe 32 m) ek).1

/-- Decapsulation: seed d ‖ z, ciphertext; a ciphertext that does not come again gives the rejection secret. -/
def mlkemDecap (seed : Nat) (c : Bytes) : Nat :=
  let (ek, s) := kemKeys (toLe 32 seed)
  let m := kemDecrypt s c
  let (k, r) := kemDerive m ek
  leNat (if kemEncrypt ek m r = c then k else shake256 (toLe 32 (seed / 2 ^ 256) ++ c) 32)

end Sys2Proof.Machine
end

