-- ==== Sys2Proof/Machine/Streams.lean ====
section
/-! DEFINITION. Digests and keystreams: hashes as numbers, AES-256-CTR masks (mode 0, R96), the bulk streams (R322, R323),
the sampler table and draws (R162, R163), the Merkle roots (R172). -/
namespace Sys2Proof.Machine
open Sys2Proof

/-! ## Hashes -/

/-- SHA-256 as a number; its bytes are `toLe 32`. -/
def sha256N (b : Bytes) : Nat := leNat (sha256Bytes b)
/-- SHA-384 as a number; its bytes are `toLe 48`. -/
def sha384N (b : Bytes) : Nat := leNat (sha384Bytes b)
/-- The first 32 bytes of a SHA-384 digest. -/
def sha384Key (b : Bytes) : Nat := sha384N b % 2 ^ 256

/-! ## The identity key (R240) -/

/-- The identity key of a function, 0 when it has none. -/
def State.idScalar (s : State) (f : Nat) : Nat := ((s.fn f).idKey).getD 0
/-! ## Merkle roots (R172) -/

/-- One level: leaves pair in order, an odd node passes up. -/
def merkleLevel : List Nat → List Nat
  | a :: b :: l => sha256N (1 :: (toLe 32 a ++ toLe 32 b)) :: merkleLevel l
  | l => l

/-- Levels up to a root, at most `k` of them. -/
def merkleUp : Nat → List Nat → List Nat
  | 0, l => l
  | k + 1, l => merkleUp k (merkleLevel l)

/-- The root of a list of leaves. -/
def merkleRoot (l : List Nat) : Nat :=
  if l.isEmpty then sha256N [2] else (merkleUp (Nat.log2 l.length + 1) l).headD 0

/-- Leaves in logical order, as a root. -/
def rootOf (leaves : List (Nat × Nat)) : Nat := merkleRoot ((sortBy (·.1) leaves).map (·.2))

/-- An ACC_DIGEST leaf: the tile as it lies, its tag without TENANT, FAR, EPOCH and KEYGEN. -/
def State.accLeaf (s : State) (x t : Nat) : Nat :=
  let g := { s.tag t with tenant := 0, far := false, epoch := 0, keygen := 0 }
  sha256N (0 :: (toLe 3 x ++ toLe 32 g.toNat ++ s.tileBytes t 0 tileSize))

/-! ## Mode 0 masks -/

/-- Byte `i` of a keystream given by its blocks. -/
def keyByte (block : Nat → Nat) (i : Nat) : Nat := block (i / 16) / 256 ^ (i % 16) % 256
/-- Element `j` of `pe` bytes of a keystream. -/
def keyElem (block : Nat → Nat) (pe j : Nat) : Nat :=
  leNat ((List.range pe).map (fun i => BitVec.ofNat 8 (keyByte block (j * pe + i))))
/-- Block `b` of the prg keystream of mode 0: ROUND in bytes 0–4, TILE_BASE in 5–7, the counter in 8–15. -/
def prgBlock (k round tileBase b : Nat) : Nat := aesN k (round % 2 ^ 40 + tileBase * 2 ^ 40 + b % 2 ^ 64 * 2 ^ 64)
/-- Element `j` of the expansion of seed `k`. -/
def prgElem (k round tileBase pe j : Nat) : Nat := keyElem (prgBlock k round tileBase) pe j
/-- The edge seed of `u` and `v` from the shared x-coordinate. -/
def edgeSeed (x round u v : Nat) : Nat :=
  sha256N (asciiBytes "CLTH-PAIR-1" ++ toLe 48 x ++ toLe 5 round ++ toLe 3 (min u v) ++ toLe 3 (max u v))

/-! ## Bulk streams (R322, R323) -/

/-- The key of a stream. -/
def streamKey (src seed tag stepc p : Nat) : Nat :=
  sha384Key (asciiBytes "CLTH-STRM-1" ++ toLe 1 src ++ toLe 32 seed ++ toLe 4 tag ++ toLe 8 stepc ++ toLe 3 p)
/-- Block `b` of the stream under `k`. -/
def streamBlock (k b : Nat) : Nat := aesN k b
/-- 64-bit word `i` of the stream under `k`. -/
def streamWord (k i : Nat) : Nat := streamBlock k (i / 2) / 2 ^ (64 * (i % 2)) % 2 ^ 64
/-- The step counter of a round and step index. -/
def stepOf (round idx : Nat) : Nat := round % 2 ^ 40 * 2 ^ 24 + idx
/-- Step index of the noise stream (R164). -/
def noiseStep : Nat := 0xFFFFFE
/-- Step index of the row directory key (R143). -/
def dirStep : Nat := 0xFFFFFF
/-- TENANT_TAG of function `f` (R352). -/
def State.tenantTag (s : State) (f : Nat) : Nat := s.rd Reg.fnTenantTag f
/-- The key of a stream of function `f`; none with SRC 1 and no sealed noise seed. -/
def State.streamOf (s : State) (f src seed stepc p : Nat) : Option Nat :=
  if src = 0 then some (streamKey 0 seed (s.tenantTag f) stepc p)
  else (s.fn f).noiseSeed.map (fun n => streamKey 1 n (s.tenantTag f) stepc p)

/-- Words of a stream below `q`, `n` of them, from word `i`, looking at no more than `fuel` words (R323: rejection on
public seeds). -/
def rejection (k q : Nat) : Nat → Nat → Nat → List Nat
  | 0, _, _ => []
  | _, 0, _ => []
  | fuel + 1, n + 1, i =>
    let w := streamWord k i
    if w < q then w :: rejection k q fuel n (i + 1) else rejection k q fuel (n + 1) (i + 1)

/-! ## The sampler (R162, R163) -/

/-- An integer in binary128. -/
def q128 (n : Nat) : Nat := f128.ofRat false n 1

/-- J of R162. -/
def noiseJ (sigma : Nat) : Nat := if sigma ≤ 2 ^ 17 then 0 else sigma / 2 ^ 17

/-- σ_b in binary128, as a pattern. -/
def sigmaB (sigma : Nat) : Nat :=
  f128.div (f128.ofRat false sigma 2048) (f128.sqrt (q128 (1 + noiseJ sigma * noiseJ sigma)))

/-- The magnitude of a finite pattern, in units of 2^−low. -/
def mag128 (x : Nat) : Nat :=
  match f128.val x with
  | .fin _ m => m
  | _ => 0

/-- t_b = ⌈14 · σ_b⌉. -/
def tableTop (sb : Nat) : Nat := ceilDiv (14 * mag128 sb) (2 ^ f128.low)

/-- w[k] in binary128, for σ_b `sb`. -/
def weight (sb k : Nat) : Nat :=
  if k = 0 then q128 1
  else
    let den := f128.mul (f128.mul (q128 2) sb) sb
    let a := f128.div (q128 (k * k)) den
    f128.mul (q128 2) (exp128 (mag128 a) (2 ^ f128.low))

/-- The running sums pre[0] to pre[t_b]. -/
def prefixSums (sb : Nat) : Nat → Nat → Nat → List Nat
  | 0, _, _ => []
  | n + 1, k, p =>
    let p' := f128.add p (weight sb k)
    p' :: prefixSums sb n (k + 1) p'

/-- The table T[0] to T[t_b] of a base σ_b; an entry of 2^64 is held as 2^64 − 1. DEDUCED -/
def baseTable (sb : Nat) : List Nat :=
  let tb := tableTop sb
  let pre := prefixSums sb (tb + 1) 0 (f128.zero false)
  let last := pre.getLastD 0
  (pre.take tb).map (fun p => min (mag128 (f128.div p last) * 2 ^ 64 / 2 ^ f128.low) (2 ^ 64 - 1)) ++ [2 ^ 64 - 1]

/-- The table of a policy's SIGMA. -/
def noiseTable (sigma : Nat) : List Nat := baseTable (sigmaB sigma)

/-- TABLE_DIGEST of a σ (R162). -/
def tableDigest (sigma : Nat) : Nat := if sigma = 0 then 0 else sha256N ((noiseTable sigma).flatMap (toLe 8))

/-- The largest noise magnitude H (R165). -/
def noiseH (sigma : Nat) : Nat := if sigma = 0 then 0 else (1 + noiseJ sigma) * tableTop (sigmaB sigma)

/-- One draw from a 128-bit block (R163). -/
def drawY (t : List Nat) (block : Nat) : Int :=
  let mag := (t.filter (fun x => decide (x < block % 2 ^ 64))).length
  if bit block 64 then -(mag : Int) else mag

/-- z of element `i` under stream key `k` (R162, R164). -/
def noiseZ (sigma : Nat) (t : List Nat) (k i : Nat) : Int :=
  if sigma = 0 then 0
  else drawY t (streamBlock k (2 * i)) + (noiseJ sigma : Int) * drawY t (streamBlock k (2 * i + 1))

/-- The table of the Gaussian of σ = 3.2 (R110, R217). -/
def table32 : List Nat := baseTable (f128.ofRat false 16 5)

end Sys2Proof.Machine
end

