-- ==== Sys2Proof/Machine/Unmask.lean ====
section
/-! DEFINITION. Unmasking: secret sharing over a prime field (R93, R95, R99), the roster (R93), which secrets a round needs
(R94, R96), the tallies, and the mask expansions of modes 0 and 1 (R96, R99). -/
namespace Sys2Proof.Machine
open Sys2Proof

/-! ## Interpolation -/

/-- The Lagrange coefficient of point `x` at `x0`, over the points `xs`. -/
def lagrange (m x0 x : Nat) (xs : List Nat) : Nat :=
  (xs.filter (· != x)).foldl (fun a y => a * ((x0 + m - y % m) % m) % m * invMod m ((x + m - y % m) % m) % m) 1

/-- The value at `x0` of the polynomial through the points. -/
def interpolate (m x0 : Nat) (pts : List (Nat × Nat)) : Nat :=
  (pts.map (fun p => p.2 * lagrange m x0 p.1 (pts.map (·.1)))).sum % m

/-- p of the shares of mode 0. -/
def shareP : Nat := 2 ^ 61 - 1
/-- q of the seeds of mode 1. -/
def seedQ : Nat := 29 * 2 ^ 57 + 1

/-- Load the constants of a modulus beside those in force: an even q or q < 3 installs none (R32). -/
def loadModulus (cur : Option Nat) (q : Nat) : Nat × Option Nat :=
  if q % 2 = 0 ∨ q < 3 then (0x0107, cur) else (0, some q)

/-- The modulus of a round's shares is loaded where they are reconstructed or expanded (R32, R95, R97): both are odd, so no
round meets 0x0107. -/
def State.loadShareModulus (s : State) (mode : Nat) : State :=
  { s with modulus := (loadModulus s.modulus (if mode = 1 then seedQ else shareP)).2 }

/-! ## Share records (R93) -/

/-- A 64-byte share record; none when it is malformed. -/
def parseShare (b : Bytes) : Option Share :=
  let x := leNat b
  let ys := (List.range 7).map (fun i => bits x (64 + 64 * i) 64)
  if bits x 0 16 = 0 ∨ 2 ≤ bits x 16 2 ∨ bits x 18 6 ≠ 0 ∨ bits x 48 16 ≠ 0 ∨ ys.any (fun y => decide (shareP ≤ y)) then none
  else some { owner := bits x 24 24, kind := bits x 16 2, x := bits x 0 16, ys := ys }

/-- The records of a recovery payload of `len` bytes at landing-zone tile `lz`. -/
def State.shareRecords (s : State) (lz len : Nat) : List (Option Share) :=
  (List.range (len / 64)).map (fun i => parseShare (s.payload lz (64 * i) 64))

/-- A mode 1 aggregated share: X, reserved fields, COHORT_DIGEST, coefficients (R97). -/
structure AggRec where
  x : Nat
  rsvd : Bool
  digest : Nat
  coef : List Nat
  deriving DecidableEq, Repr

/-- The aggregated share at landing-zone tile `lz`. -/
def State.aggRecord (s : State) (lz : Nat) : AggRec :=
  { x := leNat (s.payload lz 0 2)
    rsvd := allZero (s.payload lz 2 6) && allZero (s.payload lz 40 24)
    digest := leNat (s.payload lz 8 32)
    coef := (List.range 1024).map (fun i => leNat (s.payload lz (64 + 8 * i) 8)) }

/-- The record is malformed (R97, R98). -/
def AggRec.bad (a : AggRec) (slot : Nat) : Bool := a.x != slot || !a.rsvd || a.coef.any (fun c => decide (seedQ ≤ c))

/-! ## Cohort, roster and needed secrets -/

/-- Slots of the round's own cohort, ascending. -/
def Round.ownCohort (r : Round) : List Nat := (r.dedup.filter (fun p => p.2 == 2)).map (·.1)
/-- Slots of the cohort unmasking works for: with the children's in a staircase (R293). -/
def Round.cohortSlots (r : Round) : List Nat :=
  if r.cfg.isStair then sortBy id (r.ownCohort ++ r.stair.merged).dedup else r.ownCohort
/-- A bitmap of ⌈SLOTS / 8⌉ bytes over slots (R96, R293). -/
def bitmapOf (n : Nat) (slots : List Nat) : Bytes :=
  (List.range (ceilDiv n 8)).map (fun i =>
    BitVec.ofNat 8 ((slots.filter (fun x => x / 8 == i)).map (fun x => 2 ^ (x % 8))).sum)
/-- The slots a bitmap sets. -/
def slotsOf (n : Nat) (b : Bytes) : List Nat :=
  (List.range n).filter (fun i => bit (b.getD (i / 8) 0).toNat (i % 8))

/-- The contents of a round's roster tiles, by offset. -/
def State.rosterData (s : State) (c : RoundCfg) : List (Nat × Byte) :=
  (s.tiles.filter (fun p => c.rosterBase * tileSize ≤ p.1 && p.1 < (c.rosterBase + c.rosterNt) * tileSize)).map
    (fun p => (p.1 - c.rosterBase * tileSize, p.2))
/-- Neighbours of a slot in the roster. -/
def State.neighbours (s : State) (c : RoundCfg) (u : Nat) : List Nat := Config.rosterNeighbours (s.rosterData c) u
/-- Slots of the roster. -/
def State.rosterSlots (s : State) (c : RoundCfg) : List Nat :=
  (List.range c.slots).filter (fun u => Config.rosterHas (s.rosterData c) u)

/-- The kind of secret that may be reconstructed for an owner (R94). -/
def State.permitted (s : State) (r : Round) (owner : Nat) : Option Nat :=
  if r.cohortSlots.contains owner then some 0
  else if Config.rosterHas (s.rosterData r.cfg) owner then some 1 else none

/-- The secrets UNMASK needs in mode 0 (R96): each cohort member's seed, and the pairwise secret of each dropped client
that has a neighbour in the cohort. -/
def State.needed (s : State) (r : Round) : List (Nat × Nat) :=
  let c := r.cohortSlots
  c.map (fun u => (u, 0)) ++
    ((s.rosterSlots r.cfg).filter (fun d => !c.contains d && (s.neighbours r.cfg d).any (fun u => c.contains u))).map
      (fun d => (d, 1))

/-- Recovery messages the round holds. -/
def Round.recoveries (r : Round) : List Msg := (r.intake ++ r.live).filter (fun m => m.kind == .recovery)

/-- Distinct X received for a secret, handled or not (R96). -/
def State.tally0 (s : State) (r : Round) (owner kind : Nat) : Nat :=
  let held := (r.um.shares.filter (fun h => h.owner == owner && h.kind == kind)).map (·.x)
  let waiting := r.recoveries.flatMap (fun m =>
    (s.shareRecords m.lz m.len).filterMap (fun h => match h with
      | some h => if h.owner = owner ∧ h.kind = kind then some h.x else none
      | none => none))
  (held ++ waiting).dedup.length

/-- Distinct members whose shares pass R98, handled or not (R99). -/
def State.tally1 (s : State) (r : Round) : Nat :=
  let held := r.um.aggShares.map (·.x)
  let waiting := r.recoveries.filterMap (fun m =>
    let a := s.aggRecord m.lz
    if !a.bad m.slot && a.digest == r.um.digest then some a.x else none)
  (held ++ waiting).dedup.length

/-- Every needed tally has reached t (R96, R99). -/
def State.tallied (s : State) (r : Round) : Bool :=
  if r.cfg.mode = 1 then decide (r.cfg.threshold ≤ s.tally1 r)
  else (s.needed r).all (fun p => decide (r.cfg.threshold ≤ s.tally0 r p.1 p.2))

/-! ## Reconstruction -/

/-- Chunk values at `x0` of the polynomials through records. -/
def chunksAt (x0 : Nat) (l : List Share) : List Nat :=
  (List.range 7).map (fun i => interpolate shareP x0 (l.map (fun h => (h.x, h.ys.getD i 0))))

/-- The secret the chunks spell: 256 bits of a seed, 384 of a scalar. -/
def secretOf (kind : Nat) (ch : List Nat) : Nat :=
  ((List.range 7).map (fun i => ch.getD i 0 * 2 ^ (55 * i))).sum % 2 ^ (if kind = 0 then 256 else 384)

/-- What SEEDREC found in a record. -/
inductive ShareEnd where
  | ok
  | malformed
  | repeated
  | denied
  | inconsistent
  deriving DecidableEq, Repr

/-- Handle one mode 0 record (R93 to R95): the outcome and the round after it. The first t records held, in order of
arrival, gave the polynomial later ones are checked against. A record of the kind R94 denies is counted each time it comes:
R93 discards a repeat of one received, and a denied record is not. DESIGN CHOICE (log entry 113) -/
def State.takeShare (s : State) (r : Round) (h : Option Share) : ShareEnd × Round :=
  match h with
  | none => (.malformed, r)
  | some h =>
    if s.permitted r h.owner ≠ some h.kind then (.denied, r)
    else if r.um.shares.any (fun g => g.owner == h.owner && g.kind == h.kind && g.x == h.x) then (.repeated, r)
    else
      let have_ := r.um.shares.filter (fun g => g.owner == h.owner && g.kind == h.kind)
      let r1 := { r with um := { r.um with shares := r.um.shares ++ [h] } }
      let t := r.cfg.threshold
      if have_.length + 1 < t then (.ok, r1)
      else if have_.length + 1 = t then
        let ch := chunksAt 0 (have_ ++ [h])
        let r2 := { r1 with um := { r1.um with
          secrets := r1.um.secrets ++ [(h.owner, h.kind, secretOf h.kind ch)]
          queue := sortBy (fun p => 2 * p.1 + p.2) (r1.um.queue ++ [(h.owner, h.kind)]) } }
        (if ch.any (fun c => decide (2 ^ 55 ≤ c)) then .inconsistent else .ok, r2)
      else if chunksAt h.x (have_.take t) = h.ys then (.ok, r1) else (.inconsistent, r1)

/-- Handle the mode 1 share of a message (R98, R99): the first t shares held gave the sum. -/
def takeAgg (r : Round) (slot : Nat) (a : AggRec) : ShareEnd × Round :=
  if a.bad slot then (.malformed, r)
  else if a.digest ≠ r.um.digest then (.denied, r)
  else if r.um.aggShares.any (fun g => g.x == a.x) then (.repeated, r)
  else
    let have_ := r.um.aggShares
    let r1 := { r with um := { r.um with aggShares := r.um.aggShares ++ [{ x := a.x, coef := a.coef }] } }
    let t := r.cfg.threshold
    let pts (l : List AggShare) (i : Nat) := l.map (fun g => (g.x, g.coef.getD i 0))
    if have_.length + 1 < t then (.ok, r1)
    else if have_.length + 1 = t then
      let l := r1.um.aggShares
      (.ok, { r1 with um := { r1.um with sigma := some ((List.range 1024).map (fun i => interpolate seedQ 0 (pts l i))) } })
    else
      let l := have_.take t
      if (List.range 1024).all (fun i => interpolate seedQ a.x (pts l i) == a.coef.getD i 0) then (.ok, r1)
      else (.inconsistent, r1)

/-! ## Expansions (R96, R99) -/

/-- Add residues to elements 0 and up of tile `t`, with its checksum (R59). -/
def State.addTile (s : State) (t eb m : Nat) (ds : List Nat) : State :=
  let g := s.tag t
  ((s.addElems t eb m 0 ds).setTag t { g with csum := (g.csum + csumOf 0 ds) % m }).wrote t

/-- Add δ(j) to element j of the round, for the elements of logical tile `l`. -/
def State.addLogical (s : State) (r : Round) (l : Nat) (d : Nat → Int) : State :=
  let c := r.cfg
  match r.acc[l]? with
  | none => s
  | some t =>
    s.addTile t (wBytes c.wsel) (2 ^ r.w) ((List.range (c.held l)).map (fun i => wrap r.w (d (l * c.elems + i))))

/-- Add δ(j) to every element of a dense round. -/
def State.addRound (s : State) (r : Round) (d : Nat → Int) : State :=
  (List.range r.acc.length).foldl (fun s l => s.addLogical r l d) s

/-- The value of a mask residue of 8 · P_e bits (R86). -/
def maskValue (pe x : Nat) : Int := lift (8 * pe) x

/-- Cancel what secret (owner, kind) left in the tiles (R96). -/
def State.expand0 (s : State) (r : Round) (owner kind secret : Nat) : State :=
  let c := r.cfg
  let prg (k j : Nat) : Int := maskValue c.pe (prgElem k c.round c.tileBase c.pe j)
  if kind = 0 then s.addRound r (fun j => -(prg secret j))
  else
    let nb := (s.neighbours c owner).filter (fun u => r.cohortSlots.contains u)
    nb.foldl (fun s u =>
      let k := edgeSeed (ecdh secret (Config.rosterKey (s.rosterData c) u)) c.round owner u
      if u < owner then s.addRound r (fun j => -(prg k j)) else s.addRound r (fun j => prg k j)) s

/-- Coefficient `i` of a · b in Z_q[X]/(X^n + 1). -/
def negacyclic (q n : Nat) (a b : List Nat) (i : Nat) : Nat :=
  ((List.range n).map (fun k =>
    let x := a.getD k 0 * b.getD ((i + n - k) % n) 0 % q
    if k ≤ i then x else (q - x) % q)).sum % q

/-- The rounded mask of block `j`, coefficient `i` (R99). -/
def maskCoef (pe : Nat) (a sigma : List Nat) (i : Nat) : Nat :=
  (2 * 2 ^ (8 * pe) * negacyclic seedQ 1024 a sigma i + seedQ) / (2 * seedQ) % 2 ^ (8 * pe)

/-- a_j: words of the round's public stream below q (R323). -/
def Round.aPoly (r : Round) (tag j : Nat) : List Nat :=
  rejection (streamKey 0 r.seed tag (stepOf r.cfg.round 0) j) seedQ (2 ^ 20) 1024 0

/-- Blocks of a mode 1 round. -/
def RoundCfg.blocks (c : RoundCfg) : Nat := ceilDiv c.l 1024

/-- Items of part `p` of `n` items cut into `parts` contiguous runs (R47, R181). -/
def partItems (n parts p : Nat) : List Nat :=
  let b := ceilDiv n parts
  ((List.range b).map (fun i => p * b + i)).filter (fun i => decide (i < n))

/-- Parts of R181 that fall to spindle `j`, ascending. -/
def State.partsOf (s : State) (j : Nat) : List Nat :=
  let x := s.spin j
  let rank := (x.bound.filter (fun k => decide (k < j))).length
  (List.range s.lgrade).filter (fun p => p % max 1 x.bound.length == rank)

/-- Subtract the mode 1 mask of block `b`. -/
def State.expandBlock (s : State) (r : Round) (tag : Nat) (sigma : List Nat) (b : Nat) : State :=
  let c := r.cfg
  let a := r.aPoly tag b
  let m := (List.range 1024).map (fun i => maskCoef c.pe a sigma i)
  let lo := b * 1024
  -- a block lies in one tile: every tile holds a whole number of blocks
  let l := lo / c.elems
  match r.acc[l]? with
  | none => s
  | some t =>
    let ds := (List.range (min 1024 (c.l - lo))).map (fun i => wrap r.w (-(maskValue c.pe (m.getD i 0))))
    let g := s.tag t
    let s1 := s.addElems t (wBytes c.wsel) (2 ^ r.w) (lo % c.elems) ds
    (s1.setTag t { g with csum := (g.csum + csumOf (lo % c.elems) ds) % 2 ^ r.w }).wrote t

end Sys2Proof.Machine
end

