-- ==== Sys2Proof/Machine/Gate.lean ====
section
/-! DEFINITION. Leaving CLOSED: settlement of a staircase round (R294, R295), the cohort published on entering UNMASK (R96),
and the gate's steps 1 to 4 (R136, R137, R168). -/
namespace Sys2Proof.Machine
open Sys2Proof

/-! ## Forms -/

/-- Mode 3 released by joint decryption (R136, R157). -/
def Round.joint (r : Round) : Bool := r.cfg.mode == 3 && r.policy.form == 1
/-- Mode 3 released as ciphertext. -/
def Round.cipherForm (r : Round) : Bool := r.cfg.mode == 3 && r.policy.form == 0
/-- Descriptors of a mode 3 round: its ciphertexts, then the count ciphertext (R117, R129). -/
def Round.cts (r : Round) : List CtDesc := r.m3.acc ++ (if r.cfg.hasCount then [r.m3.cnt] else [])
/-- Tiles of a ciphertext in slot order (R114). -/
def CtDesc.tiles (d : CtDesc) : List Nat :=
  (List.range d.comps).flatMap (fun k => (List.range d.slots).flatMap (fun j =>
    (List.range d.pset.tiles).map (fun c => d.tileAt k j c)))
/-- The bytes of a ciphertext as it is sent: descriptor, then tiles (R226). -/
def State.ctBytes (s : State) (d : CtDesc) : Bytes := toLe 64 d.toNat ++ d.tiles.flatMap (fun t => s.tileBytes t 0 tileSize)
/-- CT_DIGEST (R137). -/
def State.ctDigestOf (s : State) (r : Round) : Nat := sha256N (r.cts.flatMap s.ctBytes)

/-- Rows in use with their counts, and the rows that K suppresses (R152). -/
def Round.rowsUsed (r : Round) : List (Nat × DirEntry) := r.sparse.dir.filter (fun p => p.2.valid)
/-- Rows below the policy's K. -/
def Round.suppressed (r : Round) : List (Nat × DirEntry) := r.rowsUsed.filter (fun p => decide (p.2.count < r.policy.kMin))

/-! ## Steps 1 to 4 of R168 -/

/-- Steps 2 to 4: the cohort, the suppressed rows, the budget of the noise PADD. -/
def State.gateChecks (s : State) (f r : Nat) : State :=
  match s.round? f r with
  | none => s
  | some x =>
    if x.cohort < x.policy.kMin || (x.joint && x.gate.kept.any (fun n => decide (n < x.policy.kMin))) then s.abandon f r 0x0901
    else if x.cipherForm && x.policy.sigma != 0 &&
        x.m3.acc.any (fun d => !d.pset.within d.level (wOf d.wsel) d.ext (d.add 1 0).noise) then s.abandon f r 0x0201
    else
      let listed := (sortBy (fun p => p.2.row) (x.rowsUsed.filter (fun p => decide (x.policy.kMin ≤ p.2.count)))).map
        (fun p => (p.2.row, p.2.slot, p.2.count))
      (s.updRound f r (fun x => { x with
        gate := { x.gate with step := 4 }
        sparse := { x.sparse with released := listed, suppressed := x.suppressed.length } })).progress f r 7

/-- The round enters GATED: CT_DIGEST is published for joint decryption, otherwise the checks run (R137, R168). -/
def State.toGated (s : State) (f r : Nat) : State :=
  let s1 := (s.updRound f r (fun x => { x with gate := { x.gate with since := s.time } })).enter f r .gated
  match s1.round? f r with
  | none => s1
  | some x =>
    if x.joint then
      let d := s1.ctDigestOf x
      (s1.updRound f r (fun x => { x with gate := { x.gate with ctDigest := d, step := 1 } })).emit (.ctDigest f r d)
    else s1.gateChecks f r

/-! ## Entering UNMASK (R96) -/

/-- The cohort bitmap and digest are published in the cycle the round enters UNMASK. -/
def State.toUnmask (s : State) (f r : Nat) : State :=
  let s1 := s.updRound f r (fun x =>
    let b := bitmapOf x.cfg.slots x.cohortSlots
    { x with um := { x.um with since := s.time, bitmap := b, digest := sha256N b } })
  let s2 := s1.enter f r .unmask
  match s2.round? f r with
  | none => s2
  | some x => s2.emit (.cohort f r x.um.bitmap x.um.digest)

/-- All masks are cancelled (R96, R99). -/
def State.masksGone (s : State) (r : Round) : Bool :=
  if r.cfg.mode = 1 then r.um.sigma.isSome && (List.range s.lgrade).all (fun p => r.um.parts.contains p)
  else (s.needed r).all (fun p => r.um.expanded.contains p)

/-- Tiles hold plaintext from now on (R56). -/
def State.sealTiles (s : State) (ts : List Nat) : State := ts.foldl (fun s t => s.setTag t { s.tag t with sealed := true }) s

/-- MASKS_CANCELLED: UNMASK ends when the masks are cancelled (R80), and the sums are plaintext (R56). -/
def State.masksCancelled (s : State) (f r : Nat) : State :=
  match s.round? f r with
  | none => s
  | some x => if x.st = .unmask ∧ s.masksGone x then (s.sealTiles x.acc).toGated f r else s

/-! ## Settlement (R294, R295) -/

/-- The TILE windows of the round that cover its accumulator tiles (R294). -/
def State.roundWindow? (s : State) (r : Round) : Option Window :=
  s.windows.find? (fun w => w.tileKind && w.func == r.func && w.round == r.cfg.round && w.nt == r.acc.length
    && r.acc.all (fun t => decide (w.base ≤ t) && decide (t < w.base + w.nt)))

/-- The consistency check of settlement. -/
def State.consistent (s : State) (r : Round) : Bool :=
  let own := r.counts.cohort + r.stair.mergedCount
  if r.cfg.sparse then r.rowsUsed.all (fun p => decide (p.2.count ≤ own))
  else r.acc.all (fun t => (s.tag t).count == own)

/-- The condition CHILD_POLICY puts on absent children. -/
def Round.childrenOk (r : Round) : Bool :=
  let n := r.cfg.nch
  (r.stair.combined == n * r.acc.length && r.stair.children.length == n)
    || ((r.cfg.stair.map (·.childPolicy)).getD 0 == 1 && r.stair.combined == r.stair.children.length * r.acc.length)

/-- At settlement, once every own candidate is resolved, the consistency check passes or the round is ABANDONED; below the
top the trigger counter takes what holds its FORWARD back (R295). -/
def State.stairCheck (s : State) (f r : Nat) : State :=
  match s.round? f r with
  | none => s
  | some x =>
    if !x.stair.settled || x.stair.passed || x.st != .closed || !x.resolved then s
    else if x.cfg.nch ≠ 0 && !(x.childrenOk && s.consistent x) then s.abandon f r 0x011C
    else
      let s1 := s.updRound f r (fun x => { x with stair := { x.stair with
        passed := true, mergedCount := x.counts.cohort + x.stair.mergedCount } })
      if x.cfg.nch = 0 || x.top then s1
      else match s.roundWindow? x with
        | some w => s1.ctrAdd f w.ctr (x.cfg.nch * x.acc.length - x.stair.combined + 1)
        | none => s1

/-- The round settles when every child has arrived (R294). -/
def State.settleIfFull (s : State) (f r : Nat) : State :=
  match s.round? f r with
  | none => s
  | some x =>
    if x.st = .closed ∧ !x.stair.settled ∧ x.stair.combined = x.cfg.nch * x.acc.length
        ∧ x.stair.children.length = x.cfg.nch then
      (s.updRound f r (fun x => { x with stair := { x.stair with settled := true } })).stairCheck f r
    else s

/-- A record of a TILE window has been combined: its window's counter takes the addend (R267). -/
def State.recordDone (s : State) (f r : Nat) (credit : Nat × Nat) : State :=
  ((s.ctrAdd f credit.1 credit.2).updRound f r (fun x => { x with stair := { x.stair with combined := x.stair.combined + 1 } })).settleIfFull f r

/-! ## Leaving CLOSED (R80, R104) -/

/-- The round's private keys are zeroised when it leaves CLOSED (R104). -/
def State.dropRoundKeys (s : State) (f r : Nat) : State :=
  s.updRound f r (fun x => { x with keys := x.keys.map (fun k => { k with scalar := 0, kem := 0 }) })

/-- The round may leave CLOSED: candidates resolved, staircase settled and consistent, sparse order fixed. -/
def Round.mayLeave (r : Round) : Bool :=
  r.st == .closed && r.resolved && (!r.cfg.isStair || r.stair.passed) && (!r.cfg.sparse || r.sparse.canonical)

/-- The round leaves CLOSED for UNMASK or GATED at the device that cancels masks; below the top it waits for its FORWARD. -/
def State.leaveClosed (s : State) (f r : Nat) : State :=
  match s.round? f r with
  | none => s
  | some x =>
    if !x.mayLeave || !x.top then s
    else
      let s1 := s.dropRoundKeys f r
      if x.cfg.mode = 0 ∨ x.cfg.mode = 1 then (s1.toUnmask f r).masksCancelled f r
      else s1.toGated f r

/-- CANDIDATES_RESOLVED. -/
def State.candidatesResolved (s : State) (f r : Nat) : State :=
  if !s.ready then s
  else
    let s1 := match s.round? f r with
      | some x => if x.cfg.isStair && x.cfg.nch == 0 && x.st == RState.closed && !x.stair.settled then
          s.updRound f r (fun x => { x with stair := { x.stair with settled := true } }) else s
      | none => s
    ((s1.settleIfFull f r).stairCheck f r).leaveClosed f r

/-- The round becomes RELEASED (R80, R226, R278). -/
def State.released (s : State) (f r : Nat) : State := (s.dropRoundKeys f r).enter f r .released

end Sys2Proof.Machine
end

