-- ==== Sys2Proof/Machine/Mirror.lean ====
section
/-! DEFINITION. Ply messages and roles (R302 to R304). -/
namespace Sys2Proof.Machine

/-- Message types of R303. -/
def plyAsset : Nat := 1
def plyOpen : Nat := 2
def plyCohort : Nat := 3
def plyVerdict : Nat := 4
def plyShare : Nat := 5
def plyReturn : Nat := 6
def plyDigest : Nat := 7
def plyDone : Nat := 8

/-- The device is in a ply (R311). -/
def State.plied (s : State) : Bool := s.rd Reg.plyState == 2
/-- The device is strand A, or strand B. -/
def State.isA (s : State) : Bool := s.rd Reg.plyRole == 1
def State.isB (s : State) : Bool := s.rd Reg.plyRole == 2
/-- The authenticated peer of a QP appears on its function's join list with a role (R288). -/
def State.joined (s : State) (q : Qp) (ply : Bool) : Bool :=
  (s.fn q.func).joinList.any (fun e => e.peer == q.peerId && (if ply then e.ply else e.stair))
/-- A ply QP: its peer is on the join list with the ply role (R288). PF0's ply QP needs no join list: its PEER_FILTER names the
partner (R302). -/
def State.plyPeer (s : State) (q : Qp) : Bool :=
  q.plyAttr && (s.joined q true || (q.func == 0 && q.qpn == s.rd Reg.plyQpn))
/-- The ply QP of a function in RTS (R303). -/
def State.plyQp? (s : State) (f : Nat) : Option Qp := s.qps.find? (fun q => q.func == f && q.st == .rts && s.plyPeer q)
/-- A staircase QP of function `f`. -/
def State.stairQp (s : State) (f n : Nat) : Bool :=
  match s.qp? n with
  | some q => q.func == f && s.joined q false
  | none => false

/-- The 64-byte header of a ply message. -/
def plyHeader (ver type code round seq : Nat) : Bytes :=
  toLe 64 (0x59504C43 + ver % 256 * 2 ^ 32 + type * 2 ^ 40 + code * 2 ^ 48 + round % 2 ^ 40 * 2 ^ 64 + seq % 2 ^ 64 * 2 ^ 128)

/-- Send a ply message of function `f` (R303). -/
def State.plySend (s : State) (f type code round : Nat) (body : Bytes) : State :=
  match s.plyQp? f with
  | none => s
  | some q =>
    let seq := Sparse.get 0 s.ply.txSeq f + 1
    let m := plyHeader (s.rd Reg.plyVer) type code round seq ++ body
    let s1 := { s with ply := { s.ply with txSeq := Sparse.set 0 s.ply.txSeq f seq } }
    (s1.post q.qpn (.ply type) m).bump Reg.plyMirrorTxBytes 0 m.length

/-- Strand A mirrors a message of a plied round (R304). -/
def State.mirror (s : State) (r : Round) (type : Nat) (body : Bytes) : State :=
  if s.plied && s.isA && r.ply.plied then s.plySend r.func type 0 r.cfg.round body else s

/-- Strand A mirrors a message of a kind again in the cycle of the first, which has not left: the later one is sent. -/
def State.mirrorAgain (s : State) (r : Round) (type : Nat) (body : Bytes) : State :=
  match s.plyQp? r.func with
  | none => s
  | some q =>
    let mine (m : TxMsg) : Bool := m.seq0.isNone && m.owner == .ply type && leAt m.data 8 5 == r.cfg.round
    s.updQp q.qpn (fun q =>
      { q with tx := { q.tx with queue := updIf q.tx.queue mine (fun m => { m with data := m.data.take 64 ++ body }) } })

/-- Strand B answers (R304). -/
def State.verdict (s : State) (f round code : Nat) : State := s.plySend f plyVerdict code round []

/-- Strand B, for a plied round: copies of mirrored kinds that reach it directly are discarded (R304). -/
def State.mirroredHere (s : State) (r : Round) : Bool := s.plied && s.isB && r.ply.plied

end Sys2Proof.Machine
end

