-- ==== Sys2Proof/Machine/Intake.lean ====
section
/-! DEFINITION. Messages of a round: the header (R83), the checks of R84 with what later chapters add to check 4 (R117, R140,
R291, R306), the dedup map (R87, R88), a full queue (R107), and TAKE (R89 to R91, R213). -/
namespace Sys2Proof.Machine

/-! ## The header (R83) -/

/-- The header of a message as a number. -/
def hdrOf (msg : Bytes) : Nat := leNat (msg.take 64)
def hMode (h : Nat) : Nat := bits h 40 2
def hClass (h : Nat) : Nat := bits h 42 2
def hEnc (h : Nat) : Nat := bits h 48 16
def hTag (h : Nat) : Nat := bits h 64 32
def hRound (h : Nat) : Nat := bits h 96 40
def hSlot (h : Nat) : Nat := bits h 136 24
def hBase (h : Nat) : Nat := bits h 160 24
def hLen (h : Nat) : Nat := bits h 192 64
def hPcsum (h : Nat) : Nat := bits h 256 128

/-- Check 1 of R84. Reserved are the bits that R83 and, for a mode 3 contribution, R117 name so; a field whose value the mode
fixes at 0 is not among them. DEDUCED -/
def hdrOk (msg : Bytes) : Bool :=
  let h := hdrOf msg
  let rec_ := hClass h == 1
  decide (64 ≤ msg.length) && bits h 0 32 == 0x48544C43 && bits h 32 8 == 1 && decide (hClass h < 2) && bits h 44 4 == 0
    && bits h 184 8 == 0 && !encMalformed (hEnc h) && msg.length == 64 + hLen h
    && (rec_ || hMode h != 3 || (bits h 451 5 == 0 && bits h 462 50 == 0))

/-- PAYLOAD_LEN and TILE_BASE of a contribution match the round (R85, R117, R140). -/
def RoundCfg.shapeOk (c : RoundCfg) (base len : Nat) : Bool :=
  match c.mode, c.sparse with
  | 3, _ => base == c.tileBase && len == c.cts * c.ctTiles * tileSize
  | 2, true =>
    let rec_ := 8 + c.rw * c.pe
    base == (c.rows.map (·.accBase)).getD 0 && decide (1664 + rec_ ≤ len) && (len - 1664) % rec_ == 0
      && decide ((len - 1664) / rec_ ≤ (c.rows.map (·.maxRows)).getD 0)
  | 2, false => base == c.tileBase && len == 1664 + c.l * c.pe
  | _, _ => base == c.tileBase && len == c.l * c.pe

/-- Check 4 of R84 for a header. -/
def RoundCfg.formatOk (c : RoundCfg) (h : Nat) : Bool :=
  hMode h == c.mode && hEnc h == c.encoding &&
  if hClass h = 1 then
    match c.mode with
    | 0 => decide (hSlot h < c.slots) && decide (0 < hLen h) && hLen h % 64 == 0
    | 1 => decide (1 ≤ hSlot h) && decide (hSlot h ≤ c.committee) && hLen h == 8256
    | _ => false
  else
    decide (hSlot h < c.slots) && c.shapeOk (hBase h) (hLen h)
      && (match c.stair with
          | some x => !c.isStair || (decide (x.slotLo ≤ hSlot h) && decide (hSlot h ≤ x.slotHi))
          | none => true)
      && (match c.m3 with
          | some m => c.mode != 3 || (bits h 384 64 == m.keyset && bits h 448 3 == m.ps && bits h 456 6 == m.levelIn)
          | none => true)

/-- Landing-zone tiles in use: by messages the device holds, and by reservations of the function's QPs (R250). -/
def State.lzUsed (s : State) (f : Nat) : List (Nat × Nat) :=
  (s.rounds.filter (fun r => r.func == f)).flatMap (fun r =>
    (r.intake ++ r.live ++ r.guardHold ++ r.dupHold).map (fun m => (m.lz, lzTiles m.len)))
  ++ (s.qps.filter (fun q => q.func == f)).flatMap (fun q => q.rx.resv.map (fun v => v.2))

/-- A message of `n` bytes may lie at tile `lz`: near tiles of the function that no held message covers. -/
def State.lzFree (s : State) (f lz n : Nat) : Bool :=
  let k := ceilDiv n tileSize
  (List.range k).all (fun i => s.tileOk f (lz + i) && !isFar (lz + i))
    && (s.lzUsed f).all (fun p => decide (p.1 + p.2 ≤ lz) || decide (lz + k ≤ p.1))

/-- The message lies in its landing zone. -/
def State.place (s : State) (lz : Nat) (msg : Bytes) : State := { s with tiles := writeBytes s.tiles (lzBase lz) msg }

/-- A message failed a check of R84: counted, and its event raised once for the round. -/
def State.refuseMsg (s : State) (f r code : Nat) (g : RoundCounts → RoundCounts) : State := (s.count f r g).raiseOnce f r code

/-- The round's deadline has been handled in this cycle: what still completes in it is held by the guard band (R105). -/
def Round.closedNow (x : Round) (now : Nat) : Bool := x.st == .closed && now == x.deadline

/-- A contribution that completes in cycle d after the deadline was handled: held, and released from the hold at once where
the hold has been resolved (R105, R106). Strand A's COHORT, not yet sent, is replaced; strand B's hold waits for it, and a
slot outside one that has come is discarded. -/
def State.takeLate (s : State) (f r : Nat) (m : Msg) : State :=
  match s.round? f r with
  | none => s
  | some x =>
    let x1 := { x with guardHold := x.guardHold ++ [m] }
    if s.mirroredHere x then
      s.updRound f r (fun _ => match x.ply.cohort with
        | some c => (x1.releaseHold (fun m => c.contains m.slot)).dropHold
        | none => x1)
    else
      let x2 := x1.releaseHold (fun _ => true)
      if x.ply.cohort.isSome then
        let x3 := { x2 with ply := { x2.ply with cohort := some x2.candidates } }
        (s.updRound f r (fun _ => x3)).mirrorAgain x3 plyCohort (bitmapOf x.cfg.slots x3.candidates)
      else s.updRound f r (fun _ => x2)

/-- A contribution that passed checks 1 to 4 meets the dedup map (R84 check 5, R87, R88, R107). -/
def State.dedup (s : State) (f r : Nat) (m : Msg) : State :=
  match s.round? f r with
  | none => s
  | some x =>
    let dup := fun (c : RoundCounts) => { c with duplicate := c.duplicate + 1 }
    match x.slotSt m.slot with
    | 2 => s.refuseMsg f r 0x0113 dup
    | 1 =>
      if x.dupHold.length < 4096 then s.updRound f r (fun x => { x with dupHold := x.dupHold ++ [m] })
      else s.refuseMsg f r 0x0113 dup
    | _ =>
      if !m.bound && decide (intakeMax ≤ x.entries) then
        s.refuseMsg f r 0x011D (fun c => { c with rejected := c.rejected + 1, full := c.full + 1 })
      else
        let late := x.closedNow m.time && !x.ply.awaiting.contains m.slot && !x.inOpen m
        let s0 := s.updRound f r (fun x => { x.setSlot m.slot 1 with
          counts := { x.counts with accepted := x.counts.accepted + 1 }
          ply := { x.ply with awaiting := x.ply.awaiting.erase m.slot } })
        let s1 := if late then s0.takeLate f r m else s0.updRound f r (fun x => x.take_ m)
        -- the last slot strand B awaited: it answers COHORT (R306)
        if x.ply.awaiting = [m.slot] then s1.verdict f r 0 else s1

/-- A recovery message that passed the checks is queued, and mirrored by strand A (R304). -/
def State.queueRecovery (s : State) (f r : Nat) (m : Msg) (msg : Bytes) : State :=
  match s.round? f r with
  | none => s
  | some x =>
    if !m.bound && decide (intakeMax ≤ x.entries) then
      s.refuseMsg f r 0x011D (fun c => { c with rejected := c.rejected + 1, full := c.full + 1 })
    else (s.updRound f r (fun x => { x with intake := x.intake ++ [m] })).mirror x plyShare msg

/-- A state of R84 check 3. -/
def Round.inTime (x : Round) (h now : Nat) : Bool :=
  if hClass h = 1 then x.st == .open || x.st == .guard || x.st == .closed || x.st == .unmask
  else x.st == .open || x.st == .guard || x.closedNow now
    || (x.st == .closed && x.ply.awaiting.contains (hSlot h) && decide (now ≤ x.deadline + 1350000))

/-- The checks of R84 on a completed message at landing-zone tile `lz`. `bound` says it came on a QP bound to its round,
`mirrored` that strand A mirrored it. -/
def State.message (s : State) (f : Nat) (bound window mirrored : Bool) (lz : Nat) (msg : Bytes) : State :=
  let h := hdrOf msg
  let named := if msg.length < 64 ∨ hTag h ≠ s.tenantTag f then none
    else (s.round? f (hRound h)).filter (fun x => x.live_)
  if !hdrOk msg then
    match named with
    | some x => s.refuseMsg f x.cfg.round 0x010F (fun c => { c with malformed := c.malformed + 1 })
    | none => s.raise f 0x010F
  else
    match named with
    | none => (s.bump Reg.fnFUnmatched f).raise f 0x0110
    | some x =>
      let r := x.cfg.round
      if hClass h = 1 ∧ s.mirroredHere x ∧ !mirrored then s
      else if !x.inTime h s.time then s.refuseMsg f r 0x0112 (fun c => { c with late := c.late + 1 })
      else if !x.cfg.formatOk h then s.refuseMsg f r 0x0111 (fun c => { c with mismatch := c.mismatch + 1 })
      else
        let m : Msg := { func := f, round := r, slot := hSlot h, kind := if hClass h = 1 then .recovery else .contribution
                         lz := lz, len := hLen h, time := s.time, hdr := msg.take 64, bound := bound, window := window }
        let s1 := s.place lz msg
        if hClass h = 1 then s1.queueRecovery f r m msg else s1.dedup f r m

/-- Whether a QP is bound to round `r` (R250). -/
def State.boundTo (s : State) (qp : Option Nat) (r : Nat) : Bool :=
  match qp.bind s.qp? with
  | some q => q.round == r && r != 0
  | none => false

/-- A completed SEND message of a QP, or a HOST_SUBMIT (none), with a landing place: the checks run. -/
def State.complete (s : State) (f : Nat) (qp : Option Nat) (lz : Nat) (msg : Bytes) : State :=
  if !s.ready || (s.fn f).resetAt.isSome || !s.lzFree f lz msg.length then s
  else s.message f (s.boundTo qp (hRound (hdrOf msg))) false false lz msg

/-- CONTRIBUTION (R84): a message of class 0, or one no class names. -/
def execContribution (f : Nat) (qp : Option Nat) (lz : Nat) (msg : Bytes) (s : State) : Res :=
  .next (if hClass (hdrOf msg) = 1 then s else s.complete f qp lz msg)
/-- RECOVERY_MESSAGE (R84): a message of class 1. -/
def execRecoveryMessage (f : Nat) (qp : Option Nat) (lz : Nat) (msg : Bytes) (s : State) : Res :=
  .next (if hClass (hdrOf msg) = 1 then s.complete f qp lz msg else s)

/-! ## TAKE (R89 to R91, R213) -/

/-- TYPE of a descriptor. -/
def MsgKind.type : MsgKind → Nat
  | .contribution => 1 | .recovery => 2 | .guardRelease => 3
/-- CLASS of a descriptor. -/
def MsgKind.cls : MsgKind → Nat
  | .contribution => 2 | .recovery => 0 | .guardRelease => 1

/-- The 32-byte intake descriptor (R89). -/
def Msg.desc (m : Msg) : Bytes :=
  toLe 32 (m.kind.type + m.kind.cls * 2 ^ 4 + m.slot * 2 ^ 8 + m.round * 2 ^ 32 + m.lz * 2 ^ 96 + m.len * 2 ^ 128
    + m.time % 2 ^ 64 * 2 ^ 192)

/-- The IDLE descriptor of a round. -/
def Round.idle (r : Round) (now : Nat) : Bytes :=
  toLe 32 (r.cfg.round * 2 ^ 32 + r.st.code * 2 ^ 72 + r.guardHold.length * 2 ^ 128 + now % 2 ^ 64 * 2 ^ 192)

/-- The descriptor TAKE returns next (R90); none when nothing is eligible. -/
def Round.next? (r : Round) : Option Msg :=
  if r.st = .opening then none
  else minBy? (fun m => (m.kind.cls * 2 ^ 64 + m.time) * 2 ^ 24 + m.slot)
    (r.intake.filter (fun m => m.kind != .recovery || r.st == .unmask))

/-- A reporting TAKE, EXPAND or other instruction with no more effect than its code. -/
def State.report (s : State) (j w code : Nat) (op : UOp) (writes : List (Nat × Bytes) := [])
    (qdst : Option (Nat × Nat) := none) : State :=
  s.enqueue j w { id := 0, op := op, word := 0, pc := 0, stepc := 0, code := code, reports := true, writes := writes, qdst := qdst }

/-- A span operand of at least `n` bytes: KIND 3, well formed, long enough (R177). -/
def Spindle.spanOk (x : Spindle) (q n : Nat) : Bool := qKind q == 3 && qWf x.textLen 0 q && decide (n ≤ qLen q)

/-- TAKE.d on spindle `j` (R90, R91, R213). -/
def State.takeD (s : State) (j : Nat) : State :=
  s.issue j (2, 0, 0) (fun f w s =>
    let o := (s.spin j).capture f w
    if !(s.spin j).spanOk o.qb 32 then s.trapHere j 0x0A09 w 0 (tQB w)
    else match s.round? f o.sa with
      | none => s.report j w 0x0110 .takeD
      | some r =>
        let idle := s.report j w 0 .takeD [(qAddr o.qb, r.idle s.time)] (some (tQD w, 0))
        if !r.live_ then idle
        else match r.next? with
          | some m =>
            (s.updRound f o.sa (fun r => { r with intake := r.intake.erase m, live := r.live ++ [m] })).report j w 0 .takeD
              [(qAddr o.qb, m.desc)] (some (tQD w, lzDesc m.lz m.len m.slot))
          | none =>
            if s.rd Reg.attSvc f = 1 then idle
            else s.updSpin j (fun x => { x with wait := .take, active := s.time }))

/-- TAKE.s (R213). -/
def State.takeS (s : State) (j : Nat) : State :=
  s.issue j (2, 0, 2) (fun f w s =>
    let o := (s.spin j).capture f w
    match s.round? f o.sa with
    | none => s.report j w 0x0110 .takeS
    | some _ => (s.putStatus f o.sa).report j w 0 .takeS)

/-- An abandon command for a round that is not RELEASED or ABANDONED (R80, R171): recorded during step 7, without effect
once the release is committed or a stop is recorded, whose trailer is still to go out (R170). -/
def State.abandonCmd (s : State) (f r code : Nat) : State :=
  match s.round? f r with
  | none => s
  | some x =>
    if x.gate.committed || x.gate.stop.isSome then s
    else if x.gate.step = 7 then s.updRound f r (fun x => { x with gate := { x.gate with stop := some code, step := 8 } })
    else s.abandon f r code

/-- TAKE.a (R213). -/
def State.takeA (s : State) (j : Nat) : State :=
  s.issue j (2, 0, 3) (fun f w s =>
    let o := (s.spin j).capture f w
    match s.round? f o.sa with
    | none => s.report j w 0x0110 .takeA
    | some r => if !r.live_ then s.report j w 0x0110 .takeA else (s.abandonCmd f o.sa 0x090C).report j w 0 .takeA)

/-- TAKE_D (R213). -/
def execTakeD (sp : Nat) (s : State) : Res := .next (s.takeD sp)
/-- TAKE_WAKE (R91): a stalled TAKE returns when a descriptor is eligible, the service state is SERVICE or the round has
ended. -/
def execTakeWake (sp : Nat) (s : State) : Res := .next (if (s.spin sp).wait = .take then s.takeD sp else s)
/-- TAKE_S (R213). -/
def execTakeS (sp : Nat) (s : State) : Res := .next (s.takeS sp)
/-- TAKE_A (R213). -/
def execTakeA (sp : Nat) (s : State) : Res := .next (s.takeA sp)

end Sys2Proof.Machine
end

