-- ==== Sys2Proof/Machine/Seal.lean ====
section
/-! DEFINITION. Mode 2 on a message: OPEN (R29, R102, R103, R141), the clip (R161), and the payload check of modes 0 and 1
(R60). -/
namespace Sys2Proof.Machine
open Sys2Proof

/-- Bytes of the key-exchange block (R102). -/
def kxLen : Nat := 1664
/-- Bytes of a row record (R140). -/
def RoundCfg.rowRec (c : RoundCfg) : Nat := 8 + c.rw * c.pe
/-- Row records of a sparse message. -/
def RoundCfg.nRows (c : RoundCfg) (len : Nat) : Nat := (len - kxLen) / c.rowRec
/-- Payload offset of row record `i`. -/
def RoundCfg.rowOff (c : RoundCfg) (i : Nat) : Nat := kxLen + i * c.rowRec
/-- Payload offsets of a message's elements, in element order (R85, R140). -/
def RoundCfg.elemOffs (c : RoundCfg) (len : Nat) : List Nat :=
  if c.sparse then
    (List.range (c.nRows len)).flatMap (fun i => (List.range c.rw).map (fun k => c.rowOff i + 8 + k * c.pe))
  else
    let base := if c.mode = 2 then kxLen else 0
    (List.range c.l).map (fun j => base + j * c.pe)

/-- The signed element at a payload offset. -/
def State.elemAt (s : State) (c : RoundCfg) (lz off : Nat) : Int := lift (8 * c.pe) (leNat (s.payload lz off c.pe))
/-- Row ID of record `i`, its 8 bytes. -/
def State.rowId (s : State) (c : RoundCfg) (lz i : Nat) : Nat := leNat (s.payload lz (c.rowOff i) 8)

/-- The contribution key (R102). -/
def State.sealKey (s : State) (k : RoundKey) (m : Msg) : Nat :=
  let block := s.payload m.lz 0 kxLen
  sha384Key (asciiBytes "CLTH-SEAL-1" ++ toLe 48 (ecdh k.scalar (block.take 49))
    ++ toLe 32 (mlkemDecap k.kem (slice block 49 1568)) ++ toLe 48 k.rpk ++ slice m.hdr 8 12)

/-- The GCM IV of a contribution. -/
def sealIv (round slot : Nat) : Bytes := toLe 5 round ++ toLe 3 slot ++ toLe 4 1

/-- An element passes R29. -/
def RoundCfg.inRange (c : RoundCfg) (x : Int) : Bool :=
  let b := encB c.encoding
  decide (-(2 ^ (b - 1) : Int) ≤ x) && decide (x ≤ (2 ^ (b - 1) : Int) - 1) && (c.m == 0 || decide (x.natAbs ≤ c.m))

/-- The row IDs strictly ascend and are below ROWS (R141). -/
def State.rowsOk (s : State) (c : RoundCfg) (m : Msg) : Bool :=
  let ids := (List.range (c.nRows m.len)).map (fun i => s.rowId c m.lz i)
  ids.all (fun r => decide (r < (c.rows.map (·.rows)).getD 0)) && (ids.zip (ids.drop 1)).all (fun p => decide (p.1 < p.2))

/-- Change a live message. -/
def State.updLive (s : State) (f r lz : Nat) (g : Msg → Msg) : State :=
  s.updRound f r (fun x => { x with live := updIf x.live (fun m => m.lz == lz) g })

/-- Steps 1 and 2 of R103 on a live message, and R141: its code, and the state with the payload decrypted in place. The
device does not look at the key-exchange block's bytes 1,617 to 1,663, though the tag covers them. DESIGN CHOICE (log entry
113) -/
def State.unseal (s : State) (x : Round) (m : Msg) : Nat × State :=
  match x.keys with
  | none => (0x0603, s)
  | some k =>
    let key := s.sealKey k m
    let iv := sealIv m.round m.slot
    let aad := m.hdr.take 48 ++ s.payload m.lz 0 kxLen
    let ct := s.payload m.lz kxLen (m.len - kxLen)
    if gcmMac key iv aad ct ≠ slice m.hdr 48 16 then (0x0603, s)
    else
      let s1 := { s with tiles := writeBytes s.tiles (lzBase m.lz + 64 + kxLen) (gcmCrypt key iv aad ct) }
      if !(x.cfg.elemOffs m.len).all (fun o => x.cfg.inRange (s1.elemAt x.cfg m.lz o)) then (0x0105, s1)
      else if x.cfg.sparse && !s1.rowsOk x.cfg m then (0x0117, s1)
      else (0, s1.updLive x.func m.round m.lz (fun m => { m with opened := true }))

/-- Σx² of a message. -/
def State.sumSquares (s : State) (c : RoundCfg) (m : Msg) : Nat :=
  ((c.elemOffs m.len).map (fun o => (s.elemAt c m.lz o).natAbs ^ 2)).sum

/-- rne(|x| · τ / √S), exactly. -/
def scaleMag (x tau sq : Nat) : Nat :=
  let n := x ^ 2 * tau ^ 2
  let y := Nat.sqrt (n / sq)
  let c := (2 * y + 1) ^ 2 * sq
  if c < 4 * n then y + 1 else if c = 4 * n then y + y % 2 else y

/-- The scaled element (R161). -/
def scaleElem (x : Int) (tau sq : Nat) : Int :=
  let y := (scaleMag x.natAbs tau sq : Int)
  if x < 0 then -y else y

/-- Step 3 of R103 on a live message: scaled when Σx² exceeds τ² and τ is not 0. -/
def State.clipMsg (s : State) (x : Round) (m : Msg) : State :=
  let sq := s.sumSquares x.cfg m
  let tau := x.policy.tau
  if tau ≠ 0 ∧ tau ^ 2 < sq then
    let s1 := (x.cfg.elemOffs m.len).foldl (fun s o =>
      { s with tiles := writeNat s.tiles (lzBase m.lz + 64 + o) x.cfg.pe (wrap (8 * x.cfg.pe) (scaleElem (s.elemAt x.cfg m.lz o) tau sq)) }) s
    s1.updLive x.func m.round m.lz (fun m => { m with clipped := true, scaled := true })
  else s.updLive x.func m.round m.lz (fun m => { m with clipped := true })

/-- The payload checksum of modes 0 and 1 (R60). -/
def State.payloadSum (s : State) (c : RoundCfg) (m : Msg) : Nat :=
  let w := wOf c.wsel
  ((List.range c.l).map (fun j => (2 * (j % c.elems) + 1) * extend c.pe w (s.payElem m.lz 0 c.pe j))).sum % 2 ^ w

/-- The live message a KIND 1 operand names (R207): of a live round of the function. -/
def State.liveMsg (s : State) (f q : Nat) : Option (Round × Msg) :=
  firstSome (fun (r : Round) =>
    if r.func = f ∧ r.live_ then
      (r.live.find? (fun m => m.lz == qTile q && m.slot == qSlot q && m.len == qLen q)).map (fun m => (r, m))
    else none) s.rounds

/-- OPEN and CLIP of a mode 2 message as far as they have not run (R103, R208). -/
def State.sealed2 (s : State) (x : Round) (m : Msg) (clip : Bool) : Nat × State :=
  let s0 := s.eccSpan m.lz 0 (64 + m.len)
  let (c, s1) := if m.opened then (0, s0) else s0.unseal x m
  if c ≠ 0 then (c, s1) else if m.clipped || !clip then (0, s1) else (0, s1.clipMsg x m)

end Sys2Proof.Machine
end

