-- ==== Sys2Proof/Machine/Directory.lean ====
section
/-! DEFINITION. The row directory of a sparse round: its entries and tiles (R142), lookups (R143, R145), the pages its cache
tiles hold (R144), and the rows of a message as folds (R140, R145). -/
namespace Sys2Proof.Machine
open Sys2Proof

/-- Buckets of the directory, NB. -/
def RoundCfg.buckets (c : RoundCfg) : Nat := (c.rows.map (·.dirTiles)).getD 0 * 1024
/-- Pages the directory cache holds: 16 in each DIRCACHE tile. -/
def RoundCfg.cachePages (c : RoundCfg) : Nat := (c.rows.map (·.cacheCount)).getD 0 * 16
/-- Accumulator slots of the round. -/
def RoundCfg.slotSpace (c : RoundCfg) : Nat := (c.rows.map (·.accTiles)).getD 0 * c.rowsPerTile
/-- Directory entry `e`. -/
def Round.entry (r : Round) (e : Nat) : DirEntry := Sparse.get {} r.sparse.dir e
/-- The entry of a row in use. -/
def Round.entryOf (r : Round) (row : Nat) : Option (Nat × DirEntry) := r.rowsUsed.find? (fun p => p.2.row == row)
/-- The slot of a resolved row. -/
def Round.slotOf (r : Round) (row : Nat) : Nat := ((r.entryOf row).map (·.2.slot)).getD 0

/-- The 16 bytes of an entry (R142). -/
def DirEntry.bytes (d : DirEntry) : Bytes := toLe 16 (d.row + b2n d.valid * 2 ^ 48 + d.slot * 2 ^ 64 + d.count * 2 ^ 92)

/-! ## Pages (R144) -/

/-- The 4 KiB page of a directory entry. -/
def dirPage (e : Nat) : Nat := e / 256
/-- The directory tile of a page. -/
def RoundCfg.dirTile (c : RoundCfg) (page : Nat) : Nat := (c.rows.map (·.dirBase)).getD 0 + page / 16
/-- The DIRCACHE tile of a cache page. -/
def RoundCfg.cacheTile (c : RoundCfg) (slot : Nat) : Nat := (c.rows.map (·.cacheBase)).getD 0 + slot / 16
/-- A page of the directory in the cache. -/
def Round.cached (r : Round) (page : Nat) : Option CachePage := r.sparse.pages.find? (fun g => g.page == page)

/-- A page is used: it becomes the most recently used one. -/
def SparseSt.touch (p : SparseSt) (page : Nat) : SparseSt :=
  { p with pages := p.pages.filter (fun g => g.page == page) ++ p.pages.filter (fun g => g.page != page) }

/-- The device keeps the checksum of what it writes to directory and cache tiles, which no rule gives one. DESIGN CHOICE
(log entry 108) -/
def State.retag (s : State) (t : Nat) : State := s.setTag t { s.tag t with csum := s.csum t }

/-- A dirty cached page is written back to its directory tile. -/
def State.cacheBack (s : State) (f r : Nat) (g : CachePage) : State :=
  match s.round? f r with
  | none => s
  | some x =>
    let t := x.cfg.dirTile g.page
    let p := g.page % 16
    if !g.dirty then s
    else
      let s1 := ((s.rekeyPages t [p]).putFarPage t p (s.tileBytes (x.cfg.cacheTile g.slot) (4096 * (g.slot % 16)) 4096)).retag t
      s1.updRound f r (fun x => { x with sparse := { x.sparse with
        pages := updIf x.sparse.pages (fun h => h.page == g.page) (fun h => { h with dirty := false }) } })

/-- A page comes into the cache; the least recently used one makes room, written back. -/
def State.cachePage (s : State) (f r page : Nat) : State :=
  match s.round? f r with
  | none => s
  | some x =>
    let p := x.sparse
    if (x.cached page).isSome then s
    else
      let free := (List.range x.cfg.cachePages).find? (fun n => !p.pages.any (fun g => g.slot == n))
      let s1 := match free, p.pages.getLast? with
        | none, some g => s.cacheBack f r g
        | _, _ => s
      let slot := (free.orElse (fun _ => p.pages.getLast?.map (·.slot))).getD 0
      let t := x.cfg.cacheTile slot
      let s2 := (s1.putTile t (4096 * (slot % 16)) (s1.pageNow (x.cfg.dirTile page) (page % 16))).retag t
      s2.updRound f r (fun x => { x with sparse := { x.sparse with
        pages := { page := page, slot := slot, dirty := false } :: x.sparse.pages.filter (fun g => g.slot != slot) } })

/-- Entry `e` is written as the directory has it: in its cached page, else in its directory tile. -/
def State.putEntry (s : State) (f r e : Nat) : State :=
  match s.round? f r with
  | none => s
  | some x =>
    let bs := (x.entry e).bytes
    let off := e % 256 * 16
    match x.cached (dirPage e) with
    | some g =>
      let t := x.cfg.cacheTile g.slot
      ((s.putTile t (4096 * (g.slot % 16) + off) bs).retag t).updRound f r (fun x => { x with sparse := { x.sparse with
        pages := updIf x.sparse.pages (fun h => h.page == g.page) (fun h => { h with dirty := true }) } })
    | none =>
      let t := x.cfg.dirTile (dirPage e)
      ((s.putTile t (4096 * (dirPage e % 16) + off) bs).rekeyPages t [dirPage e % 16]).retag t

/-- The directory changes: the entries that differ are written. -/
def State.putDir (s : State) (f r : Nat) (dir : List (Nat × DirEntry)) : State :=
  match s.round? f r with
  | none => s
  | some x =>
    let es := ((x.sparse.dir ++ dir).map (·.1)).dedup.filter (fun e => x.entry e != Sparse.get {} dir e)
    es.foldl (fun s e => s.putEntry f r e) (s.updRound f r (fun x => { x with sparse := { x.sparse with dir := dir } }))

/-- A row's COUNT takes `n` more contributions (R142, R145, R153). -/
def State.countRow (s : State) (f r row n : Nat) : State :=
  match s.round? f r with
  | none => s
  | some x => s.putDir f r (updIf x.sparse.dir (fun p => p.2.valid && p.2.row == row)
      (fun p => (p.1, { p.2 with count := min (p.2.count + n) (2 ^ 36 - 1) })))

/-! ## Lookups (R143, R145) -/

/-- The 32 entries a row is looked up in, in probe order. -/
def RoundCfg.probe (c : RoundCfg) (key row : Nat) : List Nat :=
  let h := aesN key row % 2 ^ 64 % c.buckets
  (List.range 8).flatMap (fun b => (List.range 4).map (fun i => 4 * ((h + b) % c.buckets) + i))

/-- Where a lookup ends: the entries it reads, the last of them the match or the first free one; none when all 32 are taken
by other rows. -/
def Round.lookup (r : Round) (row : Nat) : List Nat → Option (List Nat)
  | [] => none
  | e :: es =>
    let d := r.entry e
    if !d.valid || d.row == row then some [e] else (r.lookup row es).map (e :: ·)

/-- The pages a row's lookup reads, in order. -/
def Round.lookupPages (r : Round) (key row : Nat) : List Nat :=
  let probe := r.cfg.probe key row
  (((r.lookup row probe).getD probe).map dirPage).dedup

/-- What resolving a row does. -/
inductive Resolve where
  | ok (r : Round)
  | miss
  | full
  deriving DecidableEq, Repr

/-- Resolve a row: found, inserted with COUNT 0, held up by a page that is not cached, or refused. -/
def Round.resolveRow (r : Round) (key row : Nat) : Resolve :=
  let pages := r.lookupPages key row
  if pages.any (fun p => (r.cached p).isNone) then .miss
  else
    let p1 := pages.foldl (fun s p => s.touch p) r.sparse
    match r.lookup row (r.cfg.probe key row) with
    | none => .full
    | some l =>
      let e := l.getLastD 0
      if (r.entry e).valid then .ok { r with sparse := p1 }
      else if r.cfg.slotSpace ≤ r.sparse.accNext then .full
      else .ok { r with sparse := { p1 with
        dir := Sparse.set {} r.sparse.dir e { row := row, valid := true, slot := r.sparse.accNext, count := 0 }
        accNext := r.sparse.accNext + 1 } }

/-- Resolve the rows of a list in order: the round after it, how many resolved, and what stopped it. -/
def resolveRows (key : Nat) (r : Round) (n : Nat) : List Nat → Round × Nat × Option Resolve
  | [] => (r, n, none)
  | row :: rows =>
    match r.resolveRow key row with
    | .ok r1 => resolveRows key r1 (n + 1) rows
    | e => (r, n, some e)

/-- The round takes the directory, cache order and ACC_NEXT that resolving left. -/
def State.putResolved (s : State) (f r : Nat) (x : Round) : State :=
  (s.updRound f r (fun y => { y with sparse := { y.sparse with pages := x.sparse.pages, accNext := x.sparse.accNext } })).putDir
    f r x.sparse.dir

/-- The pages that rows still to be resolved need and the cache lacks, in the order their lookups read them. -/
def Round.wantedPages (r : Round) (key : Nat) (rows : List Nat) : List Nat :=
  ((rows.flatMap (r.lookupPages key)).filter (fun p => (r.cached p).isNone)).reverse.dedup.reverse

/-! ## Partials and digests (R153) -/

/-- The row list a sparse partial begins with: the list of R152, with no row suppressed. -/
def Round.partialRows (r : Round) : Bytes :=
  let rows := sortBy (fun p => p.2.slot) r.rowsUsed
  toLe 16 rows.length ++
    (rows.mapIdx (fun k p => toLe 16 (p.2.row + 2 ^ 48 + k * 2 ^ 64 + p.2.count * 2 ^ 92))).flatten

/-- The leaf of a sparse round's ply digest that covers its canonical directory: the rows in order with their counts (R153).
That it follows the leaves of the row blocks, under the number after theirs, is not stated. DESIGN CHOICE (log entry 109) -/
def Round.dirLeaf (r : Round) : List (Nat × Nat) :=
  if r.cfg.sparse then [(r.acc.length, sha256N r.partialRows)] else []

/-! ## The rows of a message as folds -/

/-- A row of a message to be folded: its record, its tile, and the index of its first element in it. -/
structure RowFold where
  idx : Nat
  row : Nat
  tile : Nat
  base : Nat
  deriving DecidableEq, Repr

/-- Rows of the message from record `k`. -/
def State.rowPlan (s : State) (r : Round) (m : Msg) (k : Nat) : List RowFold :=
  ((List.range (r.cfg.nRows m.len)).drop k).map (fun i =>
    let row := s.rowId r.cfg m.lz i
    let slot := r.slotOf row
    { idx := i, row := row, tile := r.acc.getD (slot / r.cfg.rowsPerTile) 0, base := slot % r.cfg.rowsPerTile * r.cfg.rw })

/-- Segment `i` of spindle `j` is its message's last row in its tile (R147). -/
def State.lastRow (s : State) (j i : Nat) (g : FoldSeg) (x : Round) (m : Msg) : Bool :=
  (((s.spin j).segs.eraseIdx i).all (fun h => h.lz != g.lz || h.tile != g.tile))
    && (s.rowPlan x m (m.cursor / max 1 x.cfg.rw)).all (fun p => p.tile != g.tile)

end Sys2Proof.Machine
end

