-- ==== Sys2Proof/Machine/Ring.lean ====
section
/-! DEFINITION. Arithmetic on ciphertexts in tiles: limbs (R110 to R114), the NTT (R112), the operations of R120 on limbs,
and evaluation keys (R124, R125). -/
namespace Sys2Proof.Machine
open Sys2Proof

/-! ## Polynomials over one prime -/

/-- The low `k` bits of `x` in reverse order. -/
def brv : Nat → Nat → Nat
  | 0, _ => 0
  | k + 1, x => x % 2 * 2 ^ k + brv k (x / 2)

/-- Coefficient to NTT domain (R112). -/
def nttPoly (n logN psi q : Nat) (a : List Nat) : List Nat :=
  (List.range n).map (fun k =>
    ((List.range n).map (fun i => a.getD i 0 * powMod q psi 36 ((2 * brv logN k + 1) * i))).sum % q)

/-- The exact inverse. -/
def inttPoly (n logN psi q : Nat) (a : List Nat) : List Nat :=
  let ninv := invMod q n
  let pinv := invMod q psi
  (List.range n).map (fun i =>
    ninv * ((List.range n).map (fun k => a.getD k 0 * powMod q pinv 36 ((2 * brv logN k + 1) * i))).sum % q)

/-- X to X^k in the coefficient domain (R219). -/
def autoPoly (n k q : Nat) (a : List Nat) : List Nat :=
  -- coefficient i goes to position i·k mod 2n, with a sign past n
  (List.range n).map (fun t =>
    ((List.range n).map (fun i =>
      let p := i * k % (2 * n)
      if p = t then a.getD i 0 else if p = t + n then (q - a.getD i 0) % q else 0)).sum % q)

/-! ## Limbs in tiles -/

/-- Global prime index of slot `j` of a ciphertext. -/
def CtDesc.primeIx (d : CtDesc) (j : Nat) : Nat := d.pset.slotPrime d.level j
/-- The prime of slot `j`. -/
def CtDesc.q (d : CtDesc) (j : Nat) : Nat := d.pset.prime (d.primeIx j)

/-- Slot `j` of component `k` as stored. -/
def State.limb (s : State) (d : CtDesc) (k j : Nat) : List Nat :=
  (List.range d.pset.tiles).flatMap (fun c => (List.range 8192).map (fun i => s.elem (d.tileAt k j c) 8 i))

/-- Slot `j` of component `k` in the coefficient domain. -/
def State.coefs (s : State) (d : CtDesc) (k j : Nat) : List Nat :=
  let a := s.limb d k j
  if d.ntt then inttPoly d.pset.n d.pset.logN (d.pset.psi (d.primeIx j)) (d.q j) a else a

/-- A polynomial of slot `j` in the domain of `d`. -/
def CtDesc.toDomain (d : CtDesc) (j : Nat) (a : List Nat) : List Nat :=
  if d.ntt then nttPoly d.pset.n d.pset.logN (d.pset.psi (d.primeIx j)) (d.q j) a else a

/-- Write the residues of one ciphertext tile: data, tag and checksum (R58, R114). -/
def State.putCtTile (s : State) (d : CtDesc) (k j c : Nat) (a : List Nat) : State :=
  let t := d.tileAt k j c
  let s1 := s.setElems t 8 0 a
  let g := s1.tag t
  (s1.setTag t { g with mode := 3, wsel := d.wsel, limb := d.primeIx j, sealed := false, b60 := d.pset.b60
                        csum := csumOf 0 a % d.q j }).wrote t

/-- Write columns `cols` of slot `j` of component `k`. -/
def State.putLimb (s : State) (d : CtDesc) (k j : Nat) (cols : List Nat) (a : List Nat) : State :=
  cols.foldl (fun s c => s.putCtTile d k j c ((a.drop (c * 8192)).take 8192)) s

/-- Every residue of a ciphertext, as the argument of a function the spec leaves open. -/
def State.ctData (s : State) (d : CtDesc) : List Nat :=
  d.toNat :: (List.range d.comps).flatMap (fun k => (List.range d.slots).flatMap (fun j => s.limb d k j))

/-! ## Ranges (R219, R220) -/

/-- The range sA, sB over `n` items: sB = 0 means everything from sA. -/
def ctRange (sa sb n : Nat) : List Nat := (List.range n).filter (fun i => decide (sa ≤ i) && (sb == 0 || decide (i < sa + sb)))

/-- Δ_ℓ mod the prime of slot `j` (R110). -/
def CtDesc.delta (d : CtDesc) (j : Nat) : Nat := d.pset.bigQ d.level / 2 ^ wOf d.wsel % d.q j

/-- Slots a computation works on, reading every value before it writes one. -/
def State.putAll (s : State) (d : CtDesc) (cols : List Nat) (vals : List (Nat × Nat × List Nat)) : State :=
  vals.foldl (fun s v => s.putLimb d v.1 v.2.1 cols v.2.2) s

/-- Slot by slot values of components `ks` and slots `js`. -/
def mapSlots (ks js : List Nat) (g : Nat → Nat → List Nat) : List (Nat × Nat × List Nat) :=
  ks.flatMap (fun k => js.map (fun j => (k, j, g k j)))

/-- The residue modulo Q_ℓ of coefficient `i` of a component, by the Chinese remainder theorem over slots `js`. -/
def crt (qs : List Nat) (rs : List Nat) : Nat :=
  let big := qs.foldl (· * ·) 1
  ((qs.zip rs).map (fun p => p.2 * (big / p.1) % big * invMod p.1 (big / p.1 % p.1) % big)).sum % big

/-- A component as integers modulo the product of the primes of slots `js`. -/
def State.lifted (s : State) (d : CtDesc) (k : Nat) (js : List Nat) : List Nat :=
  let ls := js.map (fun j => s.coefs d k j)
  let qs := js.map d.q
  (List.range d.pset.n).map (fun i => crt qs (ls.map (fun l => l.getD i 0)))

/-- Divide by `p` with rounding. -/
def divRound (x p : Nat) : Nat := (2 * x + p) / (2 * p)

/-! ## Evaluation keys (R124, R125) -/

/-- Entry `i` of function `f`'s key table. -/
def State.evk? (s : State) (f i : Nat) : Option EvkTag := ((s.fn f).evks.find? (fun p => p.1 == i)).map (·.2)

/-- The code of a key for a ciphertext: 0 when it matches (R121 checks 3 and 4, R125). -/
def State.evkCode (s : State) (f i : Nat) (d : CtDesc) (kind gal level : Nat) : Nat :=
  match s.evk? f i with
  | none => 0x0303
  | some e =>
    if e.ps ≠ d.ps then 0x0302
    else if e.keyset ≠ d.keyset ∨ e.level < level ∨ e.kind ≠ kind ∨ (kind = 1 ∧ e.galK ≠ gal) then 0x0301 else 0

/-- A key of a kind the function holds for a key set (R116, R129). -/
def State.findEvk (s : State) (f keyset ps kind gal level : Nat) : Option Nat :=
  ((s.fn f).evks.find? (fun p => p.2.keyset == keyset && p.2.ps == ps && p.2.kind == kind && decide (level ≤ p.2.level)
    && (kind != 1 || p.2.galK == gal))).map (·.1)

/-- Digest of key `i`. -/
def State.evkDigest (s : State) (f i : Nat) : Nat := ((s.evk? f i).map (·.digest)).getD 0

end Sys2Proof.Machine
end

