-- ==== Sys2Proof/Machine/Rotation.lean ====
section
/-! DEFINITION. Sealed scheduling (R361, R362): the rotation of slots of each bundle and of far memory. A change of its
registers takes effect at the start of the next full rotation (R366), and so does one of the functions in it (log entry 105). -/
namespace Sys2Proof.Machine

/-- Far memory among the resources; the others are the bundles. -/
def farRes : Nat := 64

/-- The rotation in force on a resource. -/
def State.rotNow (s : State) (res : Nat) : Rotation :=
  let p := Sparse.get ({}, {}) s.rots res
  if s.time < p.2.start then p.1 else p.2

/-- The rotation the registers and the partitions ask for, from a cycle on. -/
def State.rotAsked (s : State) (res start : Nat) : Rotation :=
  if res = farRes then
    { on := s.rdb Reg.partSealedFar, slot := max 1 (s.rd Reg.partFarSlot), start := start
      funcs := (List.range 64).filter (fun f => s.rd Reg.fnFarCount f != 0) }
  else
    { on := bit (s.rd Reg.partSealedBundles) res, slot := max 1 (s.rd Reg.partNetSlot), start := start
      funcs := (List.range 64).filter (fun f => bit (s.rd Reg.fnBundles f) res) }

/-- The cycle in which a rotation's next full turn begins, at or after cycle `now`. -/
def Rotation.nextTurn (r : Rotation) (now : Nat) : Nat :=
  let n := r.slot * max 1 r.funcs.length
  if r.on && r.slot != 0 then r.start + ceilDiv (now - r.start) n * n else now

/-- What the registers ask for takes effect on a resource at the next full rotation. -/
def State.rotate (s : State) (res : Nat) : State :=
  let p := Sparse.get ({}, {}) s.rots res
  let r := s.rotNow res
  let start := if s.time < p.2.start then p.2.start else r.nextTurn s.time
  if { s.rotAsked res 0 with start := p.2.start } = p.2 then s
  else { s with rots := Sparse.set ({}, {}) s.rots res (r, s.rotAsked res start) }

/-- After a write of the registers, or a partition: every resource. -/
def State.rotateAll (s : State) : State := (List.range 65).foldl (fun s r => s.rotate r) s

/-- The function whose slot it is, and the cycles left of it; none when the resource is not sealed. -/
def State.turn (s : State) (res : Nat) : Option (Option Nat × Nat) :=
  let r := s.rotNow res
  if !r.on then none
  else
    let t := s.time - r.start
    some (r.funcs[t / r.slot % max 1 r.funcs.length]?, r.slot - t % r.slot)

/-- The lockage engine, the sweep and the initialisation serve function `f` now (R362). -/
def State.farTurn (s : State) (f : Nat) : Bool :=
  match s.turn farRes with
  | none => true
  | some p => p.1 == some f

end Sys2Proof.Machine
end

