-- ==== Sys2Proof/Machine/Units.lean ====
section
/-! DEFINITION. What unit instructions share at issue: stream-register and tile checks (R177, R52), the stalls of R189 on
tiles, the sparse tiles of R149, and the descriptors of the ciphertexts they name (R121, R122). -/
namespace Sys2Proof.Machine

/-! ## Operands -/

/-- The first fault of stream register `i`, which must be one of `kinds`: code, tile, register (R177, R52). -/
def State.regFault (s : State) (x : Spindle) (f e i : Nat) (kinds : List Nat) : Option (Nat × Nat × Nat) :=
  let q := (x.qreg i).toNat
  if !kinds.contains (qKind q) || !qWf x.textLen e q then some (0x0A09, 0, i)
  else (opTiles q).find? (fun t => !s.tileOk f t) |>.map (fun t => (0x010B, t, i))

/-- Elements per tile for the ELAST check of an instruction that takes no width of its own: the first tile's. DEDUCED -/
def State.eOf (s : State) (q : Nat) : Nat :=
  let g := s.tag (qTile q)
  if g.cipher then 8192 else elemsOf g.wsel

/-- Issue of a unit instruction: its stream registers are checked, then `body` runs on its captured operands. `regs` gives
each register number it reads with the kinds allowed, `ef` the elements per tile of a descriptor. -/
def State.unitOpE (s : State) (j : Nat) (key : Nat × Nat × Nat) (ef : State → TOps → Nat → Nat)
    (regs : Nat → List (Nat × List Nat)) (body : TOps → State → State) : State :=
  s.issue j key (fun f w s =>
    let x := s.spin j
    let o := x.capture f w
    let fault := firstSome (fun (p : Nat × List Nat) =>
      s.regFault x f (ef s o (x.qreg p.1).toNat) p.1 p.2) (regs w)
    match fault with
    | some (c, t, q) => s.trapHere j c w t q
    | none => body o s)

/-- The issue of a unit instruction that takes no width from a round. -/
def State.unitOp (s : State) (j : Nat) (key : Nat × Nat × Nat) (regs : Nat → List (Nat × List Nat))
    (body : TOps → State → State) : State :=
  s.unitOpE j key (fun s _ q => s.eOf q) regs body

/-- Every tile may be used now: near or staged (R71, R189). -/
def State.allPresent (s : State) (ts : List Nat) : Bool := ts.all (fun t => s.present t)

/-- A tile of a live sparse round, accumulator or directory (R149). -/
def State.sparseBusy (s : State) (f t : Nat) : Bool :=
  s.rounds.any (fun r => r.func == f && r.live_ && r.cfg.sparse &&
    (r.acc.contains t || (match r.cfg.rows with
      | some w => decide (w.dirBase ≤ t) && decide (t < w.dirBase + w.dirTiles)
      | none => false)))

/-- An entry with nothing to report. -/
def State.silent (s : State) (j w : Nat) (op : UOp) (writes : List (Nat × Bytes) := []) (code : Nat := 0)
    (round : Option Nat := none) (ops : List Nat := []) : State :=
  s.enqueue j w { id := 0, op := op, word := 0, pc := 0, stepc := 0, code := code, writes := writes, round := round, ops := ops }

/-- A reporting entry of a message: its code, and whether the message fails with it at retirement (R87). -/
def State.reportMsg (s : State) (j w code : Nat) (op : UOp) (r : Round) (m : Msg) (fails : Bool) (parts : Nat := 0) : State :=
  s.enqueue j w { id := 0, op := op, word := 0, pc := 0, stepc := 0, code := code, reports := true, round := some r.cfg.round
                  msg := some (m.lz, m.slot), failCode := if fails then some code else none, parts := parts }

/-! ## Ciphertext operands (R115, R121) -/

/-- The 64-byte record at a KIND 2 operand. -/
def Spindle.ctRec (x : Spindle) (q : Nat) : Nat := readNat x.scratch (qAddr q) 64
/-- The descriptor a KIND 2 operand names. -/
def Spindle.ct (x : Spindle) (q : Nat) : CtDesc := CtDesc.ofNat (x.ctRec q)

/-- Set MARKED in the descriptors of sources (R121). -/
def State.mark (s : State) (j : Nat) (qs : List Nat) : State :=
  s.updSpin j (fun x => qs.foldl (fun x q => x.poke (qAddr q) (toLe 64 { x.ct q with marked := true }.toNat)) x)

/-- A trap of R121; checks 5 and 6 mark the sources. -/
def State.ctTrap (s : State) (j code w : Nat) (srcs : List Nat) : State :=
  (if code = 0x0201 ∨ code = 0x0202 then s.mark j srcs else s).trapHere j code w

/-- The first code of a list of checks in order. -/
def firstCode (l : List (Bool × Nat)) : Nat := ((l.find? (fun p => p.1)).map (·.2)).getD 0

/-- The destination descriptor a result leaves: its reservation stays the destination's own. -/
def CtDesc.onto (d dst : CtDesc) : CtDesc :=
  { d with tile := dst.tile, res := dst.res, alloc3 := dst.alloc3, marked := false }

/-- The result fits the destination's reservation (R114): slots, three components, and EXT and NTT not both. -/
def CtDesc.fits (d : CtDesc) : Bool := decide (d.slots ≤ d.res) && (!d.three || d.alloc3) && !(d.ext && d.ntt)

/-- Check 6: within the budget of its level. -/
def CtDesc.inBudget (d : CtDesc) : Bool := d.pset.within d.level (wOf d.wsel) d.ext d.noise

/-- A polynomial instruction with checked operands: `pre` is the code of checks its operation adds before 5 and 6, `res`
the result descriptor, `vals` what it writes to columns `cols`; `top` says it covers the highest limb or column (R220);
`prep` reads what else the operation uses, and answers no where lockage met a checksum mismatch (R190). -/
def State.polyRun (s : State) (j w : Nat) (o : TOps) (srcs : List Nat) (srcDs : List CtDesc) (pre level : Nat)
    (res : CtDesc) (top : Bool) (cols : List Nat) (vals : State → List (Nat × Nat × List Nat)) (op : UOp)
    (prep : State → Bool × State := fun s => (true, s)) : State :=
  let x := s.spin j
  let dst := x.ct o.qd
  let out := res.onto dst
  let code := firstCode
    [ ((o.qd :: srcs).any (fun q => !s.ctWf o.f (x.ctRec q)), 0x0204), (!out.fits || pre == 0x0204, 0x0204)
      , (srcDs.any (·.marked), 0x0203), (srcDs.any (fun d => d.ps != dst.ps), 0x0302), (pre != 0, pre)
      , (level != 0, level), (!out.inBudget, 0x0201) ]
  if code ≠ 0 then s.ctTrap j code w srcs
  else if !s.quiet (dst.reserved ++ srcDs.flatMap (·.reserved)) then s
  else
    let (ok, s0) := prep s
    if !ok then s0.trap j 0x0101 false x.pc (BitVec.ofNat 64 w) x.stepc
    else (s0.putAll out cols (vals s0)).silent j w op (if top then [(qAddr o.qd, toLe 64 out.toNat)] else [])

end Sys2Proof.Machine
end

