-- ==== Sys2Proof/Machine/Draws.lean ====
section
/-! DEFINITION. Requests to the random bit generator (R320, R324, R326). -/
namespace Sys2Proof.Machine

/-- The function a request waits for, when it is one function's. -/
def State.useFunc (s : State) : RngUse → Option Nat
  | .identity f => some f
  | .nonce f _ _ => some f
  | .roundOpen f _ => some f
  | .checkpoint f => some f
  | .stream sp _ => s.owner? sp
  | .sampler sp _ => s.owner? sp
  | .handshake n => (s.qp? n).map (·.func)
  | _ => none

/-- In HALTED, 0x0502 is raised once per failure to each function with a waiting request (R325). -/
def State.noEntropy (s : State) : State :=
  if s.rd Reg.rngState ≠ 4 then s
  else
    let fs := ((s.rng.reqs.filterMap (fun q => s.useFunc q.use)).dedup).filter (fun f => !s.rng.raised.contains f)
    { s.raiseAll fs 0x0502 with rng := { s.rng with raised := s.rng.raised ++ fs } }

/-- Ask for `words` words in a class, as the `order`-th requester of it (R320). -/
def State.ask (s : State) (cls order words : Nat) (use : RngUse) : State :=
  if words = 0 then s
  else State.noEntropy
    { s with rng := { s.rng with reqs := s.rng.reqs ++ [{ cls := cls, order := order, words := words, got := [], use := use }] } }

/-- Words of a stream key load: 64 bytes (R324). -/
def loadWords : Nat := 8

/-- STATE is SEEDED or DRAINING: words are given out (R325). -/
def State.rngServes (s : State) : Bool := s.rd Reg.rngState == 2 || s.rd Reg.rngState == 3

/-- Masking shares for `n` stream key loads of the instruction that spindle `j` issues next (R320, R324): class 2, or
class 3 for the ciphertext samplers. -/
def State.askLoads (s : State) (j n : Nat) (sampler : Bool := false) : State :=
  let id := (s.spin j).nextId
  if sampler then s.ask 3 j (n * loadWords) (.sampler j id) else s.ask 2 j (n * loadWords) (.stream j id)

/-- A round that waits for words in DEAD is ABANDONED (R326). -/
def State.deadRound (s : State) (f r : Nat) : State := if s.rd Reg.rngState = 5 then s.abandon f r 0x0503 else s

/-- Unit entry `e` of spindle `j` waits for words. -/
def State.awaitsWords (s : State) (j id : Nat) : Bool :=
  s.rng.reqs.any (fun q => q.use == .stream j id || q.use == .sampler j id)

end Sys2Proof.Machine
end

