-- ==== Sys2Proof/Machine/KeySwitch.lean ====
section
/-! DEFINITION. Ciphertexts in the engine: evaluation keys in use, their slices and the key cache (R124, R125), the key switch
and the work area (R123), ciphertext products (R110, R219), and the encryption of zero of a query (R130). -/
namespace Sys2Proof.Machine
open Sys2Proof

/-! ## Ciphertexts off the tiles: component, limb, coefficient -/

/-- Limbs of a ciphertext's components. -/
abbrev Ct := List (List (List Nat))

/-- Apply `g limb coefficient` to every residue. -/
def Ct.each (c : Ct) (g : Nat → Nat → Nat) : Ct :=
  List.map (fun comp => List.mapIdx (fun j l => List.map (g j) l) comp) c
/-- Combine residue by residue. -/
def Ct.both (a b : Ct) (g : Nat → Nat → Nat → Nat) : Ct :=
  (List.zip a b).map (fun p => (List.zip p.1 p.2).mapIdx (fun j q => (List.zip q.1 q.2).map (fun r => g j r.1 r.2)))
/-- Residue by residue, in order, as the argument of an open function. -/
def Ct.data (c : Ct) : List Nat := c.flatten.flatten
/-- A ciphertext of `k` components given by its residues. -/
def Ct.make (p : ParamSet) (l k : Nat) (g : Nat → Nat → Nat → Nat) : Ct :=
  (List.range k).map (fun c => (List.range l).map (fun j => (List.range p.n).map (fun i => g c j i % p.prime j)))
/-- Sum modulo each prime. -/
def Ct.add (p : ParamSet) (a b : Ct) : Ct := a.both b (fun j x y => (x + y) % p.prime j)
/-- Times a signed scalar. -/
def Ct.scale (p : ParamSet) (c : Int) (a : Ct) : Ct := a.each (fun j x => ((x : Int) * c % (p.prime j : Int)).toNat)
/-- Add Δ_ℓ · m at the constant coefficient of component 0. -/
def Ct.addConst (p : ParamSet) (l w : Nat) (m : Int) (a : Ct) : Ct :=
  List.mapIdx (fun c (comp : List (List Nat)) => if c = 0 then comp.mapIdx (fun j (lm : List Nat) => lm.mapIdx (fun i (x : Nat) =>
      if i = 0 then (((x : Int) + ((p.bigQ l / 2 ^ w : Nat) : Int) * m) % (p.prime j : Int)).toNat else x)) else comp) a

/-! ## One limb at a time -/

/-- Pointwise product modulo q. -/
def pointwise (q : Nat) (a b : List Nat) : List Nat := (a.zip b).map (fun p => p.1 * p.2 % q)
/-- Pointwise sum modulo q. -/
def pointAdd (q : Nat) (a b : List Nat) : List Nat := (a.zip b).map (fun p => (p.1 + p.2) % q)
/-- Into the NTT domain of the prime of global index `i`, and out of it. -/
def ParamSet.fwd (p : ParamSet) (i : Nat) (a : List Nat) : List Nat := nttPoly p.n p.logN (p.psi i) (p.prime i) a
def ParamSet.bwd (p : ParamSet) (i : Nat) (a : List Nat) : List Nat := inttPoly p.n p.logN (p.psi i) (p.prime i) a
/-- Product of two polynomials modulo the prime of index `i`. -/
def ParamSet.mul (p : ParamSet) (i : Nat) (a b : List Nat) : List Nat :=
  p.bwd i (pointwise (p.prime i) (p.fwd i a) (p.fwd i b))

/-! ## Keys in use (R124, R125) -/

/-- Tiles of the slice of a key that an operation at level `l` reads, in the slice's order: D digits, two components, the
ℓ + 1 + K primes, columns. A key for LUTR is read whole. The spec gives a key body's size and not its order: digit, component,
prime — those of the key's level and then the special ones —, coefficient is taken, in the NTT domain, as R117 orders a
payload. DESIGN CHOICE (log entry 118) -/
def EvkTag.slice (e : EvkTag) (l : Nat) : List Nat :=
  let p := paramSet e.ps
  if 2 ≤ e.kind then (List.range e.ntiles).map (e.tile + ·)
  else (List.range (p.digits l)).flatMap (fun d => (List.range 2).flatMap (fun k =>
    (List.range (l + 1 + p.k)).flatMap (fun j =>
      let row := if j ≤ l then j else e.level + (j - l)
      (List.range p.tiles).map (fun c => e.tile + ((d * 2 + k) * (e.level + 1 + p.k) + row) * p.tiles + c))))

/-- The EVK_CACHE tiles of a function's live rounds. -/
def State.evkPool (s : State) (f : Nat) : List Nat :=
  ((s.rounds.filter (fun r => r.func == f && r.live_ && r.cfg.mode == 3)).flatMap (fun r => match r.cfg.m3 with
    | some m => (List.range m.evkCount).map (m.evkBase + ·)
    | none => [])).dedup

/-- The cached slice of key `key` at level `l`: every tile of it still a cache tile. -/
def State.evkCached (s : State) (f key l : Nat) : Option EvkSlice :=
  (s.fn f).evkCache.find? (fun c => c.key == key && c.level == l && c.tiles.all (s.evkPool f).contains)

/-- Cache tiles that hold no slice. -/
def State.evkFree (s : State) (f : Nat) : List Nat :=
  (s.evkPool f).filter (fun t => !(s.fn f).evkCache.any (fun c => c.tiles.contains t))

/-- Slices go, least recently used first, until `n` cache tiles are free (R125): nothing is written back. -/
def State.evkEvict (s : State) (f n : Nat) : Nat → State
  | 0 => s
  | k + 1 =>
    if n ≤ (s.evkFree f).length then s
    else match minBy? (·.lastUse) (s.fn f).evkCache with
      | none => s
      | some c => (s.updFn f (fun x => { x with evkCache := x.evkCache.erase c })).evkEvict f n k

/-- Copy a key tile into a cache tile, with its tag. -/
def State.evkCopy (s : State) (src dst : Nat) : State :=
  let data := s.tileBytes src 0 tileSize
  let g := s.tag src
  let h := s.tag dst
  ((s.setTag dst { g with tenant := h.tenant, epoch := h.epoch, far := h.far, keygen := h.keygen }).putTile dst 0 data).wrote dst

/-- Read tiles of a key: near ones through the creel's ECC, far ones through lockage, verified (R50, R61, R125). -/
def State.evkRead (s : State) (ts : List Nat) : Bool × State :=
  ((ts.filter (fun t => !s.isFarNow t)).foldl (fun s t => s.eccRead t) s).verifyAll 3 (ts.filter s.isFarNow)

/-- An operation at level `l` uses key `key` of function `f` (R125): its slice is read, from the cache where it is cached,
and cached on first use where EVK_CACHE can hold it. False when lockage met a checksum mismatch. -/
def State.evkUse (s : State) (f key l : Nat) : Bool × State :=
  match s.evk? f key with
  | none => (true, s)
  | some e =>
    match s.evkCached f key l with
    | some c =>
      (true, (c.tiles.foldl (fun s t => s.eccRead t) s).updFn f (fun x =>
        { x with evkCache := updIf x.evkCache (fun y => y == c) (fun y => { y with lastUse := s.time }) }))
    | none =>
      let body := e.slice l
      let s0 := s.updFn f (fun x => { x with evkCache := x.evkCache.filter (fun c =>
        c.tiles.all (s.evkPool f).contains && !(c.key == key && c.level == l)) })
      let (ok, s1) := s0.evkRead body
      if !ok then (false, s1)
      else if (s1.evkPool f).length < body.length then (true, s1)
      else
        let s2 := s1.evkEvict f body.length (s1.fn f).evkCache.length
        let dst := (s2.evkFree f).take body.length
        (true, ((body.zip dst).foldl (fun s p => s.evkCopy p.1 p.2) s2).updFn f (fun x =>
          { x with evkCache := x.evkCache ++ [{ key := key, level := l, tiles := dst, lastUse := s.time }] }))

/-- Keys used in order, until lockage meets a mismatch. -/
def State.evkUses (s : State) (f : Nat) : List (Nat × Nat) → Bool × State
  | [] => (true, s)
  | (key, l) :: ks =>
    let (ok, s1) := s.evkUse f key l
    if ok then s1.evkUses f ks else (false, s1)

/-- Digit `d`, component `k`, slot `j` of the slice of a key at level `l`, in the NTT domain, from where the slice lies. -/
def State.keyPoly (s : State) (f key l d k j : Nat) : List Nat :=
  match s.evk? f key with
  | none => []
  | some e =>
    let p := paramSet e.ps
    let ts := match s.evkCached f key l with
      | some c => c.tiles
      | none => e.slice l
    (List.range p.tiles).flatMap (fun c =>
      let t := ts.getD (((d * 2 + k) * (l + 1 + p.k) + j) * p.tiles + c) 0
      (List.range 8192).map (fun i => s.elem t 8 i))

/-! ## The key switch (R123) -/

/-- The limb slots of digit `d` at level `l`: K of them, the last digit holding the remainder. -/
def ParamSet.digitSlots (p : ParamSet) (l d : Nat) : List Nat := (List.range (l + 1)).filter (fun j => j / p.k == d)

/-- Digit `d` of a polynomial given by its limbs in the coefficient domain: the integers below the product of the digit's
primes that its residues name. The spec does not say which representative a digit is extended by. DESIGN CHOICE (log entry
118) -/
def ParamSet.digit (p : ParamSet) (l : Nat) (c : List (List Nat)) (d : Nat) : List Nat :=
  let js := p.digitSlots l d
  (List.range p.n).map (fun i => crt (js.map p.prime) (js.map (fun j => (c.getD j []).getD i 0)))

/-- Step 1: digit `d` extended to slot `j`'s prime, in the NTT domain. -/
def ParamSet.extended (p : ParamSet) (l : Nat) (digits : List (List Nat)) (d j : Nat) : List Nat :=
  let i := p.slotPrime l j
  p.fwd i ((digits.getD d []).map (· % p.prime i))

/-- Step 2: the inner product with component `k` of the key, slot `j`, in the coefficient domain. -/
def ParamSet.inner (p : ParamSet) (l : Nat) (key : Nat → Nat → Nat → List Nat) (digits : List (List Nat)) (k j : Nat) : List Nat :=
  let i := p.slotPrime l j
  p.bwd i ((List.range (p.digits l)).foldl (fun acc d =>
    pointAdd (p.prime i) acc (pointwise (p.prime i) (p.extended l digits d j) (key d k j))) (List.replicate p.n 0))

/-- Step 3 on a component of the extended basis: divided by P with rounding, back to ℓ + 1 limbs. -/
def ParamSet.moddn (p : ParamSet) (l : Nat) (limbs : List (List Nat)) : List (List Nat) :=
  let qs := (List.range (l + 1 + p.k)).map (fun j => p.prime (p.slotPrime l j))
  let xs := (List.range p.n).map (fun i => crt qs (limbs.map (fun (a : List Nat) => a.getD i 0)))
  (List.range (l + 1)).map (fun j => xs.map (fun v => divRound v p.bigP % p.prime j))

/-- The pair that switches component `c` to the key s (R123 steps 1 to 3). -/
def ParamSet.switch (p : ParamSet) (l : Nat) (key : Nat → Nat → Nat → List Nat) (c : List (List Nat)) : Ct :=
  let ds := (List.range (p.digits l)).map (p.digit l c)
  (List.range 2).map (fun k => p.moddn l ((List.range (l + 1 + p.k)).map (p.inner l key ds k)))

/-- A ciphertext whose last component is switched: the pair is added to the components that remain. -/
def Ct.ksw (p : ParamSet) (l : Nat) (key : Nat → Nat → Nat → List Nat) (c : Ct) : Ct :=
  let last := c.length - 1
  let sw := p.switch l key (c.getD last [])
  (List.range 2).map (fun k => (List.range (l + 1)).map (fun j =>
    let a := (sw.getD k []).getD j []
    if k < last then pointAdd (p.prime j) ((c.getD k []).getD j []) a else a))

/-- The WORK tiles of spindle `j`: its run in the first live mode 3 round of its function that has one (R116). -/
def State.workTiles (s : State) (f j : Nat) : List Nat :=
  let rank := ((s.spin j).bound.filter (fun k => decide (k < j))).length
  ((s.rounds.filter (fun r => r.func == f && r.live_ && r.cfg.mode == 3)).findSome? (fun r => match r.cfg.m3 with
    | some m => if m.workCount = 0 then none else some ((List.range m.workCount).map (m.workBase + rank * m.workCount + ·))
    | none => none)).getD []

/-- The intermediates of a key switch occupy the spindle's WORK tiles (R123): the extended digits, as far as they reach. The
spec lays the area out no further. DESIGN CHOICE (log entry 118) -/
def State.putWork (s : State) (f j : Nat) (p : ParamSet) (l : Nat) (c : List (List Nat)) : State :=
  let ds := (List.range (p.digits l)).map (p.digit l c)
  let polys := (List.range (p.digits l)).flatMap (fun d => (List.range (l + 1 + p.k)).map (fun i => (p.slotPrime l i, p.extended l ds d i)))
  let parts := polys.flatMap (fun q => (List.range p.tiles).map (fun c => (q.1, (q.2.drop (c * 8192)).take 8192)))
  ((s.workTiles f j).zip parts).foldl (fun s q =>
    let s1 := s.setElems q.1 8 0 q.2.2
    (s1.setTag q.1 { s1.tag q.1 with mode := 3, limb := q.2.1, b60 := p.b60, csum := csumOf 0 q.2.2 % p.prime q.2.1 }).wrote q.1) s

/-! ## Products -/

/-- The centred residue of `x` modulo `q`. -/
def centred (q x : Nat) : Int := if q < 2 * x then (x : Int) - q else x

/-- Coefficient `i` of a · b in Z[X]/(X^n + 1). -/
def negaInt (n : Nat) (a b : List Int) (i : Nat) : Int :=
  ((List.range n).map (fun u =>
    let x := a.getD u 0 * b.getD ((i + n - u) % n) 0
    if u ≤ i then x else -x)).foldl (· + ·) 0

/-- Limbs over the primes `qs` of the product of two pairs given by theirs: ⌊t · (a ⊗ b) / Q⌉ of the centred integers, Q the
product of the primes, three components. R110 fixes what a product decrypts to and the spec states no more: this is the
scale-invariant product that the scaling of R110 calls for. PRESUMED (log entry 118) -/
def ctMul (n w : Nat) (qs : List Nat) (a b : Ct) : Ct :=
  let big := qs.foldl (· * ·) 1
  let lift (c : List (List Nat)) : List Int :=
    (List.range n).map (fun i => centred big (crt qs (c.map (fun (l : List Nat) => l.getD i 0))))
  let a0 := lift (a.getD 0 [])
  let a1 := lift (a.getD 1 [])
  let b0 := lift (b.getD 0 [])
  let b1 := lift (b.getD 1 [])
  let ds : List (Nat → Int) := [negaInt n a0 b0, fun i => negaInt n a0 b1 i + negaInt n a1 b0 i, negaInt n a1 b1]
  ds.map (fun d => qs.map (fun (q : Nat) => (List.range n).map (fun (i : Nat) =>
    (((2 * 2 ^ w * d i + (big : Int)) / (2 * (big : Int))) % (q : Int)).toNat)))

/-- A ciphertext product relinearised (R123, R129). -/
def Ct.mulRelin (p : ParamSet) (l w : Nat) (key : Nat → Nat → Nat → List Nat) (a b : Ct) : Ct :=
  (ctMul p.n w ((List.range (l + 1)).map p.prime) a b).ksw p l key
/-- X to X^(2N − 1), key-switched. -/
def Ct.conj (p : ParamSet) (l : Nat) (key : Nat → Nat → Nat → List Nat) (a : Ct) : Ct :=
  Ct.ksw p l key (List.map (fun comp => comp.mapIdx (fun j lm => autoPoly p.n (2 * p.n - 1) (p.prime j) lm)) a)

/-! ## Draws of a query (R128, R130, R323) -/

/-- A bounded uniform value from word `i` of a stream (R128). -/
def bounded (key i bound : Nat) : Nat := streamWord key i * bound / 2 ^ 64

/-- Limb `j` of component `k` of the committee public key of a key set. The spec gives the key no layout: component, limb of
the Lq primes, coefficient, in the coefficient domain, as R117 orders a payload. DESIGN CHOICE (log entry 118) -/
def State.commLimb (s : State) (f keyset : Nat) (p : ParamSet) (k j : Nat) : List Nat :=
  match (s.fn f).commKeys.find? (fun c => c.keyset == keyset) with
  | none => []
  | some c => (List.range p.n).map (fun i =>
      let at_ := (k * p.lq + j) * p.n + i
      s.elem (c.tile + at_ / 8192) 8 (at_ % 8192))

/-- A fresh encryption of zero under a public key (R130): the key times a ternary polynomial, plus Gaussian errors, from the
stream. The stream's words 0 to 4 are s, r, r′, the flooding value and QUERY_ID; the ternary values are words from 8, and the
errors blocks after them: the spec gives no order of the draws. DESIGN CHOICE (log entry 118) -/
def zeroEnc (p : ParamSet) (l key : Nat) (pk : Nat → Nat → List Nat) : Ct :=
  let u (q : Nat) : List Nat := (List.range p.n).map (fun i => (streamWord key (8 + i) % 3 + q - 1) % q)
  let e (k q : Nat) : List Nat := (List.range p.n).map (fun i =>
    (drawY table32 (streamBlock key (4 + p.n / 2 + k * p.n + i)) % (q : Int)).toNat)
  (List.range 2).map (fun k => (List.range (l + 1)).map (fun j =>
    pointAdd (p.prime j) (p.mul j (pk k j) (u (p.prime j))) (e k (p.prime j))))

end Sys2Proof.Machine
end

