-- ==== Sys2Proof/Machine/Poly.lean ====
section
/-! DEFINITION. The polynomial class (R119 to R123, R219, R220) and LUTR (R134, R221). -/
namespace Sys2Proof.Machine
open Sys2Proof

/-- The slot range of an instruction. -/
def CtDesc.slotRange (d : CtDesc) (o : TOps) : List Nat := ctRange o.sa o.sb d.slots
/-- The column range of an instruction. -/
def CtDesc.colRange (d : CtDesc) (o : TOps) : List Nat := ctRange o.sa o.sb d.pset.tiles
/-- Every column. -/
def CtDesc.cols (d : CtDesc) : List Nat := List.range d.pset.tiles
/-- The range includes the last of `n` items. -/
def covers (l : List Nat) (n : Nat) : Bool := l.contains (n - 1)
/-- Stream registers of a two-operand form. -/
def regs2 (w : Nat) : List (Nat × List Nat) := [(tQD w, [2]), (tQA w, [2])]
/-- Stream registers with a ciphertext in qB. -/
def regs3 (w : Nat) : List (Nat × List Nat) := [(tQD w, [2]), (tQA w, [2]), (tQB w, [2])]
/-- Stream registers with a plaintext polynomial in qB. -/
def regs3p (w : Nat) : List (Nat × List Nat) := [(tQD w, [2]), (tQA w, [2]), (tQB w, [0])]

/-- A limb-wise instruction of class 5 on qA: each slot of the range becomes `g` of the stored residues. -/
def State.limbOp (s : State) (j : Nat) (w : Nat) (o : TOps) (res : CtDesc → CtDesc) (g : State → CtDesc → Nat → Nat → List Nat)
    (op : UOp) : State :=
  let d := (s.spin j).ct o.qa
  let r := d.slotRange o
  s.polyRun j w o [o.qa] [d] 0 0 (res d) (covers r d.slots) d.cols
    (fun _ => mapSlots (List.range d.comps) r (g s d)) op

/-- NTT (R219). The transform is applied whatever domain the operand is in: the spec does not say what NTT of a ciphertext in
the NTT domain, or INTT of one in the coefficient domain, does. DESIGN CHOICE (log entry 119) -/
def State.ntt (s : State) (j : Nat) : State :=
  s.unitOp j (5, 0, 0) regs2 (fun o s =>
    s.limbOp j o.w o (fun d => { d.fresh d.noise with ntt := true })
      (fun s d k i => nttPoly d.pset.n d.pset.logN (d.pset.psi (d.primeIx i)) (d.q i) (s.limb d k i)) .ntt)

/-- INTT (R219). -/
def State.intt (s : State) (j : Nat) : State :=
  s.unitOp j (5, 1, 0) regs2 (fun o s =>
    s.limbOp j o.w o (fun d => { d.fresh d.noise with ntt := false })
      (fun s d k i => inttPoly d.pset.n d.pset.logN (d.pset.psi (d.primeIx i)) (d.q i) (s.limb d k i)) .intt)

/-- AUTO with element K (R219). -/
def State.auto (s : State) (j : Nat) : State :=
  s.unitOp j (5, 4, 0) regs2 (fun o s =>
    let k := tMod o.w
    let d := (s.spin j).ct o.qa
    if 2 * d.pset.n ≤ k then s.ctTrap j 0x0204 o.w [o.qa]
    else s.limbOp j o.w o (fun d => { d.fresh d.noise with autoK := k })
      (fun s d c i => d.toDomain i (autoPoly d.pset.n k (d.q i) (s.coefs d c i))) .auto)

/-- The signed value of a 64-bit scalar. -/
def scalar64 (x : Nat) : Int := lift 64 x

/-- Slot `i` of a plaintext polynomial in KIND 0 tiles, in the NTT domain (R219). -/
def State.plain (s : State) (q tiles i : Nat) : List Nat :=
  (((qTiles q).drop (i * tiles)).take tiles).flatMap (fun t => (List.range 8192).map (fun k => s.elem t 8 k))

/-- PMUL (R219): by MOD KIND a ciphertext, a plaintext polynomial or a scalar. A plaintext of fewer tiles than the slots need
traps with 0x0A09, as PADD's does, which R177 says of spans. DESIGN CHOICE (log entry 119) -/
def State.pmul (s : State) (j : Nat) : State :=
  let x := s.spin j
  let kind := match x.fetch with
    | some w => tMod w % 4
    | none => 0
  if kind = 0 then
    s.unitOp j (5, 2, 0) regs3 (fun o s =>
      let x := s.spin j
      let a := x.ct o.qa
      let b := x.ct o.qb
      let r := a.colRange o
      let pre := if a.level ≠ b.level ∨ a.ntt ≠ b.ntt ∨ a.ext ≠ b.ext ∨ a.three ∨ b.three then 0x0204 else 0
      let res := { a.fresh (a.pset.nuMul (wOf a.wsel) a.noise b.noise) with three := true }
      s.polyRun j o.w o [o.qa, o.qb] [a, b] pre 0 res (covers r a.pset.tiles) r
        (fun s =>
          let limbs (d : CtDesc) : Ct := (List.range 2).map (fun k => (List.range d.slots).map (fun i => s.coefs d k i))
          let m := ctMul a.pset.n (wOf a.wsel) ((List.range a.slots).map a.q) (limbs a) (limbs b)
          mapSlots [0, 1, 2] (List.range a.slots) (fun k i => res.toDomain i ((m.getD k []).getD i []))) .pmul)
  else if kind = 1 then
    s.unitOp j (5, 2, 0) regs3p (fun o s =>
      let d := (s.spin j).ct o.qa
      let bp := bits (tMod o.w) 2 7
      if qNt o.qb < d.slots * d.pset.tiles then s.trapHere j 0x0A09 o.w 0 (tQB o.w)
      else s.limbOp j o.w o (fun d => d.fresh (d.noise + bp * 256 + lg d.pset.n))
        (fun s d k i =>
          let p := s.plain o.qb d.pset.tiles i
          if d.ntt then pointwise (d.q i) (s.limb d k i) p
          else
            let psi := d.pset.psi (d.primeIx i)
            inttPoly d.pset.n d.pset.logN psi (d.q i)
              (pointwise (d.q i) (nttPoly d.pset.n d.pset.logN psi (d.q i) (s.limb d k i)) p)) .pmul)
  else
    s.unitOp j (5, 2, 0) regs2 (fun o s =>
      let c := scalar64 o.sc
      s.limbOp j o.w o (fun d => d.fresh (d.noise + ceilLog2 (c.natAbs + 1) * 256))
        (fun s d k i => (s.limb d k i).map (fun (v : Nat) => ((v : Int) * c % (d.q i : Int)).toNat)) .pmul)

/-- PADD (R219): PLAIN adds Δ_ℓ times a plaintext polynomial to component 0 (R110, R167). -/
def State.padd (s : State) (j : Nat) : State :=
  let m := match (s.spin j).fetch with
    | some w => tMod w
    | none => 0
  let put (q a b : Nat) : Nat := if m % 2 = 1 then (a + q - b % q) % q else (a + b) % q
  if bit m 1 then
    s.unitOp j (5, 3, 0) regs3p (fun o s =>
      let d := (s.spin j).ct o.qa
      if qNt o.qb < d.slots * d.pset.tiles then s.trapHere j 0x0A09 o.w 0 (tQB o.w)
      else if !d.ntt then s.ctTrap j 0x0204 o.w [o.qa]
      else s.limbOp j o.w o (fun d => d.add 1 0)
        (fun s d k i =>
          if k = 0 then ((s.limb d k i).zip (s.plain o.qb d.pset.tiles i)).map (fun p => put (d.q i) p.1 (d.delta i * p.2))
          else s.limb d k i) .padd)
  else
    s.unitOp j (5, 3, 0) regs3 (fun o s =>
      let x := s.spin j
      let a := x.ct o.qa
      let b := x.ct o.qb
      let r := a.slotRange o
      let pre := if a.level ≠ b.level ∨ a.ntt ≠ b.ntt ∨ a.ext ≠ b.ext then 0x0204 else 0
      let res := { a.add b.count b.nuIn with three := a.three || b.three }
      let part (d : CtDesc) (k i : Nat) : List Nat :=
        if k < d.comps then s.limb d k i else List.replicate d.pset.n 0
      s.polyRun j o.w o [o.qa, o.qb] [a, b] pre 0 res (covers r a.slots) a.cols
        (fun _ => mapSlots (List.range (max a.comps b.comps)) r (fun k i =>
          ((part a k i).zip (part b k i)).map (fun p => put (a.q i) p.1 p.2))) .padd)

/-- MODUP (R123 step 1) on a descriptor of its own. How D digits, each of ℓ + 1 + K limbs, lie in one component is not stated,
so the residues are free. -/
def State.modup (s : State) (j : Nat) : State :=
  s.unitOp j (5, 5, 0) regs2 (fun o s =>
    let d := (s.spin j).ct o.qa
    let r := d.colRange o
    let res := { d.fresh (d.noise + d.pset.logP) with ext := true, ntt := false }
    let data := s.ctData d
    s.polyRun j o.w o [o.qa] [d] (if d.ext then 0x0204 else 0) 0 res (covers r d.pset.tiles) r
      (fun _ => mapSlots (List.range d.comps) (List.range res.slots) (fun k i =>
        (List.range d.pset.n).map (fun c => Config.modupLimb data k i c % res.q i))) .modup)

/-- MODDN (R123 step 3): divided by P with rounding. -/
def State.moddn (s : State) (j : Nat) : State :=
  s.unitOp j (5, 6, 0) regs2 (fun o s =>
    let d := (s.spin j).ct o.qa
    let r := d.colRange o
    let res := { d.fresh (d.pset.nuModdn d.noise) with ext := false }
    s.polyRun j o.w o [o.qa] [d] (if d.ext then 0 else 0x0204) 0 res (covers r d.pset.tiles) r
      (fun _ => (List.range d.comps).flatMap (fun k =>
        let xs := s.lifted d k (List.range d.slots)
        (List.range (d.level + 1)).map (fun i =>
          (k, i, res.toDomain i (xs.map (fun v => divRound v d.pset.bigP % res.q i)))))) .moddn)

/-- RESC (R219): limb ℓ dropped with rounding. -/
def State.resc (s : State) (j : Nat) : State :=
  s.unitOp j (5, 7, 0) regs2 (fun o s =>
    let d := (s.spin j).ct o.qa
    let r := d.colRange o
    let res := { d.fresh (d.pset.nuResc (wOf d.wsel) d.level d.noise) with level := d.level - 1 }
    s.polyRun j o.w o [o.qa] [d] (if d.ext then 0x0204 else 0) (if d.level = 0 then 0x0202 else 0) res
      (covers r d.pset.tiles) r
      (fun _ => (List.range d.comps).flatMap (fun k =>
        let xs := s.lifted d k (List.range (d.level + 1))
        (List.range d.level).map (fun i =>
          (k, i, res.toDomain i (xs.map (fun v => divRound v (d.q d.level) % res.q i)))))) .resc)

/-- KSW with key KEY (R123, R219). -/
def State.ksw (s : State) (j : Nat) : State :=
  s.unitOp j (5, 8, 0) regs2 (fun o s =>
    let key := bits (tMod o.w) 0 8
    let d := (s.spin j).ct o.qa
    let r := d.colRange o
    let res := { d.fresh (d.pset.nuKsw d.level d.noise) with three := false, autoK := 0 }
    let limbs (s : State) (k : Nat) : List (List Nat) := (List.range (d.level + 1)).map (fun i => s.coefs d k i)
    s.polyRun j o.w o [o.qa] [d]
      (if d.ext then 0x0204 else s.evkCode o.f key d (if d.three then 0 else 1) d.autoK d.level) 0 res
      (covers r d.pset.tiles) r
      (fun s =>
        let c := Ct.ksw d.pset d.level (s.keyPoly o.f key d.level) ((List.range d.comps).map (limbs s))
        mapSlots [0, 1] (List.range (d.level + 1)) (fun k i => res.toDomain i ((c.getD k []).getD i []))) .ksw
      (fun s =>
        let (ok, s1) := s.evkUse o.f key d.level
        (ok, if ok then s1.putWork o.f j d.pset d.level (limbs s1 (d.comps - 1)) else s1)))

/-- LUTR (R134, R221): each batch entry's destination follows the last at 64-byte intervals. What the output encrypts is fixed,
T(d) · 2^S; the modulus of the switch, the gadget bases and the keys' layouts are not, so its residues are free. -/
def State.lutr (s : State) (j : Nat) : State :=
  s.unitOp j (6, 0, 0) (fun w => [(tQD w, [2]), (tQA w, [2]), (tQB w, [3])]) (fun o s =>
    let x := s.spin j
    let m := tMod o.w
    let sh := bits m 0 6
    let lv := bits m 6 6
    let d := x.ct o.qa
    let at_ (i : Nat) : Nat := qAddr o.qd + 64 * i
    let dsts := (List.range o.sb).map (fun i => readNat x.scratch (at_ i) 64)
    let outs := dsts.map (fun c => ({ d.fresh (d.pset.nuLutr lv) with level := lv, ntt := false, ext := false, three := false
                                                                      autoK := 0 } : CtDesc).onto (CtDesc.ofNat c))
    let keys := [(bits o.sc 0 8, 2), (bits o.sc 8 8, 3), (bits o.sc 16 8, 4)]
    let codes := keys.map (fun k => s.evkCode o.f k.1 d k.2 0 (if k.2 = 4 then lv else d.level))
    let keyCode := firstCode ([0x0302, 0x0303, 0x0301].map (fun c => (codes.contains c, c)))
    let code := firstCode
      [ (!s.ctWf o.f (x.ctRec o.qa) || dsts.any (fun c => !s.ctWf o.f c), 0x0204)
        , (decide (d.pset.lq ≤ lv) || outs.any (fun c => !c.fits), 0x0204)
        , (d.marked, 0x0203), (outs.any (fun c => c.ps != d.ps) || dsts.any (fun c => (CtDesc.ofNat c).ps != d.ps), 0x0302)
        , (keyCode != 0, keyCode), (outs.any (fun c => !c.inBudget), 0x0201) ]
    if qLen o.qb < 256 ∨ o.sb = 0 ∨ 64 < o.sb ∨ dataEnd < qAddr o.qd + 64 * o.sb then s.trapHere j 0x0A09 o.w 0 (tQB o.w)
    else if wOf d.wsel - 8 < sh ∨ bits o.sc 24 40 ≠ 0 then s.trapHere j 0x0A07 o.w
    else if code ≠ 0 then s.ctTrap j code o.w [o.qa]
    else if !s.quiet (d.reserved ++ outs.flatMap (·.reserved)) then s
    else
      let table := (readBytes x.scratch (qAddr o.qb) 256).map (·.toNat)
      let data := s.ctData d ++ table ++ [sh, s.evkDigest o.f (bits o.sc 0 8), s.evkDigest o.f (bits o.sc 8 8),
        s.evkDigest o.f (bits o.sc 16 8)]
      let put (s : State) (p : Nat × CtDesc) : State :=
        s.putAll p.2 p.2.cols (mapSlots [0, 1] (List.range p.2.slots) (fun k i =>
          (List.range p.2.pset.n).map (fun c => Config.lutrLimb ((o.sa + p.1) :: data) k i c % p.2.q i)))
      let (ok, s0) := s.evkUses o.f (keys.map (fun k => (k.1, lv)))
      if !ok then s0.trap j 0x0101 false x.pc (BitVec.ofNat 64 o.w) x.stepc
      else (((List.range o.sb).zip outs).foldl put s0).silent j o.w .lutr
        (((List.range o.sb).zip outs).map (fun p => (at_ p.1, toLe 64 p.2.toNat))))

/-- NTT (R219). -/
def execNtt (sp : Nat) (s : State) : Res := .next (s.ntt sp)
/-- INTT (R219). -/
def execIntt (sp : Nat) (s : State) : Res := .next (s.intt sp)
/-- PMUL (R219). -/
def execPmul (sp : Nat) (s : State) : Res := .next (s.pmul sp)
/-- PADD (R219). -/
def execPadd (sp : Nat) (s : State) : Res := .next (s.padd sp)
/-- AUTO (R219). -/
def execAuto (sp : Nat) (s : State) : Res := .next (s.auto sp)
/-- MODUP (R123). -/
def execModup (sp : Nat) (s : State) : Res := .next (s.modup sp)
/-- MODDN (R123). -/
def execModdn (sp : Nat) (s : State) : Res := .next (s.moddn sp)
/-- RESC (R219). -/
def execResc (sp : Nat) (s : State) : Res := .next (s.resc sp)
/-- KSW (R123). -/
def execKsw (sp : Nat) (s : State) : Res := .next (s.ksw sp)
/-- LUTR (R221). -/
def execLutr (sp : Nat) (s : State) : Res := .next (s.lutr sp)

end Sys2Proof.Machine
end

