-- ==== Sys2Proof/Machine/Mask.lean ====
section
/-! DEFINITION. The mask class: EXPAND (R96, R99, R204, R215), SEEDREC (R93 to R99, R205, R216) and PRGH (R163, R217, R323). -/
namespace Sys2Proof.Machine
open Sys2Proof

/-! ## EXPAND -/

/-- The 16 bytes EXPAND writes: units completed, entries still pending. -/
def expandOut (units pending : Nat) : Bytes := toLe 8 units ++ toLe 8 pending

/-- Parts of a spread step that spindle `j` has still to begin (R204). -/
def State.partsLeft (s : State) (j : Nat) (ran : List Nat) : List Nat := (s.partsOf j).filter (fun p => !ran.contains p)

/-- EXPAND of the next entry of the queue, mode 0. -/
def State.expandEntry (s : State) (j : Nat) (o : TOps) (x : Round) : State :=
  match x.um.queue with
  | [] => s.report j o.w 0 .expand [(qAddr o.qb, expandOut 0 0)]
  | (owner, kind) :: rest =>
    if !s.quiet x.acc || !s.allPresent x.acc then s
    else
      let secret := ((x.um.secrets.find? (fun p => p.1 == owner && p.2.1 == kind)).map (·.2.2)).getD 0
      let s1 := (s.expand0 x owner kind secret).updRound o.f x.cfg.round (fun x => { x with um := { x.um with queue := rest } })
      s1.enqueue j o.w { id := 0, op := .expand, word := 0, pc := 0, stepc := 0, reports := true, round := some x.cfg.round
                         msg := some (owner, kind), writes := [(qAddr o.qb, expandOut 1 rest.length)] }

/-- EXPAND of the spindle's parts, mode 1. -/
def State.expandParts (s : State) (j : Nat) (o : TOps) (x : Round) : State :=
  let ps := s.partsLeft j x.um.ran
  match x.um.sigma with
  | none => s.report j o.w 0 .expand [(qAddr o.qb, expandOut 0 0)]
  | some sigma =>
    if ps.isEmpty then s.report j o.w 0 .expand [(qAddr o.qb, expandOut 0 0)]
    else if !s.quiet x.acc || !s.allPresent x.acc then s
    else
      let bs := ps.flatMap (partItems x.cfg.blocks s.lgrade)
      let tag := s.tenantTag o.f
      let s1 := bs.foldl (fun s b => s.expandBlock x tag sigma b) s
      let s2 := s1.updRound o.f x.cfg.round (fun x => { x with um := { x.um with ran := x.um.ran ++ ps } })
      ((s2.askLoads j bs.length).enqueue j o.w
        { id := 0, op := .expand, word := 0, pc := 0, stepc := 0, reports := true, round := some x.cfg.round, spread := ps
          writes := [(qAddr o.qb, expandOut bs.length 0)] }).deadRound o.f x.cfg.round

/-- EXPAND on spindle `j`. -/
def State.expand (s : State) (j : Nat) : State :=
  s.issue j (3, 0, 0) (fun f w s =>
    let o := (s.spin j).capture f w
    if !(s.spin j).spanOk o.qb 16 then s.trapHere j 0x0A09 w 0 (tQB w)
    else match s.round? f o.sa with
      | none => s.report j w 0x0110 .expand
      | some x =>
        if x.st = .abandoned then s.report j w 0x0110 .expand [(qAddr o.qb, expandOut 0 0)]
        else if x.st ≠ .unmask then s.report j w 0 .expand [(qAddr o.qb, expandOut 0 x.um.queue.length)]
        else if x.cfg.mode = 1 then (s.loadShareModulus 1).expandParts j o x
        else (s.loadShareModulus 0).expandEntry j o x)

/-! ## SEEDREC -/

/-- Handle records in order: the records' ends with the round after them. -/
def State.takeShares (s : State) : Round → List (Option Share) → List ShareEnd × Round
  | x, [] => ([], x)
  | x, h :: hs =>
    let (e, x1) := s.takeShare x h
    let (es, x2) := s.takeShares x1 hs
    (e :: es, x2)

/-- What the ends of a message's records leave in the counts. -/
def RoundCounts.shares (c : RoundCounts) (es : List ShareEnd) : RoundCounts :=
  { c with
    malformed := c.malformed + es.count .malformed
    sharesOk := c.sharesOk + es.count .ok
    sharesDenied := c.sharesDenied + es.count .denied + es.count .inconsistent }

/-- The secrets the round needs are reconstructed (R205). -/
def State.reconstructed (s : State) (x : Round) : Bool :=
  if x.cfg.mode = 1 then x.um.sigma.isSome
  else (s.needed x).all (fun p => x.um.secrets.any (fun q => q.1 == p.1 && q.2.1 == p.2))

/-- SEEDREC of a recovery message: the report, and the state with its records handled and the message gone. -/
def State.seedRecords (s : State) (x : Round) (m : Msg) : Nat × State :=
  let (es, x1) := if x.cfg.mode = 1 then
      let (e, y) := takeAgg x m.slot (s.aggRecord m.lz)
      ([e], y)
    else s.takeShares x (s.shareRecords m.lz m.len)
  let r := x.cfg.round
  let s1 := s.updRound x.func r (fun y =>
    { y with um := x1.um, counts := y.counts.shares es, live := y.live.filter (fun k => k.lz != m.lz) })
  let s2 := if es.contains .malformed then s1.raiseOnce x.func r 0x010F else s1
  let s3 := if es.contains .denied then s2.raise x.func 0x0902 4 r else s2
  let s4 := if es.contains .inconsistent then s3.raise x.func 0x0904 4 r else s3
  let s5 := match s4.round? x.func r with
    | some y => if y.st = .unmask && s4.reconstructed y then s4.progress x.func r 5 else s4
    | none => s4
  (if es.contains .denied then 0x0902 else if es.contains .inconsistent then 0x0904 else 0, s5)

/-- SEEDREC on spindle `j`. -/
def State.seedrec (s : State) (j : Nat) : State :=
  s.unitOp j (3, 1, 0) (fun w => [(tQA w, [1])]) (fun o s =>
    match s.liveMsg o.f o.qa with
    | none => s.report j o.w 0x0110 .seedrec
    | some (x, m) =>
      if m.kind ≠ .recovery then s.report j o.w 0x0111 .seedrec
      else
        let (c, s1) := (s.loadShareModulus x.cfg.mode).seedRecords x m
        s1.report j o.w c .seedrec)

/-! ## PRGH -/

/-- The stream key of tile `t` for PRGH: SRC 0 from the public seed of the round the step counter names, a free value when
no such round is held. -/
def State.prghKey (s : State) (o : TOps) (src step t : Nat) : Nat :=
  let seed := match s.round? o.f (step / 2 ^ 24) with
    | some x => x.seed
    | none => Config.free s.fresh
  (s.streamOf o.f src seed step t).getD 0

/-- Coefficient `i` of a tile from its stream (R128, R163, R217). -/
def prghCoef (dist q k i : Nat) : Nat :=
  if dist = 1 then streamWord k i * q / 2 ^ 64
  else if dist = 2 then (((streamWord k i % 3 : Nat) : Int) - 1 |> fun z => (z % (q : Int)).toNat)
  else ((drawY table32 (streamBlock k i)) % (q : Int)).toNat

/-- The tile whose stream gives slot `i`, column `c`: its own for DIST 1; for DIST 2 and 3 one integer serves every limb, and
the first slot written gives it. DEDUCED -/
def prghTile (d : CtDesc) (dist comp first i c : Nat) : Nat := d.tileAt comp (if dist = 1 then i else first) c

/-- PRGH on spindle `j`. -/
def State.prgh (s : State) (j : Nat) : State :=
  s.unitOp j (3, 2, 0) (fun w => [(tQD w, [2])]) (fun o s =>
    let x := s.spin j
    let d := x.ct o.qd
    let dist := tMod o.w % 4
    let src := tMod o.w / 4
    let js := if o.sc = 0 then List.range d.slots else ctRange o.sb o.sc d.slots
    if !s.ctWf o.f (x.ctRec o.qd) || decide (d.comps ≤ o.sa) || !d.fits then s.ctTrap j 0x0204 o.w []
    else if src = 1 && (s.fn o.f).noiseSeed.isNone then s.trapHere j 0x0601 o.w
    else if src = 1 && !s.rngServes then s.report j o.w 0x0502 .prgh
    else if !s.quiet d.reserved then s
    else
      let cols := d.cols
      let vals := js.map (fun i => (o.sa, i, cols.flatMap (fun c =>
        let k := s.prghKey o src x.stepc (prghTile d dist o.sa (js.headD 0) i c)
        (List.range 8192).map (prghCoef dist (d.q i) k))))
      let s1 := { s.putAll d cols vals with fresh := s.fresh + 1 }
      let loads := if dist = 1 then js.length * cols.length else cols.length
      let s2 := if src = 1 then s1 else s1.askLoads j loads (dist != 1)
      s2.report j o.w 0 .prgh [(qAddr o.qd, toLe 64 { d.fresh 0 with marked := false }.toNat)])

/-- EXPAND (R215). -/
def execExpand (sp : Nat) (s : State) : Res := .next (s.expand sp)
/-- SEEDREC (R216). -/
def execSeedrec (sp : Nat) (s : State) : Res := .next (s.seedrec sp)
/-- PRGH (R217). -/
def execPrgh (sp : Nat) (s : State) : Res := .next (s.prgh sp)

end Sys2Proof.Machine
end

