-- ==== Sys2Proof/Machine/Release.lean ====
section
/-! DEFINITION. The release gate after its checks: NOISE (R162 to R168, R223), the digests (R172), DECODE (R40 to R45,
R224), destinations (R169), RELEASE (R170, R171, R226), the trailer (R173), and joint decryption (R136, R137). -/
namespace Sys2Proof.Machine
open Sys2Proof

/-! ## What the gate releases -/

/-- Tiles of the decoded form, or of the ciphertexts, in logical order: a joint round's plaintext lies in its first tiles
(DEDUCED, log entry 42), a sparse round's row blocks are those its rows fill. -/
def Round.gateTiles (r : Round) : List Nat :=
  if r.joint then r.acc.take (ceilDiv r.cfg.l r.cfg.elems)
  else if r.cfg.sparse then r.acc.take (ceilDiv r.rowsUsed.length r.cfg.rowsPerTile)
  else r.acc

/-- Released items: tiles, or ciphertexts. -/
def Round.items (r : Round) : Nat := if r.cipherForm then r.cts.length else r.gateTiles.length

/-- Elements of tile `l` that leave: those the round holds, of released rows in list order in a sparse round (R152). -/
def Round.leaving (r : Round) (l : Nat) : List Nat :=
  if r.cfg.sparse then
    (r.sparse.released.filter (fun p => p.2.1 / r.cfg.rowsPerTile == l)).flatMap (fun p =>
      (List.range r.cfg.rw).map (fun k => p.2.1 % r.cfg.rowsPerTile * r.cfg.rw + k))
  else (List.range (min r.cfg.elems (r.cfg.l - l * r.cfg.elems)))

/-- x of R164 for tile `l`: the ciphertext's number in ciphertext form. -/
def Round.noiseIx (r : Round) (l : Nat) : Nat := if r.cipherForm then l / r.cfg.ctTiles else l

/-! ## NOISE (R164, R167) -/

/-- The noise of ciphertext `d`, slot `i`, column `c`: Δ_ℓ · z as a plaintext in the ciphertext's domain. -/
def CtDesc.noiseTile (d : CtDesc) (sigma : Nat) (t : List Nat) (k i c : Nat) : List Nat :=
  let poly := (List.range d.pset.n).map (fun e => (((d.delta i : Nat) : Int) * noiseZ sigma t k e % (d.q i : Int)).toNat)
  ((d.toDomain i poly).drop (c * 8192)).take 8192

/-- Add the noise of tile `l`, at tile `t`, under stream key `k`. -/
def State.noiseTile (s : State) (r : Round) (tab : List Nat) (k l t : Nat) : State :=
  let sg := r.policy.sigma
  if r.cipherForm then
    let n := r.cfg.ctTiles
    let ct := l / n
    let d := r.m3.acc.getD ct {}
    let i := l % n / d.pset.tiles
    if ct < r.m3.acc.length ∧ i < d.slots then s.addTile t 8 (d.q i) (d.noiseTile sg tab k i (l % d.pset.tiles)) else s
  else
    let es := r.leaving l
    let top := es.foldl max 0 + 1
    s.addTile t (wBytes r.cfg.wsel) (2 ^ r.w)
      ((List.range top).map (fun i => if es.contains i then wrap r.w (noiseZ sg tab k i) else 0))

/-- Step 5 on tile `l`: verified, its leaf taken, its noise added. -/
def State.noiseStep5 (s : State) (r : Round) (tab : List Nat) (l : Nat) : Bool × State :=
  let t := r.acc.getD l 0
  let (ok, s1) := s.verify t 8
  if !ok then (false, s1)
  else
    let leaf := s1.accLeaf (r.noiseIx l) t
    let s2 := s1.updRound r.func r.cfg.round (fun x => { x with gate := { x.gate with accLeaves := x.gate.accLeaves ++ [(l, leaf)] } })
    let key := s.streamOf r.func 1 0 (stepOf r.cfg.round noiseStep) (r.noiseIx l)
    match key with
    | some k => if r.policy.sigma = 0 then (true, s2) else (true, s2.noiseTile r tab k l t)
    | none => (true, s2)

/-- Step 5 on tiles in order, until one mismatches. -/
def State.noiseTiles (s : State) (r : Round) (tab : List Nat) : List Nat → Bool × State
  | [] => (true, s)
  | l :: ls =>
    let (ok, s1) := s.noiseStep5 r tab l
    if ok then s1.noiseTiles r tab ls else (false, s1)

/-- The round a release-class instruction names, in GATED with step `lo` or more reached and no stop recorded: nothing more is
started after one (R171, R222). -/
def State.gated? (s : State) (f r lo : Nat) : Option Round :=
  (s.round? f r).filter (fun x => x.st == .gated && decide (lo ≤ x.gate.step) && x.gate.stop.isNone)

/-- NOISE on spindle `j`. -/
def State.noise (s : State) (j : Nat) : State :=
  s.issue j (7, 1, 0) (fun f w s =>
    let o := (s.spin j).capture f w
    match s.gated? f o.sa 4 with
    | none => s.trapHere j 0x090B w
    | some x =>
      if x.gate.step ≠ 4 then s.trapHere j 0x090B w
      else if x.policy.sigma ≠ 0 && (s.fn f).noiseSeed.isNone then s.trapHere j 0x0601 w
      else
        let ps := s.partsLeft j x.gate.noiseRan
        let ls := ps.flatMap (partItems x.gateTiles.length s.lgrade)
        let ts := ls.map (fun l => x.acc.getD l 0)
        if !s.quiet ts || !s.allPresent ts then s
        else
          let tab := noiseTable x.policy.sigma
          let (ok, s1) := s.noiseTiles x (if x.policy.sigma = 0 then [] else tab) ls
          let s2 := s1.updRound f o.sa (fun x => { x with gate := { x.gate with noiseRan := x.gate.noiseRan ++ ps } })
          let s3 := (if x.policy.sigma = 0 then s2 else s2.askLoads j ls.length).enqueue j w
            { id := 0, op := .noise, word := 0, pc := 0, stepc := 0, round := some o.sa, spread := ps }
          if ok then s3.deadRound f o.sa else s3.abandon f o.sa 0x0101)

/-- ACC_DIGEST. -/
def Round.accDigest (r : Round) : Nat := rootOf r.gate.accLeaves
/-- REL_DIGEST. -/
def Round.relDigest (r : Round) : Nat := rootOf r.gate.relLeaves

/-- Both strands compare their digests (R307): B answers once it holds both. -/
def State.plyCompare (s : State) (f r : Nat) : State :=
  match s.round? f r with
  | none => s
  | some x =>
    match x.ply.digest, x.ply.peerDigest with
    | some a, some b =>
      if !(s.plied && s.isB && x.ply.plied) then s
      else if a = b then s.verdict f r 0
      else (s.verdict f r 0x0801).abandon f r 0x0801
    | _, _ => s

/-- The strands' digest is formed: A sends it, B compares (R307). -/
def State.plyFormed (s : State) (f r digest : Nat) : State :=
  let s1 := s.updRound f r (fun x => { x with ply := { x.ply with digest := some digest } })
  match s1.round? f r with
  | none => s1
  | some x => (s1.mirror x plyDigest (toLe 32 digest)).plyCompare f r

/-- The descriptors after the noise pass: in ciphertext form its PADD is one summand with estimate 0 in each aggregate
ciphertext (R167, R120). -/
def Round.m3Noised (r : Round) : M3St :=
  if r.cipherForm && r.policy.sigma != 0 then { r.m3 with acc := r.m3.acc.map (fun d => d.add 1 0) } else r.m3

/-- Parts of the noise pass have retired; with the last the round is NOISED (R204, R205). -/
def State.noiseDone (s : State) (f r : Nat) (ps : List Nat) : State :=
  let s1 := s.updRound f r (fun x => { x with gate := { x.gate with noiseParts := x.gate.noiseParts ++ ps } })
  match s1.round? f r with
  | none => s1
  | some x =>
    if x.st = .gated ∧ x.gate.step = 4 ∧ (List.range s.lgrade).all (fun p => x.gate.noiseParts.contains p) then
      let s2 := (s1.updRound f r (fun x => { x with gate := { x.gate with step := 5 }, m3 := x.m3Noised })).progress f r 8
      if x.ply.plied then s2.plyFormed f r (rootOf (x.gate.accLeaves ++ x.dirLeaf)) else s2
    else s1

/-! ## DECODE (R41, R43, R45) -/

/-- Bytes of an element of a format. -/
def fmtBytes (wsel fmt : Nat) : Nat :=
  match fmt with
  | 2 => 4 | 3 => 8 | 4 => 4 | 5 => 8
  | _ => wBytes wsel

/-- The element of residue `r` in a format (R43): F fraction bits, `n` for the MEAN formats. -/
def fmtElem (w f fmt n r : Nat) : Nat :=
  let v := lift w r
  let num := v.natAbs
  match fmt with
  | 2 => f32.ofRat (v < 0) num (2 ^ f)
  | 3 => f64.ofRat (v < 0) num (2 ^ f)
  | 4 => f32.ofRat (v < 0) num (2 ^ f * n)
  | 5 => f64.ofRat (v < 0) num (2 ^ f * n)
  | _ => r

/-- A tile's decode: status, format written, slack, element width and elements. -/
structure Decoded where
  status : Nat
  fmt : Nat
  slack : Bool
  bytes : Bytes
  deriving DecidableEq, Repr

/-- Decode verified residues of a tile of a round with COUNT `n` and noise bound `h` (R41). -/
def Round.decodeElems (r : Round) (n h : Nat) (xs : List Nat) : Decoded :=
  let c := r.cfg
  let w := r.w
  let mode := if c.mode = 3 then 2 else c.mode
  let d := decodeBound mode c.encoding (boundM c.encoding c.m) n h
  let fmt := r.policy.format
  let slack := slackE mode n != 0
  let mean := if r.joint then r.gate.kept.getD n else n
  if 0 < n ∧ d ≤ 2 ^ (w - 1) - 1 ∧ (fmt < 4 ∨ 0 < mean) then
    { status := 0, fmt := fmt, slack := slack
      bytes := xs.flatMap (fun x => toLe (fmtBytes c.wsel fmt) (fmtElem w (encF c.encoding) fmt mean x)) }
  else { status := 0x0103, fmt := 0, slack := slack, bytes := xs.flatMap (toLe (wBytes c.wsel)) }

/-- The output tile (R224): a new epoch, the bytes from 0, the source's tag with SEALED. Elements of 8 bytes of a full tile at
W = 32 take twice a tile, and no rule says where they go: what passes the tile's end is not written. DESIGN CHOICE (log entry
110) -/
def State.putOutput (s : State) (t : Nat) (g : TileTag) (bs : Bytes) : State :=
  let s1 := (s.newEpoch t).putTile t 0 (bs.take tileSize)
  let h := { s1.tag t with tenant := g.tenant, mode := g.mode, wsel := g.wsel, limb := 0, count := g.count, ovr := g.ovr
                           sealed := true }
  let s2 := s1.setTag t h
  (s2.setTag t { h with csum := s2.csum t }).wrote t

/-- A tag without what placement changes: FAR and KEYGEN. -/
def TileTag.placed (g : TileTag) : TileTag := { g with far := false, keygen := 0 }

/-- H of R41 for the tile with released elements `es` of a noised round: 0 when the pass added no noise to it. -/
def Round.tileH (r : Round) (es : List Nat) : Nat := if es.isEmpty then 0 else noiseH r.policy.sigma

/-- Decode one tile `a` into `b`: its status, status record, and the state. A tile that is none of the round's released ones is
decoded whole in the round's encoding, with H = 0, and its output is not recorded: no rule says what is decoded of it. DESIGN
CHOICE (log entry 111) -/
def State.decodeTile (s : State) (r : Round) (a b : Nat) : Nat × Nat × State :=
  let (ok, s1) := s.verify a 1
  let g := s1.tag a
  let n := g.count
  let mode := if r.cfg.mode = 3 then 2 else r.cfg.mode
  let err := errHalf mode r.cfg.encoding n r.nClipped
  let l := r.gateTiles.findIdx? (fun t => t == a)
  let h := (l.map (fun l => r.tileH (r.leaving l))).getD 0
  let noisy := h != 0
  let bound := r.cfg.m != 0
  let drop (s : State) := s.updRound r.func r.cfg.round (fun x =>
    { x with gate := { x.gate with outs := x.gate.outs.filter (fun y => y.tile != b) } })
  if !ok then (0x0101, statusRecord 0x0101 r.policy.format g.ovr bound (slackE mode n != 0) noisy n err, drop s1)
  else
    let es := match l with
      | some l => r.leaving l
      | none => List.range r.cfg.elems
    let d := r.decodeElems n h (es.map (fun i => s1.elem a (wBytes r.cfg.wsel) i))
    let s2 := (drop s1).putOutput b g d.bytes
    let s3 := match l with
      | some l => s2.updRound r.func r.cfg.round (fun x => { x with gate := { x.gate with
          outs := x.gate.outs ++
            [{ tile := b, logical := l, fmt := d.fmt, bytes := min d.bytes.length tileSize, tag := (s2.tag b).placed }] } })
      | none => s2
    (d.status, statusRecord d.status d.fmt g.ovr bound d.slack noisy n err, s3)

/-- Decode tiles in order: statuses and records. -/
def State.decodeTiles (s : State) (r : Round) : List (Nat × Nat) → List Nat × List Nat × State
  | [] => ([], [], s)
  | (a, b) :: l =>
    let (c, rec_, s1) := s.decodeTile r a b
    let (cs, rs, s2) := s1.decodeTiles r l
    (c :: cs, rec_ :: rs, s2)

/-- A mismatch at step 7 (R170): the release stops. Before any RELEASE has named a destination there is none to take a trailer,
and the round is ABANDONED at once. DESIGN CHOICE (log entry 112) -/
def State.stopRelease (s : State) (f r code : Nat) : State :=
  match s.round? f r with
  | none => s
  | some x =>
    if x.gate.dest.isNone then s.abandon f r code
    else s.updRound f r (fun x => { x with gate := { x.gate with stop := some code, step := 8 } })

/-- DECODE on spindle `j`. -/
def State.decode (s : State) (j : Nat) : State :=
  s.unitOpE j (7, 0, 0)
    (fun s o q => match s.round? o.f o.sa with
      | some x => x.cfg.elems
      | none => s.eOf q)
    (fun w => [(tQD w, [0]), (tQA w, [0]), (tQB w, [3])]) (fun o s =>
    let ss := qTiles o.qa
    let ds := qTiles o.qd
    match s.gated? o.f o.sa 5 with
    | none => s.trapHere j 0x090B o.w
    | some x =>
      if x.cipherForm then s.trapHere j 0x090B o.w
      else if ds.length < ss.length || ss.any (fun t => ds.contains t) then
        s.trapHere j 0x010C o.w (ss.find? (fun t => ds.contains t) |>.getD 0) (tQD o.w)
      else if qLen o.qb < 16 * ss.length then s.trapHere j 0x0A09 o.w 0 (tQB o.w)
      else if !s.quiet (ss ++ ds) || !s.allPresent (ss ++ ds) then s
      else
        let (cs, rs, s1) := s.decodeTiles x (ss.zip ds)
        let code := if cs.contains 0x0101 then 0x0101 else if cs.contains 0x0103 then 0x0103 else 0
        let s2 := s1.report j o.w code .decode [(qAddr o.qb, rs.flatMap (toLe 16))]
        if code = 0x0101 then s2.stopRelease o.f o.sa 0x0101 else s2)

/-! ## Destinations (R169) -/

/-- The largest size a release can take. -/
def Round.maxSize (r : Round) : Nat :=
  let c := r.cfg
  let wb := wBytes c.wsel
  if r.cipherForm then (r.cts.map (fun d => 64 + tileSize * d.tiles.length)).sum + 128
  else if c.sparse then
    let u := r.sparse.released.length
    16 + 16 * u + 16 * r.gateTiles.length + u * c.rw * wb + 128
  else ((List.range r.gateTiles.length).map (fun l => 16 + (r.leaving l).length * wb)).sum + 128

/-- The QP may take one more message now: in RTS, with credit for it (R250). -/
def Qp.canSend (q : Qp) : Bool :=
  q.st == .rts && (match q.tx.credit with
    | some c =>
      -- the MSN its next message would take
      let n := q.tx.msn + (q.tx.queue.filter (fun m => m.seq0.isNone)).length
      decide ((c + 2 ^ 24 - n % 2 ^ 24) % 2 ^ 24 < 2 ^ 23)
    | none => false)

/-- What destination `i` of a round comes to. -/
inductive Dest where
  | refused
  | waits
  | host (addr : Nat)
  | peer (qpn : Nat)
  deriving DecidableEq, Repr

/-- Step 6 (R169). A peer that no QP of the function has authenticated is refused. DEDUCED -/
def State.resolveDest (s : State) (r : Round) (i : Nat) : Dest :=
  if r.policy.ndest ≤ i then .refused
  else
    let d := r.policy.dests.getD i { kind := 0, peer := 0 }
    if d.kind = 1 then
      match (s.fn r.func).dests.find? (fun b => b.index == i) with
      | none => .waits
      | some b => if b.len < r.maxSize then .refused else .host b.addr
    else
      let qs := s.qps.filter (fun q => q.func == r.func && q.peerId == d.peer && q.st != .init && q.st != .listen && q.st != .handshake)
      match qs.find? Qp.canSend, qs with
      | some q, _ => .peer q.qpn
      | none, [] => .refused
      | none, _ => .waits

/-- What step 6 leaves the round: the path it resolved, once it has one. -/
def Dest.path : Dest → Option Path
  | .host a => some (.host a)
  | .peer q => some (.peer q)
  | _ => none

/-- The destination of a round whose RELEASEs name index `i`: the path step 6 resolved, which it keeps (R169), and which waits
while its QP cannot send. -/
def State.destOf (s : State) (r : Round) : Dest :=
  match r.gate.path with
  | none => s.resolveDest r (r.gate.dest.getD 0)
  | some (.host a) => .host a
  | some (.peer q) => if (s.qp? q).any Qp.canSend then .peer q else .waits

/-- Bytes to the destination path at the round's place in it. -/
def State.sendTo (s : State) (r : Round) (d : Dest) (sp : Option Nat) (bs : Bytes) : State :=
  let s1 := match d with
    | .host a => s.hostPut r.func (a + r.gate.sent) bs
    | .peer q =>
      let s0 := s.post q (.release r.func r.cfg.round sp) bs
      (match sp with
        | some j => s0.updSpin j (fun x => { x with unacked := x.unacked + 1 })
        | none => s0)
    | _ => s
  s1.updRound r.func r.cfg.round (fun x => { x with gate := { x.gate with sent := x.gate.sent + bs.length } })

/-! ## RELEASE (R226) -/

/-- The row list of a sparse release (R152). -/
def Round.rowList (r : Round) : Bytes :=
  toLe 16 (r.sparse.released.length + r.sparse.suppressed * 2 ^ 40) ++
    (r.sparse.released.mapIdx (fun k p => toLe 16 (p.1 + 2 ^ 48 + k * 2 ^ 64 + p.2.2 * 2 ^ 92))).flatten

/-- The record of tile `t` as a DECODE output of the round with a logical index, while the tile still is what DECODE left
(R14, R226): a COPY, a DRAIN, a ZERO or a fold since has left another tag. -/
def State.outOf (s : State) (r : Round) (t l : Nat) : Option OutTile :=
  r.gate.outs.find? (fun y => y.tile == t && y.logical == l && y.tag == (s.tag t).placed)

/-- RELEASE at its issue: what R115, R222 and R226 check. 0 when it passes. -/
def State.releaseCode (s : State) (x : Round) (o : TOps) (rec_ : Nat) : Nat :=
  if o.sc ≠ x.gate.nextIdx || x.gate.dest.any (fun d => d != o.sb) then 0x090B
  else if x.cipherForm then
    (if qKind o.qa ≠ 2 ∨ x.cts.length ≤ o.sc then 0x090B
     else if !s.ctWf o.f rec_ then 0x0204
     else if (CtDesc.ofNat rec_).tile ≠ (x.cts.getD o.sc {}).tile then 0x090B else 0)
  else if qKind o.qa = 0 && ((qTiles o.qa).mapIdx (fun k t => (s.outOf x t (o.sc + k)).isSome)).all id then 0
  else 0x090B

/-- RELEASE on spindle `j`: it takes its place in the order, resolves the destination when it is the first, and its entry
waits for its turn. -/
def State.release (s : State) (j : Nat) : State :=
  s.unitOp j (7, 4, 0)
    (fun w =>
      let x := (s.spin j).capture 0 w
      [(tQA w, [0, 2]), (tQB w, if qKind x.qa = 2 then [0, 1, 2, 3] else [3])])
    (fun o s =>
      match s.gated? o.f o.sa 5 with
      | none => s.trapHere j 0x090B o.w
      | some x =>
        let y := s.spin j
        let ts := if x.cipherForm then [] else qTiles o.qa
        let n := if x.cipherForm then 1 else ts.length
        let code := s.releaseCode x o (y.ctRec o.qa)
        let need := if x.cipherForm then (x.cts.getD o.sc {}).tiles else ts
        if code ≠ 0 then s.trapHere j code o.w
        else if !x.cipherForm && decide (qLen o.qb < 16 * n) then s.trapHere j 0x0A09 o.w 0 (tQB o.w)
        else if !s.allPresent need then s
        else
          let e : UnitEntry :=
            { id := 0, op := .release, word := 0, pc := 0, stepc := 0, round := some o.sa, ops := o.sc :: ts
              data := if x.cipherForm then [] else readBytes y.scratch (qAddr o.qb) (16 * n)
              last := o.sc + n == x.items, held := true }
          let s1 := s.enqueue j o.w e
          let d := s.resolveDest x o.sb
          if x.gate.dest.isNone ∧ d = .refused then s1.abandon o.f o.sa 0x090A
          else s1.updRound o.f o.sa (fun x => { x with gate := { x.gate with
            dest := some o.sb
            path := if x.gate.dest.isNone then d.path else x.gate.path
            nextIdx := x.gate.nextIdx + n } }))

/-- Tiles of a RELEASE in order, from logical index `l`: verified, sent with their status records, their leaves taken. The
flag says that one mismatched. -/
def State.sendTiles (s : State) (f r : Nat) (d : Dest) (sp l : Nat) : List (Nat × Bytes) → Bool × State
  | [] => (true, s)
  | (t, rec_) :: rest =>
    match s.round? f r with
    | none => (true, s)
    | some x =>
      let (ok, s1) := s.verify t 2
      -- what was written over an output tile since the RELEASE issued is not sent either (log entry 112)
      match s1.outOf x t l with
      | none => (false, s1)
      | some y =>
      if !ok then (false, s1)
      else
        let bs := s1.tileBytes t 0 y.bytes
        let leaf := sha256N (0 :: (toLe 3 (if x.cfg.sparse then l + 1 else l) ++ bs ++ rec_))
        let s2 := s1.sendTo x d (some sp) (rec_ ++ bs)
        let s3 := s2.updRound f r (fun x => { x with gate := { x.gate with
          relLeaves := x.gate.relLeaves ++ [(if x.cfg.sparse then l + 1 else l, leaf)], tilesSent := x.gate.tilesSent + 1 } })
        s3.sendTiles f r d sp (l + 1) rest

/-- A ciphertext of a RELEASE: its tiles verified, then descriptor and tiles sent. -/
def State.sendCt (s : State) (f r : Nat) (d : Dest) (sp i : Nat) : Bool × State :=
  match s.round? f r with
  | none => (true, s)
  | some x =>
    let c := x.cts.getD i {}
    let (ok, s1) := s.verifyAll 2 c.tiles
    if !ok then (false, s1)
    else
      let bs := s1.ctBytes c
      let leaf := sha256N (0 :: (toLe 3 i ++ bs))
      let s2 := s1.sendTo x d (some sp) bs
      (true, s2.updRound f r (fun x => { x with gate := { x.gate with
        relLeaves := x.gate.relLeaves ++ [(i, leaf)], tilesSent := x.gate.tilesSent + 1 } }))

/-- The row list of a sparse round goes first (R152, R172). -/
def State.sendRows (s : State) (f r : Nat) (d : Dest) (sp : Nat) : State :=
  match s.round? f r with
  | none => s
  | some x =>
    if !x.cfg.sparse || x.gate.sent ≠ 0 then s
    else
      let leaf := sha256N (0 :: (toLe 3 0 ++ x.rowList))
      (s.sendTo x d (some sp) x.rowList).updRound f r (fun x => { x with gate := { x.gate with relLeaves := [(0, leaf)] } })

/-- RELEASE entry `e` of spindle `j` may go on: it is the next in logical order, A holds B's verdict (R307), B the DONE
(R308), and the destination can take it. `none`: it waits. -/
def State.releaseReady (s : State) (x : Round) (e : UnitEntry) : Option Dest :=
  if e.ops.headD 0 ≠ x.gate.tilesSent then none
  else if s.plied && x.ply.plied && s.isA && x.ply.verdict != some 0 then none
  else if s.plied && x.ply.plied && s.isB then (if x.ply.done then some .waits else none)
  else match s.destOf x with
    | .refused => some .refused
    | .waits => none
    | d => some d

/-- The last effect of a RELEASE: sent, or with a DONE completed without sending; the last one commits (R171). -/
def State.releaseRun (s : State) (f r j : Nat) (e : UnitEntry) (d : Dest) : State :=
  match s.round? f r with
  | none => s
  | some x =>
    let n := if x.cipherForm then 1 else e.ops.length - 1
    match d with
    | .refused => s.abandon f r 0x090A
    | .waits =>
      s.updRound f r (fun x => { x with gate := { x.gate with
        tilesSent := x.gate.tilesSent + n, committed := e.last, step := if e.last then 8 else 7 } })
    | _ =>
      let s1 := (s.updRound f r (fun x => { x with gate := { x.gate with
        step := 7
        path := x.gate.path.orElse (fun _ => d.path) } })).sendRows f r d j
      let recs := (List.range n).map (fun k => slice e.data (16 * k) 16)
      let (ok, s2) := if x.cipherForm then s1.sendCt f r d j (e.ops.headD 0)
        else s1.sendTiles f r d j (e.ops.headD 0) ((e.ops.drop 1).zip recs)
      if !ok then s2.stopRelease f r 0x0101
      else if e.last then s2.updRound f r (fun x => { x with gate := { x.gate with committed := true, step := 8 } })
      else s2

/-! ## The trailer (R173) -/

/-- The 128-byte trailer. -/
def Round.trailer (r : Round) : Bytes :=
  let n := r.cohort
  let kept := if r.joint then r.gate.kept.getD n else n
  toLe 128 (0x54524C43 + 1 * 2 ^ 32 + r.cfg.mode * 2 ^ 40 + b2n r.cipherForm * 2 ^ 42 + r.policy.format * 2 ^ 43
    + r.gate.stop.getD 0 * 2 ^ 48 + r.cfg.round % 2 ^ 40 * 2 ^ 64 + n % 2 ^ 40 * 2 ^ 104 + kept % 2 ^ 40 * 2 ^ 144
    + r.policy.id * 2 ^ 184 + r.policy.sigma * 2 ^ 216 + r.policy.kMin % 2 ^ 32 * 2 ^ 248 + r.gate.tilesSent % 2 ^ 24 * 2 ^ 280
    + r.accDigest * 2 ^ 512 + r.relDigest * 2 ^ 768)

/-- RELEASE_TRAILER_DONE: the trailer goes out, and the round is RELEASED, or ABANDONED with the stop's code. Strand A tells
B (R304); B writes none. -/
def State.trailerDone (s : State) (f r : Nat) : State :=
  match s.round? f r with
  | none => s
  | some x =>
    if !s.ready || x.st != .gated || x.gate.step != 8 || (s.fn f).resetAt.isSome then s
    else
      let quiet := s.plied && x.ply.plied && s.isB
      let d := s.destOf x
      if !quiet ∧ d = .waits then s
      else
        let s1 := if quiet then s else s.sendTo x d none x.trailer
        match x.gate.stop with
        | some c => s1.abandon f r c
        | none => (s1.mirror x plyDone []).released f r

/-- RELEASE_DEST_TIMEOUT (R169, R174): the destination still cannot take what is to be sent, be it the first byte, a later one
or the trailer. -/
def State.destTimeout (s : State) (f r : Nat) : State :=
  match s.round? f r with
  | none => s
  | some x =>
    if s.ready && x.st == .gated && x.gate.dest.isSome
        && decide (x.gate.since + x.cfg.unmaskTimeout ≤ s.time)
        && s.destOf x == .waits
        && !(s.plied && x.ply.plied && s.isB) then s.abandon f r 0x090A
    else s

/-! ## Joint decryption (R137) -/

/-- Bytes of a partial decryption record of a round. -/
def Round.pdLen (r : Round) : Nat := 64 + (r.cts.map (fun d => (d.level + 1) * d.pset.n * 8)).sum

/-- D_X of a record: for each ciphertext its limbs. -/
def Round.pdPolys (r : Round) (msg : Bytes) : List (List (List Nat)) :=
  (r.cts.foldl (fun (a : Nat × List (List (List Nat))) d =>
    let p := (List.range (d.level + 1)).map (fun j => (List.range d.pset.n).map (fun i => leAt msg (a.1 + (j * d.pset.n + i) * 8) 8))
    (a.1 + (d.level + 1) * d.pset.n * 8, a.2 ++ [p])) (64, [])).2

/-- A record is malformed (R137). -/
def Round.pdBad (r : Round) (msg : Bytes) : Bool :=
  let x := leAt msg 4 2
  leAt msg 0 4 != 0x44504C43 || x == 0 || decide (r.cfg.committee < x) || !allZero (slice msg 40 24)
    || msg.length != r.pdLen
    || ((r.cts.zip (r.pdPolys msg)).any (fun p => (p.2.mapIdx (fun j l => l.any (fun v => decide (p.1.q j ≤ v)))).any id))

/-- m of one ciphertext from the chosen partial decryptions (R137 steps 2 and 3). -/
def State.jointPoly (s : State) (r : Round) (chosen : List PartialDec) (i : Nat) : List Nat :=
  let d := r.cts.getD i {}
  let js := List.range (d.level + 1)
  let xs := chosen.map (·.x)
  let limbs := js.map (fun j =>
    let q := d.q j
    let c0 := s.coefs d 0 j
    (List.range d.pset.n).map (fun e =>
      (c0.getD e 0 + (chosen.map (fun p => lagrange q 0 p.x xs * ((p.polys.getD i []).getD j []).getD e 0)).sum) % q))
  let big := d.pset.bigQ d.level
  (List.range d.pset.n).map (fun e =>
    (2 * 2 ^ r.w * crt (js.map d.q) (limbs.map (fun l => l.getD e 0)) + big) / (2 * big) % 2 ^ r.w)

/-- The plaintext of the round goes into its tiles (R137 step 3). -/
def State.putPlain (s : State) (r : Round) (ms : List (List Nat)) : State :=
  let c := r.cfg
  let all := (ms.take c.cts).flatten
  let past := nMax 2 r.w (2 ^ (encB c.encoding - 1)) < r.cohort
  (List.range r.gateTiles.length).foldl (fun s l =>
    let t := r.acc.getD l 0
    let es := (all.drop (l * c.elems)).take c.elems
    let s1 := (s.zeroTile t).setElems t (wBytes c.wsel) 0 es
    (s1.setTag t { s1.tag t with mode := 3, wsel := c.wsel, limb := 0, sealed := true, count := r.cohort
                                 csum := csumOf 0 es % 2 ^ r.w, ovr := past }).wrote t) s

/-- t records have arrived: the aggregate is decrypted and the gate goes on, or refuses. -/
def State.jointDone (s : State) (f r : Nat) : State :=
  match s.round? f r with
  | none => s
  | some x =>
    let t := x.cfg.threshold
    if x.gate.partials.length < t then s
    else
      let chosen := (sortBy (·.x) x.gate.partials).take t
      let nu (d : CtDesc) := max d.noise ((chosen.map (·.smudge)).foldl max 0 + lg t) + 256
      if x.cts.any (fun d => !d.pset.within d.level (wOf d.wsel) d.ext (nu d)) then s.abandon f r 0x0201
      else
        let ms := (List.range x.cts.length).map (s.jointPoly x chosen)
        let kept := if x.cfg.hasCount then (ms.getD x.cfg.cts []).headD 0 else x.cohort
        ((s.putPlain x ms).updRound f r (fun x => { x with gate := { x.gate with kept := some kept, partials := [] } })).gateChecks f r

/-- A partial decryption record on a round (R137); strand A mirrors what it accepts (R304). -/
def State.partialOn (s : State) (x : Round) (msg : Bytes) : State :=
  let f := x.func
  let r := x.cfg.round
  if x.gate.kept.isSome then s
  else if x.pdBad msg then s.refuseMsg f r 0x010F (fun c => { c with malformed := c.malformed + 1 })
  else if leAt msg 8 32 ≠ x.gate.ctDigest then
    (s.count f r (fun c => { c with sharesDenied := c.sharesDenied + 1 })).raise f 0x0902 4 r
  else if x.gate.partials.any (fun p => p.x == leAt msg 4 2) then s
  else
    let p : PartialDec := { x := leAt msg 4 2, smudge := leAt msg 6 2, polys := x.pdPolys msg }
    let s1 := (s.count f r (fun c => { c with sharesOk := c.sharesOk + 1 })).updRound f r
      (fun x => { x with gate := { x.gate with partials := x.gate.partials ++ [p] } })
    (s1.mirror x plyShare msg).jointDone f r

/-- The joint round in GATED whose committee sends on QP `qpn`: the one with the record's digest, else the first. -/
def State.jointRound (s : State) (f qpn : Nat) (msg : Bytes) : Option Round :=
  let l := s.rounds.filter (fun x => x.func == f && x.st == .gated && x.joint && (x.cfg.m3.map (·.committeeQp)).getD 0 == qpn)
  match l.find? (fun x => x.gate.ctDigest == leAt msg 8 32) with
  | some x => some x
  | none => l.head?

/-- A record that reaches the device on a QP. -/
def State.partialMsg (s : State) (f qpn : Nat) (msg : Bytes) : State :=
  match s.jointRound f qpn msg with
  | none => s
  | some x => if s.mirroredHere x then s else s.partialOn x msg

/-- PARTIAL_DECRYPT_TIMEOUT (R137). -/
def State.partialTimeout (s : State) (f r : Nat) : State :=
  match s.round? f r with
  | none => s
  | some x =>
    if s.ready && x.st == .gated && x.joint && x.gate.kept.isNone && decide (x.gate.since + x.cfg.unmaskTimeout ≤ s.time)
    then s.abandon f r 0x0903 else s

/-- NOISE (R223). -/
def execNoise (sp : Nat) (s : State) : Res := .next (s.noise sp)
/-- DECODE (R224). -/
def execDecode (sp : Nat) (s : State) : Res := .next (s.decode sp)
/-- RELEASE (R226). -/
def execRelease (sp : Nat) (s : State) : Res := .next (s.release sp)
/-- RELEASE_TRAILER_DONE (R226). -/
def execReleaseTrailerDone (f r : Nat) (s : State) : Res := .next (s.trailerDone f r)
/-- RELEASE_DEST_TIMEOUT (R169). -/
def execReleaseDestTimeout (f r : Nat) (s : State) : Res := .next (s.destTimeout f r)
/-- PARTIAL_DECRYPTION (R137): on the round's committee QP. -/
def execPartialDecryption (f qpn : Nat) (msg : Bytes) (s : State) : Res :=
  .next (if s.ready && (s.qp? qpn).any (fun q => q.func == f) then s.partialMsg f qpn msg else s)

end Sys2Proof.Machine
end

