-- ==== Sys2Proof/Machine/Apply.lean ====
section
/-! DEFINITION. APPLY (R46, R47, R204, R227, R228). -/
namespace Sys2Proof.Machine
open Sys2Proof

/-- Working precision and aggregate format of an APPLY (R203). -/
def applyFmt (one : Bool) : FpFmt := if one then f64 else f32
/-- Elements of a tile in a format. -/
def FpFmt.perTile (f : FpFmt) : Nat := if f.eb = 8 then 16384 else 8192
/-- Bytes of an element. -/
def FpFmt.size (f : FpFmt) : Nat := if f.eb = 8 then 4 else 8

/-- An APPLY: its fields and captured operands. -/
structure ApplyOp where
  prec : FpFmt
  afmt : FpFmt
  adaptive : Bool
  nclip : Bool
  round : Nat
  /-- tiles of the aggregate and elements in its last tile -/
  agg : List Nat
  last : Nat
  param : List Nat
  m : List Nat
  v : List Nat
  /-- of a sparse round: elements of a row, and the table rows of each tile of the aggregate (R152) -/
  rows : Option (Nat × List (List Nat))
  /-- elements of the parameter run's last tile -/
  plast : Nat
  /-- lr, mu or b1, c1, b2, c2, eps, wd in the working precision; clip in binary64 -/
  k : List Nat
  clip : Nat
  deriving DecidableEq, Repr

/-- A run of tiles with the NT and STRIDE of descriptor `q`, from base `b`. -/
def runFrom (q b : Nat) : List Nat := (List.range (qNt q)).map (fun k => b + k * qStride q)

/-- An APPLY from MOD `m`, the descriptors in qA and qD, and the 96-byte record (R203, R228). -/
def applyOf (m round qa qd : Nat) (rec_ : Bytes) (rows : Option (Nat × List (List Nat))) : ApplyOp :=
  let prec := applyFmt (bit m 0)
  let afmt := applyFmt (bit m 1)
  { prec := prec, afmt := afmt, adaptive := bit m 2, nclip := bit m 3, round := round
    agg := qTiles qa, last := if qLast qa = 0 then afmt.perTile else qLast qa, param := qTiles qd
    m := runFrom qd (leAt rec_ 64 3), v := if bit m 2 then runFrom qd (leAt rec_ 68 3) else []
    rows := rows, plast := if qLast qd = 0 then prec.perTile else qLast qd
    k := (List.range 7).map (fun i => f64.convert prec (leAt rec_ (8 * i) 8)), clip := leAt rec_ 56 8 }

/-- The table rows that the tiles of an aggregate hold (R152): those of the row block a DECODE output is of, else of the block
in its place. -/
def Round.applyRows (r : Round) (agg : List Nat) : Option (Nat × List (List Nat)) :=
  if r.cfg.sparse then
    some (r.cfg.rw, agg.mapIdx (fun k t =>
      let l := ((r.gate.outs.find? (fun y => y.tile == t)).map (·.logical)).getD k
      (r.sparse.released.filter (fun p => p.2.1 / r.cfg.rowsPerTile == l)).map (·.1)))
  else none

/-- Elements of tile `i` of the aggregate. -/
def ApplyOp.elems (a : ApplyOp) (i : Nat) : Nat :=
  match a.rows with
  | some (rw, l) => (l.getD i []).length * rw
  | none => if i + 1 = a.agg.length then a.last else a.afmt.perTile
/-- The place in the runs of element `i` of tile `t` of the aggregate: table row ROW_ID in a sparse round. -/
def ApplyOp.place (a : ApplyOp) (t i : Nat) : Nat :=
  match a.rows with
  | some (rw, l) => (l.getD t []).getD (i / max 1 rw) 0 * rw + i % max 1 rw
  | none => t * a.afmt.perTile + i
/-- Elements the runs must cover. -/
def ApplyOp.total (a : ApplyOp) : Nat :=
  match a.rows with
  | some (rw, l) => (l.flatten.map (fun r => (r + 1) * rw)).foldl max 0
  | none => (a.agg.length - 1) * a.afmt.perTile + a.last
/-- Elements of the parameter run, M or V. -/
def ApplyOp.room (a : ApplyOp) : Nat := (a.param.length - 1) * a.prec.perTile + a.plast
/-- The record of R228 is well formed: its reserved bytes are 0, and the V base in momentum. -/
def applyWf (m : Nat) (rec_ : Bytes) : Bool := zerosAt rec_ [(67, 1), (71, 9), (88, 8)] && (bit m 2 || leAt rec_ 68 3 == 0)

/-- The pattern of aggregate element `i` of tile `t`. -/
def State.aggElem (s : State) (a : ApplyOp) (t i : Nat) : Nat := s.elem (a.agg.getD t 0) a.afmt.size i

/-- The sum of squares of a part's tiles, in order, in binary64 (R47). -/
def State.sumPart (s : State) (a : ApplyOp) (parts p : Nat) : Nat :=
  (partItems a.agg.length parts p).foldl (fun acc t =>
    (List.range (a.elems t)).foldl (fun acc i =>
      let x := a.afmt.convert f64 (s.aggElem a t i)
      f64.add acc (f64.mul x x)) acc) (f64.zero false)

/-- One level of the pairwise tree. -/
def normLevel : List Nat → List Nat
  | x :: y :: l => f64.add x y :: normLevel l
  | l => l

/-- Levels of the tree down to one value. -/
def normTree : Nat → List Nat → List Nat
  | 0, l => l
  | k + 1, l => normTree k (normLevel l)

/-- The norm of the partial sums. -/
def normOf (p : List Nat) : Nat := f64.sqrt ((normTree p.length p).headD 0)

/-- s of R227 in the working precision. -/
def ApplyOp.scale (a : ApplyOp) (norm : Nat) : Nat :=
  f64.convert a.prec (if f64.gt norm a.clip then f64.div a.clip norm else f64.ofRat false 1 1)

/-- Element `j` of a run of tiles in the working precision. -/
def State.runElem (s : State) (a : ApplyOp) (run : List Nat) (j : Nat) : Nat :=
  s.elem (run.getD (j / a.prec.perTile) 0) a.prec.size (j % a.prec.perTile)
/-- Set element `j` of a run. -/
def State.setRun (s : State) (a : ApplyOp) (run : List Nat) (j x : Nat) : State :=
  s.setElem (run.getD (j / a.prec.perTile) 0) a.prec.size (j % a.prec.perTile) x

/-- Update element `j` (R227): the new parameter pattern and the state. -/
def State.applyElem (s : State) (a : ApplyOp) (sc t i : Nat) : Nat × State :=
  let f := a.prec
  let j := a.place t i
  let k (n : Nat) := a.k.getD n 0
  let g0 := a.afmt.convert f (s.aggElem a t i)
  let g := if a.nclip then f.mul g0 sc else g0
  let th := s.runElem a a.param j
  let lr := f.neg (k 0)
  if a.adaptive then
    let m := f.fma (k 1) (s.runElem a a.m j) (f.mul (k 2) g)
    let v := f.fma (k 3) (s.runElem a a.v j) (f.mul (k 4) (f.mul g g))
    let u := f.div m (f.add (f.sqrt v) (k 5))
    let u := f.fma (k 6) th u
    let th := f.fma lr u th
    (th, ((s.setRun a a.m j m).setRun a a.v j v).setRun a a.param j th)
  else
    let m := f.fma (k 1) (s.runElem a a.m j) g
    let u := f.fma (k 6) th m
    let th := f.fma lr u th
    (th, (s.setRun a a.m j m).setRun a a.param j th)

/-- Update the elements of tile `t` of the aggregate from element `i`, `n` of them: NONFINITE counted. -/
def State.applyTile (s : State) (a : ApplyOp) (sc t : Nat) : Nat → Nat → Nat × State
  | 0, _ => (0, s)
  | n + 1, i =>
    let (x, s1) := s.applyElem a sc t i
    let (c, s2) := s1.applyTile a sc t n (i + 1)
    (c + b2n (a.prec.nonfinite x), s2)

/-- The parameter and moment tiles an aggregate tile's elements lie in. -/
def ApplyOp.touched (a : ApplyOp) (t : Nat) : List Nat :=
  let span (lo n : Nat) : List Nat := (List.range ((lo + n - 1) / a.prec.perTile - lo / a.prec.perTile + 1)).map (lo / a.prec.perTile + ·)
  let ks := match a.rows with
    | some (rw, l) => ((l.getD t []).flatMap (fun r => span (r * rw) rw)).dedup
    | none => span (t * a.afmt.perTile) (a.elems t)
  [a.param, a.m, a.v].flatMap (fun r => ks.filterMap (fun k => r[k]?))

/-- A tile's checksum after APPLY wrote it. -/
def State.resum (s : State) (t : Nat) : State := (s.setTag t { s.tag t with csum := s.csum t }).wrote t

/-- Update the tiles of a list: NONFINITE and the state. -/
def State.applyTiles (s : State) (a : ApplyOp) (sc : Nat) : List Nat → Nat × State
  | [] => (0, s)
  | t :: ts =>
    let (c, s1) := s.applyTile a sc t (a.elems t) 0
    let s2 := (a.touched t).foldl (fun s t => s.resum t) s1
    let (c', s3) := s2.applyTiles a sc ts
    (c + c', s3)

/-- Partial sums of step `step` of a round, by part. -/
def Round.sums (r : Round) (step : Nat) : List (Nat × Nat) := (r.gate.applySums.filter (fun p => p.1 == step)).map (·.2)

/-- APPLY on spindle `j`: its parts' sums; the updates follow when every part has one. -/
def State.apply (s : State) (j : Nat) : State :=
  s.unitOpE j (7, 3, 0) (fun _ o _ => (applyFmt (bit (tMod o.w) 0)).perTile)
    (fun w => [(tQD w, [0]), (tQB w, [3])]) (fun o s =>
      let x := s.spin j
      let m := tMod o.w
      let rec_ := readBytes x.scratch (qAddr o.qb) 96
      let a := applyOf m o.sa o.qa o.qd rec_ ((s.round? o.f o.sa).bind (fun r => r.applyRows (qTiles o.qa)))
      match s.gated? o.f o.sa 5, s.regFault x o.f a.afmt.perTile (tQA o.w) [0] with
      | _, some (c, t, q) => s.trapHere j c o.w t q
      | none, none => s.trapHere j 0x090B o.w
      | some r, none =>
        let all := a.param ++ a.m ++ a.v
        if qLen o.qb < 96 || !applyWf m rec_ then s.trapHere j 0x0A09 o.w 0 (tQB o.w)
        else if all.any (fun t => !s.tileOk o.f t) then
          s.trapHere j 0x010B o.w (all.find? (fun t => !s.tileOk o.f t) |>.getD 0) (tQB o.w)
        else if a.room < a.total then s.trapHere j 0x010C o.w 0 (tQD o.w)
        else
          let begun := (r.sums x.stepc).map (·.1)
          let ps := (s.partsOf j).filter (fun p => !begun.contains p)
          let ts := ps.flatMap (partItems a.agg.length s.lgrade)
          let used := ts.flatMap (fun t => a.agg.getD t 0 :: a.touched t)
          if !s.quiet used || !s.allPresent used then s
          else
            let sums := ps.map (fun p => (x.stepc, p, s.sumPart a s.lgrade p))
            (s.updRound o.f o.sa (fun r => { r with gate := { r.gate with applySums := r.gate.applySums ++ sums } })).enqueue j o.w
              { id := 0, op := .apply, word := 0, pc := 0, stepc := 0, round := some o.sa, spread := ps, held := !ps.isEmpty
                ops := [o.qa, o.qd, qAddr o.qb], data := rec_, later := [(qAddr o.qb + 80, 8)] })

/-- Every part of an APPLY has its sum. -/
def State.applyReady (s : State) (r : Round) (e : UnitEntry) : Bool :=
  (List.range s.lgrade).all (fun p => ((r.sums e.stepc).map (·.1)).contains p)

/-- The updates of an APPLY entry: NONFINITE for the record, and the state. -/
def State.applyRun (s : State) (r : Round) (e : UnitEntry) : Nat × State :=
  let a := applyOf (tMod e.word.toNat) r.cfg.round (e.ops.getD 0 0) (e.ops.getD 1 0) e.data
    (r.applyRows (qTiles (e.ops.getD 0 0)))
  let sums := (sortBy (·.1) (r.sums e.stepc)).map (·.2)
  s.applyTiles a (a.scale (normOf sums)) (e.spread.flatMap (partItems a.agg.length s.lgrade))

/-- APPLY (R227). -/
def execApply (sp : Nat) (s : State) : Res := .next (s.apply sp)

end Sys2Proof.Machine
end

