-- ==== Sys2Proof/Machine/SyncClass.lean ====
section
/-! DEFINITION. The sync class: SIGNAL, WAITC, FENCE (R195, R229) and GATE (R300). -/
namespace Sys2Proof.Machine

/-- A sync instruction completes: it reports at once and the spindle goes on (R190). -/
def State.syncDone (s : State) (j w code : Nat) : State :=
  (s.updSpin j (fun x => (x.setS (tSC w) (BitVec.ofNat 64 code)).setP (tPD w) (outcome code))).advance j

/-- The counter an instruction's MOD names. -/
def modCtr (w : Nat) : Nat := tMod w % 2 ^ 16

/-- WAITC on spindle `j`. -/
def State.waitc (s : State) (j : Nat) : State :=
  s.issue j (8, 1, 0) (fun f w s =>
    let o := (s.spin j).capture f w
    if o.sa ≤ s.ctrGet f (modCtr w) then s.syncDone j w 0
    else if o.sb = 1 then s.syncDone j w 0x0A0E
    else match (s.spin j).wait with
      | .waitc _ => s
      | _ => s.updSpin j (fun x => { x with wait := .waitc s.time, active := s.time }))

/-- WAIT_TIMEOUT: the spindle waited for the cycles of its timeout operand; an addition in the same cycle counts first. -/
def State.waitTimeout (s : State) (j : Nat) : State :=
  match (s.spin j).wait with
  | .waitc since =>
    s.issue j (8, 1, 0) (fun f w s =>
      let o := (s.spin j).capture f w
      if o.sa ≤ s.ctrGet f (modCtr w) then s.syncDone j w 0
      else if o.sb ≠ 0 ∧ since + o.sb - 1 ≤ s.time then s.syncDone j w 0x0A0E
      else s)
  | _ => s

/-- SIGNAL on spindle `j`: posted without waiting. -/
def State.signal (s : State) (j : Nat) : State :=
  s.issue j (8, 2, 0) (fun f w s =>
    let o := (s.spin j).capture f w
    (s.updSpin j (fun x =>
      { x with
        signals := x.signals ++ [{ id := x.nextId, entries := x.uq.map (·.id), ctr := modCtr w, addend := o.sa }]
        nextId := x.nextId + 1 })).advance j)

/-- SIGNAL_APPLY: the oldest posted addition whose earlier unit instructions have all retired takes effect. -/
def State.signalApply (s : State) (j : Nat) : State :=
  let x := s.spin j
  match x.signals.find? (fun g => g.entries.all (fun i => x.uq.all (fun e => e.id != i))), s.owner? j with
  | some g, some f =>
    if !s.ready then s
    else (s.ctrAdd f g.ctr g.addend).updSpin j (fun x => { x with signals := x.signals.filter (fun h => h.id != g.id) })
  | _, _ => s

/-- FENCE on spindle `j`: WB also writes the function's staged far tiles back, ACK waits for the peers. -/
def State.fence (s : State) (j : Nat) : State :=
  s.issue j (8, 3, 0) (fun f w s =>
    let x := s.spin j
    let wb := bit (tMod w) 0
    let ack := bit (tMod w) 1
    let mine := (s.staged.filter (fun g => g.func == f && g.dirty)).map (·.tile)
    let pages := ((s.pages.filter (fun g => g.func == f && g.dirty)).map (·.tile)).dedup
    if !x.uq.isEmpty || (ack && x.unacked != 0) || (wb && (!s.quiet (mine ++ pages) || !s.farTurn f)) then
      s.updSpin j (fun x => { x with wait := .fence })
    else
      let s1 := if wb then pages.foldl (fun s t => s.pagesBack t) (mine.foldl (fun s t => s.writeBack t) s) else s
      match (if wb then mine.find? (fun t => (s1.stagedOf t).any (fun g => g.dirty)) else none) with
      -- a write-back met a checksum mismatch (R190)
      | some t => s1.trap j 0x0101 false x.pc (BitVec.ofNat 64 w) x.stepc t
      | none => s1.advance j)

/-! ## GATE (R300) -/

/-- Gate `g` of function `f`, while armed. -/
def State.gate? (s : State) (f g : Nat) : Option Gate := s.gates.find? (fun x => x.func == f && x.num == g)

/-- Every bound spindle has arrived and the time has come. -/
def State.gateOpen (s : State) (g : Gate) : Bool :=
  decide (g.time ≤ s.time) && !g.arrived.isEmpty
    && g.arrived.all (fun j => ((s.spin j).bound).all (fun k => g.arrived.contains k))

/-- GATE on spindle `j`: it waits for its unit instructions, then arrives. -/
def State.gate (s : State) (j : Nat) : State :=
  s.issue j (8, 0, 0) (fun f w s =>
    let o := (s.spin j).capture f w
    let n := tMod w
    let s0 := match (s.spin j).wait with
      | .gate _ => s
      | _ => s.updSpin j (fun x => { x with wait := .gate s.time, active := s.time })
    if !(s.spin j).uq.isEmpty then s0
    else match s.gate? f n with
      | none => { s0 with gates := s0.gates ++ [{ func := f, num := n, time := o.sa, conflict := false, arrived := [j] }] }
      | some g =>
        if g.arrived.contains j then s0
        else
          let upd (c : Bool) (s : State) : State :=
            { s with gates := updIf s.gates (fun x => x.func == f && x.num == n)
                       (fun x => { x with conflict := x.conflict || c, arrived := x.arrived ++ [j] }) }
          if g.time ≠ o.sa ∧ !g.conflict then upd true (s0.raiseOwn f 0x0A11) else upd false s0)

/-- A spindle that waits at a gate leaves it with a code. -/
def State.leaveGate (s : State) (j code : Nat) : State :=
  match (s.spin j).fetch with
  | some w => s.syncDone j w code
  | none => s

/-- GATE_RELEASE: every spindle that arrived goes on; a release after T is late (R300). -/
def State.gateRelease (s : State) (f n : Nat) : State :=
  match s.gate? f n with
  | none => s
  | some g =>
    if !s.ready || !s.gateOpen g then s
    else
      let s1 := (sortBy id g.arrived).foldl (fun s j => s.leaveGate j 0)
        { s with gates := s.gates.filter (fun x => !(x.func == f && x.num == n)) }
      if g.time < s.time then (s1.raiseOwn f 0x0A10).bump Reg.gateLateCount else s1

/-- GATE_TIMEOUT: the arrival is withdrawn; a release in the same cycle comes first (R105, R300). -/
def State.gateTimeout (s : State) (j : Nat) : State :=
  match (s.spin j).wait with
  | .gate since =>
    s.issue j (8, 0, 0) (fun f w s =>
      let o := (s.spin j).capture f w
      match s.gate? f (tMod w) with
      | some g =>
        if g.arrived.contains j && s.gateOpen g then s.gateRelease f (tMod w)
        else if o.sb ≠ 0 ∧ since + o.sb - 1 ≤ s.time then
          State.syncDone
            { s with gates := updIf s.gates (fun x => x.func == f && x.num == tMod w)
                       (fun x => { x with arrived := x.arrived.erase j }) } j w 0x0A0E
        else s
      | none => if o.sb ≠ 0 ∧ since + o.sb - 1 ≤ s.time then s.syncDone j w 0x0A0E else s)
  | _ => s

/-- GATE (R300). -/
def execGate (sp : Nat) (s : State) : Res := .next (s.gate sp)
/-- GATE_RELEASE (R300). -/
def execGateRelease (f g : Nat) (s : State) : Res := .next (s.gateRelease f g)
/-- GATE_TIMEOUT (R300). -/
def execGateTimeout (sp : Nat) (s : State) : Res := .next (s.gateTimeout sp)
/-- WAITC (R195). -/
def execWaitc (sp : Nat) (s : State) : Res := .next (s.waitc sp)
/-- SIGNAL (R195). -/
def execSignal (sp : Nat) (s : State) : Res := .next (s.signal sp)
/-- SIGNAL_APPLY (R195). -/
def execSignalApply (sp : Nat) (s : State) : Res := .next (s.signalApply sp)
/-- FENCE (R195). -/
def execFence (sp : Nat) (s : State) : Res := .next (s.fence sp)

end Sys2Proof.Machine
end

