-- ==== Sys2Proof/Machine/SystemClass.lean ====
section
/-! DEFINITION. The system class: TRAP, HALT, STEP (R196, R201, R230), the lockkeeper watchdog (R192) and journal points
(R412). -/
namespace Sys2Proof.Machine

/-- A journal point (R412): the lockkeeper state is recorded and the logs start afresh. -/
def Spindle.journalPoint (x : Spindle) (now : Nat) : Spindle :=
  { x with
    journal := { s := x.s, p := x.p, q := x.q, pc := x.pc, stepc := x.stepc, uq := x.uq, time := now }
    undo := []
    retLog := []
    sysrLog := [] }

/-- TRAP with RET = 0 (R230). -/
def State.trapInsn (s : State) (j : Nat) : State := s.issue j (9, 0, 0) (fun _ w s => s.trapHere j 0x0A0A w)

/-- TRAP with RET = 1: back to RUNNING at word sA; outside HANDLER it is a TRAP. -/
def State.trapReturn (s : State) (j : Nat) : State :=
  s.issue j (9, 0, 1) (fun f w s =>
    let o := (s.spin j).capture f w
    if (s.spin j).st ≠ .handler then s.trapHere j 0x0A0A w
    else (s.advance j).updSpin j (fun x => { x with st := .running, pc := o.sa }))

/-- HALT: nothing more issues (R201). -/
def State.halt (s : State) (j : Nat) : State := s.issue j (9, 1, 0) (fun _ _ s => s.updSpin j (fun x => { x with wait := .halt }))

/-- HALT_DONE: its waits over, the spindle is DONE; in HANDLER it stays TRAPPED (R191, R201). Under a STOP it does not end:
the spindle stops at it. -/
def State.haltDone (s : State) (j : Nat) : State :=
  let x := s.spin j
  if s.ready && x.wait == .halt && !x.stopping && x.uq.isEmpty && x.signals.isEmpty then
    (s.advance j).updSpin j (fun x => { x with st := if x.st = .handler then .trapped else .done })
  else s

/-- The step counter moves and a journal point is taken (R196). -/
def State.stepTo (s : State) (j stepc : Nat) : State :=
  (s.advance j).updSpin j (fun x => { x with stepc := stepc }.journalPoint s.time)

/-- STEP on spindle `j`. -/
def State.step (s : State) (j : Nat) : State :=
  s.issue j (9, 2, 0) (fun _ w s =>
    let x := s.spin j
    if !x.uq.isEmpty then s.updSpin j (fun x => { x with wait := .step })
    else if 0xFFFFFE ≤ x.stepc % 2 ^ 24 + 1 then s.trapHere j 0x0A0F w
    else s.stepTo j (x.stepc + 1))

/-- STEP with SETROUND. -/
def State.stepSet (s : State) (j : Nat) : State :=
  s.issue j (9, 2, 1) (fun f w s =>
    let x := s.spin j
    let r := (x.capture f w).sa % 2 ^ 40
    if !x.uq.isEmpty then s.updSpin j (fun x => { x with wait := .step })
    else if r ≤ x.stepc / 2 ^ 24 then s.trapHere j 0x0A0F w
    else s.stepTo j (r * 2 ^ 24))

/-- CLK_FAB cycles of the lockkeeper watchdog (R192). -/
def lockWatch : Nat := 1350000

/-- The watchdog does not count now: TAKE stalls, WAITC or GATE waits under a timeout, or a unit instruction waits for DRBG
words. -/
def State.unwatched (s : State) (j : Nat) : Bool :=
  let x := s.spin j
  (match x.wait with
    | .take => true
    | .waitc _ => (x.fetch).any (fun w => (x.capture 0 w).sb != 0)
    | .gate _ => (x.fetch).any (fun w => (x.capture 0 w).sb != 0)
    | _ => false) || x.uq.any (fun e => s.awaitsWords j e.id)

/-- The watchdog runs: RUNNING or HANDLER, a STOP that waits for the unit queue among them (R192). -/
def State.watched (s : State) (j : Nat) : Bool :=
  let x := s.spin j
  s.ready && (x.st == .running || x.st == .handler) && !x.recovering && (s.owner? j).isSome

/-- LOCKKEEPER_WATCHDOG. -/
def State.lockkeeperWatchdog (s : State) (j : Nat) : State :=
  let x := s.spin j
  if s.watched j && decide (x.active + lockWatch ≤ s.time) && !s.unwatched j then
    s.trap j 0x0A02 false x.pc (BitVec.ofNat 64 (x.fetch.getD 0)) x.stepc
  else s

/-- TRAP (R230). -/
def execTrap (sp : Nat) (s : State) : Res := .next (s.trapInsn sp)
/-- TRAP_RETURN (R230). -/
def execTrapReturn (sp : Nat) (s : State) : Res := .next (s.trapReturn sp)
/-- HALT (R201). -/
def execHalt (sp : Nat) (s : State) : Res := .next (s.halt sp)
/-- HALT_DONE (R201). -/
def execHaltDone (sp : Nat) (s : State) : Res := .next (s.haltDone sp)
/-- STEP (R196). -/
def execStep (sp : Nat) (s : State) : Res := .next (s.step sp)
/-- STEP_SETROUND (R196). -/
def execStepSetround (sp : Nat) (s : State) : Res := .next (s.stepSet sp)
/-- LOCKKEEPER_WATCHDOG (R192). -/
def execLockkeeperWatchdog (sp : Nat) (s : State) : Res := .next (s.lockkeeperWatchdog sp)

end Sys2Proof.Machine
end

