-- ==== Sys2Proof/Machine/Program.lean ====
section
/-! DEFINITION. Program images and program control (R23, R175, R198 to R201). -/
namespace Sys2Proof.Machine
open Sys2Proof

/-! ## Images (R199) -/

/-- The fields of an image header. -/
structure Image where
  ver : Nat
  features : Nat
  textLen : Nat
  dataLen : Nat
  entry : Nat
  handler : Nat
  minSp : Nat
  maxSp : Nat
  ndecl : Nat
  decls : List (Nat × Nat)
  text : Bytes
  data : Bytes
  deriving DecidableEq, Repr

/-- Read the fields of an image. -/
def parseImage (b : Bytes) : Image :=
  let t := leAt b 16 4
  let d := leAt b 20 4
  let n := leAt b 36 4
  { ver := leAt b 4 2, features := leAt b 8 8, textLen := t, dataLen := d, entry := leAt b 24 4, handler := leAt b 28 4
    minSp := leAt b 32 2, maxSp := leAt b 34 2, ndecl := n
    decls := (List.range (min n 4096)).map (fun i => (leAt b (64 + 8 * i) 3, leAt b (67 + 8 * i) 3))
    text := slice b (64 + 8 * n) t, data := slice b (64 + 8 * n + t) d }

/-- Check 1 of R199. -/
def imageWf (b : Bytes) : Bool :=
  let i := parseImage b
  decide (64 ≤ b.length) && leAt b 0 4 == 0x47514C43 && allZero (slice b 6 2) && allZero (slice b 40 24)
    && decide (0 < i.textLen) && i.textLen % 8 == 0 && decide (i.entry < i.textLen / 8)
    && (decide (i.handler < i.textLen / 8) || i.handler == 0xFFFFFFFF)
    && decide (1 ≤ i.minSp) && decide (i.minSp ≤ i.maxSp) && decide (i.maxSp ≤ 32) && decide (i.ndecl ≤ 4096)
    && i.decls.all (fun p => decide (1 ≤ p.2))
    && (List.range (min i.ndecl 4096)).all (fun k => allZero (slice b (70 + 8 * k) 2))
    && b.length == 64 + 8 * i.ndecl + i.textLen + i.dataLen

/-- Two runs of tiles meet. -/
def runsMeet (a b : Nat × Nat) : Bool := decide (a.1 < b.1 + b.2) && decide (b.1 < a.1 + a.2)

/-- Some two runs of a list meet. -/
def overlaps : List (Nat × Nat) → Bool
  | [] => false
  | a :: l => l.any (runsMeet a) || overlaps l

/-- Every tile of a run passes R52. -/
def State.runOk (s : State) (f : Nat) (p : Nat × Nat) : Bool := p.2 == 0 || (s.tileOk f p.1 && s.tileOk f (p.1 + p.2 - 1)
  && (isFar p.1 == isFar (p.1 + p.2 - 1)))

/-- Far tiles may be admitted: a memory key is held and initialisation is over (R357). -/
def State.farReady (s : State) (f : Nat) : Bool := s.rdb Reg.fnMemkey f && s.rd Reg.fnRotState f != 1

/-- Every LPDDR5X package is in service: only then are far tiles admitted (R395, R419). -/
def State.farInService (s : State) : Bool := (List.range 4).all (fun q => s.rd Reg.farPkgOk q == 15)

/-- A run holds a near tile that a tier loss has remapped: admission treats it as a far tile (R418). -/
def State.runRemapped (s : State) (p : Nat × Nat) : Bool := s.remap.any (fun q => decide (p.1 ≤ q.1) && decide (q.1 < p.1 + p.2))

/-- R74 over an image's declarations: an image declares no pool and no destination. -/
def State.declCode (s : State) (f : Nat) (l : List (Nat × Nat)) : Nat :=
  if l.any (fun p => !s.runOk f p) then 0x010B else if overlaps l then 0x010A
  else if l.any (fun p => isFar p.1) && !s.farReady f then 0x0601
  else if l.any (fun p => isFar p.1 || s.runRemapped p) && !s.farInService then 0x010A else 0

/-- The spindles PROG_SPINDLES selects. -/
def State.selected (s : State) (f : Nat) : List Nat := (List.range 32).filter (fun j => bit (s.rd Reg.progSpindles f) j)

/-- Spindle `j` may be loaded through the FUNC page (R198, R201). -/
def State.loadable (s : State) (f j : Nat) : Bool :=
  s.owner? j == some f && ((s.spin j).st == .idle || ((s.spin j).firmware && (s.spin j).st == .done))

/-- R23 for an image: its version and its features. -/
def State.versionCode (s : State) (b : Bytes) : Nat :=
  let i := parseImage b
  if i.ver ≠ 0x0100 ∨ i.features ≠ Nat.land i.features (s.rd Reg.devQgFeatures) then 0x0A06 else 0

/-- The code of a LOAD: the checks of R199 in order. -/
def State.loadCode (s : State) (f : Nat) (b : Bytes) : Nat :=
  let i := parseImage b
  let sel := s.selected f
  if !imageWf b || b.length ≠ s.rd Reg.progLen f then 0x0A0D
  else if s.versionCode b ≠ 0 then s.versionCode b
  else if sel.any (fun j => !s.loadable f j) || sel.length < i.minSp || i.maxSp < sel.length then 0x0A0C
  else if 0x1FF000 < i.textLen + i.dataLen then 0x0A0D
  else s.declCode f i.decls

/-- A spindle loaded with an image (R175, R199). -/
def loaded (b : Bytes) (sel : List Nat) (firmware : Bool) (old : Spindle) : Spindle :=
  let i := parseImage b
  { scratch := writeBytes [] 0 (i.text ++ i.data), st := .loaded, expert := !firmware, firmware := firmware
    textLen := i.textLen, handler := if i.handler = 0xFFFFFFFF then none else some i.handler
    bound := sel, decls := i.decls, image := b, pc := i.entry, trap := old.trap, nextId := old.nextId }

/-- Load an image on spindles. -/
def State.loadOn (s : State) (b : Bytes) (sel : List Nat) (firmware : Bool) : State :=
  sel.foldl (fun s j => s.updSpin j (loaded b sel firmware)) s

/-- A program command completes with a code; a class 0x0A code of R198 to R201 is raised as well (R283), which R401 does not
ask of 0x0A1A. -/
def State.progDone (s : State) (f code : Nat) : State :=
  let s1 := (s.wr Reg.progCode code f).wr Reg.progBusy 0 f
  if code / 256 = 0x0A ∧ code ≠ 0x0A1A then s1.raiseOwn f code else s1

/-- A write of CMD: dropped while one is in progress (R200), refused until the driver has attached (R401). -/
def State.progCmd (s : State) (f : Nat) (body : State → State) : State :=
  s.funcCmd f Reg.progCmd 0 (fun s =>
    if s.rdb Reg.progBusy f then s.flag Reg.progDropped f
    else if !s.rdb Reg.attAttached f then s.progDone f 0x0A1A
    else body s)

/-- LOAD. A read of host memory that failed gives 0x0A15 (R372). -/
def State.loadImage (s : State) (f : Nat) (img : Option Bytes) : State :=
  s.progCmd f (fun s =>
    match img with
    | none => s.progDone f 0x0A15
    | some b =>
      let c := s.loadCode f b
      if c ≠ 0 then s.progDone f c
      else (((s.loadOn b (s.selected f) false).wr Reg.progDigest (sha384N b) f)).progDone f 0)

/-- A command on the selected spindles in the states it takes. -/
def State.onSelected (s : State) (f : Nat) (from_ : List SpState) (g : Spindle → Spindle) : State :=
  let sel := s.selected f
  if sel.any (fun j => s.owner? j != some f || !from_.contains (s.spin j).st) then s.progDone f 0x0A0C
  else (sel.foldl (fun s j => s.updSpin j g) s).progDone f 0

/-- START. -/
def State.start (s : State) (f : Nat) : State :=
  s.progCmd f (fun s => s.onSelected f [.loaded] (fun x =>
    { x with st := .running, active := s.time }.journalPoint s.time))

/-- The spindle has trapped in this cycle (R191). -/
def Spindle.trappedNow (x : Spindle) (now : Nat) : Bool :=
  (x.st == .handler || x.st == .trapped) && x.trap != 0 && bits x.trap 224 64 == now % 2 ^ 64

/-- A STOP reaches a spindle: it stops when what is in flight has retired. One that trapped in this cycle is TRAPPED instead,
and the STOP has no further effect on it. -/
def Spindle.stopped (x : Spindle) (now : Nat) : Spindle :=
  if x.trappedNow now then { x with st := .trapped, pc := bits x.trap 64 18, stopping := false }
  else { x with stopping := true, stopAt := now }

/-- STOP: BUSY until the selected spindles have stopped. -/
def State.stop (s : State) (f : Nat) : State :=
  s.progCmd f (fun s =>
    let sel := s.selected f
    if sel.any (fun j => s.owner? j != some f
        || !([SpState.running, .handler].contains (s.spin j).st || (s.spin j).trappedNow s.time)) then s.progDone f 0x0A0C
    else ((sel.foldl (fun s j => s.updSpin j (fun x => x.stopped s.time)) s).wr Reg.progBusy 1 f).settleBusy f)

/-- SPINDLE_STOPPED: not before a substitution has ended (R414). -/
def State.spindleStopped (s : State) (j : Nat) : State :=
  let x := s.spin j
  if s.ready && x.stopping && x.uq.isEmpty && !x.recovering then
    (s.updSpin j (fun x => { x with st := .stopped, stopping := false, wait := .none })).settleBusy ((s.owner? j).getD 0)
  else s

/-- RESUME: at RESUME_PC of the latest trap record after a trap, else at the stopped PC. -/
def State.resume (s : State) (f : Nat) : State :=
  s.progCmd f (fun s => s.onSelected f [.stopped, .trapped] (fun x =>
    { x with st := .running, active := s.time, pc := if x.st = .trapped then bits x.trap 64 18 else x.pc }))

/-- A spindle unloaded: scratch, registers and step counter zeroised (R201); the trap area keeps its last record. -/
def Spindle.unloaded (x : Spindle) : Spindle := { st := .idle, trap := x.trap, nextId := x.nextId, recovering := x.recovering }

/-- Unload a spindle: once its substitution, if any, has ended (R414). -/
def State.unloadSpin (s : State) (j : Nat) : State :=
  s.updSpin j (fun x => if s.substituting j then { x with unloading := true } else x.unloaded)

/-- UNLOAD: BUSY until the selected spindles are unloaded. -/
def State.unload (s : State) (f : Nat) : State :=
  s.progCmd f (fun s =>
    let sel := s.selected f
    if sel.any (fun j => s.owner? j != some f || !([SpState.loaded, .trapped, .stopped, .done].contains (s.spin j).st)) then
      s.progDone f 0x0A0C
    else ((sel.foldl (fun s j => s.unloadSpin j) s).wr Reg.progBusy 1 f).settleBusy f)

/-- LOAD (R199). -/
def execLoad (f : Nat) (img : Option Bytes) (s : State) : Res := .next (s.loadImage f img)
/-- START (R201). -/
def execStart (f : Nat) (s : State) : Res := .next (s.start f)
/-- STOP (R201). -/
def execStop (f : Nat) (s : State) : Res := .next (s.stop f)
/-- SPINDLE_STOPPED (R201). -/
def execSpindleStopped (sp : Nat) (s : State) : Res := .next (s.spindleStopped sp)
/-- RESUME (R201). -/
def execResume (f : Nat) (s : State) : Res := .next (s.resume f)
/-- UNLOAD (R201). -/
def execUnload (f : Nat) (s : State) : Res := .next (s.unload f)

end Sys2Proof.Machine
end

