-- ==== Sys2Proof/Machine/Query.lean ====
section
/-! DEFINITION. Norm checks of mode 3: the exclusion sequence (R129), blind-and-return (R130, R131), committee returns and
timeouts (R132, R133), the sign chain (R135), and the fold of mode 3 contributions (R118). -/
namespace Sys2Proof.Machine
open Sys2Proof

/-! ## Checks of a mode 3 payload (R117, R118) -/

/-- Ciphertext `i` of a mode 3 payload (R117). -/
def State.msgCt (s : State) (c : RoundCfg) (lz i : Nat) : Ct :=
  (List.range 2).map (fun k => (List.range c.limbs).map (fun j => (List.range c.pset.n).map (fun t =>
    s.payElem lz 0 8 (((i * 2 + k) * c.limbs + j) * c.pset.n + t))))

/-- The prime index of payload coefficient `e`. -/
def RoundCfg.payLimb (c : RoundCfg) (e : Nat) : Nat := e / c.pset.n % c.limbs
/-- Coefficients of a mode 3 payload. -/
def RoundCfg.payCoefs (c : RoundCfg) : Nat := c.cts * 2 * c.limbs * c.pset.n

/-- The checksum of the payload: segment sums modulo their primes, added modulo 2^64. -/
def State.payloadSum3 (s : State) (c : RoundCfg) (lz : Nat) : Nat :=
  ((List.range (c.payCoefs / 8192)).map (fun g =>
    csumOf 0 ((List.range 8192).map (fun i => s.payElem lz 0 8 (g * 8192 + i))) % c.pset.prime (c.payLimb (g * 8192)))).sum % 2 ^ 64

/-- Code of the payload check, PCSUM whole with its high half 0 (R117), and of the range check; 0 when both pass. -/
def State.check3 (s : State) (x : Round) (m : Msg) : Nat :=
  if s.payloadSum3 x.cfg m.lz ≠ bits (hdrOf m.hdr) 256 128 then 0x0109
  else if (List.range x.cfg.payCoefs).any (fun e => decide (x.cfg.pset.prime (x.cfg.payLimb e) ≤ s.payElem m.lz 0 8 e)) then 0x0105
  else 0

/-! ## Folding ciphertexts (R118, R129 step 5) -/

/-- Fold a ciphertext into descriptor `d`'s tiles: residues added, COUNT of each tag + 1. -/
def State.foldCt (s : State) (d : CtDesc) (c : Ct) : State :=
  let p := d.pset
  (List.range 2).foldl (fun s k => (List.range (d.level + 1)).foldl (fun s j => (List.range p.tiles).foldl (fun s col =>
    let t := d.tileAt k j col
    let xs := ((((c.getD k []).getD j []).drop (col * 8192)).take 8192)
    let g := s.tag t
    let s1 := s.setTag t { g with mode := 3, wsel := d.wsel, limb := j, b60 := p.b60, sealed := false, count := g.count + 1 }
    s1.addTile t 8 (p.prime j) xs) s) s) s

/-! ## Blind and return (R130) -/

/-- b_y and g of a round. -/
def Round.bY (r : Round) : Nat := nlBits r.cfg.l (boundM r.cfg.encoding r.cfg.m) r.policy.tau
/-- The blinding width g; 0 when it would be negative. -/
def Round.blindG (r : Round) : Nat := r.w - 3 - r.bY

/-- NOISE of v, the PADD of τ² and the C products (R120, R129). -/
def Round.nuV (r : Round) : Nat :=
  let p := r.cfg.pset
  let w := r.w
  let l := r.cfg.limbs - 1
  let one := p.nuKsw l (p.nuMul w (p.nuKsw l p.nuFresh) p.nuFresh)
  nuAdd w one (r.cfg.cts + 1)

/-- f of the flooding: ⌈NOISE⌉ + 40 after r · v + r′ and the sign. -/
def Round.nuBlinded (r : Round) : Nat :=
  let v := r.nuV + r.blindG * 256
  nuAdd r.w v 2 + 256

/-- The relinearisation and Galois keys of a round. -/
def State.relinKey (s : State) (r : Round) : Option Nat :=
  s.findEvk r.func ((r.cfg.m3.map (·.keyset)).getD 0) ((r.cfg.m3.map (·.ps)).getD 0) 0 0 (r.cfg.limbs - 1)
/-- The Galois key for k = 2N − 1. -/
def State.conjKey (s : State) (r : Round) : Option Nat :=
  s.findEvk r.func ((r.cfg.m3.map (·.keyset)).getD 0) ((r.cfg.m3.map (·.ps)).getD 0) 1 (2 * r.cfg.pset.n - 1) (r.cfg.limbs - 1)

/-- v = τ² − ‖x‖² of a contribution (R129 steps 1 and 2). -/
def State.normV (s : State) (r : Round) (m : Msg) (relin conj : Nat) : Ct :=
  let p := r.cfg.pset
  let l := r.cfg.limbs - 1
  let zero := Ct.make p (l + 1) 2 (fun _ _ _ => 0)
  let y := (List.range r.cfg.cts).foldl (fun (a : Ct) i =>
    let c := s.msgCt r.cfg m.lz i
    a.add p ((c.conj p l (s.keyPoly r.func conj l)).mulRelin p l r.w (s.keyPoly r.func relin l) c)) zero
  (y.scale p (-1)).addConst p l r.w ((r.policy.tau : Int) ^ 2)

/-- The 64-byte header of a query and its LWE sample (R130, R131). -/
def queryMsg (r : Round) (qid noise : Nat) (a : List (List Nat)) (b0 : List Nat) : Bytes :=
  let m := r.cfg.m3
  let ps := (m.map (·.ps)).getD 0
  let hdr := toLe 64 (0x514E4C43 + 1 * 2 ^ 32 + ps * 2 ^ 40 + (r.cfg.limbs - 1) * 2 ^ 48 + qid * 2 ^ 64
    + (m.map (·.keyset)).getD 0 * 2 ^ 128 + noise * 2 ^ 192)
  hdr ++ ((List.range r.cfg.pset.n).flatMap (fun i => a.flatMap (fun l => toLe 8 (l.getD i 0)))) ++ b0.flatMap (toLe 8)

/-- The LWE sample of coefficient 0: a = (c1_0, −c1_(N−1), …, −c1_1), b0 = c0_0. -/
def extractLwe (p : ParamSet) (c : Ct) : List (List Nat) × List Nat :=
  ( (c.getD 1 []).mapIdx (fun j l => (List.range p.n).map (fun i =>
      if i = 0 then l.getD 0 0 else (p.prime j - l.getD (p.n - i) 0) % p.prime j)),
    (c.getD 0 []).map (fun l => l.getD 0 0) )

/-- The lowest handle of a function that names no outstanding CLIP. -/
def State.freeHandle (s : State) (f : Nat) : Option Nat :=
  (List.range 4096).find? (fun h => !s.queries.any (fun q => q.func == f && q.handle == h))

/-- Change an outstanding handle. -/
def State.updQuery (s : State) (f h : Nat) (g : Query → Query) : State :=
  { s with queries := updIf s.queries (fun q => q.func == f && q.handle == h) g }

/-- A round keeps the decision of a query (R133). -/
def State.keepReturn (s : State) (f r qid : Nat) (d : QDecision) : State :=
  s.updRound f r (fun x => { x with m3 := { x.m3 with returns := (qid, d) :: x.m3.returns.filter (fun p => p.1 != qid) } })

/-- The indicator of a handle is decided: the counter its CLIP names takes 1 (R225). -/
def State.decide_ (s : State) (f h : Nat) (d : QDecision) : State :=
  match s.queries.find? (fun q => q.func == f && q.handle == h) with
  | none => s
  | some q =>
    let s1 := (s.updQuery f h (fun q => { q with decided := some d })).keepReturn f q.round q.qid d
    match q.ctr with
    | some n => s1.ctrAdd f n 1
    | none => s1

/-- The query of step 3 (R130, R131) from v, under the stream key: the message and QUERY_ID, and whether s is −1. -/
def State.blindQuery (s : State) (x : Round) (key : Nat) (v : Ct) : Bytes × Nat × Bool :=
  let p := x.cfg.pset
  let l := x.cfg.limbs - 1
  let keyset := (x.cfg.m3.map (·.keyset)).getD 0
  let neg := bounded key 0 2 = 1
  let g := x.blindG
  let r := 2 ^ (g - 1) + bounded key 1 (2 ^ (g - 1))
  let r' := bounded key 2 r
  let v' := ((v.scale p r).addConst p l x.w r').scale p (if neg then -1 else 1)
  let (a, b0) := extractLwe p (v'.add p (zeroEnc p l key (s.commLimb x.func keyset p)))
  let fl := ceilDiv x.nuBlinded 256 + 40
  let e : Int := (bounded key 3 (2 * 2 ^ fl + 1) : Nat) - (2 ^ fl : Int)
  let qid := streamWord key 4
  let noise := x.nuBlinded + 40 * 256
  (queryMsg x qid noise a (b0.mapIdx (fun j (y : Nat) => (((y : Int) + e) % (p.prime j : Int)).toNat)), qid, neg)

/-- Steps 1 and 2 of R129 for a message and the query or chain of step 3, under handle `h` with the stream key (R323). What
the round keeps of an earlier run of the step decides at once, and no query is sent again (R133); without a norm check the
contribution is kept. -/
def State.startQuery (s : State) (x : Round) (m : Msg) (h : Nat) (ctr : Option Nat) (key relin conj : Nat) : State :=
  let f := x.func
  let path := x.cfg.nlPath
  let v := if path = 0 then [] else s.normV x m relin conj
  let (msg, qid, neg) := if path = 0 then ([], 0, false) else s.blindQuery x key v
  let blind := path == 1 || path == 3
  let kept := (x.m3.returns.find? (fun p => p.1 == qid)).map (·.2)
  let send := blind && kept.isNone && !s.mirroredHere x
  let q : Query := { handle := h, func := f, round := m.round, slot := m.slot, lz := m.lz, qid := qid, sign := neg
                     noise := x.nuBlinded + 40 * 256, ctr := ctr, sentAt := s.time, onWire := send, decided := none
                     desc := { (x.ctAt 0) with tile := 0 }, v := v, msg := if blind then msg else [] }
  let s1 := { s with queries := s.queries ++ [q] }
  let s2 := s1.updLive f m.round m.lz (fun m => { m with clipped := true, prepared := true })
  if path = 0 then s2.decide_ f h .unchecked
  else if !blind then s2.decide_ f h .chain
  else match kept with
    | some d => s2.decide_ f h d
    | none => if send then s2.post ((x.cfg.m3.map (·.committeeQp)).getD 0) (.query h) q.msg else s2

/-- The encryption of b (R130, R132, R135). -/
def State.indicator (s : State) (x : Round) (q : Query) : Ct :=
  let p := x.cfg.pset
  let l := x.cfg.limbs - 1
  match q.decided with
  | some (.returned c) =>
    let sg : Int := if q.sign then -1 else 1
    Ct.addConst p l x.w (if q.sign then 1 else 0) (Ct.scale p sg c)
  | some .chain =>
    let keys := [2, 3, 4].filterMap (fun k => (s.findEvk x.func q.desc.keyset q.desc.ps k 0 l).map (fun i => s.evkDigest x.func i))
    Ct.make p (l + 1) 2 (Config.lutrLimb (Ct.data q.v ++ keys))
  | _ => Ct.make p (l + 1) 2 (fun _ _ _ => 0)

/-- Steps 4 and 5 of R129 for a decided handle: the contribution and the indicator are folded, the slot is DONE, the handle
is freed. -/
def State.finishQuery (s : State) (f h : Nat) : State :=
  match s.queries.find? (fun q => q.func == f && q.handle == h) with
  | none => s
  | some q =>
    let s0 := { s with queries := s.queries.filter (fun x => !(x.func == f && x.handle == h)) }
    match s.round? f q.round with
    | none => s0
    | some x =>
      let p := x.cfg.pset
      let l := x.cfg.limbs - 1
      let b := s.indicator x q
      if q.decided = some .unchecked then
        let s1 := (List.range x.cfg.cts).foldl (fun s i => s.foldCt (x.m3.acc.getD i {}) (s.msgCt x.cfg q.lz i)) s0
        (s1.updRound f q.round (fun x => { x with m3 :=
          { x.m3 with acc := x.m3.acc.map (fun d => d.add 1 p.nuFresh) } })).slotDone f q.round q.slot q.lz false
      else
        let rk := (s.relinKey x).getD 0
        let s1 := (s0.evkUse f rk l).2
        let nub := if q.decided = some .chain then p.nuLutr l else p.nuBlind x.w
        let s2 := (List.range x.cfg.cts).foldl (fun s i =>
          s.foldCt (x.m3.acc.getD i {}) ((s.msgCt x.cfg q.lz i).mulRelin p l x.w (s1.keyPoly f rk l) b)) s1
        ((s2.foldCt x.m3.cnt b).updRound f q.round (fun x => { x with m3 :=
          { x.m3 with acc := x.m3.acc.map (fun d => d.add 1 (p.nuKept x.w l nub)), cnt := x.m3.cnt.add 1 nub } })).slotDone f q.round
            q.slot q.lz false

/-! ## Returns and timeouts (R132) -/

/-- The ciphertext of a return: 2 components of l limbs of N coefficients. -/
def returnCt (p : ParamSet) (l : Nat) (msg : Bytes) : Ct :=
  (List.range 2).map (fun k => (List.range (l + 1)).map (fun j => (List.range p.n).map (fun i =>
    leAt msg (64 + ((k * (l + 1) + j) * p.n + i) * 8) 8)))

/-- A return is accepted (R132): magic and version, set, level, key set, length, reserved fields, coefficients. R132 names
neither a wrong version nor a reserved byte that is not 0 among its cases; both are refused here. DESIGN CHOICE (log entry
119) -/
def returnOk (x : Round) (msg : Bytes) : Bool :=
  let p := x.cfg.pset
  let l := x.cfg.limbs - 1
  let m := x.cfg.m3
  leAt msg 0 4 == 0x524E4C43 && leAt msg 4 1 == 1 && leAt msg 5 1 == (m.map (·.ps)).getD 0 && leAt msg 6 1 == l
    && leAt msg 7 1 == 0 && leAt msg 16 8 == (m.map (·.keyset)).getD 0 && allZero (slice msg 24 40)
    && msg.length == 64 + 2 * (l + 1) * p.n * 8
    && ((returnCt p l msg).all (fun comp => (comp.mapIdx (fun j lm => lm.all (fun v => decide (v < p.prime j)))).all id))

/-- A committee return of function `f` on a QP (R131, R132): accepted for the query outstanding on that COMMITTEE_QP, or
refused with 0x0906. Strand A mirrors what it accepts (R133). -/
def State.committeeReturn (s : State) (f qpn : Nat) (msg : Bytes) : State :=
  match s.queries.find? (fun q => q.func == f && q.onWire && q.decided.isNone && q.qid == leAt msg 8 8) with
  | none => s.raise f 0x0906
  | some q =>
    match s.round? f q.round with
    | none => s.raise f 0x0906
    | some x =>
      if (x.cfg.m3.map (·.committeeQp)) != some qpn || !returnOk x msg then s.raise f 0x0906 4 q.round
      else (s.mirror x plyReturn msg).decide_ f q.handle (.returned (returnCt x.cfg.pset (x.cfg.limbs - 1) msg))

/-- No return within NL_TIMEOUT (R132): excluded, or the sign chain on path 3. -/
def State.nlExpire (s : State) (f h : Nat) : State :=
  match s.queries.find? (fun q => q.func == f && q.handle == h && q.decided.isNone) with
  | none => s
  | some q =>
    match s.round? f q.round with
    | none => s
    | some x =>
      let d := if x.cfg.nlPath = 3 then QDecision.chain else .excluded
      ((s.raise f 0x0907 4 q.round).mirror x plyReturn (toLe 8 q.qid)).decide_ f h d

/-- COMMITTEE_RETURN (R132): on the round's committee QP. -/
def execCommitteeReturn (f qpn : Nat) (msg : Bytes) (s : State) : Res :=
  .next (if s.ready && (s.qp? qpn).any (fun q => q.func == f) then s.committeeReturn f qpn msg else s)


/-- NL_TIMEOUT: no return of a query on the wire within NL_TIMEOUT (R132). -/
def State.nlTimeout (s : State) (f handle : Nat) : State :=
  if s.ready && s.queries.any (fun q => q.func == f && q.handle == handle && q.onWire && q.decided.isNone &&
      (s.round? f q.round).any (fun x => decide (q.sentAt + (x.cfg.m3.map (·.nlTimeout)).getD 0 ≤ s.time)))
  then s.nlExpire f handle else s

end Sys2Proof.Machine
end

