-- ==== Sys2Proof/Machine/Open.lean ====
section
/-! DEFINITION. Opening a round: the open record (R387), the checks of an open in order (R78, R159, R116, R139, R290, R303,
R74, R79), the basic level's placement (R75), the round until it enters OPEN (R101, R465), and TAKE.o (R214). -/
namespace Sys2Proof.Machine
open Sys2Proof

/-! ## The open record (R387) -/

/-- Length an open record must have. -/
def openLen (b : Bytes) : Nat :=
  let m3 := if leAt b 5 1 % 4 = 3 then 64 else 0
  128 + m3 + (if bits (leAt b 5 1) 2 2 ≠ 0 then 64 + 16 * leAt b (128 + m3 + 10) 1 else 0)
    + (if bit (leAt b 5 1) 5 then 64 else 0)

/-- The mode 3 extension. -/
def parseM3 (b : Bytes) : M3Cfg :=
  { ps := leAt b 0 1, levelIn := leAt b 1 1, nlPath := leAt b 2 1, keyset := leAt b 8 8, nlTimeout := leAt b 16 8
    evkBase := leAt b 24 3, evkCount := leAt b 28 3, workBase := leAt b 32 3, workCount := leAt b 36 2
    committeeQp := leAt b 40 4 % 2 ^ 20 }

/-- The rows extension. -/
def parseRows (b : Bytes) : RowCfg :=
  { rows := leAt b 0 8, rw := leAt b 8 2, maxRows := leAt b 12 4, accBase := leAt b 16 3, accTiles := leAt b 20 3
    dirBase := leAt b 24 3, dirTiles := leAt b 28 3, cacheBase := leAt b 32 3, cacheCount := leAt b 36 2
    windows := (List.range (leAt b 10 1)).map (fun i => (leAt b (64 + 16 * i) 8, leAt b (72 + 16 * i) 8)) }

/-- The staircase extension. -/
def parseStair (b : Bytes) : StairCfg :=
  { height := leAt b 0 1, childPolicy := leAt b 1 1, nch := leAt b 2 2, parentQp := leAt b 4 4, slotLo := leAt b 8 4
    slotHi := leAt b 12 4, childWait := leAt b 16 8 }

/-- The reserved bytes of the record and its extensions are zero (R9). -/
def openReserved (b : Bytes) : Bool :=
  let fl := leAt b 5 1
  let o3 := 128
  let oR := if fl % 4 = 3 then 192 else 128
  let oS := oR + (if bits fl 2 2 ≠ 0 then 64 + 16 * leAt b (oR + 10) 1 else 0)
  bits fl 6 2 == 0
    && zerosAt b [(15, 1), (28, 4), (69, 3), (87, 1), (91, 5), (107, 1), (111, 1), (115, 1), (119, 1), (123, 1), (127, 1)]
    && (fl % 4 != 3 || (zerosAt (b.drop o3) [(3, 5), (27, 1), (31, 1), (35, 1), (38, 2), (44, 20)]
        && decide (leAt b (o3 + 40) 4 < 2 ^ 20)))
    && (bits fl 2 2 == 0 || zerosAt (b.drop oR) [(11, 1), (19, 1), (23, 1), (27, 1), (31, 1), (35, 1), (38, 26)])
    && (!bit fl 5 || zerosAt (b.drop oS) [(24, 40)])

/-- The open record; none when it is malformed. -/
def parseOpen (b : Bytes) : Option RoundCfg :=
  let fl := leAt b 5 1
  if b.length < 128 || b.length ≠ openLen b || !openReserved b || bits fl 2 2 == 3 || encMalformed (leAt b 6 2) then none
  else
    let oR := if fl % 4 = 3 then 192 else 128
    let oS := oR + (if bits fl 2 2 ≠ 0 then 64 + 16 * leAt b (oR + 10) 1 else 0)
    some
      { round := leAt b 0 5, mode := fl % 4, rowMode := bits fl 2 2, ply := bit fl 4, encoding := leAt b 6 2
        slots := leAt b 8 4, tileBase := leAt b 12 3, l := leAt b 16 8, m := leAt b 24 4, tOpen := leAt b 32 8
        window := leAt b 40 8, period := leAt b 48 8, floor := leAt b 56 8, guardBand := leAt b 64 4, dest := leAt b 68 1
        unmaskTimeout := leAt b 72 8, threshold := leAt b 80 2, committee := leAt b 82 2, rosterBase := leAt b 84 3
        rosterNt := leAt b 88 3, statusAddr := leAt b 96 8, lzBase := leAt b 104 3, lzCount := leAt b 108 3
        stageBase := leAt b 112 3, stageCount := leAt b 116 3, ctlBase := leAt b 120 3, ctlCount := leAt b 124 3
        m3 := if fl % 4 = 3 then some (parseM3 (b.drop 128)) else none
        rows := if bits fl 2 2 ≠ 0 then some (parseRows (b.drop oR)) else none
        stair := if bit fl 5 then some (parseStair (b.drop oS)) else none }

/-! ## Ranges (R78) -/

/-- The stated ranges of the mode 3 fields that no later check names. DEDUCED -/
def M3Cfg.inRange (m : M3Cfg) : Bool :=
  decide (m.nlPath ≤ 3) && decide (1350000 ≤ m.nlTimeout) && decide (m.nlTimeout ≤ 81000000000)
    && decide (m.evkCount ≤ 49152) && decide (m.workCount ≤ 4096)

/-- The fields lie in their ranges. -/
def RoundCfg.rangesOk (c : RoundCfg) : Bool :=
  decide (1 ≤ c.slots) && decide (c.slots ≤ 2 ^ 24) && decide (1 ≤ c.l) && decide (c.guardBand ≤ 1350000)
    && (!c.ply || c.guardBand == 270000)
    && decide (1350000 ≤ c.unmaskTimeout) && decide (c.unmaskTimeout ≤ 81000000000)
    && (c.mode == 2 || (decide (2 ≤ c.threshold) && decide (c.threshold ≤ 256)))
    && (!(c.mode == 1 || c.mode == 3) || (decide (c.threshold ≤ c.committee) && decide (c.committee ≤ 256)))
    && (c.period == 0 || (decide (0 < c.floor) && decide (c.floor ≤ c.window) && decide (c.window < c.period)))
    && (c.stageCount == 0 || (decide (32 ≤ c.stageCount) && decide (c.stageCount ≤ 4096)))
    && c.statusAddr % 64 == 0
    && (match c.m3 with
        | some m => m.inRange
        | none => true)

/-! ## Checks of the mode 3, row, staircase and ply fields -/

/-- A round as the checks of an open see it. -/
def RoundCfg.toRound (c : RoundCfg) (f : Nat) (p : Policy) : Round :=
  { func := f, cfg := c, basic := false, acc := [], outTiles := [], policy := p, deadline := 0 }

/-- R116, in its order. -/
def State.m3Code (s : State) (f : Nat) (c : RoundCfg) (p : Policy) : Nat :=
  match c.m3 with
  | none => 0
  | some m =>
    let r := c.toRound f p
    let fn := s.fn f
    let lut (k : Nat) : Bool := (s.findEvk f m.keyset m.ps k 0 m.levelIn).isSome
    firstCode
      [ (c.wsel == 2, 0x0104)
      , (decide (7 < m.ps) || decide (c.pset.lq ≤ m.levelIn), 0x0204)
      , (!fn.commKeys.any (fun k => k.keyset == m.keyset) && !fn.evks.any (fun k => k.2.keyset == m.keyset), 0x0601)
      , (m.nlPath != 0 && (p.tau == 0 || decide (r.w < 11 + r.bY)), 0x0905)
      , ((m.nlPath != 0 && ((s.relinKey r).isNone || (s.conjKey r).isNone))
          || (decide (2 ≤ m.nlPath) && !(lut 2 && lut 3 && lut 4)), 0x0303)
      , (!c.pset.sumOk (wOf c.wsel) m.levelIn m.nlPath c.slots, 0x0201) ]

/-- A row length R138 allows. -/
def rwOk (rw e : Nat) : Bool := [8, 16, 32, 64, 128, 256, 512, 1024].contains rw && decide (rw ≤ e)

/-- Dense-window row ranges: ascending, not overlapping, inside ROWS. -/
def windowsOk (rows : Nat) : Nat → List (Nat × Nat) → Bool
  | _, [] => true
  | lo, (a, n) :: ws => decide (lo ≤ a) && decide (1 ≤ n) && decide (a + n ≤ rows) && windowsOk rows (a + n) ws

/-- The elements of a dense-window contribution: RW · ΣLEN (R155). -/
def RowCfg.windowElems (w : RowCfg) : Nat := w.rw * (w.windows.map (·.2)).sum

/-- R139, in its order. R155 fixes the L of a dense-window round and names no refusal of a record with another L: it is taken
as a field outside its range. DESIGN CHOICE (log entry 120) -/
def State.rowCode (s : State) (f : Nat) (c : RoundCfg) (p : Policy) : Nat :=
  match c.rows with
  | none => 0
  | some w =>
    let sparseOk := decide (1 ≤ w.maxRows) && decide (w.maxRows ≤ 65536) && decide (1 ≤ w.accTiles)
      && [16, 32, 64, 128, 256, 512, 1024, 2048, 4096, 8192, 16384, 32768, 65536, 131072, 262144, 524288, 1048576].contains w.dirTiles
      && decide (16 ≤ w.cacheCount) && decide (w.cacheCount ≤ 4096) && w.windows.isEmpty
      && decide (w.accTiles * c.rowsPerTile ≤ 2 ^ 28)
    let common := decide (1 ≤ w.rows) && decide (w.rows ≤ 2 ^ 48) && rwOk w.rw c.elems
    firstCode
      [ (!common || (if c.sparse then !sparseOk
          else !(decide (1 ≤ w.windows.length) && decide (w.windows.length ≤ 64) && windowsOk w.rows 0 w.windows
            && c.l == w.windowElems)), 0x0116)
      , (c.sparse && c.mode != 2, 0x0116)
      , (c.sparse && (p.format == 4 || p.format == 5), 0x0116)
      , (c.sparse && !(decide (0x800000 ≤ w.dirBase) && s.tileOk f w.dirBase && s.tileOk f (w.dirBase + w.dirTiles - 1)), 0x010B) ]

/-- R290. -/
def State.stairCode (s : State) (f : Nat) (c : RoundCfg) : Nat :=
  match c.stair with
  | none => 0
  | some x =>
    let ok := decide (x.height ≤ 4) && decide (x.nch ≤ 31 * x.height) && (decide (x.nch = 0) == decide (x.height = 0))
      && decide (x.slotLo < c.slots) && decide (x.slotHi < c.slots) && decide (x.slotLo ≤ x.slotHi)
      && decide (1350 ≤ x.childWait) && decide (x.childWait ≤ 1350000000) && decide (x.childPolicy ≤ 1)
      && (x.parentQp == 0xFFFFF || s.stairQp f x.parentQp)
      && !(x.childPolicy == 1 && c.sparse)
      && (!c.isStair || s.rdb Reg.gateEpochValid)
    if ok then 0 else 0x011A

/-- R303, R305: the ply QP, and at strand B an OPEN of A that differs. -/
def State.plyCode (s : State) (f : Nat) (c : RoundCfg) (digest : Nat) : Nat :=
  if !c.ply then 0
  else if (s.plyQp? f).isNone then 0x0806
  else if s.plied && s.isB && s.ply.opens.any (fun o => o.1 == f && o.2.1 == c.round && o.2.2.1 != digest) then 0x0805
  else 0

/-! ## Admission (R74, R75, R79) -/

/-- Runs of near tiles a round declares apart from its accumulator. -/
def RoundCfg.nearRuns (c : RoundCfg) : List (Nat × Nat) :=
  [(c.lzBase, c.lzCount), (c.stageBase, c.stageCount), (c.ctlBase, c.ctlCount)]
    ++ (match c.rows with
        | some w => if c.sparse then [(w.cacheBase, w.cacheCount)] else []
        | none => [])
    ++ (match c.m3 with
        | some m => [(m.evkBase, m.evkCount), (m.workBase, m.workCount)]
        | none => [])

/-- Runs of far tiles: the roster and the row directory. -/
def RoundCfg.farRuns (c : RoundCfg) : List (Nat × Nat) :=
  (if c.mode = 0 then [(c.rosterBase, c.rosterNt)] else [])
    ++ (match c.rows with
        | some w => if c.sparse then [(w.dirBase, w.dirTiles)] else []
        | none => [])

/-- First accumulator tile an expert-level record names. -/
def RoundCfg.accBase (c : RoundCfg) : Nat := if c.sparse then (c.rows.map (·.accBase)).getD 0 else c.tileBase

/-- Tile `t` lies in one of the runs. -/
def inRuns (l : List (Nat × Nat)) (t : Nat) : Bool := l.any (fun p => decide (p.1 ≤ t) && decide (t < p.1 + p.2))

/-- A live round of the function declares tile `t`. -/
def State.declaredBy (s : State) (f t : Nat) : Bool := s.rounds.any (fun r => r.func == f && r.live_ && r.tiles.contains t)

/-- Free tiles of the function for a record (R75): near ascending, then far ascending. -/
def State.freeTiles (s : State) (f : Nat) (c : RoundCfg) : List Nat :=
  let near := (List.range (s.rd Reg.fnNearCount f)).map (s.rd Reg.fnNearBase f + ·)
  let far := (List.range (s.rd Reg.fnFarCount f)).map (0x800000 + s.rd Reg.fnFarBase f + ·)
  (near ++ far.filter (fun t => decide (t < s.farTop))).filter (fun t =>
    !s.declaredBy f t && !inRuns (c.nearRuns ++ c.farRuns) t
      && !s.windows.any (fun w => w.func == f && decide (w.base ≤ t) && decide (t < w.base + w.nt)))

/-- The accumulator and DECODE output tiles of an open: as the record names them, or placed by the firmware (R75). None
when the function lacks the room. -/
def State.placed (s : State) (f : Nat) (c : RoundCfg) (basic : Bool) : Option (List Nat × List Nat) :=
  if basic then
    let free := s.freeTiles f c
    if free.length < 2 * c.nt then none else some (free.take c.nt, (free.drop c.nt).take c.nt)
  else some ((List.range c.nt).map (c.accBase + ·), [])

/-- The roster names more than 256 neighbours for a slot (R92). -/
def State.rosterTooWide (s : State) (c : RoundCfg) : Bool :=
  c.mode == 0 && (s.rosterSlots c).any (fun u => decide (256 < (s.neighbours c u).length))

/-- R74, R79 and R357: the admission of an open. -/
def State.admitCode (s : State) (f : Nat) (c : RoundCfg) (basic : Bool) : Nat :=
  let near := c.nearRuns.filter (fun p => p.2 != 0)
  let far := c.farRuns.filter (fun p => p.2 != 0)
  let acc := if basic then [] else [(c.accBase, c.nt)]
  let all := acc ++ near ++ far
  let accFar := acc.any (fun p => isFar p.1)
  let placedFar := basic && (match s.placed f c basic with
    | some (a, o) => (a ++ o).any isFar
    | none => false)
  let moved := acc.any s.runRemapped || (basic && (match s.placed f c basic with
    | some (a, o) => (a ++ o).any (fun t => s.runRemapped (t, 1))
    | none => false))
  let anyFar := accFar || !far.isEmpty || placedFar
  firstCode
    [ (all.any (fun p => !s.runOk f p), 0x010B)
    , (near.any (fun p => isFar p.1 || s.runRemapped p) || overlaps all
        || decide (c.ctlCount < 33 + ceilDiv c.slots 262144 + ceilDiv c.nt 1024), 0x010A)
    , (anyFar && !s.farReady f, 0x0601)
    , (far.any (fun p => !isFar p.1) || ((anyFar || moved) && (c.stageCount == 0 || !s.farInService)), 0x010A)
    , ((s.placed f c basic).isNone, 0x010A)
    , ((s.rounds.filter (fun r => r.func == f && r.live_)).any (fun r => r.tiles.any (inRuns all)), 0x010A)
    , (s.rosterTooWide c, 0x010A) ]

/-! ## The checks of an open -/

/-- The state as an open sees it: with the assets of function `f` in force at the start of this cycle (R159, R349). -/
def State.asOpened (s : State) (f : Nat) : State :=
  match (s.fn f).assetsWas with
  | some (t, v) =>
    if t = s.time then s.updFn f (fun x => { x with policy := v.policy, joinList := v.joinList, evks := v.evks, commKeys := v.commKeys })
    else s
  | none => s

/-- The policy in force at the start of this cycle (R159). -/
def State.policyAt (s : State) (f : Nat) : Option Policy := ((s.asOpened f).fn f).policy

/-- Every check of an open after its ranges, in order: a code, 0 when it is accepted. -/
def State.openCode (s0 : State) (f : Nat) (c : RoundCfg) (basic : Bool) (digest : Nat) : Nat :=
  let s := s0.asOpened f
  let fn := s.fn f
  let p := fn.policy.getD { modes := 0, format := 0, form := 0, ndest := 0, id := 0, tag := 0, kMin := 0, sigma := 0, tau := 0, digest := 0, dests := [] }
  firstCode
    [ (decide (8 ≤ (s.rounds.filter (fun r => r.func == f && r.live_)).length), 0x0115)
    , (fn.lastRound.any (fun n => decide (c.round ≤ n)), 0x0114)
    , (fn.policy.isNone || !s.rdb Reg.fnFkeyValid f, 0x0601)
    , (!bit p.modes c.mode, 0x0909)
    , (encRefused 0 c.encoding, 0x0104)
    , (decide (2 ^ (encB c.encoding - 1) < c.m), 0x0106)
    , (s.m3Code f c p != 0, s.m3Code f c p)
    , (s.rowCode f c p != 0, s.rowCode f c p)
    , (s.stairCode f c != 0, s.stairCode f c)
    , (s.plyCode f c digest != 0, s.plyCode f c digest)
    , (s.admitCode f c basic != 0, s.admitCode f c basic) ]

/-! ## The round until OPEN (R101, R465) -/

/-- The order of P-384 (R101, R333). -/
def p384Order : Nat :=
  0xFFFFFFFFFFFFFFFFFFFFFFFFFFFFFFFFFFFFFFFFFFFFFFFFC7634D81F4372DDF581A0DB248B0A77AECEC196ACCC52973

/-- A candidate of 48 bytes gives a scalar. -/
def scalarOk (c : Nat) : Bool := decide (c < p384Order - 1)

/-- The round public key record without its signatures (R101). -/
def rpkRecord (scalar kem tag round seed : Nat) : Bytes :=
  p384Point scalar ++ mlkemPublic kem ++ toLe 4 tag ++ toLe 5 round ++ toLe 32 seed

/-- The seed and keys of a round are known: they are held, in mode 2 in a subslot of the function, and the seed is published,
in mode 2 with the key record, signed under the function's identity key (R101, R346). -/
def State.roundKeyed (s : State) (f r seed scalar kem : Nat) : State :=
  match s.round? f r with
  | none => s
  | some x =>
    let sealed := x.cfg.mode == 2
    let rec_ := if sealed then rpkRecord scalar kem (s.tenantTag f) r seed else []
    let s1 := s.updRound f r (fun x => { x with
      seed := seed, drawn := true
      keys := if sealed then some { scalar := scalar, kem := kem, rpk := sha384N rec_ } else none })
    s1.emit (.roundKey f r seed rec_ (if sealed then ecdsaSign (s.idScalar f) rec_ else []))

/-- Words of the DRBG as one number, first word lowest (R8). -/
def wordsNat : List Word → Nat
  | [] => 0
  | w :: ws => w.toNat + 2 ^ 64 * wordsNat ws

/-- Strand A sends OPEN: the record's digest, the seed, and the mode 2 keys (R304). -/
def State.mirrorOpen (s : State) (f r : Nat) : State :=
  match s.round? f r with
  | none => s
  | some x => s.mirror x plyOpen (toLe 32 x.ply.openDigest ++ toLe 32 x.seed ++
      (match x.keys with
       | some k => toLe 48 k.scalar ++ toLe 64 k.kem
       | none => []))

/-- The class-1 request of an open has been served (R101). In mode 2 a candidate that gives no scalar takes 48 bytes
more. -/
def State.roundDrawn (s : State) (f r : Nat) (ws : List Word) : State :=
  match s.round? f r with
  | none => s
  | some x =>
    if x.cfg.mode ≠ 2 then (s.roundKeyed f r (wordsNat (ws.take 4)) 0 0).mirrorOpen f r
    else
      let again := ws.length == 6
      let cand := wordsNat (if again then ws else (ws.drop 4).take 6)
      let seed := if again then x.seed else wordsNat (ws.take 4)
      let kem := if again then (x.keys.map (·.kem)).getD 0 else wordsNat (ws.drop 10)
      if scalarOk cand then (s.roundKeyed f r seed (cand + 1) kem).mirrorOpen f r
      else (s.updRound f r (fun x => { x with seed := seed, keys := some { kem := kem } })).ask 1 f 6 (.roundOpen f r)

/-- Strand B takes the mirrored seed and keys of a round it has opened, or refuses it (R305). -/
def State.takeOpen (s : State) (f r : Nat) : State :=
  match s.round? f r, s.ply.opens.find? (fun o => o.1 == f && o.2.1 == r) with
  | some x, some (_, _, d, seed, keys) =>
    if x.st ≠ .opening || x.drawn then s
    else if d = x.ply.openDigest then (s.roundKeyed f r seed (keys % 2 ^ 384) (keys / 2 ^ 384)).verdict f r 0
    else (s.abandon f r 0x0805).verdict f r 0x0805
  | _, _ => s

/-- Zero the accumulator tiles of a new round as ZERO does, once no fold or drain is in flight on them (R79). -/
def State.zeroRound (s : State) (f r : Nat) : State :=
  match s.round? f r with
  | none => s
  | some x =>
    if x.zeroed || !s.quiet x.acc then s
    else (x.acc.foldl (fun s t => s.newEpoch t) s).updRound f r (fun x => { x with zeroed := true })

/-- Forget the directory of a sparse round: its tiles hold no entry (R142). -/
def State.clearDir (s : State) (c : RoundCfg) : State :=
  match c.rows with
  | some w =>
    if c.sparse then
      ((List.range w.dirTiles).map (w.dirBase + ·) ++ (List.range w.cacheCount).map (w.cacheBase + ·)).foldl
        (fun s t => ((s.zeroTile t).wrote t).retag t) s
    else s
  | none => s

/-- Create the round of an accepted open (R213, R465): records of ended rounds whose control tiles it reuses go. -/
def State.openAccepted (s : State) (f : Nat) (c : RoundCfg) (basic : Bool) (ctr : Option Nat) (series lag deadline digest : Nat) :
    State :=
  match s.placed f c basic, s.policyAt f with
  | some (acc, out), some p =>
    let keep (r : Round) : Bool := r.func != f || r.live_
      || !runsMeet (r.cfg.ctlBase, r.cfg.ctlCount) (c.ctlBase, c.ctlCount)
    let r0 : Round :=
      { func := f, cfg := c, basic := basic, acc := acc, outTiles := out, policy := p, deadline := deadline, lag := lag
        series := series, progressCtr := ctr, ply := { plied := c.ply && s.plied, openDigest := digest } }
    let r1 := if c.mode = 3 then
        { r0 with m3 := { acc := (List.range c.cts).map r0.ctAt, cnt := if c.hasCount then r0.ctAt c.cts else {} } }
      else r0
    let s1 := { s.dropLeaves f r1.tiles.contains with rounds := (s.dropLeaves f r1.tiles.contains).rounds.filter keep ++ [r1] }.updFn f (fun x => { x with lastRound := some c.round })
    let s2 := (s1.clearDir c).zeroRound f c.round
    let s3 := if r1.ply.plied && s.isB then s2.takeOpen f c.round
      else s2.ask 1 f (if c.mode = 2 then 18 else 4) (.roundOpen f c.round)
    s3.deadRound f c.round
  | _, _ => s

/-- Open a round from a record: the code, the placement's first far logical tile, and the state. -/
def State.openRound (s : State) (f : Nat) (rec_ : Bytes) (basic : Bool) (bound : Nat) (ctr : Option Nat) : Nat × State :=
  match parseOpen rec_ with
  | none => (0x0A14, s)
  | some c0 =>
    -- WORK is stated per bound spindle; the round declares them all (R116)
    let c := { c0 with m3 := c0.m3.map (fun m => { m with workCount := m.workCount * bound }) }
    let d := sha256N rec_
    let code := if !c0.rangesOk then 0x0111 else s.openCode f c basic d
    if code ≠ 0 then (code, if code = 0x0805 then s.verdict f c.round 0x0805 else s)
    else (0, s.openAccepted f c basic ctr 0 0 (c.tOpen + c.window) d)

/-- ROUND_ENTER_OPEN: zeroed and drawn, not past d. -/
def State.roundEnterOpen (s0 : State) (f r : Nat) : State :=
  let s := if s0.ready then s0.zeroRound f r else s0
  match s.round? f r with
  | none => s
  | some x =>
    if s.ready && x.st == .opening && x.drawn && x.zeroed && decide (s.time ≤ x.deadline) then s.enter f r .open else s

/-! ## TAKE.o (R214) -/

/-- TAKE.o on spindle `j`: the open record at the start of qB's span, the outcome word in its last 8 bytes. -/
def State.takeO (s : State) (j : Nat) : State :=
  s.issue j (2, 0, 1) (fun f w s =>
    let x := s.spin j
    let o := x.capture f w
    let n := qLen o.qb
    if !x.spanOk o.qb 136 then s.trapHere j 0x0A09 w 0 (tQB w)
    else
      let rec_ := readBytes x.scratch (qAddr o.qb) (n - 8)
      -- the span may be longer than the record by exactly the outcome word
      let (code, s1) := s.openRound f rec_ false (max 1 x.bound.length) (some (tMod w / 4))
      s1.report j w 0 .takeO [(qAddr o.qb + n - 8, toLe 8 code)])

/-- TAKE_O (R214). -/
def execTakeO (sp : Nat) (s : State) : Res := .next (s.takeO sp)
/-- ROUND_ENTER_OPEN (R465). -/
def execRoundEnterOpen (f r : Nat) (s : State) : Res := .next (s.roundEnterOpen f r)

end Sys2Proof.Machine
end

