-- ==== Sys2Proof/Machine/Timers.lean ====
section
/-! DEFINITION. What time does to a round: GUARD and the deadline (R80, R105, R106, R306, R465), periodic rounds (R108), the
unmasking timeout (R96), and leaving CLOSED (R80, R294). A timer command before its time changes nothing. -/
namespace Sys2Proof.Machine
open Sys2Proof

/-! ## The guard band -/

/-- ROUND_GUARD_TIMER: at d − G, or in the cycle after a round enters OPEN later than that (R465). -/
def State.guardTimer (s : State) (f r : Nat) : State :=
  match s.round? f r with
  | none => s
  | some x =>
    let t := x.deadline - x.cfg.guardBand
    if s.ready && x.st == .open && decide (t ≤ s.time) && (decide (x.tLast ≤ t) || decide (x.tLast < s.time)) then
      s.enter f r .guard
    else s

/-- Strand B acts on the closing cohort (R306). A slot appended in OPEN and absent from it is a divergence. -/
def State.applyCohort (s : State) (f r : Nat) : State :=
  match s.round? f r with
  | none => s
  | some x =>
    match x.ply.cohort with
    | none => s
    | some c =>
      let held := x.guardHold.map (·.slot)
      let have_ := (x.dedup.map (·.1)) ++ x.ply.failed
      if x.dedup.any (fun p => !held.contains p.1 && !c.contains p.1) then (s.abandon f r 0x0801).verdict f r 0x0801
      else
        let wait := c.filter (fun n => !have_.contains n)
        let s1 := s.updRound f r (fun x =>
          let x1 := (x.releaseHold (fun m => c.contains m.slot)).dropHold
          { x1 with ply := { x1.ply with awaiting := wait } })
        if wait.isEmpty then s1.verdict f r 0 else s1

/-! ## The deadline -/

/-- The guard hold is resolved when the round enters CLOSED (R106, R306). -/
def State.resolveHold (s : State) (f r : Nat) : State :=
  match s.round? f r with
  | none => s
  | some x =>
    if s.mirroredHere x then s.applyCohort f r
    else
      let s1 := s.updRound f r (fun x => x.releaseHold (fun _ => true))
      if s.plied && s.isA && x.ply.plied then
        (s1.updRound f r (fun x => { x with ply := { x.ply with cohort := some x.candidates } })).mirror x plyCohort
          (bitmapOf x.cfg.slots x.candidates)
      else s1.updRound f r (fun x => { x with ply := { x.ply with plied := false } })

/-- ROUND_DEADLINE: at d a round in GUARD closes; one that has not entered OPEN is ABANDONED (R465), and so is a
staircase round with children and no window (R294). -/
def State.roundDeadline (s : State) (f r : Nat) : State :=
  match s.round? f r with
  | none => s
  | some x =>
    if !s.ready || decide (s.time < x.deadline) then s
    else if x.st = .opening then
      if s.mirroredHere x && !x.drawn then (s.abandon f r 0x0805).verdict f r 0x0805
      -- a round that could still enter OPEN in cycle d does so first (R105)
      else if !x.drawn then s.abandon f r 0x0502
      else if !x.zeroed then s.abandon f r 0x011E
      else if s.time = x.deadline then s.enter f r .open
      else s.abandon f r 0x011E
    else if x.st = .guard then
      let s1 := (s.enter f r .closed).resolveHold f r
      if x.cfg.nch ≠ 0 ∧ (s.roundWindow? x).isNone then s1.abandon f r 0x011C else s1
    else s

/-! ## Periodic rounds (R108) -/

/-- Nominal open time of the round after `x` in its series. -/
def Round.nominalNext (x : Round) : Nat := x.cfg.tOpen + (x.series + 1) * x.cfg.period

/-- PERIODIC_ROUND_OPEN: the round after round `r`, at the later of its nominal time and the release of `r`. A refusal ends
the series. -/
def State.periodicOpen (s : State) (f r : Nat) : State :=
  match s.round? f r with
  | none => s
  | some x =>
    let due := max x.nominalNext x.tLast
    if !s.ready || x.cfg.period = 0 || x.followed || x.live_ || decide (s.time < due) || decide (2 ^ 40 ≤ r + 1) then s
    else
      let lag := x.tLast - x.nominalNext
      let c := { x.cfg with round := r + 1 }
      let s1 := s.updRound f r (fun x => { x with followed := true })
      let code := s1.openCode f c x.basic x.ply.openDigest
      if code ≠ 0 then s1.raise f code 4 (r + 1)
      else s1.openAccepted f c x.basic x.progressCtr (x.series + 1) lag (due + max c.floor (c.window - lag)) x.ply.openDigest

/-! ## Timeouts -/

/-- UNMASK_TIMEOUT: a tally that R96 or R99 needs is still short. -/
def State.unmaskTimeout (s : State) (f r : Nat) : State :=
  match s.round? f r with
  | none => s
  | some x =>
    if s.ready && x.st == .unmask && decide (x.um.since + x.cfg.unmaskTimeout ≤ s.time) && !s.tallied x then
      s.abandon f r 0x0903
    else s

/-- CANDIDATES_RESOLVED (R80). -/
def execCandidatesResolved (f r : Nat) (s : State) : Res := .next (s.candidatesResolved f r)

end Sys2Proof.Machine
end

