-- ==== Sys2Proof/Machine/Jobs.lean ====
section
/-! DEFINITION. Command rings (R380 to R386): creation, doorbells, completion entries, the checks of a descriptor, and the
descriptors that act on rounds (R384). -/
namespace Sys2Proof.Machine
open Sys2Proof

/-! ## Versions (R18 to R20) -/

/-- The negotiated version of two ranges; none when a range is malformed or they have no version in common. -/
def negotiate (amin amax bmin bmax : Nat) : Option Nat :=
  if amin = 0 || amax = 0 || bmin = 0 || bmax = 0 || decide (amax < amin) || decide (bmax < bmin) then none
  else if min amax bmax < max amin bmin then none
  else some (min amax bmax)

/-! ## Rings (R380 to R382) -/

/-- Ring STATE ACTIVE. -/
def ringActive : Nat := 1
/-- Ring STATE ERROR. -/
def ringError : Nat := 2

/-- Change ring `n` of function `f`. -/
def State.updRing (s : State) (f n : Nat) (g : Ring → Ring) : State := s.updFn f (fun x => { x with rings := updAt x.rings n g })
/-- Ring `n` of function `f`. -/
def State.ring (s : State) (f n : Nat) : Ring := (s.fn f).rings.getD n {}
/-- SQ_TAIL − SQ_HEAD modulo 2^32. -/
def State.sqUsed (s : State) (f n : Nat) : Nat := (s.rd Reg.ringSqTail f n + 2 ^ 32 - s.rd Reg.ringSqHead f n) % 2 ^ 32
/-- Entries between CQ_HEAD and the completion index. -/
def State.cqUsed (s : State) (f n : Nat) : Nat :=
  ((s.ring f n).posted % 2 ^ 32 + 2 ^ 32 - s.rd Reg.ringCqHead f n) % 2 ^ 32
/-- The completion queue is full. -/
def State.cqFull (s : State) (f n : Nat) : Bool := decide (2 ^ s.rd Reg.ringCqLog2 f n ≤ s.cqUsed f n)

/-- A RING_CMD that the ring may act on: not BUSY, and the driver attached (R380, R401). -/
def State.ringCmd (s : State) (f n : Nat) (body : State → State) : State :=
  if 4 ≤ n then s
  else s.funcCmd f Reg.ringCmd n (fun s =>
    if s.rd Reg.ringBusy f n = 1 then s
    else if !s.rdb Reg.attAttached f then s.wr Reg.ringCode 0x0A1A f n
    else body s)

/-- A ring refused or failed with a code. -/
def State.ringFail (s : State) (f n code : Nat) : State := (s.wr Reg.ringCode code f n).raiseOwn f code

/-- CREATE (R381). On a ring not in NONE it is refused with 0x0A13. DEDUCED -/
def State.ringCreate (s : State) (f n : Nat) : State :=
  s.ringCmd f n (fun s =>
    let v := fun (r : Fld) => s.rd r f n
    let shape := v Reg.ringSqBase % 4096 == 0 && v Reg.ringCqBase % 4096 == 0
      && decide (6 ≤ v Reg.ringSqLog2) && decide (v Reg.ringSqLog2 ≤ 16) && decide (6 ≤ v Reg.ringCqLog2)
      && decide (v Reg.ringCqLog2 ≤ 16) && decide (v Reg.ringVmin ≤ v Reg.ringVmax)
    if v Reg.ringState ≠ 0 ∨ !shape then s.ringFail f n 0x0A13
    else match negotiate (v Reg.ringVmin) (v Reg.ringVmax) (s.rd Reg.devRingMin) (s.rd Reg.devRingMax) with
      | none => s.ringFail f n 0x0A05
      | some ver =>
        let s1 := (((((s.wr Reg.ringState ringActive f n).wr Reg.ringVer ver f n).wr Reg.ringCode 0 f n).wr Reg.ringSqTail 0 f n).wr
          Reg.ringSqHead 0 f n).wr Reg.ringCqHead 0 f n
        s1.updRing f n (fun _ => {}))

/-- The ring is gone: entries a full queue holds are discarded. -/
def State.ringGone (s : State) (f n : Nat) : State :=
  ((s.wr Reg.ringState 0 f n).wr Reg.ringBusy 0 f n).updRing f n (fun x => { x with held := [] })

/-- A started descriptor of the ring has not completed: a CHECKPOINT that waits. -/
def State.ringWaits (s : State) (f n : Nat) : Bool := (s.fn f).ckptJob.any (fun p => p.1 == n)

/-- DESTROY (R382): with a started descriptor under way it stays BUSY until that completes. -/
def State.ringDestroy (s : State) (f n : Nat) : State :=
  s.ringCmd f n (fun s =>
    if s.rd Reg.ringState f n = 0 then s
    else if s.ringWaits f n then s.wr Reg.ringBusy 1 f n
    else s.ringGone f n)

/-- SQ_TAIL (R382). -/
def State.sqTail (s : State) (f n v : Nat) : State :=
  if 4 ≤ n then s
  else s.funcCmd f Reg.ringSqTail n (fun s =>
    let s1 := s.wr Reg.ringSqTail v f n
    if s1.rd Reg.ringState f n = ringActive ∧ 2 ^ s1.rd Reg.ringSqLog2 f n < s1.sqUsed f n then
      (s1.wr Reg.ringState ringError f n).ringFail f n 0x0A13
    else s1)

/-! ## Completion entries (R385, R386) -/

/-- Write the entries a ring holds, as many as the queue has room for, and send CQ_VEC once. -/
def State.postHeld (s : State) (f n : Nat) : List Bytes → State
  | [] => s.updRing f n (fun x => { x with held := [] })
  | e :: es =>
    if s.cqFull f n then s.updRing f n (fun x => { x with held := e :: es })
    else
      let j := (s.ring f n).posted
      let size := 2 ^ s.rd Reg.ringCqLog2 f n
      let phase := b2n (j / size % 2 == 0)
      -- PHASE is bit 7 of byte 6 (R385)
      let e1 := toLe 16 (leNat e + phase * 2 ^ 55)
      let s1 := (s.hostPut f (s.rd Reg.ringCqBase f n + 16 * (j % size)) e1).updRing f n (fun x => { x with posted := j + 1 })
      let s2 := if (s1.ring f n).sent then s1
        else (s1.updRing f n (fun x => { x with sent := true })).sendVec f (s1.rd Reg.ringCqVec f n)
      s2.postHeld f n es

/-- The completion entry without its phase. -/
def cqEntry (tag code n result : Nat) : Bytes := toLe 16 (tag + code * 2 ^ 32 + n * 2 ^ 48 + result % 2 ^ 64 * 2 ^ 64)

/-- CQ_HEAD (R385, R386). -/
def State.cqHead (s : State) (f n v : Nat) : State :=
  if 4 ≤ n then s
  else s.funcCmd f Reg.ringCqHead n (fun s =>
    let s1 := (s.wr Reg.ringCqHead v f n).updRing f n (fun x => { x with sent := false })
    s1.postHeld f n (s1.ring f n).held)

/-! ## Descriptors (R383) -/

def jOp (d : Nat) : Nat := bits d 0 8
def jFence (d : Nat) : Bool := bit d 8
def jQuiet (d : Nat) : Bool := bit d 9
def jTag (d : Nat) : Nat := bits d 32 32
def jArg0 (d : Nat) : Nat := bits d 64 64
def jArg1 (d : Nat) : Nat := bits d 128 64
def jRecAddr (d : Nat) : Nat := bits d 192 64
def jRecLen (d : Nat) : Nat := bits d 256 32

/-- Opcodes of R384. -/
def jobOps : List Nat := [0, 1, 2, 3, 4, 5, 6, 7, 8, 9, 10, 11, 12, 0x10, 0x11, 0x12]

/-- The descriptor's own reserved fields are zero. -/
def jobWf (d : Nat) : Bool := bits d 10 6 == 0 && bits d 16 16 == 0 && bits d 288 224 == 0 && jobOps.contains (jOp d)

/-- Ring `n` of function `f` has a descriptor that may start (R382, R386). -/
def State.ringWork (s : State) (f n : Nat) : Bool :=
  s.funcUp f && decide (n < 4) && s.rd Reg.ringState f n == ringActive && s.rd Reg.ringBusy f n == 0 && s.sqUsed f n != 0
    && (s.ring f n).held.isEmpty && !s.cqFull f n

/-- Steps from one turn to `x`'s, in rotation over `m`. -/
def turnsTo (m last x : Nat) : Nat := (x + 2 * m - last - 1) % m

/-- The firmware's turn is at ring `n` of function `f`: one descriptor per turn, in rotation over the functions that have work,
and within a function over its rings (R386). A ring whose CHECKPOINT waits delays no other. -/
def State.ringTurn (s : State) (f n : Nat) : Bool :=
  let work (g m : Nat) : Bool := s.ringWork g m && !s.ringWaits g m
  (List.range 64).all (fun g => !(List.range 4).any (work g) || decide (turnsTo 64 s.fwTurn f ≤ turnsTo 64 s.fwTurn g))
    && (List.range 4).all (fun m => !work f m || decide (turnsTo 4 (s.fn f).ringTurn n ≤ turnsTo 4 (s.fn f).ringTurn m))

/-- The ring takes its next descriptor `d` now (R382, R386). Descriptors complete in the step that starts them, but for a
CHECKPOINT that waits for its CKPT_ID: FENCE holds back what comes after it. -/
def State.ringTakes (s : State) (f n d : Nat) : Bool :=
  s.ringWork f n && s.ringTurn f n && !(jFence d && s.ringWaits f n)

/-- The firmware takes the descriptor. -/
def State.takeJob (s : State) (f n : Nat) : State :=
  { (s.wr Reg.ringSqHead (s.rd Reg.ringSqHead f n + 1) f n).updFn f (fun x => { x with ringTurn := n }) with fwTurn := f }

/-- A descriptor completes (R383, R385): QUIET posts no entry on code 0. -/
def State.jobDone (s : State) (f n d code result : Nat) : State :=
  if jQuiet d && code == 0 then s
  else s.postHeld f n ((s.ring f n).held ++ [cqEntry (jTag d) code n (if code = 0 then result else 0)])

/-- The descriptor `op` of ring `n` of function `f`: the firmware takes it, checks it, runs `body` on it and its record,
and completes it with the code and RESULT. `want` is the length its record must have; none for a record that gives its
own length. -/
def State.job (s : State) (f n : Nat) (desc : Bytes) (op : Nat) (want : Option Nat) (rec_ : Option Bytes)
    (body : Nat → Bytes → State → (Nat × Nat) × State) : State :=
  let d := leNat desc
  let bad : Bool := !jobWf d || want.any (fun w => w != jRecLen d)
  if desc.length ≠ 64 || jOp d ≠ op || !s.ringTakes f n d || (!bad && rec_.any (fun b => b.length != jRecLen d)) then s
  else
    let s1 := s.takeJob f n
    if bad then s1.jobDone f n d 0x0A14 0
    else match rec_ with
      | none => s1.jobDone f n d 0x0A15 0
      | some b =>
        let ((code, result), s2) := body d b s1
        s2.jobDone f n d code result

/-- A descriptor with no record. -/
def State.job0 (s : State) (f n : Nat) (desc : Bytes) (op : Nat) (body : Nat → State → (Nat × Nat) × State) : State :=
  s.job f n desc op (some 0) (some []) (fun d _ s => body d s)

/-- NOP; and a descriptor with a reserved opcode, which is malformed (R383). -/
def State.jobNop (s : State) (f n : Nat) (desc : Bytes) : State :=
  let op := jOp (leNat desc)
  if op = 0 then s.job0 f n desc 0 (fun _ s => ((0, 0), s))
  else if jobOps.contains op then s
  else s.job f n desc op (some (2 ^ 32)) none (fun _ _ s => ((0x0A14, 0), s))

/-- ROUND_STATUS (R109). -/
def State.jobStatus (s : State) (f n : Nat) (desc : Bytes) : State :=
  s.job0 f n desc 3 (fun d s =>
    match s.round? f (jArg0 d) with
    | none => ((0x0110, 0), s)
    | some _ => ((0, 0), s.putStatus f (jArg0 d)))

/-- The function whose round `r` an abandon command of function `f` names (R80): its own; from PF0, which holds no live round
of that number, the lowest function's that does. DESIGN CHOICE (log entry 114) -/
def State.abandonOwner (s : State) (f r : Nat) : Nat :=
  let held := (s.rounds.filter (fun x => x.cfg.round == r && x.live_)).map (·.func)
  if f = 0 ∧ !held.contains 0 then (minBy? id held).getD f else f

/-- ABANDON_ROUND (R80, R81). -/
def State.jobAbandon (s : State) (f n : Nat) (desc : Bytes) : State :=
  s.job0 f n desc 2 (fun d s =>
    let g := s.abandonOwner f (jArg0 d)
    match s.round? g (jArg0 d) with
    | none => ((0x0110, 0), s)
    | some x => if x.live_ then ((0, 0), s.abandonCmd g (jArg0 d) 0x090C) else ((0x0110, 0), s))

/-- SET_DEST (R169): a buffer for one of the policy's four destination indices. -/
def State.jobSetDest (s : State) (f n : Nat) (desc : Bytes) : State :=
  s.job0 f n desc 6 (fun d s =>
    if 3 < jArg0 d then ((0x0A14, 0), s)
    else ((0, 0), s.updFn f (fun x =>
      { x with dests := { index := jArg0 d, addr := jRecAddr d, len := jArg1 d } :: x.dests.filter (fun b => b.index != jArg0 d) })))

/-- First run of free landing-zone tiles for a message of `n` bytes in the function's live rounds. -/
def State.submitTile (s : State) (f n : Nat) : Option Nat :=
  firstSome (fun (r : Round) =>
    if r.func = f ∧ r.live_ then
      ((List.range r.cfg.lzCount).map (r.cfg.lzBase + ·)).find? (fun t =>
        decide (t + ceilDiv n tileSize ≤ r.cfg.lzBase + r.cfg.lzCount) && s.lzFree f t n)
    else none) s.rounds

/-- HOST_SUBMIT: the message is placed in a landing zone of the function, and completes as a SEND message on no bound QP.
With no landing space it is not taken, and completes with 0x010A. -/
def State.jobSubmit (s : State) (f n : Nat) (desc : Bytes) (rec_ : Option Bytes) : State :=
  s.job f n desc 4 none rec_ (fun _ b s =>
    match s.submitTile f b.length with
    | some t => ((0, 0), s.message f false false false t b)
    | none =>
      -- a message no round would hold needs no landing space
      if (s.round? f (hRound (hdrOf b))).any (fun x => x.live_) then ((0x010A, 0), s) else ((0, 0), s.message f false false false 0 b))

/-! ## OPEN_ROUND -/

/-- A basic-level round of the function is live. -/
def State.basicLive (s : State) (f : Nat) : Bool := s.rounds.any (fun r => r.func == f && r.basic && r.live_)

/-- The firmware may bind its program to spindle `j`: IDLE, or left there by its own program for a round that has ended
(R198, R384). -/
def State.bindable (s : State) (f j : Nat) : Bool :=
  (s.spin j).st == .idle || ((s.spin j).firmware && ((s.spin j).st == .done || !s.basicLive f))

/-- The program image of the firmware in force. Its text is not part of the spec; it states version 0x0100 and requires no
feature. PRESUMED (log entry 115) -/
def State.firmwareImage (s : State) : Bytes :=
  toLe 4 0x47514C43 ++ toLe 4 0x0100 ++ toLe 8 0 ++ Config.firmwareProgram s.nalam.fwImage

/-- The firmware binds its program to the function's spindles and starts it. -/
def State.bindFirmware (s : State) (f : Nat) : State :=
  let sel := s.spindlesOf f
  let s1 := s.loadOn s.firmwareImage sel true
  sel.foldl (fun s j => s.updSpin j (fun x => { x with st := .running, active := s.time }.journalPoint s.time)) s1

/-- Every spindle of the function may take the firmware's program, and it has one. -/
def State.canBind (s : State) (f : Nat) : Bool := !(s.spindlesOf f).isEmpty && (s.spindlesOf f).all (s.bindable f)

/-- RESULT of OPEN_ROUND: round number, and the first far logical tile (R75). -/
def Round.openResult (r : Round) : Nat := r.cfg.round + (r.acc.findIdx? isFar).getD 0xFFFFFF * 2 ^ 40

/-- OPEN_ROUND. -/
def State.jobOpen (s : State) (f n : Nat) (desc : Bytes) (rec_ : Option Bytes) : State :=
  s.job f n desc 1 none rec_ (fun _ b s =>
    match parseOpen b with
    | none => ((0x0A14, 0), s)
    | some c =>
      if s.versionCode s.firmwareImage ≠ 0 then ((s.versionCode s.firmwareImage, 0), s)
      else if !s.canBind f then ((0x0A0C, 0), s)
      else
        let (code, s1) := s.openRound f b true (s.spindlesOf f).length none
        if code ≠ 0 then ((code, 0), s1)
        else ((0, ((s1.round? f c.round).map Round.openResult).getD 0), s1.bindFirmware f))

/-- PERIODIC_ROUND_OPEN; the firmware binds its program to the next round of a basic-level series, or abandons it. -/
def State.periodicNext (s : State) (f r : Nat) : State :=
  let can := s.canBind f
  let s1 := s.periodicOpen f r
  if !(s.round? f r).any (·.basic) then s1
  else match s1.round? f (r + 1), s.round? f (r + 1) with
    | some _, none =>
      if s.versionCode s.firmwareImage ≠ 0 then s1.abandon f (r + 1) (s.versionCode s.firmwareImage)
      else if can then s1.bindFirmware f else s1.abandon f (r + 1) 0x0A0C
    | _, _ => s1

/-! ## APPLY_ROUND -/

/-- The APPLY of APPLY_ROUND: the round's decoded tiles in logical order, a parameter run of consecutive tiles, and the
options the record and the policy's format imply. -/
def Round.applyAll (r : Round) (rec_ : Bytes) : ApplyOp :=
  let outs := sortBy (·.logical) r.gate.outs
  let fmt := applyFmt (r.policy.format % 2 == 1)
  let lastN := ((outs.getLast?).map (fun o => o.bytes / fmt.size)).getD 0
  let rows := r.applyRows (outs.map (·.tile))
  let total := match rows with
    | some (rw, l) => (l.flatten.map (fun r => (r + 1) * rw)).foldl max 0
    | none => (outs.length - 1) * fmt.perTile + lastN
  let run (b : Nat) := (List.range (ceilDiv total fmt.perTile)).map (b + ·)
  let v := leAt rec_ 68 3
  { prec := fmt, afmt := fmt, adaptive := v != 0, nclip := leAt rec_ 56 8 != 0, round := r.cfg.round
    agg := outs.map (·.tile), last := lastN, param := run (leAt rec_ 96 3), m := run (leAt rec_ 64 3)
    v := if v = 0 then [] else run v, rows := rows, plast := fmt.perTile, k := (List.range 7).map (fun i => f64.convert fmt (leAt rec_ (8 * i) 8))
    clip := leAt rec_ 56 8 }

/-- APPLY_ROUND: APPLY over the round's decoded tiles, and NONFINITE into the record. -/
def State.jobApply (s : State) (f n : Nat) (desc : Bytes) (rec_ : Option Bytes) : State :=
  s.job f n desc 5 (some 104) rec_ (fun d b s =>
    match s.round? f (jArg0 d) with
    | none => ((0x0110, 0), s)
    | some r =>
      let a := r.applyAll b
      let all := a.param ++ a.m ++ a.v
      if !(zerosAt b [(67, 1), (71, 9), (88, 8), (99, 5)]) then ((0x0A14, 0), s)
      else if r.st ≠ .gated || r.gate.step < 5 || a.agg.isEmpty || r.policy.format < 2 then ((0x090B, 0), s)
      else if all.any (fun t => !s.tileOk f t) then ((0x010B, 0), s)
      else
        let sums := (List.range s.lgrade).map (fun p => s.sumPart a s.lgrade p)
        let (c, s1) := s.applyTiles a (a.scale (normOf sums)) (List.range a.agg.length)
        ((0, 0), s1.hostPut f (jRecAddr d + 80) (toLe 8 c)))

/-- RING_CREATE (R381). -/
def execRingCreate (f n : Nat) (s : State) : Res := .next (s.ringCreate f n)
/-- RING_DESTROY (R382). -/
def execRingDestroy (f n : Nat) (s : State) : Res := .next (s.ringDestroy f n)
/-- SQ_TAIL (R382). -/
def execSqTail (f n : Nat) (v : BitVec 32) (s : State) : Res := .next (s.sqTail f n v.toNat)
/-- CQ_HEAD (R385). -/
def execCqHead (f n : Nat) (v : BitVec 32) (s : State) : Res := .next (s.cqHead f n v.toNat)
/-- NOP (R384). -/
def execNop (f n : Nat) (desc : Bytes) (s : State) : Res := .next (s.jobNop f n desc)
/-- ROUND_STATUS (R109). -/
def execRoundStatus (f n : Nat) (desc : Bytes) (s : State) : Res := .next (s.jobStatus f n desc)
/-- ABANDON_ROUND (R81). -/
def execAbandonRound (f n : Nat) (desc : Bytes) (s : State) : Res := .next (s.jobAbandon f n desc)
/-- SET_DEST (R169). -/
def execSetDest (f n : Nat) (desc : Bytes) (s : State) : Res := .next (s.jobSetDest f n desc)
/-- HOST_SUBMIT (R384). -/
def execHostSubmit (f n : Nat) (desc : Bytes) (rec : Option Bytes) (s : State) : Res := .next (s.jobSubmit f n desc rec)
/-- OPEN_ROUND (R384). -/
def execOpenRound (f n : Nat) (desc : Bytes) (rec : Option Bytes) (s : State) : Res := .next (s.jobOpen f n desc rec)
/-- APPLY_ROUND (R384). -/
def execApplyRound (f n : Nat) (desc : Bytes) (rec : Option Bytes) (s : State) : Res := .next (s.jobApply f n desc rec)
/-- PERIODIC_ROUND_OPEN (R108). -/
def execPeriodicRoundOpen (f r : Nat) (s : State) : Res := .next (s.periodicNext f r)

end Sys2Proof.Machine
end

