-- ==== Sys2Proof/Machine/Link.lean ====
section
/-! DEFINITION. What both directions of a queue pair share: headers (R236), protection (R242), ports and paths (R235),
control packets (R238), credit (R250), the end of a send, and the end of a QP (R244, R280); the FORWARD that ends a
staircase round (R278, R293). -/
namespace Sys2Proof.Machine
open Sys2Proof

/-! ## Opcodes and headers (R236) -/

def opHello : Nat := 0x01
def opAccept : Nat := 0x02
def opRefuse : Nat := 0x03
def opSend : Nat := 0x10
def opWrite : Nat := 0x11
def opAck : Nat := 0x20
def opNak : Nat := 0x21
def opClose : Nat := 0x30

/-- The 32-byte base header. -/
def kztHeader (ver op flags dst psn epoch msn path ts plen : Nat) : Bytes :=
  toLe 32 (ver + op * 2 ^ 16 + flags * 2 ^ 24 + dst % 2 ^ 20 * 2 ^ 32 + psn % 2 ^ 24 * 2 ^ 64 + epoch % 2 ^ 32 * 2 ^ 96
    + msn % 2 ^ 24 * 2 ^ 128 + path % 256 * 2 ^ 152 + ts % 2 ^ 32 * 2 ^ 160 + plen * 2 ^ 192)

/-- The extension of a data packet (R237). -/
def kztExt (write : Bool) (off arg : Nat) : Bytes :=
  if write then toLe 4 arg ++ toLe 8 off ++ toLe 4 0 else toLe 5 off ++ toLe 5 arg ++ toLe 6 0

/-- The GCM IV of a data packet, and of a control packet (R242). -/
def dataIv (retry psn epoch : Nat) : Bytes := toLe 1 (retry * 16) ++ toLe 3 psn ++ toLe 4 epoch ++ toLe 4 0
def controlIv (cseq : Nat) : Bytes := toLe 1 2 ++ toLe 3 cseq ++ toLe 4 (cseq / 2 ^ 24) ++ toLe 4 0

/-- The key of packets this side sends, and of packets it receives. -/
def Qp.keyOut (q : Qp) : Nat := if q.initiate then q.keyIR else q.keyRI
def Qp.keyIn (q : Qp) : Nat := if q.initiate then q.keyRI else q.keyIR

/-- Bytes on the wire of a data packet with `n` payload bytes: 150 over IPv6, 20 less over IPv4, 4 more with a VLAN tag
(R233). -/
def State.wireBytes (s : State) (q : Qp) (n : Nat) : Nat :=
  n + 150 - (if q.ipv4 then 20 else 0) + (if s.rd Reg.qpcVlan 0 q.bundle = 0 then 0 else 4)

/-! ## Ports and paths (R234, R235) -/

/-- Ports a QP sends on now: those of its bundle when it was created that are still in it and up. -/
def State.upPorts (s : State) (q : Qp) : List Nat :=
  (List.range 64).filter (fun p => bit q.ports p && bit (s.rd Reg.qpcBundle 0 q.bundle) p && s.rdb Reg.portUp p)

/-- The first port in round-robin order from `p`. -/
def nextPort (ups : List Nat) (p : Nat) : Option Nat :=
  match ups.find? (fun x => decide (p ≤ x)) with
  | some x => some x
  | none => ups.head?

/-- The next path index that is not suspect; all are cleared together when every one is. -/
def nextPath (now npath h : Nat) (sus : List (Nat × Nat)) : Nat × List (Nat × Nat) :=
  let live := sus.filter (fun p => decide (now < p.2))
  match (List.range npath).find? (fun k => !live.any (fun p => p.1 == (h + k) % npath)) with
  | some k => ((h + k) % npath, live)
  | none => (h % npath, [])

/-- The next hop of a QP: port and path, and the QP moved on. None while no port is up. -/
def State.hop (s : State) (q : Qp) : Option (Nat × Nat × Qp) :=
  (nextPort (s.upPorts q) q.tx.port).map (fun p =>
    let (h, sus) := nextPath s.time (max 1 q.npath) q.tx.path q.tx.suspects
    (p, h, { q with tx := { q.tx with port := p + 1, path := (h + 1) % max 1 q.npath, suspects := sus } }))

/-! ## Control packets (R238) -/

/-- CLK_FAB cycles between packets of `n` wire bytes at a rate. -/
def spacing (n rate : Nat) : Nat := ceilDiv (n * 1350000000) (max 1 rate)

/-- On a sealed bundle: this is the function's slot and the packet's last byte leaves before it ends (R361). -/
def State.slotOk (s : State) (q : Qp) (wire : Nat) : Bool :=
  match s.turn q.bundle with
  | none => true
  | some (f, left) => f == some q.func && decide (spacing wire 50000000000 ≤ left)

/-- A sequence number EPOCH · 2^24 + PSN. -/
def seqOf (epoch psn : Nat) : Nat := epoch * 2 ^ 24 + psn

/-- The 56-byte body of an ACK. -/
def Qp.ackBody (q : Qp) (now echo echoAt : Nat) : Bytes :=
  let x := q.rx
  let base := max (x.cum + 1) (x.highest - 255)
  let sack := (x.got.filter (fun p => decide (base ≤ p) && decide (p < base + 256))).foldl (fun a p => Nat.lor a (2 ^ (p - base))) 0
  toLe 56 (x.cum % 2 ^ 24 + x.cum / 2 ^ 24 % 2 ^ 32 * 2 ^ 32 + echo % 2 ^ 32 * 2 ^ 64 + (now - echoAt) % 2 ^ 32 * 2 ^ 96
    + (match x.credit with
       | some c => c % 2 ^ 24
       | none => 2 ^ 24 - 1) * 2 ^ 128
    + base % 2 ^ 24 * 2 ^ 160 + sack * 2 ^ 192)

/-- Opcode and body of a control packet as it leaves. -/
def CtlPkt.parts (k : CtlPkt) (q : Qp) (now : Nat) : Nat × Bytes :=
  match k with
  | .ack echo echoAt => (opAck, q.ackBody now echo echoAt)
  | .nak body => (opNak, body)
  | .close => (opClose, [])

/-- The control packets of a QP leave in order, as far as a port is up and the slot lasts: outside the rate, on the next port
and path (R251, R361). -/
def State.sendCtl (s : State) (qpn : Nat) : List CtlPkt → State
  | [] => s
  | k :: ks =>
    match s.qp? qpn with
    | none => s
    | some q =>
      let (op, body) := k.parts q s.time
      match (if s.slotOk q (s.wireBytes q body.length - 16) then s.hop q else none) with
      | none => s
      | some (port, path, q1) =>
        let c := q.tx.cseq
        let h := kztHeader q.ver op 0 q.peerQpn c (c / 2 ^ 24) 0 path s.time 0
        let tag := gcmMac q.keyOut (controlIv c) (h ++ body) []
        (((s.updQp qpn (fun _ => { q1 with ctl := ks, tx := { q1.tx with cseq := c + 1 } })).emit
          (.control qpn op (h ++ body ++ tag))).bump Reg.portTxFrames port).sendCtl qpn ks

/-- A control packet of a QP is to go: at once where it may. -/
def State.sendControl (s : State) (qpn : Nat) (k : CtlPkt) : State :=
  match s.qp? qpn with
  | none => s
  | some q => (s.updQp qpn (fun q => { q with ctl := q.ctl ++ [k] })).sendCtl qpn (q.ctl ++ [k])

/-- An ACK waits. -/
def Qp.ackWaits (q : Qp) : Bool := q.ctl.any (fun k => match k with
  | .ack _ _ => true
  | _ => false)

/-- Send an ACK (R246); one that waits serves a later trigger too. -/
def State.sendAck (s : State) (qpn : Nat) : State :=
  match s.qp? qpn with
  | none => s
  | some q =>
    if q.st != .rts && q.st != .draining then s
    else (if q.ackWaits then s else s.sendControl qpn (.ack q.rx.echo q.rx.echoAt)).updQp qpn (fun q =>
      { q with rx := { q.rx with sinceAck := 0, firstUnacked := none } })

/-- Send a NAK that names a packet and a code (R268). -/
def State.sendNak (s : State) (qpn seq code : Nat) : State :=
  s.sendControl qpn (.nak (toLe 12 (seq % 2 ^ 24 + seq / 2 ^ 24 % 2 ^ 32 * 2 ^ 32 + code * 2 ^ 64)))

/-! ## Credit (R250) -/

/-- Landing-zone tiles a QP's reservation may take. -/
def State.pool (s : State) (q : Qp) : List (Nat × Nat) :=
  (s.rounds.filter (fun r => r.func == q.func && r.live_ && (if q.round = 0 then true else r.cfg.round == q.round && r.st != .opening))).map
    (fun r => (r.cfg.lzBase, r.cfg.lzCount))

/-- Tiles of a reservation. -/
def Qp.resvTiles (q : Qp) : Nat := ceilDiv q.maxMsg tileSize

/-- The first place for a reservation. -/
def State.resvPlace (s : State) (q : Qp) : Option Nat :=
  let zs := s.pool q
  firstSome (fun (z : Nat × Nat) => ((List.range z.2).map (z.1 + ·)).find? (fun t =>
    (List.range q.resvTiles).all (fun i => inRuns zs (t + i)) && s.lzFree q.func t (q.resvTiles * tileSize))) zs

/-- Entries of a round's intake queue in use or reserved by QPs bound to it. -/
def State.queueUsed (s : State) (r : Round) : Nat :=
  r.entries + ((s.qps.filter (fun q => q.func == r.func && q.round == r.cfg.round)).map (fun q => q.rx.resv.length)).sum

/-- Give a QP credit for one more message when there is room. -/
def State.grant (s : State) (qpn : Nat) : Option State :=
  match s.qp? qpn with
  | none => none
  | some q =>
    let room := q.round == 0 || (match s.round? q.func q.round with
      | some r => decide (s.queueUsed r < intakeMax)
      | none => false)
    if q.st != .rts || !room then none
    else match s.resvPlace q with
      | none => none
      | some t =>
        let m := match q.rx.credit with
          | some c => (c + 1) % 2 ^ 24
          | none => 0
        some (s.updQp qpn (fun q =>
          { q with rx := { q.rx with credit := some m, resv := q.rx.resv ++ [(m, t, q.resvTiles)] } }))

/-- The sender may begin no message: every one that credit admits has begun to arrive (R250). -/
def Qp.dry (q : Qp) : Bool := q.rx.resv.all (fun v => q.rx.msgs.any (fun m => m.msn == v.1))

/-- One message of credit to each QP of a list that has room: whether any took one, and the state. An opening after none
sends an ACK at once. -/
def State.grantPass (s : State) : List Nat → Bool × State
  | [] => (false, s)
  | n :: ns =>
    let dry := match s.qp? n with
      | some q => q.dry
      | none => false
    match s.grant n with
    | none => s.grantPass ns
    | some s1 => (true, ((if dry then s1.sendAck n else s1).grantPass ns).2)

/-- Credit is raised while there is room, one message a turn over the QPs in ascending QPN. DESIGN CHOICE -/
def State.credits (s : State) : Nat → State
  | 0 => s
  | n + 1 =>
    let (more, s1) := s.grantPass (sortBy id ((s.qps.filter (fun q => q.st == .rts)).map (·.qpn)))
    if more then s1.credits n else s1

/-- Credit after whatever freed space: at most a turn for each landing-zone tile. -/
def State.creditAll (s : State) : State :=
  if s.qps.isEmpty || !s.ready then s
  else s.credits (((s.rounds.filter (fun r => r.live_)).map (fun r => r.cfg.lzCount)).sum)

/-! ## FORWARD and the end of a staircase round (R278, R293) -/

/-- The cohort message of a round to its parent. -/
def State.cohortMsg (s : State) (r : Round) : Bytes :=
  let slots := r.cohortSlots
  toLe 64 (0x48434C43 + 1 * 2 ^ 32 + s.rd Reg.gateLid * 2 ^ 64 + r.cfg.round % 2 ^ 40 * 2 ^ 128 + slots.length % 2 ^ 40 * 2 ^ 192
    + r.cfg.slots * 2 ^ 256) ++ bitmapOf r.cfg.slots slots

/-- A FORWARD with ROUNDDONE has completed after every earlier one: the round is RELEASED, its cohort goes to the parent, and
strand A tells B. -/
def State.forwarded (s : State) (f r : Nat) : State :=
  match s.round? f r with
  | none => s
  | some x =>
    if x.st ≠ .closed then s
    else
      let s1 := s.released f r
      if s.mirroredHere x then s1
      else
        let s2 := match x.cfg.stair with
          | some c => if c.parentQp = 0xFFFFF then s1 else s1.post c.parentQp (.cohort f r) (s.cohortMsg x)
          | none => s1
        s2.mirror x plyDone []

/-- A TWR has sent and had acknowledged all it sends. -/
def Twr.complete (w : Twr) : Bool := w.fired && w.left == 0 && w.unacked == 0

/-- FORWARDs with ROUNDDONE whose earlier ones are all complete end their round; one that failed never completes (R280). -/
def State.roundDones (s : State) (f r : Nat) : State :=
  let fs := s.twrs.filter (fun w => w.func == f && w.op == 1 && w.round == r)
  let failed := (s.round? f r).bind (·.fwdFailed)
  match fs.find? (fun w => w.roundDone && w.complete && fs.all (fun v => decide (w.order ≤ v.order) || v.complete)
      && failed.all (fun k => decide (w.order ≤ k))) with
  | none => s
  | some w => ({ s with twrs := s.twrs.filter (fun v => v.id != w.id) }).forwarded f r

/-- DONE_CTR takes 1. -/
def State.twrDoneCtr (s : State) (w : Twr) : State := if w.doneCtr = 0xFFFF then s else s.ctrAdd w.func w.doneCtr 1

/-- A FORWARD whose last message has been acknowledged. -/
def State.fwdDone (s : State) (id : Nat) : State :=
  match s.twrs.find? (fun w => w.id == id) with
  | none => s
  | some w =>
    if !w.complete then s
    else
      let s1 := s.twrDoneCtr w
      let s2 := if w.roundDone then s1 else { s1 with twrs := s1.twrs.filter (fun v => v.id != id) }
      s2.roundDones w.func w.round

/-- Change a TWR. -/
def State.updTwr (s : State) (id : Nat) (g : Twr → Twr) : State := { s with twrs := updIf s.twrs (fun w => w.id == id) g }

/-! ## The end of a send -/

/-- A message has been acknowledged whole. -/
def State.txDone (s : State) : TxOwner → State
  | .fwd id => (s.updTwr id (fun w => { w with unacked := w.unacked - 1 })).fwdDone id
  | .twrSend id =>
    match s.twrs.find? (fun w => w.id == id) with
    | some w => { s.twrDoneCtr w with twrs := s.twrs.filter (fun v => v.id != id) }
    | none => s
  | .drain j => s.updSpin j (fun x => { x with unacked := x.unacked - 1 })
  | .release _ _ (some j) => s.updSpin j (fun x => { x with unacked := x.unacked - 1 })
  | _ => s

/-- A message ends without being delivered: a code. -/
def State.txFail (s : State) (code : Nat) : TxOwner → State
  | .fwd id => s.twrFail id code
  | .twrSend id => s.twrFail id code
  | .drain j => s.updSpin j (fun x => { x with unacked := x.unacked - 1 })
  | .release _ _ (some j) => s.updSpin j (fun x => { x with unacked := x.unacked - 1 })
  | _ => s

/-- Messages of a QP that are queued, or sent and not acknowledged. -/
def Qp.openMsgs (q : Qp) : List TxMsg := q.tx.queue

/-- A message of a QP has completed and is not posted yet. -/
def State.posting (s : State) (qpn msn : Nat) : Bool := s.posts.any (fun c => c.qpn == qpn && c.msn == msn)

/-- A QP enters CLOSED or ERROR (R244): its keys are zeroised, partly received messages and their landing space go, every
unfinished send completes with the code, and its TWRs fail (R280). -/
def State.qpEnd (s : State) (qpn : Nat) (st : QpState) (code : Nat) : State :=
  match s.qp? qpn with
  | none => s
  | some q =>
    let s1 := s.updQp qpn (fun q =>
      { q with
        st := st
        keyIR := 0
        keyRI := 0
        ephScalar := 0
        ephKem := 0
        accepting := false
        lastCode := code
        tx := { q.tx with queue := [], unacked := [], tracker := false, blockedSince := none }
        rx := { q.rx with msgs := q.rx.msgs.filter (fun m => s.posting qpn m.msn), resv := q.rx.resv.filter (fun v => s.posting qpn v.1), tracker := false, firstUnacked := none, sinceAck := 0 }
        fetchAt := none
        ctl := []
        parked := [] })
    let s2 := { s1 with
      shakes := s1.shakes.filter (fun k => k.qpn != qpn)
      rng := { s1.rng with reqs := s1.rng.reqs.filter (fun r => r.use != RngUse.handshake qpn) } }
    let s3 := q.openMsgs.foldl (fun s m => s.txFail code m.owner) s2
    let s4 := (s3.twrs.filter (fun w => w.qpn == qpn && (w.op == 1 || w.op == 2) && !w.complete)).foldl (fun s w => s.twrFail w.id code) s3
    if code = 0 then s4 else s4.raise q.func code 1 qpn

/-- DRAINING ends in CLOSED once every sent PSN is acknowledged, every begun message sent, and every received message
completed or discarded (R244); a CLOSE that waits for its slot leaves first. DESIGN CHOICE (log entry 125) -/
def State.drainCheck (s : State) (qpn : Nat) : State :=
  match s.qp? qpn with
  | none => s
  | some q =>
    if q.st = .draining ∧ q.tx.unacked = [] ∧ q.tx.queue.all (fun m => m.seq0.isNone) ∧ q.rx.msgs.all (fun m => m.failed) ∧ !q.ctl.contains .close then
      s.qpEnd qpn .closed 0
    else s

/-- Every QP of a function that satisfies `p` enters ERROR. -/
def State.qpErrorAll (s : State) (code : Nat) (p : Qp → Bool) : State :=
  (s.qps.filter (fun q => p q && q.st != .closed && q.st != .error)).foldl (fun s q => s.qpEnd q.qpn .error code) s

end Sys2Proof.Machine
end

