-- ==== Sys2Proof/Machine/TileClass.lean ====
section
/-! DEFINITION. The tile class (R207 to R212), fold segments (R59, R62 to R65), drains (R65, R68, R211) and combines (R37),
OPEN (R218) and CLIP (R225). -/
namespace Sys2Proof.Machine
open Sys2Proof

/-! ## FOLD (R207, R208) -/

/-- Elements of a message of a dense round (R207). -/
def RoundCfg.msgElems (c : RoundCfg) : Nat := if c.mode = 3 then c.payCoefs else c.l
/-- Elements of a tile in the round's arithmetic. -/
def RoundCfg.tileElems (c : RoundCfg) : Nat := if c.mode = 3 then 8192 else c.elems
/-- The residue of element `e` of a dense message (R86, R118). -/
def State.residue (s : State) (c : RoundCfg) (lz e : Nat) : Nat :=
  if c.mode = 3 then s.payElem lz 0 8 e
  else extend c.pe (wOf c.wsel) (s.payElem lz (if c.mode = 2 then kxLen else 0) c.pe e)

/-- The segments of a FOLD from `cursor`: tile, first element of the message, elements (R207). -/
def foldPlan (elems total last cursor : Nat) : List Nat → List (Nat × Nat × Nat)
  | [] => []
  | t :: ts =>
    if total ≤ cursor then []
    else
      let e0 := if ts.isEmpty && last != 0 then last else elems
      let e := min e0 (total - cursor)
      (t, cursor, e) :: foldPlan elems total last (cursor + e) ts

/-- A fold of a round meets a tile's tag (R57). -/
def TileTag.conflicts (g : TileTag) (mode wsel limb : Nat) (b60 : Bool) : Bool :=
  decide (0 < g.count) && (g.mode != mode || g.wsel != wsel || g.limb != limb || (mode == 3 && g.b60 != b60))

/-- The preparation of a message's first FOLD (R208), mode 3 exclusion apart: its code. -/
def State.prepare (s : State) (x : Round) (m : Msg) : Nat × State :=
  let done (s : State) := s.updLive x.func m.round m.lz (fun m => { m with prepared := true })
  if m.prepared then (0, s)
  else if x.cfg.mode = 2 then
    let (c, s1) := s.sealed2 x m true
    (c, if c = 0 then done s1 else s1)
  else if x.cfg.mode = 3 then
    let s1 := s.eccSpan m.lz 0 (64 + m.len)
    let c := s1.check3 x m
    (c, if c = 0 then done s1 else s1)
  else
    let s1 := s.eccSpan m.lz 0 (64 + m.len)
    let c := if s1.payloadSum x.cfg m = hPcsum (hdrOf m.hdr) then 0 else 0x0109
    (c, if c = 0 then done s1 else s1)

/-- The limb of payload element `e`; 0 outside mode 3. -/
def RoundCfg.segLimb (c : RoundCfg) (e : Nat) : Nat := if c.mode = 3 then c.payLimb e else 0

/-- A fold of a format, or a combine, that joins epoch `e` of tile `t` meets another one (R57): the tag of an epoch that
holds contributions, or a fold of that epoch in flight, which gives the tile its format first. -/
def State.fmtConflict (s : State) (t e mode wsel limb : Nat) (b60 : Bool) : Bool :=
  ((s.tag t).epoch == e && (s.tag t).conflicts mode wsel limb b60)
    || s.spindles.any (fun x => x.segs.any (fun g => g.tile == t && g.epoch == e
      && (g.mode != mode || g.wsel != wsel || g.limb != limb || (mode == 3 && g.b60 != b60))))

/-- A plan's segments meet a tile of another format, or one another (R57). -/
def State.planConflict (s : State) (j : Nat) (c : RoundCfg) : List (Nat × Nat × Nat) → Bool
  | [] => false
  | (t, a, _) :: ps =>
    s.fmtConflict t (s.issueEpoch j t) c.mode c.wsel (c.segLimb a) c.pset.b60
      || ps.any (fun p => p.1 == t && c.segLimb p.2.1 != c.segLimb a) || s.planConflict j c ps

/-- Segments of a plan on spindle `j` as fold segments of entry `id`. -/
def State.segsOf (s : State) (j id : Nat) (x : Round) (m : Msg) : List (Nat × Nat × Nat) → List FoldSeg
  | [] => []
  | (t, c, e) :: ps =>
    { entry := id, round := m.round, slot := m.slot, lz := m.lz, tile := t, epoch := s.issueEpoch j t
      mode := x.cfg.mode, wsel := x.cfg.wsel, b60 := x.cfg.mode == 3 && x.cfg.pset.b60, base := 0
      elems := (List.range e).map (fun i => s.residue x.cfg m.lz (c + i)), limb := x.cfg.segLimb c
      counts := ps.all (fun p => p.1 != t) && !m.counted.contains (t, s.issueEpoch j t), row := none
      last := ps.isEmpty && c + e == x.cfg.msgElems }
      :: s.segsOf j id x m ps

/-- A fold reads the payload bytes of `n` elements from `cursor`: their codewords are checked (R50). -/
def State.payRead (s : State) (c : RoundCfg) (m : Msg) (cursor n : Nat) : State :=
  let pe := if c.mode = 3 then 8 else c.pe
  s.eccSpan m.lz (64 + (if c.mode = 2 then kxLen else 0) + cursor * pe) (n * pe)

/-- What stands in the way of the exclusion sequence (R121, R129): a key or the committee's public key that is not held, an
estimate beyond the budget of LEVEL_IN. -/
def State.exclCode (s : State) (x : Round) : Nat :=
  let p := x.cfg.pset
  let l := x.cfg.limbs - 1
  let m := x.cfg.m3
  let keyset := (m.map (·.keyset)).getD 0
  let has (k : Nat) : Bool := (s.findEvk x.func keyset ((m.map (·.ps)).getD 0) k 0 l).isSome
  let blind := x.cfg.nlPath == 1 || x.cfg.nlPath == 3
  firstCode
    [ (x.cfg.nlPath != 0 && ((s.relinKey x).isNone || (s.conjKey x).isNone || (decide (2 ≤ x.cfg.nlPath) && !([2, 3, 4].all has))
        || (blind && !(s.fn x.func).commKeys.any (fun k => k.keyset == keyset))), 0x0303)
      , (x.cfg.nlPath != 0 && (!p.within l x.w false x.nuV || (blind && !p.within l x.w false (x.nuBlinded + 40 * 256))), 0x0201) ]

/-- The exclusion sequence of a mode 3 message starts (R129): its handle, or the code of what stands in its way, and the
state; none to wait for a free handle (R225). -/
def State.exclude (s : State) (x : Round) (m : Msg) (ctr : Option Nat) (step : Nat) : Option (Except Nat Nat × State) :=
  match s.freeHandle x.func, s.streamOf x.func 1 0 step m.slot with
  | none, _ => none
  | some h, key =>
    if x.cfg.nlPath ≠ 0 ∧ key.isNone then some (.error 0x0601, s)
    else if s.exclCode x ≠ 0 then some (.error (s.exclCode x), s)
    else
      let rk := (s.relinKey x).getD 0
      let gk := (s.conjKey x).getD 0
      let (ok, s1) := if x.cfg.nlPath = 0 then (true, s) else s.evkUses x.func [(gk, x.cfg.limbs - 1), (rk, x.cfg.limbs - 1)]
      if !ok then some (.error 0x0101, s1) else some (.ok h, s1.startQuery x m h ctr (key.getD 0) rk gk)

/-- A refusal under check 6 marks the accumulator of a mode 3 round, a source of the fold (R121). -/
def State.markAcc (s : State) (f r : Nat) : State :=
  s.updRound f r (fun x => { x with m3 := { x.m3 with acc := x.m3.acc.map (fun d => { d with marked := true }) } })

/-- Tile `t` belongs to an ABANDONED round of the function, and to no live one (R190). -/
def State.deadTile (s : State) (f t : Nat) : Bool :=
  s.rounds.any (fun r => r.func == f && r.st == .abandoned && r.tiles.contains t)
    && !s.rounds.any (fun r => r.func == f && r.live_ && r.tiles.contains t)

/-- FOLD on spindle `j`. -/
def State.fold (s : State) (j : Nat) : State :=
  s.unitOpE j (1, 0, 0)
    (fun s o q => match s.liveMsg o.f o.qa with
      | some (x, _) => x.cfg.tileElems
      | none => s.eOf q)
    (fun w => [(tQD w, [0]), (tQA w, [1])])
    (fun o s =>
      match s.liveMsg o.f o.qa with
      | none => s.report j o.w 0x0110 .fold
      | some (x, m) =>
        if (qTiles o.qd).any (fun t => s.deadTile o.f t) then s.report j o.w 0x0110 .fold
        else if x.cfg.sparse || m.kind == .recovery then s.report j o.w 0x0111 .fold
        else if x.cfg.mode = 3 ∧ x.cfg.nlPath ≠ 0 then
          if m.clipped then s.report j o.w 0 .fold
          else
            let c := s.check3 x m
            if c ≠ 0 then s.reportMsg j o.w c .fold x m true
            else match s.exclude x m none (s.spin j).stepc with
              | none => s
              | some (.error c, s1) => s1.trapHere j c o.w
              | some (.ok h, s1) =>
                ((s1.askLoads j 1 true).enqueue j o.w
                  { id := 0, op := .fold, word := 0, pc := 0, stepc := 0, reports := true, round := some m.round, held := true,
                    handle := h }).deadRound o.f m.round
        else
          let (c, s1) := s.prepare x m
          if c ≠ 0 then s1.reportMsg j o.w c .fold x m true
          else
            let plan := foldPlan x.cfg.tileElems x.cfg.msgElems (qLast o.qd) m.cursor (qTiles o.qd)
            let ts := plan.map (·.1)
            if s.planConflict j x.cfg plan then s1.reportMsg j o.w 0x0108 .fold x m (m.cursor == 0)
            else if x.cfg.mode = 3 && x.m3.acc.any (·.marked) then s.trapHere j 0x0203 o.w
            else if x.cfg.mode = 3 && x.m3.acc.any (fun d => !(d.add 1 d.pset.nuFresh).inBudget) then
              (s.markAcc o.f m.round).trapHere j 0x0201 o.w
            else if !s.allPresent ts || !s.sbRoom ts || ts.any (fun t => s.scrubHold.contains t) then s
            else
              let segs := s1.segsOf j (s.spin j).nextId x m plan
              let n := (plan.map (fun p => p.2.2)).sum
              let s2 := ((s1.payRead x.cfg m m.cursor n).takeOff ts).updLive o.f m.round m.lz (fun m => { m with
                cursor := m.cursor + n, segs := m.segs + segs.length
                counted := m.counted ++ ts.map (fun t => (t, s.issueEpoch j t)) })
              (s2.updSpin j (fun y => { y with segs := y.segs ++ segs })).reportMsg j o.w 0 .fold x m false segs.length)

/-! ## Fold segments (R59, R65) -/

/-- A staged tile, or one with pages in the pool, has been folded: it is the most recently folded one (R71). -/
def State.touchStage (s : State) (t : Nat) : State :=
  { s with
    staged := updIf s.staged (fun g => g.tile == t) (fun g => { g with lastUse := s.time })
    pages := updIf s.pages (fun g => g.tile == t) (fun g => { g with lastUse := s.time }) }

/-- A segment's elements go into its tile: data, COUNT, checksum and the R36 test; mode 2 sums are plaintext (R56). -/
def State.foldInto (s : State) (f : Nat) (x : Round) (g : FoldSeg) : State :=
  let c := x.cfg
  let t := g.tile
  let t0 := s.tag t
  let t1 := if t0.count = 0 then { t0 with mode := c.mode, wsel := c.wsel, limb := g.limb, b60 := c.mode == 3 && c.pset.b60 } else t0
  let m := t1.modulus
  let n := t1.count + b2n g.counts
  let past := g.counts && overLimit c.mode c.encoding n
  let s1 := ((s.eccTag t).eccSpan t (g.base * t1.eb / 2048 * 2048) (g.base * t1.eb % 2048 + g.elems.length * t1.eb)).addElems t
    t1.eb m g.base g.elems
  let s2 := (s1.setTag t { t1 with count := n, csum := (t1.csum + csumOf g.base g.elems) % m
                                   ovr := t1.ovr || past, sealed := t1.sealed || c.mode == 2 }).wrote t
  if past && !t1.ovr then s2.raise f 0x0102 5 t else s2

/-- The message's last segment has retired: its slot is DONE, and a mode 3 accumulator takes one fresh summand (R87,
R118). -/
def State.msgDone (s : State) (x : Round) (m : Msg) : State :=
  let s1 := s.slotDone x.func m.round m.slot m.lz m.scaled
  if x.cfg.mode = 3 then
    s1.updRound x.func m.round (fun r => { r with m3 := { r.m3 with acc := r.m3.acc.map (fun d => d.add 1 d.pset.nuFresh) } })
  else s1

/-- Elements a message folds in all: all its rows in a sparse round. -/
def RoundCfg.wholeMsg (c : RoundCfg) (m : Msg) : Nat := if c.sparse then c.nRows m.len * c.rw else c.msgElems

/-! ## Combines (R37, R211, R267) -/

/-- The round that declares tile `t`, in any role: a live one (R37). -/
def State.roundOf (s : State) (f t : Nat) : Option Round := s.rounds.find? (fun r => r.func == f && r.live_ && r.tiles.contains t)

/-- Combine a record, tag `g` and bytes, into tile `t`: code 0 or 0x0108. `own` is the round that owns the target. -/
def State.combine (s : State) (own : Option Round) (t : Nat) (g : TileTag) (data : Bytes) : Nat × State :=
  let h := s.tag t
  if s.fmtConflict t h.epoch g.mode g.wsel g.limb h.b60 then (0x0108, s)
  else
    let b60 := own.any (fun r => r.cfg.mode == 3 && r.cfg.pset.b60)
    let h1 := if h.count = 0 then { h with mode := g.mode, wsel := g.wsel, limb := g.limb, b60 := b60 } else h
    let eb := h1.eb
    let m := h1.modulus
    let n := h1.count + g.count
    let lim := match own with
      | some r => !h1.cipher && overLimit r.cfg.mode r.cfg.encoding n
      | none => false
    let past := h1.ovr || g.ovr || lim || decide (2 ^ 40 - 1 < n)
    let xs := (List.range (tileSize / eb)).map (fun i => leAt data (i * eb) eb)
    let s1 := (s.eccRead t).addElems t eb m 0 xs
    let s2 := (s1.setTag t { h1 with count := min n (2 ^ 40 - 1), ovr := past, sealed := h1.sealed || g.sealed
                                     csum := (h1.csum + g.csum) % m }).wrote t
    (0, if past && !h.ovr then s2.raise h.tenant 0x0102 5 t else s2)

/-- Descriptors of a mode 3 round after a partial's record with COUNT `n` has combined into tile `t`: COUNT values add and
NU_IN takes the larger (R118); a record carries no NU_IN, so the round's entry estimate stands for it. DEDUCED -/
def Round.combined3 (r : Round) (t n : Nat) : Round :=
  let p := r.cfg.pset
  let nu := p.nuEntry r.w (r.cfg.limbs - 1) r.cfg.nlPath
  let upd (d : CtDesc) : CtDesc := if d.tile = t then d.add n nu else d
  if r.cfg.mode = 3 then { r with m3 := { r.m3 with acc := r.m3.acc.map upd, cnt := upd r.m3.cnt } } else r

/-- Checks 2 and 6 of R121 for a partial's record that combines into tile `t` of a mode 3 round: MARKED, or an estimate beyond
the budget, which the ciphertext's first tile decides. -/
def Round.combine3Code (r : Round) (t n : Nat) : Nat :=
  let p := r.cfg.pset
  let nu := p.nuEntry r.w (r.cfg.limbs - 1) r.cfg.nlPath
  if r.cfg.mode ≠ 3 then 0
  else firstCode [((r.m3.cnt :: r.m3.acc).any (fun d => d.reserved.contains t && d.marked), 0x0203)
    , ((r.m3.cnt :: r.m3.acc).any (fun d => d.tile == t && !(d.add n nu).inBudget), 0x0201)]

/-! ## Records that wait, and ZEROs in order of issue (R65 to R67) -/

/-- A record is combined into tile `t` of function `f`: the tile, the descriptors of a mode 3 round, and what its window
credits; what its format forbids is raised (R57, R267). -/
def State.combineNow (s : State) (f : Nat) (own : Option Nat) (t : Nat) (record : Bytes) (credit : Option (Nat × Nat)) : State :=
  let g := TileTag.ofNat (leNat (record.take 32))
  let x := own.bind (fun r => s.round? f r)
  let pre := (x.map (fun r => r.combine3Code t g.count)).getD 0
  let (c, s1) := if pre = 0 then s.combine x t g (record.drop 32)
    else (pre, if pre = 0x0201 then s.markAcc f (own.getD 0) else s)
  if c ≠ 0 then s1.raise f c 5 t
  else match own, credit with
    | some r, some p => (s1.updRound f r (fun r => r.combined3 t g.count)).recordDone f r p
    | some r, none => s1.updRound f r (fun r => r.combined3 t g.count)
    | none, _ => s1

/-- Records whose epoch has begun are combined. -/
def State.settleCombines (s : State) : State :=
  (s.combines.filter (fun c => (s.tag c.tile).epoch == c.epoch)).foldl (fun s c =>
    { s with combines := s.combines.erase c }.combineNow c.func c.round c.tile c.record c.credit) s

/-- A record joins epoch `e` of tile `t`: at once when that epoch has begun, else with it. -/
def State.join (s : State) (f : Nat) (own : Option Nat) (t e : Nat) (record : Bytes) (credit : Option (Nat × Nat) := none) :
    State :=
  if (s.tag t).epoch = e then s.combineNow f own t record credit
  else { s with combines := s.combines ++
    [{ func := f, tile := t, epoch := e, round := own, record := record, credit := credit }] }

/-- A drain of a tile is done: it leaves the list, and its entry's. -/
def State.drainOver (s : State) (d : DrainOut) : State :=
  { s with drainsOut := s.drainsOut.erase d }.updSpin d.spindle (fun y => { y with
    uq := updIf y.uq (fun e => e.id == d.entry) (fun e =>
      { e with drains := e.drains.filter (fun p => p.tile != d.tile || p.epoch != d.epoch) }) })

/-- ZEROs whose tile's old epoch is complete start its next epoch, in order of issue (R66). -/
def State.settleZeros (s : State) : State :=
  (s.drainsOut.filter (·.zero)).foldl (fun s d => if s.oldDone d.tile d.epoch then (s.newEpoch d.tile).drainOver d else s) s

/-- What may follow the end of a fold, a combine or a drain. -/
def State.settleTiles (s : State) : State := s.settleZeros.settleCombines

/-- FOLD_SEGMENT_RETIRE: segment `i` of spindle `j`; it waits while an earlier epoch of its tile is not yet drained. -/
def State.segRetire (s : State) (j i : Nat) : State :=
  match (s.spin j).segs[i]?, s.owner? j with
  | some g, some f =>
    if (s.tag g.tile).epoch ≠ g.epoch || !s.ready then s
    else
      let s1 := s.updSpin j (fun y =>
        { y with
          segs := y.segs.eraseIdx i
          active := s.time
          uq := y.uq.map (fun e => if e.id = g.entry then { e with parts := e.parts - 1 } else e) })
      match s1.round? f g.round with
      | none => (s1.land g.tile).settleTiles
      | some x =>
        let last := match g.row, x.live.find? (fun m => m.lz == g.lz) with
          | some _, some m => s.lastRow j i g x m
          | _, _ => g.counts
        let s2 := (s1.foldInto f x { g with counts := last }).touchStage g.tile
        let s3 := match g.row with
          | some row => s2.countRow f g.round row 1
          | none => s2
        let s4 := ((s3.updLive f g.round g.lz (fun m => { m with segs := m.segs - 1 })).land g.tile).settleTiles
        match (s4.round? f g.round).bind (fun r => r.live.find? (fun m => m.lz == g.lz)) with
        | some m => if m.segs = 0 ∧ m.cursor = x.cfg.wholeMsg m then s4.msgDone x m else s4
        | none => s4
  | _, _ => s

/-! ## DRAIN and ZERO at issue (R65, R66) -/

/-- A DRAIN or ZERO of tiles on spindle `j` is recorded, tile by tile: the issue epoch of each goes up, and its folds in
flight are of its old epoch. -/
def State.drainRecord (s : State) (j : Nat) (zero : Bool) (pairs : List (Nat × Nat)) : State :=
  pairs.foldl (fun u p => { u with drainsOut := u.drainsOut ++
    [{ tile := p.1, epoch := u.drainEpoch p.1, spindle := j, time := s.time, entry := (s.spin j).nextId, zero := zero }] }) s

/-- The parts of a DRAIN or ZERO: tile, old epoch, target, and the epoch of a tile that is the target. -/
def State.drainParts (s : State) (j : Nat) (tiles : Bool) : List (Nat × Nat) → List DrainPart
  | [] => []
  | p :: ps =>
    let s1 := s.drainRecord j false [p]
    { tile := p.1, epoch := s.drainEpoch p.1, target := p.2, join := if tiles then s1.drainEpoch p.2 else 0 }
      :: s1.drainParts j tiles ps

/-! ## ZERO, COPY, CHKT (R66, R210, R212) -/

/-- ZERO on spindle `j`. -/
def State.zero (s : State) (j : Nat) : State :=
  s.unitOp j (1, 2, 0) (fun w => [(tQD w, [0, 2])]) (fun o s =>
    let x := s.spin j
    if qKind o.qd = 2 ∧ !s.ctWf o.f (x.ctRec o.qd) then s.ctTrap j 0x0204 o.w []
    else
      let d := x.ct o.qd
      let ts := if qKind o.qd = 2 then d.reserved else qTiles o.qd
      if ts.any (fun t => s.sparseBusy o.f t) then s.trapHere j 0x0119 o.w (ts.find? (fun t => s.sparseBusy o.f t) |>.getD 0) (tQD o.w)
      else ((s.drainRecord j true (ts.map (fun t => (t, 0)))).enqueue j o.w
        { id := 0, op := .zero, word := 0, pc := 0, stepc := 0, drains := s.drainParts j false (ts.map (fun t => (t, 0)))
          writes := if qKind o.qd = 2 then [(qAddr o.qd, toLe 64 { d with marked := false }.toNat)] else [] }).settleTiles)

/-- Copy a verified tile: the destination starts a new epoch, then takes data and tag, and keeps its own EPOCH, FAR and
KEYGEN (R210). -/
def State.copyTile (s : State) (src dst : Nat) : State :=
  let data := s.tileBytes src 0 tileSize
  let s1 := s.newEpoch dst
  let g := s1.tag src
  let h := s1.tag dst
  let s2 := s1.setTag dst { g with tenant := h.tenant, epoch := h.epoch, far := h.far, keygen := h.keygen }
  let s3 := (s2.putTile dst 0 data).wrote dst
  if s.isFarNow src || s.isFarNow dst then s3.lockBytes else s3

/-- Copies in order; a checksum mismatch of a source stops them, that destination unwritten (R61, R210). -/
def State.copyAll (s : State) : List (Nat × Nat) → Bool × State
  | [] => (true, s)
  | (a, b) :: l =>
    let (ok, s1) := s.verify a 3
    if ok then (s1.copyTile a b).copyAll l else (false, s1)

/-- The first tile of a list whose checksum does not match its tag's; 0 when all match. -/
def State.firstBad (s : State) (ts : List Nat) : Nat := (ts.find? (fun t => s.csum t != (s.tag t).csum)).getD 0

/-- COPY on spindle `j`. -/
def State.copy (s : State) (j : Nat) : State :=
  s.unitOp j (1, 3, 0) (fun w => [(tQD w, [0, 2]), (tQA w, [0, 2])]) (fun o s =>
    let x := s.spin j
    let ct := qKind o.qd = 2
    let src := x.ct o.qa
    let dst := x.ct o.qd
    if qKind o.qd ≠ qKind o.qa then s.trapHere j 0x0A09 o.w 0 (tQA o.w)
    else if ct ∧ (!s.ctWf o.f (x.ctRec o.qd) || !s.ctWf o.f (x.ctRec o.qa)) then s.ctTrap j 0x0204 o.w []
    else if ct ∧ (src.ps ≠ dst.ps) then s.ctTrap j 0x0302 o.w []
    else if ct ∧ (src.res ≠ dst.res ∨ src.alloc3 ≠ dst.alloc3) then s.trapHere j 0x0A09 o.w 0 (tQA o.w)
    else if !ct ∧ (qNt o.qd ≠ qNt o.qa ∨ qLast o.qd ≠ qLast o.qa) then s.trapHere j 0x0A09 o.w 0 (tQA o.w)
    else
      let ss := if ct then src.reserved else qTiles o.qa
      let ds := if ct then dst.reserved else qTiles o.qd
      if ss.any (fun t => ds.contains t) then s.trapHere j 0x010C o.w (ss.find? (fun t => ds.contains t) |>.getD 0) (tQD o.w)
      else if (ss ++ ds).any (fun t => s.sparseBusy o.f t) then s.trapHere j 0x0119 o.w 0 (tQD o.w)
      else if !s.quiet (ss ++ ds) || ((ss ++ ds).any s.isFarNow && !s.farTurn o.f) then s
      else
        let (ok, s1) := s.copyAll (ss.zip ds)
        let out := { src.fresh src.noise with tile := dst.tile }
        s1.silent j o.w .copy (if ct && ok then [(qAddr o.qd, toLe 64 out.toNat)] else []) (if ok then 0 else 0x0101) none
          [s.firstBad ss])

/-- CHKT on spindle `j` (R212). -/
def State.chkt (s : State) (j : Nat) : State :=
  s.unitOp j (1, 5, 0) (fun w => [(tQA w, [0])]) (fun o s =>
    let ts := qTiles o.qa
    if !s.allPresent ts || !s.quiet ts then s
    else
      let (ok, s1) := s.verifyAll 6 ts
      s1.report j o.w (if ok then 0 else 0x0101) .chkt)

/-! ## DRAIN (R65, R68, R211) -/

/-- The QP of a DRAIN to a window: the staircase parent of the round whose tiles it drains, or the function's ply QP. The
instruction names none. DESIGN CHOICE -/
def State.drainQp (s : State) (f t : Nat) : Option Nat :=
  let parent := (s.roundOf f t).bind (fun r => r.cfg.stair.map (·.parentQp))
  match parent with
  | some q => if q ≠ 0xFFFFF ∧ s.stairQp f q then some q else (s.plyQp? f).map (·.qpn)
  | none => (s.plyQp? f).map (·.qpn)

/-- The DRAIN that ended epoch `e` of tile `t` has been read. -/
def State.drainEnded (s : State) (t e : Nat) : State :=
  { s with drainsOut := s.drainsOut.filter (fun d => d.tile != t || d.epoch != e) }

/-- A DRAIN of tiles enters the queue. -/
def State.drainIssue (s : State) (j : Nat) (o : TOps) (op : UOp) (pairs : List (Nat × Nat)) (qpn : Nat) : State :=
  (s.drainRecord j false pairs).enqueue j o.w
    { id := 0, op := op, word := 0, pc := 0, stepc := 0, drains := s.drainParts j (op == .drainCombine) pairs, handle := o.sa
      offset := o.sb, qpn := qpn }

/-- DRAIN, DEST 1, on spindle `j`. -/
def State.drain (s : State) (j : Nat) : State :=
  s.unitOp j (1, 4, 1) (fun w => [(tQA w, [0])]) (fun o s =>
    let ts := qTiles o.qa
    if ts.any (fun t => s.sparseBusy o.f t) then s.trapHere j 0x0119 o.w 0 (tQA o.w)
    else match s.drainQp o.f (qTile o.qa) with
    | none => s.trapHere j 0x010C o.w (qTile o.qa) (tQA o.w)
    | some q =>
      if !s.allPresent ts then s
      else s.drainIssue j o .drain ((List.range ts.length).map (fun k => (ts.getD k 0, k))) q)

/-- DRAIN, DEST 0, on spindle `j`. -/
def State.drainCombine (s : State) (j : Nat) : State :=
  s.unitOp j (1, 4, 0) (fun w => [(tQD w, [0]), (tQA w, [0])]) (fun o s =>
    let ts := qTiles o.qa
    let ds := qTiles o.qd
    if qNt o.qd ≠ qNt o.qa ∨ qLast o.qd ≠ qLast o.qa then s.trapHere j 0x0A09 o.w 0 (tQA o.w)
    else if (ts ++ ds).any (fun t => s.sparseBusy o.f t) then s.trapHere j 0x0119 o.w 0 (tQA o.w)
    else if !s.allPresent (ts ++ ds) then s
    else s.drainIssue j o .drainCombine (ts.zip ds) 0)

/-- A tile is read out as DRAIN reads it (R65): bytes and tag taken, the next epoch begins, the old one is verified. -/
def State.drainTile (s : State) (t : Nat) : Bool × TileTag × Bytes × State :=
  let s0 := s.eccRead t
  let g := s0.tag t
  let ok := s0.csum t == g.csum
  let data := s0.tileBytes t 0 tileSize
  let s1 := s0.newEpoch t
  (ok, g, data, if ok then s1 else s1.csumFail t 0)

/-- DRAIN_READ: the next tile of spindle `j`'s oldest DRAIN, once the folds of its old epoch have retired. -/
def State.drainRead (s : State) (j : Nat) : State :=
  match (s.spin j).uq.find? (fun e => e.op != .zero && !e.drains.isEmpty), s.owner? j with
  | some e, some f =>
    match e.drains with
    | [] => s
    | p :: rest =>
      if !s.oldDone p.tile p.epoch || !s.ready then s
      else
        let (ok, g, data, s1) := s.drainTile p.tile
        let s2 := (s1.updSpin j (fun y =>
          { y with
            active := s.time
            drainBuf := data
            uq := y.uq.map (fun z => if z.id = e.id then { z with drains := rest } else z) })).drainEnded p.tile p.epoch
        if !ok then s2.settleTiles.trapLate j 0x0101 e.id e.pc e.word e.stepc p.tile (tQA e.word.toNat)
        else
          let rec_ := toLe 32 g.toNat ++ data
          if e.op = .drainCombine then
            (s2.join f ((s2.roundOf f p.target).map (·.cfg.round)) p.target p.join rec_).settleTiles
          else
            (s2.settleTiles.post e.qpn (.drain j) rec_ true e.handle (e.offset + 65568 * p.target)).updSpin j
              (fun y => { y with unacked := y.unacked + 1 })
  | _, _ => s

/-! ## OPEN and CLIP (R218, R225) -/

/-- OPEN on spindle `j`. -/
def State.openMsg (s : State) (j : Nat) : State :=
  s.unitOp j (4, 0, 0) (fun w => [(tQA w, [1])]) (fun o s =>
    match s.liveMsg o.f o.qa with
    | none => s.report j o.w 0x0110 .openMsg
    | some (x, m) =>
      if x.cfg.mode ≠ 2 ∨ m.kind = .recovery then s.report j o.w 0x0111 .openMsg
      else
        let (c, s1) := s.sealed2 x m false
        s1.reportMsg j o.w c .openMsg x m (c != 0))

/-- A CLIP that reports 0x0000 of a message, which fails with `c` when it retires unless `c` is 0 (R87, R225). -/
def State.reportClip (s : State) (j w c : Nat) (x : Round) (m : Msg) : State :=
  s.enqueue j w { id := 0, op := .clip, word := 0, pc := 0, stepc := 0, reports := true, round := some x.cfg.round
                  msg := some (m.lz, m.slot), failCode := if c = 0 then none else some c }

/-- CLIP, PHASE 0, on spindle `j`. In mode 3 without a norm check the handle stands for a contribution that is kept as it is,
and a message clipped before gives its handle again: no rule says what CLIP does of either. DESIGN CHOICE (log entry 119) -/
def State.clip (s : State) (j : Nat) : State :=
  s.unitOp j (7, 2, 0) (fun w => [(tQD w, [3]), (tQA w, [1])]) (fun o s =>
    match s.liveMsg o.f o.qa with
    | none => s.report j o.w 0x0110 .clip
    | some (x, m) =>
      if !(x.st = .open ∨ x.st = .guard ∨ x.st = .closed) then s.trapHere j 0x090B o.w
      else if m.kind = .recovery ∨ (x.cfg.mode ≠ 2 ∧ x.cfg.mode ≠ 3) then s.report j o.w 0x0111 .clip
      else if x.cfg.mode = 2 then
        if tMod o.w / 4 ≠ 0 then s.trapHere j 0x0A07 o.w
        else
          let (c, s1) := s.sealed2 x m true
          s1.reportClip j o.w c x m
      else if qLen o.qd < 8 then s.trapHere j 0x0A09 o.w 0 (tQD o.w)
      else if m.clipped then
        let h := ((s.queries.find? (fun q => q.func == o.f && q.round == m.round && q.lz == m.lz)).map (·.handle)).getD 0
        s.report j o.w 0 .clip [(qAddr o.qd, toLe 8 h)]
      else
        let c := s.check3 x m
        if c ≠ 0 then s.reportClip j o.w c x m
        else match s.exclude x m (some (tMod o.w / 4)) (s.spin j).stepc with
          | none => s
          | some (.error c, s1) => s1.trapHere j c o.w
          | some (.ok h, s1) => ((s1.askLoads j 1 true).report j o.w 0 .clip [(qAddr o.qd, toLe 8 h)]).deadRound o.f m.round)

/-- CLIP, PHASE 1, on spindle `j`: it retires when the contributions of the handles it lists have been folded. -/
def State.clipFinish (s : State) (j : Nat) : State :=
  s.unitOp j (7, 2, 1) (fun w => [(tQA w, [3])]) (fun o s =>
    let x := s.spin j
    let n := min 64 (qLen o.qa / 8)
    let hs := (List.range n).map (fun i => readNat x.scratch (qAddr o.qa + 8 * i) 8)
    let qs := s.queries.filter (fun q => q.func == o.f && hs.contains q.handle)
    let late := qs.any (fun q => (s.round? o.f q.round).any (fun r => !(r.st == .open || r.st == .guard || r.st == .closed)))
    if late then s.trapHere j 0x090B o.w
    else s.enqueue j o.w { id := 0, op := .clipFinish, word := 0, pc := 0, stepc := 0, reports := true, ops := hs })

/-- The indicators of a PHASE 1's handles are decided. -/
def State.clipReady (s : State) (f : Nat) (hs : List Nat) : Bool :=
  s.queries.all (fun q => !(q.func == f && hs.contains q.handle) || q.decided.isSome)

/-- FOLD (R207). -/
def execFold (sp : Nat) (s : State) : Res := .next (s.fold sp)
/-- FOLD_SEGMENT_RETIRE (R59). -/
def execFoldSegmentRetire (sp i : Nat) (s : State) : Res := .next (s.segRetire sp i)
/-- ZERO (R66). -/
def execZero (sp : Nat) (s : State) : Res := .next (s.zero sp)
/-- COPY (R210). -/
def execCopy (sp : Nat) (s : State) : Res := .next (s.copy sp)
/-- DRAIN (R211), DEST 1. -/
def execDrain (sp : Nat) (s : State) : Res := .next (s.drain sp)
/-- DRAIN (R211), DEST 0. -/
def execDrainCombine (sp : Nat) (s : State) : Res := .next (s.drainCombine sp)
/-- DRAIN_READ (R65). -/
def execDrainRead (sp : Nat) (s : State) : Res := .next (s.drainRead sp)
/-- CHKT (R212). -/
def execChkt (sp : Nat) (s : State) : Res := .next (s.chkt sp)
/-- OPEN (R218). -/
def execOpenMsg (sp : Nat) (s : State) : Res := .next (s.openMsg sp)
/-- CLIP, PHASE 0 (R225). -/
def execClip (sp : Nat) (s : State) : Res := .next (s.clip sp)
/-- CLIP, PHASE 1 (R225). -/
def execClipFinish (sp : Nat) (s : State) : Res := .next (s.clipFinish sp)

end Sys2Proof.Machine
end

