-- ==== Sys2Proof/Machine/Sparse.lean ====
section
/-! DEFINITION. Sparse rounds (R138 to R154): the row directory and its page cache (R142 to R144), FOLDR (R145 to R147,
R209), and the canonical pass (R150). -/
namespace Sys2Proof.Machine
open Sys2Proof

/-! ## FOLDR -/

/-- Pages of its tile that a row of `n` bytes takes, of those a far tile not staged has in the pool or needs there (R148). -/
def State.rowPages (s : State) (c : RoundCfg) (p : RowFold) : List Nat :=
  if s.present p.tile then []
  else (pagesIn (p.base * wBytes c.wsel) (c.rw * wBytes c.wsel)).filter (fun k => (s.pageOf p.tile k).isNone)

/-- The longest start of a plan whose tiles the scoreboard has room for and no scrub holds (R64, R70), and whose pages are in
the pool (R148). -/
def State.roomFor (s : State) (c : RoundCfg) : List Nat → List RowFold → List RowFold
  | _, [] => []
  | ts, p :: ps =>
    if s.sbRoom (ts ++ [p.tile]) && !s.scrubHold.contains p.tile && (s.rowPages c p).isEmpty then
      p :: s.roomFor c (ts ++ [p.tile]) ps
    else []

/-- The rows of a plan as fold segments of entry `id` on spindle `j`; R147's COUNT is settled as they retire. -/
def State.rowSegs (s : State) (j id : Nat) (x : Round) (m : Msg) (l : List RowFold) : List FoldSeg :=
  l.map (fun p =>
    { entry := id, round := m.round, slot := m.slot, lz := m.lz, tile := p.tile, epoch := s.issueEpoch j p.tile
      mode := x.cfg.mode, wsel := x.cfg.wsel, b60 := false, base := p.base
      elems := (List.range x.cfg.rw).map (fun k =>
        extend x.cfg.pe x.w (s.payElem m.lz (x.cfg.rowOff p.idx + 8) x.cfg.pe k))
      limb := 0, counts := false, row := some p.row, last := p.idx + 1 == x.cfg.nRows m.len })

/-- The fold phase of FOLDR: the rows that fit enter the scoreboard; the instruction retires its issue with the last. -/
def State.foldRows (s : State) (j : Nat) (o : TOps) (x : Round) (m : Msg) : State :=
  let plan := s.rowPlan x m (m.cursor / x.cfg.rw)
  if plan.any (fun p => s.fmtConflict p.tile (s.issueEpoch j p.tile) x.cfg.mode x.cfg.wsel 0 false) then
    s.reportMsg j o.w 0x0108 .foldr x m (m.cursor == 0)
  else
    let go := s.roomFor x.cfg [] plan
    let id := (s.spin j).nextId
    let segs := s.rowSegs j id x m go
    let s0 := (s.eccSpan m.lz (64 + x.cfg.rowOff (m.cursor / x.cfg.rw)) (go.length * x.cfg.rowRec)).takeOff (go.map (·.tile))
    let s1 := s0.updLive o.f m.round m.lz (fun m =>
      { m with cursor := m.cursor + go.length * x.cfg.rw, segs := m.segs + segs.length })
    let s2 := s1.updSpin j (fun y => { y with segs := y.segs ++ segs, active := s.time })
    if go.length < plan.length then s2
    else s2.reportMsg j o.w 0 .foldr x m false (((s2.spin j).segs.filter (fun g => g.entry == id)).length)

/-- Page fetches a spindle keeps outstanding (R144). -/
def fetchAhead : Nat := 64

/-- The resolve phase of FOLDR: it waits where a page is not cached, and the pages that its other rows need are fetched ahead.
Which fetches a spindle keeps outstanding is not stated. DESIGN CHOICE (log entry 108) -/
def State.resolve (s : State) (j : Nat) (o : TOps) (x : Round) (m : Msg) (key : Nat) : State :=
  let rows := ((List.range (x.cfg.nRows m.len)).drop m.resolved).map (fun i => s.rowId x.cfg m.lz i)
  let (x1, n, e) := resolveRows key x m.resolved rows
  let s1 := (s.putResolved o.f m.round x1).updLive o.f m.round m.lz (fun m => { m with resolved := n })
  match e with
  | some .miss => (s1.updRound o.f m.round (fun y =>
      let mine := (y.sparse.misses.filter (fun p => p.1 == j)).map (·.2)
      let want := ((x1.wantedPages key (rows.drop (n - m.resolved))).filter (fun p => !mine.contains p)).take (fetchAhead - mine.length)
      { y with sparse := { y.sparse with misses := y.sparse.misses ++ want.map (fun p => (j, p)) } })).updSpin j
        (fun y => { y with active := s.time })
  | some _ => s1.reportMsg j o.w 0x0118 .foldr x m true
  | none =>
    match s1.liveMsg o.f o.qa with
    | some (y, m) => s1.foldRows j o y m
    | none => s1

/-- FOLDR on spindle `j`. -/
def State.foldr (s : State) (j : Nat) : State :=
  s.unitOp j (1, 1, 0) (fun w => [(tQA w, [1])]) (fun o s =>
    match s.liveMsg o.f o.qa with
    | none => s.report j o.w 0x0110 .foldr
    | some (x, m) =>
      if !x.cfg.sparse || m.kind == .recovery then s.report j o.w 0x0111 .foldr
      else
        match s.streamOf o.f 1 0 (stepOf m.round dirStep) 0 with
        | none => s.trapHere j 0x0601 o.w
        | some key =>
          let (c, s1) := s.prepare x m
          if c ≠ 0 then s1.reportMsg j o.w c .foldr x m true
          else match s1.liveMsg o.f o.qa with
            | some (x, m) => s1.resolve j o x m key
            | none => s1)

/-- The row whose pages the FOLDR at spindle `j`'s PC waits for: its function, its round, and the row (R148). -/
def State.rowWaits (s : State) (j : Nat) : Option (Nat × Round × RowFold) :=
  let x := s.spin j
  match x.fetch, s.owner? j with
  | some w, some f =>
    if s.issuing j && wKey w == (1, 1, 0) && x.guard w then
      (s.liveMsg f (x.qreg (tQA w)).toNat).bind (fun (r, m) =>
        if m.resolved < r.cfg.nRows m.len || !m.prepared then none
        else (s.rowPlan r m (m.cursor / max 1 r.cfg.rw)).head?.map (fun p => (f, r, p)))
    else none
  | _, _ => none

/-- DIRECTORY_PAGE_FETCH: the oldest page that spindle `j` has outstanding arrives, and its FOLDR goes on. -/
def State.pageFetch (s : State) (j : Nat) : State :=
  match s.rounds.find? (fun r => s.owner? j == some r.func && r.sparse.misses.any (fun p => p.1 == j)) with
  | none => s
  | some r =>
    match r.sparse.misses.find? (fun p => p.1 == j) with
    | none => s
    | some p =>
      ((s.cachePage r.func r.cfg.round p.2).updRound r.func r.cfg.round (fun y =>
        { y with sparse := { y.sparse with misses := y.sparse.misses.erase p } })).foldr j

/-! ## The canonical pass (R150) -/

/-- Row blocks that hold a row. -/
def Round.occupied (r : Round) : List Nat :=
  (List.range r.acc.length).filter (fun x => r.rowsUsed.any (fun p => p.2.slot / r.cfg.rowsPerTile == x))

/-- Move the rows to their ranks: every row is read before any is written. -/
def State.moveRows (s : State) (r : Round) (rows : List (Nat × DirEntry)) : State :=
  let c := r.cfg
  let eb := wBytes c.wsel
  let data := rows.map (fun p =>
    (List.range c.rw).map (fun k => s.elem (r.acc.getD (p.2.slot / c.rowsPerTile) 0) eb (p.2.slot % c.rowsPerTile * c.rw + k)))
  let s1 := r.acc.foldl (fun s t => s.zeroTile t) s
  (data.zip (List.range data.length)).foldl (fun s p =>
    s.setElems (r.acc.getD (p.2 / c.rowsPerTile) 0) eb (p.2 % c.rowsPerTile * c.rw) p.1) s1

/-- The tag of row block `x` afresh (R150 step 5): the R36 flag is of the largest row COUNT alone. -/
def State.blockTag (s : State) (r : Round) (rows : List (Nat × DirEntry)) (x : Nat) : State :=
  let c := r.cfg
  let t := r.acc.getD x 0
  let n := (((rows.drop (x * c.rowsPerTile)).take c.rowsPerTile).map (·.2.count)).foldl max 0
  let g0 := s.tag t
  let g := { g0 with mode := 2, wsel := c.wsel, limb := 0, count := n, sealed := true }
  let s1 := s.setTag t g
  let past := overLimit 2 c.encoding n
  let s2 := (s1.setTag t { g with csum := s1.csum t, ovr := past }).wrote t
  if past && !g0.ovr then s2.raise r.func 0x0102 5 t else s2

/-- The canonical pass of a round in CLOSED with its candidates resolved. The pages of its row blocks in the pool, and of its
directory in the cache, are written back first (R144, R148). -/
def State.canonical (s : State) (f r : Nat) : State :=
  match s.round? f r with
  | none => s
  | some x =>
    let s0 := x.acc.foldl (fun s t => s.dropPages t) s
    let (ok, s1) := s0.verifyAll 9 (x.occupied.map (fun i => x.acc.getD i 0))
    if !ok then s1.abandon f r 0x0101
    else
      let rows := sortBy (fun p => p.2.row) (x.rowsUsed.filter (fun p => decide (0 < p.2.count)))
      let s2 := s1.moveRows x rows
      let s3 := (List.range x.acc.length).foldl (fun s i =>
        if i < ceilDiv rows.length x.cfg.rowsPerTile || x.occupied.contains i then s.blockTag x rows i else s) s2
      let s4 := s3.putDir f r (sortBy (·.1) (rows.mapIdx (fun k p => (p.1, { p.2 with slot := k }))))
      let s5 := (((s4.round? f r).map (·.sparse.pages)).getD []).foldl (fun s g => s.cacheBack f r g) s4
      s5.updRound f r (fun y => { y with sparse := { y.sparse with accNext := rows.length, misses := [], canonical := true } })

/-- CANONICAL_PASS_DONE (R150): once the candidates are resolved and, in a staircase, the last child has combined (R153). -/
def State.canonicalDone (s : State) (f r : Nat) : State :=
  match s.round? f r with
  | none => s
  | some x =>
    if !s.ready || !x.cfg.sparse || x.st != .closed || !x.resolved || x.sparse.canonical
        || (x.cfg.isStair && !x.stair.settled) then s
    else ((s.canonical f r).stairCheck f r).leaveClosed f r

/-- FOLDR (R145). -/
def execFoldr (sp : Nat) (s : State) : Res := .next (s.foldr sp)
/-- DIRECTORY_PAGE_FETCH (R144). -/
def execDirectoryPageFetch (sp : Nat) (s : State) : Res := .next (s.pageFetch sp)
/-- CANONICAL_PASS_DONE (R150). -/
def execCanonicalPassDone (f r : Nat) (s : State) : Res := .next (s.canonicalDone f r)

end Sys2Proof.Machine
end

