-- ==== Sys2Proof/Machine/Staircase.lean ====
section
/-! DEFINITION. The staircase at a parent (R293, R294), the row lists and row blocks of sparse partials (R153), and the
partial digest of a plied round below the top (R307). -/
namespace Sys2Proof.Machine
open Sys2Proof

/-! ## Cohort messages (R293) -/

/-- The fields of a cohort message are well formed and its COUNT is right. -/
def cohortMsgOk (x : Round) (msg : Bytes) : Bool :=
  let n := x.cfg.slots
  decide (64 ≤ msg.length) && leAt msg 4 1 == 1 && zerosAt msg [(5, 3), (10, 6), (21, 3), (29, 3), (36, 28)]
    && decide (leAt msg 8 2 < 2 ^ 14) && leAt msg 32 4 == n && msg.length == 64 + ceilDiv n 8
    && leAt msg 24 5 == (slotsOf (8 * ceilDiv n 8) (msg.drop 64)).length
    && (slotsOf (8 * ceilDiv n 8) (msg.drop 64)).all (fun i => decide (i < n))

/-- A child's cohort message on QP `qpn` of function `f`. -/
def State.cohortMessage (s : State) (f qpn : Nat) (msg : Bytes) : State :=
  match s.round? f (leAt msg 16 5) with
  | none => s.raise f 0x010F
  | some x =>
    let r := x.cfg.round
    let taken := (x.st == .open || x.st == .guard || x.st == .closed) && !x.stair.settled
    if !taken || x.cfg.nch = 0 || !s.stairQp f qpn || !cohortMsgOk x msg then s.raise f 0x010F 4 r
    else
      let slots := slotsOf x.cfg.slots (msg.drop 64)
      if slots.any (fun n => x.stair.merged.contains n) then s.abandon f r 0x011B
      else
        (s.updRound f r (fun x => { x with stair := { x.stair with
          children := x.stair.children ++ [leAt msg 8 2]
          mergedCount := x.stair.mergedCount + slots.length
          merged := x.stair.merged ++ slots } })).settleIfFull f r

/-- CHILD_WAIT has passed after d: the round settles with what has arrived (R294). -/
def State.childWait (s : State) (f r : Nat) : State :=
  match s.round? f r with
  | none => s
  | some x =>
    let w := (x.cfg.stair.map (·.childWait)).getD 0
    if s.ready && x.st == .closed && x.cfg.isStair && !x.stair.settled && decide (x.deadline + w ≤ s.time) then
      (s.updRound f r (fun x => { x with stair := { x.stair with settled := true } })).stairCheck f r
    else s

/-! ## Sparse partials (R153) -/

/-- The rows of a row list: row, slot, count. None when it is malformed. -/
def parseRowList (msg : Bytes) : Option (List (Nat × Nat × Nat)) :=
  let n := leAt msg 0 5
  if msg.length ≠ 16 + 16 * n || leAt msg 5 11 ≠ 0 then none
  else some ((List.range n).map (fun k =>
    let e := leAt msg (16 + 16 * k) 16
    (bits e 0 48, bits e 64 28, bits e 92 36)))

/-- Resolve a row at the parent, its pages fetched when they are not cached (R144, R145): false when the directory is full. -/
def State.resolveNow (s : State) (f r key row : Nat) : Bool × State :=
  match s.round? f r with
  | none => (false, s)
  | some x =>
    let s1 := (x.lookupPages key row).foldl (fun s p => s.cachePage f r p) s
    match ((s1.round? f r).getD x).resolveRow key row with
    | .ok y => (true, s1.putResolved f r y)
    | _ => (false, s1)

/-- Resolve the rows of a record in order; entries inserted before a failure stay. -/
def State.resolveAll (s : State) (f r key : Nat) : List Nat → Bool × State
  | [] => (true, s)
  | row :: rows =>
    let (ok, s1) := s.resolveNow f r key row
    if ok then s1.resolveAll f r key rows else (false, s1)

/-- Fold one row of a child's row block into the parent's slot of that row. -/
def State.foldRow (s : State) (f r : Nat) (row n : Nat) (elems : List Nat) : State :=
  match s.round? f r with
  | none => s
  | some x =>
    let c := x.cfg
    let slot := x.slotOf row
    let t := x.acc.getD (slot / c.rowsPerTile) 0
    let g0 := s.tag t
    let g := if g0.count = 0 then { g0 with mode := 2, wsel := c.wsel, limb := 0 } else g0
    let base := slot % c.rowsPerTile * c.rw
    let s1 := s.addElems t g.eb g.modulus base elems
    let s2 := (s1.setTag t { s1.tag t with
      mode := g.mode
      wsel := g.wsel
      limb := g.limb
      sealed := true
      count := max g.count (min (((x.entryOf row).map (·.2.count)).getD 0 + n) (2 ^ 40 - 1))
      csum := (g.csum + csumOf base elems) % g.modulus }).wrote t
    s2.countRow f r row n

/-- The row block of a record takes the record's OVERRANGE_POSSIBLE, and the limit on its COUNT (R36, R37). -/
def State.blockOver (s : State) (f : Nat) (x : Round) (ovr : Bool) (t : Nat) : State :=
  let g := s.tag t
  let past := ovr || overLimit 2 x.cfg.encoding g.count
  let s1 := s.setTag t { g with ovr := g.ovr || past }
  if past && !g.ovr then s1.raise f 0x0102 5 t else s1

/-- A record of a sparse partial is folded row by row and credited: false when the directory is full (R145). -/
def State.foldBlock (s : State) (f r i : Nat) (rows : List (Nat × Nat × Nat)) (rec_ : Bytes) (credit : Nat × Nat) :
    Bool × State :=
  match s.round? f r with
  | none => (false, s)
  | some x =>
    let c := x.cfg
    let eb := wBytes c.wsel
    let mine := rows.filter (fun p => p.2.1 / c.rowsPerTile == i)
    match s.streamOf f 1 0 (stepOf r dirStep) 0 with
    | none => (false, s.raiseOnce f r 0x0118)
    | some key =>
      let (ok, s1) := s.resolveAll f r key (mine.map (·.1))
      if !ok then (false, s1.raiseOnce f r 0x0118)
      else
        let s2 := mine.foldl (fun s p => s.foldRow f r p.1 p.2.2 ((List.range c.rw).map (fun k =>
          leAt rec_ (32 + (p.2.1 % c.rowsPerTile * c.rw + k) * eb) eb))) s1
        let y := (s2.round? f r).getD x
        let ts := (mine.map (fun p => y.acc.getD (y.slotOf p.1 / c.rowsPerTile) 0)).dedup
        (true, (ts.foldl (fun s t => s.blockOver f y (TileTag.ofNat (leAt rec_ 0 32)).ovr t) s2).recordDone f r credit)

/-- A record of a partial arrives for tile number `i` of a sparse round on QP `qpn`: it waits for its row list, or is
folded. One that waits is not combined yet, and credits nothing. -/
def State.sparseRecord (s : State) (f r qpn i : Nat) (rec_ : Bytes) (credit : Nat × Nat) : Bool × State :=
  match s.round? f r with
  | none => (false, s)
  | some x =>
    match x.stair.lists.find? (fun p => p.1 == qpn) with
    | some (_, rows) => s.foldBlock f r i rows rec_ credit
    | none => (true, s.updRound f r (fun x => { x with stair := { x.stair with
        early := x.stair.early ++ [(qpn, i, rec_, credit)] } }))

/-- The live sparse round of function `f` that combines what QP `qpn` sends. The spec gives a row list no name for its
round: the function's one staircase round in a state that combines is taken. DESIGN CHOICE -/
def State.rowListRound (s : State) (f qpn : Nat) : Option Round :=
  if !s.stairQp f qpn then none
  else s.rounds.find? (fun x => x.func == f && x.cfg.sparse && x.cfg.nch != 0 && !x.stair.settled
    && (x.st == .open || x.st == .guard || x.st == .closed) && !x.stair.lists.any (fun p => p.1 == qpn))

/-- A row list of a child arrives; records that came before it are folded now. -/
def State.rowListMsg (s : State) (f qpn : Nat) (x : Round) (msg : Bytes) : State :=
  let r := x.cfg.round
  match parseRowList msg with
  | none => s.raise f 0x010F 4 r
  | some rows =>
    let mine := x.stair.early.filter (fun p => p.1 == qpn)
    let s1 := s.updRound f r (fun x => { x with stair := { x.stair with
      lists := x.stair.lists ++ [(qpn, rows)], early := x.stair.early.filter (fun p => p.1 != qpn) } })
    mine.foldl (fun s p => (s.foldBlock f r p.2.1 rows p.2.2.1 p.2.2.2).2) s1

/-! ## The partial digest (R307) -/

/-- The read pass of a settled round below the top: every tile is verified (R61, source 4); its leaves are kept, A sends the
digest and B compares. After a mismatch no digest is sent. -/
def State.partialDigest (s : State) (f r : Nat) : State :=
  match s.round? f r with
  | none => s
  | some x =>
    if !s.ready || !s.plied || !x.ply.plied || x.top || x.st != .closed || !x.stair.passed || x.ply.digest.isSome
        || (x.cfg.sparse && !x.sparse.canonical) then s
    else
      let (ok, s1) := s.verifyAll 4 x.acc
      if !ok then s1
      else
        let leaves := x.acc.mapIdx (fun i t => (i, s1.accLeaf i t))
        (s1.updRound f r (fun x => { x with gate := { x.gate with accLeaves := leaves } })).plyFormed f r (rootOf (leaves ++ x.dirLeaf))

/-- COHORT_MESSAGE (R293). -/
def execCohortMessage (f qpn : Nat) (msg : Bytes) (s : State) : Res :=
  .next (if s.ready && (s.qp? qpn).any (fun q => q.func == f) then s.cohortMessage f qpn msg else s)
/-- PARTIAL_DIGEST_DONE (R307). -/
def execPartialDigestDone (f r : Nat) (s : State) : Res := .next (s.partialDigest f r)

end Sys2Proof.Machine
end

