-- ==== Sys2Proof/Machine/Windows.lean ====
section
/-! DEFINITION. Memory windows (R262 to R270) up to the packets that write to them, and the command register of a function
(R285). -/
namespace Sys2Proof.Machine
open Sys2Proof

/-! ## The two ways a command comes (R285, R384) -/

/-- A command with a 64-byte record: through XDESC, or as descriptor `op` of a ring. -/
def State.xrecord (s : State) (f : Nat) (path : CmdPath) (op : Nat) (body : Bytes → State → (Nat × Nat) × State) : State :=
  match path with
  | .reg =>
    s.funcCmd f Reg.fnXcmd 0 (fun s =>
      if !s.rdb Reg.attAttached f then s.wr Reg.fnXcode 0x0A1A f
      else
        let ((code, result), s1) := body (toLe 64 (s.rd Reg.fnXdesc f)) s
        (s1.wr Reg.fnXcode code f).wr Reg.fnXresult result f)
  | .ring n desc rec_ => s.job f n desc op (some 64) rec_ (fun _ b s => body b s)

/-- A command with an argument: XARG, or ARG0 of descriptor `op`. -/
def State.xarg (s : State) (f : Nat) (path : CmdPath) (op : Nat) (body : Nat → State → Nat × State) : State :=
  match path with
  | .reg =>
    s.funcCmd f Reg.fnXcmd 0 (fun s =>
      if !s.rdb Reg.attAttached f then s.wr Reg.fnXcode 0x0A1A f
      else
        let (code, s1) := body (s.rd Reg.fnXarg f) s
        (s1.wr Reg.fnXcode code f).wr Reg.fnXresult 0 f)
  | .ring n desc _ => s.job0 f n desc op (fun d s =>
      let (code, s1) := body (jArg0 d) s
      ((code, 0), s1))

/-! ## Window entries (R262, R263) -/

/-- The handle of a window. -/
def Window.handle (w : Window) : Nat := w.index + w.gen * 4096
/-- Bytes of a record: tag and data. -/
def recordLen : Nat := 65568
/-- The length of a window. -/
def Window.len (w : Window) : Nat := w.nt * (if w.tileKind then recordLen else tileSize)
/-- Step of its messages' first offset. -/
def Window.unit (w : Window) : Nat := if w.tileKind then recordLen else tileSize
/-- Window entries of the device. -/
def windowMax : Nat := 4096

/-- The lowest entry that is closed and not retired. -/
def State.freeWindow (s : State) : Option Nat :=
  (List.range windowMax).find? (fun i => !s.windows.any (fun w => w.index == i) && decide (Sparse.get 0 s.winGens i < 0xFFFFF))

/-- The reserved fields and ranges of a window record. -/
def windowWf (b : Bytes) : Bool :=
  let k := leAt b 0 1
  b.length == 64 && decide (k < 2) && zerosAt b [(1, 3), (11, 1), (15, 1), (18, 6), (37, 27)] && decide (leAt b 4 4 < 2 ^ 20)
    && decide (1 ≤ leAt b 12 3) && (k == 1 || (decide (leAt b 12 3 ≤ 65536) && leAt b 32 5 == 0))

/-- Why OPEN_WIN is refused (R264, R288). -/
def State.windowBad (s : State) (f : Nat) (b : Bytes) : Bool :=
  let tileKind := leAt b 0 1 == 1
  let qpn := leAt b 4 4
  let run := (leAt b 8 3, leAt b 12 3)
  !windowWf b
    || (qpn != 0xFFFFF && !(s.qp? qpn).any (fun q => q.func == f))
    || (tileKind && qpn != 0xFFFFF && !s.stairQp f qpn)
    || !s.runOk f run || (!tileKind && isFar run.1)
    || s.windows.any (fun w => w.func == f && runsMeet run (w.base, w.nt))
    || decide (s.rd Reg.fnCtrCount f ≤ leAt b 16 2)
    || (tileKind && !(s.round? f (leAt b 32 5)).any (fun x => x.st == .open || x.st == .guard || x.st == .closed))
    || decide (s.rd Reg.fnWinQuota f ≤ (s.windows.filter (fun w => w.func == f)).length)

/-- OPEN_WIN. -/
def State.openWindow (s : State) (f : Nat) (b : Bytes) : (Nat × Nat) × State :=
  match s.windowBad f b, s.freeWindow with
  | false, some i =>
    let w : Window := { index := i, gen := Sparse.get 0 s.winGens i + 1, func := f, tileKind := leAt b 0 1 == 1, qpn := leAt b 4 4
                        base := leAt b 8 3, nt := leAt b 12 3, ctr := leAt b 16 2, addend := leAt b 24 8, round := leAt b 32 5 }
    ((0, w.handle), { s with windows := s.windows ++ [w], winGens := Sparse.set 0 s.winGens i w.gen })
  | _, _ => ((0x040D, 0), s.raise f 0x040D)

/-! ## Messages that fail (R268) -/

/-- A message being received fails: one NAK, its reservation freed, nothing more of it placed. -/
def State.rxFail (s : State) (qpn msn seq code : Nat) : State :=
  (s.updQp qpn (fun q =>
    { q with rx := { q.rx with
      msgs := updIf q.rx.msgs (fun m => m.msn == msn) (fun m => { m with failed := true, data := [], held := false })
      resv := q.rx.resv.filter (fun v => v.1 != msn) } })).sendNak qpn seq code

/-- The highest sequence number of a message received so far. -/
def RxMsg.top (m : RxMsg) : Nat := m.got.foldl max 0

/-- Every incomplete message of a window fails (R270). -/
def State.failWindow (s : State) (handle : Nat) : State :=
  let l := s.qps.flatMap (fun q => (q.rx.msgs.filter (fun m => m.write && m.handle == handle && !m.failed)).map (fun m => (q.qpn, m)))
  l.foldl (fun s p => s.rxFail p.1 p.2.msn p.2.top 0x0402) s

/-- Close a window. -/
def State.closeWindow (s : State) (w : Window) : State :=
  { s.failWindow w.handle with windows := s.windows.filter (fun v => v.index != w.index) }

/-- REVOKE_WIN. A handle that names no open window of the function gives 0x0402. DEDUCED -/
def State.revokeWindow (s : State) (f handle : Nat) : Nat × State :=
  match s.windows.find? (fun w => w.func == f && w.handle == handle) with
  | none => (0x0402, s)
  | some w => (0, s.closeWindow w)

/-- The window a WRITE packet names, when it may write (R265, R288). -/
def State.windowFor (s : State) (q : Qp) (handle : Nat) : Option Window :=
  s.windows.find? (fun w => w.handle == handle && w.func == q.func
    && (if w.qpn = 0xFFFFF then s.joined q false else w.qpn == q.qpn))

/-! ## Records (R267) -/

/-- A checksum mismatch of a record: logged with SOURCE 7, and raised to the window's function. -/
def State.recordCsum (s : State) (w : Window) (t : Nat) : State :=
  (s.raise w.func 0x0101 6 w.handle).capture Reg.creelCsumValid [(Reg.creelCsumTile, t), (Reg.creelCsumSource, 7)]

/-- The checksum of a record's data. -/
def recordSum (g : TileTag) (data : Bytes) : Nat :=
  csumOf 0 ((List.range (tileSize / g.eb)).map (fun i => leAt data (i * g.eb) g.eb)) % g.modulus

/-- The record for tile number `i` of a TILE window, from QP `qpn`: whether it passes, and the state. It is combined in the
target's epoch as of now (R65), and only then credited. -/
def State.record (s : State) (w : Window) (qpn i : Nat) (rec_ : Bytes) : Bool × State :=
  let t := w.base + i
  match s.round? w.func w.round with
  | none => (false, s)
  | some x =>
    let g := { TileTag.ofNat (leAt rec_ 0 32) with b60 := x.cfg.mode == 3 && x.cfg.pset.b60 }
    let data := rec_.drop 32
    if !tagWf (leAt rec_ 0 32) then (false, s)
    else if recordSum g data ≠ g.csum then (false, s.recordCsum w t)
    else if s.fmtConflict t (s.drainEpoch t) g.mode g.wsel g.limb g.b60 then (false, s.raise w.func 0x0108 6 w.handle)
    else if !(x.st == .open || x.st == .guard || x.st == .closed) || x.stair.settled then (false, s)
    else if x.cfg.sparse then s.sparseRecord w.func w.round qpn i rec_ (w.ctr, w.addend)
    else (true, s.join w.func (some w.round) t (s.drainEpoch t) rec_ (some (w.ctr, w.addend)))

/-- OPEN_WIN (R264). -/
def execOpenWin (f : Nat) (path : CmdPath) (s : State) : Res := .next (s.xrecord f path 9 (fun b s => s.openWindow f b))
/-- REVOKE_WIN (R270). -/
def execRevokeWin (f : Nat) (path : CmdPath) (s : State) : Res := .next (s.xarg f path 10 (fun a s => s.revokeWindow f a))

end Sys2Proof.Machine
end

