-- ==== Sys2Proof/Machine/Twr.lean ====
section
/-! DEFINITION. Triggered work requests (R275 to R280) and the counter register (R260, R285). -/
namespace Sys2Proof.Machine
open Sys2Proof

/-! ## Posting (R275, R276) -/

/-- The fields of a TWR record that its OP does not use are zero, and its ranges hold. -/
def twrWf (b : Bytes) : Bool :=
  let op := leAt b 0 1
  b.length == 64 && zerosAt b [(19, 1), (23, 1), (45, 3), (56, 8)] && decide (leAt b 4 4 < 2 ^ 20)
    && (match op with
        | 1 => decide (leAt b 1 1 < 2) && decide (1 ≤ leAt b 20 3) && zerosAt b [(48, 8)]
        | 2 => zerosAt b [(1, 1), (16, 3), (20, 3), (24, 2), (28, 4), (40, 5)] && decide (1 ≤ leAt b 48 8)
        | 3 => zerosAt b [(1, 1), (4, 4), (16, 3), (20, 3), (24, 2), (28, 4), (40, 5), (48, 8)]
        | _ => false)

/-- TWRs of the device, and of one QP. -/
def twrMax : Nat := 4096
def twrPerQp : Nat := 256

/-- Pending TWRs: posted and not fired. -/
def State.twrPending (s : State) (p : Twr → Bool) : Nat := (s.twrs.filter (fun w => w.due.isNone && p w)).length

/-- Why POST_TWR is refused. -/
def State.twrBad (s : State) (f : Nat) (b : Bytes) : Bool :=
  let op := leAt b 0 1
  let n := s.rd Reg.fnCtrCount f
  let qpn := leAt b 4 4
  let done := leAt b 26 2
  let tiles := (List.range (leAt b 20 3)).map (fun k => leAt b 16 3 + k * leAt b 24 2)
  !twrWf b || decide (n ≤ leAt b 2 2) || (decide (n ≤ done) && !(op != 3 && done == 0xFFFF))
    || (op != 3 && !(s.qp? qpn).any (fun q => q.func == f && q.st != .closed && q.st != .error
          && (op == 1 || decide (leAt b 48 8 ≤ q.maxMsg))))
    || (op == 1 && (tiles.any (fun t => !s.tileOk f t) || !s.stairQp f qpn))
    || decide (twrMax ≤ s.twrPending (fun _ => true))
    || (op != 3 && decide (twrPerQp ≤ s.twrPending (fun w => w.qpn == qpn && w.op != 3)))
    || decide (s.rd Reg.fnTwrQuota f ≤ s.twrPending (fun w => w.func == f))

/-- POST_TWR: the lowest identifier that names none. -/
def State.postTwr (s : State) (f : Nat) (b : Bytes) : (Nat × Nat) × State :=
  match s.twrBad f b, (List.range twrMax).find? (fun i => !s.twrs.any (fun w => w.id == i)) with
  | false, some i =>
    let w : Twr := { id := i, func := f, order := s.twrOrder, op := leAt b 0 1, roundDone := bit (leAt b 1 1) 0, ctr := leAt b 2 2
                     qpn := leAt b 4 4, threshold := leAt b 8 8, tile := leAt b 16 3, nt := leAt b 20 3, stride := leAt b 24 2
                     doneCtr := leAt b 26 2, handle := leAt b 28 4, arg := leAt b 32 8, round := leAt b 40 5, len := leAt b 48 8 }
    ((0, i), { s with twrs := s.twrs ++ [w], twrOrder := s.twrOrder + 1 })
  | _, _ => ((0x040E, 0), s.raise f 0x040E)

/-- CANCEL_TWR. -/
def State.cancelTwr (s : State) (f id : Nat) : Nat × State :=
  if s.twrs.any (fun w => w.id == id && w.func == f && w.due.isNone) then
    (0, { s with twrs := s.twrs.filter (fun w => w.id != id) })
  else (0x040E, s.raise f 0x040E)

/-! ## Firing (R277 to R279) -/

/-- Messages of the FORWARD engine that no credit admits yet. -/
def Qp.fwdAhead (q : Qp) : Nat :=
  let l := q.tx.queue.filter (fun m => m.seq0.isNone)
  let beyond (i : Nat) : Bool := match q.tx.credit with
    | some c => !decide ((c + 2 ^ 24 - (q.tx.msn + i) % 2 ^ 24) % 2 ^ 24 < 2 ^ 23)
    | none => true
  ((l.zip (List.range l.length)).filter (fun p => beyond p.2 && (match p.1.owner with
    | .fwd _ => true
    | _ => false))).length

/-- A fired FORWARD may read its next tile: the round's canonical pass is over, its strand may send, the tile is on the
device and its old folds have retired, and a send buffer is free. -/
def State.fwdReady (s : State) (w : Twr) (t : Nat) : Bool :=
  decide ((s.qps.map Qp.fwdAhead).sum < 4) && s.present t && s.draining t == 0 && s.oldDone t (s.tag t).epoch
    && (match s.round? w.func w.round with
        | some x => (!x.cfg.sparse || x.sparse.canonical)
            && (!(s.plied && s.isA && x.ply.plied && !x.top) || x.ply.verdict == some 0)
        | none => true)

/-- The next tile of a fired FORWARD is read and sent. Strand B sends nothing, and completes on DONE (R308). -/
def State.forward (s : State) (w : Twr) : State :=
  let held := (s.round? w.func w.round).any s.mirroredHere
  let k := w.nt - w.left
  let t := w.tile + k * w.stride
  if held then
    if (s.round? w.func w.round).any (fun x => x.ply.done) then (s.updTwr w.id (fun w => { w with left := 0 })).fwdDone w.id else s
  else if w.left = 0 || !s.fwdReady w t then s
  else
    let (ok, g, data, s1) := s.drainTile t
    if !ok then s1.twrFail w.id 0x0101
    else
      let list := if k = 0 then (s.round? w.func w.round).filter (fun x => x.cfg.sparse) else none
      let s2 := match list with
        | some x => (s1.settleTiles.post w.qpn (.fwd w.id) x.partialRows).updTwr w.id (fun w => { w with unacked := w.unacked + 1 })
        | none => s1.settleTiles
      (s2.post w.qpn (.fwd w.id) (toLe 32 g.toNat ++ data) true w.handle (w.arg + recordLen * k)).updTwr w.id
        (fun w => { w with left := w.left - 1, unacked := w.unacked + 1 })

/-- A fired SEND: its bytes from host memory, fewer when the read failed, none when it gave nothing. A failed read sends the
rest of the message as bytes of 0xFF, and the TWR fails (R280). -/
def State.twrSend (s : State) (w : Twr) (data : Option Bytes) : State :=
  if !s.dmaOk w.func || w.left = 0 then s
  else
    let b := (data.getD []).take w.len
    if b.length = w.len then
      (s.post w.qpn (.twrSend w.id) b).updTwr w.id (fun w => { w with left := 0, unacked := 1 })
    else (s.twrFail w.id 0x0A15).post w.qpn .nobody (b ++ List.replicate (w.len - b.length) 0xFF)

/-- A due TWR fires (R277): an ADD adds in that cycle, a FORWARD or SEND goes to its engine. -/
def State.fireOne (s : State) (w : Twr) : State :=
  if w.op = 3 then { s.ctrAdd w.func w.doneCtr w.arg with twrs := s.twrs.filter (fun v => v.id != w.id) }
  else s.updTwr w.id (fun w => { w with fired := true, left := if w.op = 1 then w.nt else 1 })

/-- TWRs due before place `n` in the order of firing, and it. -/
def State.twrsDue (s : State) (n : Nat) : List Twr :=
  sortBy (fun w => w.due.getD 0) (s.twrs.filter (fun w => !w.fired && w.due.any (fun k => decide (k ≤ n))))

/-- At the end of a cycle a TWR whose counter has reached THRESHOLD is to fire in the next, in the order of posting. -/
def State.armTwrs (s : State) : State :=
  (sortBy (fun w => w.order) (s.twrs.filter (fun w => w.due.isNone && decide (w.threshold ≤ s.ctrGet w.func w.ctr)))).foldl
    (fun s w => { s.updTwr w.id (fun w => { w with due := some s.twrDue }) with twrDue := s.twrDue + 1 }) s

/-- A message of a TWR fired before it on the same QP has not been handed over yet (R277). -/
def State.twrBehind (s : State) (w : Twr) : Bool :=
  s.twrs.any (fun v => v.fired && v.left != 0 && v.qpn == w.qpn && v.due.any (fun k => w.due.any (fun n => decide (k < n))))

/-- The engine of a fired FORWARD or SEND goes on, in firing order on its QP. -/
def State.twrOn (s : State) (id : Nat) (data : Option Bytes) : State :=
  match s.twrs.find? (fun w => w.id == id) with
  | none => s
  | some w => if s.twrBehind w then s else if w.op = 1 then s.forward w else s.twrSend w data

/-- TWR_FIRE: the TWR's counter had reached THRESHOLD at the end of a cycle, and it fires after those before it in the order of
firing; or a fired FORWARD or SEND goes on. -/
def State.twrFire (s : State) (id : Nat) (data : Option Bytes) : State :=
  match s.twrs.find? (fun w => w.id == id) with
  | none => s
  | some w =>
    match w.due with
    | none => s
    | some n => if !s.ready then s else ((s.twrsDue n).foldl (fun s w => s.fireOne w) s).twrOn id data

/-- CTR_VAL: a write sets the counter CTR_SEL names; outside the set it is ignored (R261). -/
def State.ctrVal (s : State) (f v : Nat) : State := s.funcCmd f Reg.fnCtrVal 0 (fun s => s.ctrWrite f (s.rd Reg.fnCtrSel f) v)

/-- POST_TWR (R276). -/
def execPostTwr (f : Nat) (path : CmdPath) (s : State) : Res := .next (s.xrecord f path 11 (fun b s => s.postTwr f b))
/-- CANCEL_TWR (R276). -/
def execCancelTwr (f : Nat) (path : CmdPath) (s : State) : Res := .next (s.xarg f path 12 (fun a s => s.cancelTwr f a))
/-- TWR_FIRE (R277). -/
def execTwrFire (id : Nat) (data : Option Bytes) (s : State) : Res := .next (s.twrFire id data)
/-- CTR_VAL (R260). -/
def execCtrVal (f : Nat) (v : BitVec 64) (s : State) : Res := .next (s.ctrVal f v.toNat)

end Sys2Proof.Machine
end

