-- ==== Sys2Proof/Machine/Access.lean ====
section
/-! DEFINITION. Who may reach a register, and what a refused access leaves (R10, R11, R368, R374, R375, R397). -/
namespace Sys2Proof.Machine
open Sys2Proof

/-- Privileged (R10): PF0 in the secure context, so in its IDE stream while the stream's keys come from a session that
presented TENANT_KEY (R368), or the Nalam core. -/
def State.privileged (s : State) : Req → Bool
  | .pf0 sec => sec && (s.fn 0).ideSecure
  | .vf _ _ => false
  | .nalam => true
  | .cc => false

/-- The registers respond at all: the clocks run and no full reset or freeze is on. -/
def State.busUp (s : State) : Bool := !s.pins.perst && !s.pins.frz

/-- Pages other than DEV and the mailbox are mapped (R397). -/
def State.mapped (s : State) : Bool := s.busUp && s.rd Reg.bootStage == 6

/-- A requester reaches the device pages now: PF0 while it is not in function reset (R389), the Nalam core and the control
cores. -/
def State.devAccess (s : State) (r : Req) : Bool :=
  s.mapped && (match r with
    | .pf0 _ => (s.fn 0).resetAt.isNone
    | .vf _ _ => false
    | .nalam => true
    | .cc => true)

/-- A command through a register of access code P at BAR0 offset `off`. -/
def State.privCmd (s : State) (r : Req) (off : Nat) (body : State → State) : State :=
  if !s.devAccess r then s
  else if s.outside r then s.accErr r 0x0703 off
  else if !s.privileged r then s.accErr r 0x0702 off
  else body s

end Sys2Proof.Machine
end

