-- ==== Sys2Proof/Machine/Nalam.lean ====
section
/-! DEFINITION. The Nalam core's keys: slots, attributes and use (R334 to R339, R467), KEY_CMD (R351), life-cycle transitions
(R328 to R330), rollback (R342) and re-masking (R337). -/
namespace Sys2Proof.Machine
open Sys2Proof

/-! ## Slots -/

/-- The attribute word (R335). -/
def KeyAttr.word (a : KeyAttr) : Nat :=
  a.ownerKind + a.func * 2 ^ 2 + b2n a.secure * 2 ^ 8 + b2n a.wrap * 2 ^ 9 + b2n a.derive_ * 2 ^ 10 + b2n a.aesData * 2 ^ 11
    + b2n a.sign * 2 ^ 12 + b2n a.verify * 2 ^ 13 + a.lcMask * 2 ^ 14 + b2n a.noExport * 2 ^ 19 + b2n a.valid * 2 ^ 20
    + a.ktype * 2 ^ 21

/-- The attribute words R467 fixes: slots 0 to 3, and a function key. -/
def attrRoot : KeyAttr := { ownerKind := 0, secure := true, derive_ := true, lcMask := 0b01110, noExport := true, valid := true, ktype := 5 }
def attrDak : KeyAttr := { ownerKind := 0, secure := true, sign := true, lcMask := 0b00100, noExport := true, valid := true, ktype := 1 }
def attrLms : KeyAttr := { ownerKind := 0, secure := true, sign := true, lcMask := 0b00100, noExport := true, valid := true, ktype := 3 }
def attrAnchor : KeyAttr := { ownerKind := 0, secure := true, verify := true, lcMask := 0b01110, noExport := true, valid := true, ktype := 6 }
def attrFkey (f : Nat) : KeyAttr :=
  { ownerKind := 2, func := f, secure := true, wrap := true, derive_ := true, lcMask := 0b01110, noExport := true, valid := true }

/-- The value a slot's two shares hold (R337). -/
def KeySlot.value (k : KeySlot) : Nat := Nat.xor k.masked k.mask
/-- Slot `i`. -/
def State.slot (s : State) (i : Nat) : KeySlot := s.nalam.slots.getD i {}
/-- Change slot `i`. -/
def State.updSlot (s : State) (i : Nat) (g : KeySlot → KeySlot) : State :=
  { s with nalam := { s.nalam with slots := updAt s.nalam.slots i g } }
/-- Hold a value in a slot under a mask. -/
def State.setSlot (s : State) (i : Nat) (a : KeyAttr) (v m : Nat) : State :=
  s.updSlot i (fun _ => { attr := a, masked := Nat.xor v m, mask := m })

/-- The slot assigned to function `f`. -/
def State.fkeySlot (s : State) (f : Nat) : Option Nat :=
  (List.range 64).find? (fun i => (s.slot i).attr.ownerKind == 2 && (s.slot i).attr.func == f && decide (4 ≤ i))

/-- A life-cycle code (R328). -/
def lcCode (p : Nat) : Nat := if p = 0 then 0 else if p = 0x000F then 1 else if p = 0x00FF then 2 else if p = 0x0FFF then 3 else 4
/-- The state the device is in. -/
def State.lc (s : State) : Nat := s.rd Reg.nalamLc

/-- A use of a key is allowed (R336): held, the right use bit, and the state's LC_MASK bit. -/
def State.keyUsable (s : State) (a : KeyAttr) (use : KeyAttr → Bool) : Bool := a.valid && use a && bit a.lcMask s.lc

/-! ## Subslots (R334) -/

/-- The attribute word of a subslot of function `f`, for the owner's engines alone. No rule gives a subslot a WORLD bit or an
LC_MASK of its own: those of the function key are taken. PRESUMED (log entry 117) -/
def attrSub (f ktype : Nat) : KeyAttr :=
  { ownerKind := 2, func := f, secure := true, lcMask := 0b01110, valid := true, ktype := ktype }
/-- That of a key the device generates for a round, a QP or the identity: it never leaves the device (R240, R336). -/
def attrOwn (f ktype : Nat) : KeyAttr := { attrSub f ktype with noExport := true }

/-- The subslots of function `f`, each stored where its value is kept: the identity key signs, the round key pairs, the noise
seed are derived from, the memory and QP keys encrypt data, the checkpoint key wraps (R240, R242, R349). -/
def State.subslots (s : State) (f : Nat) : List Subslot :=
  let x := s.fn f
  let held (k : SubKind) (a : KeyAttr) (v : Option Nat) : List Subslot := v.toList.map (fun v => { kind := k, attr := a, key := v })
  let some? (v : Nat) : Option Nat := if v = 0 then none else some v
  held .identity { attrOwn f 1 with sign := true } x.idKey
    ++ held .noise { attrOwn f 5 with derive_ := true } x.noiseSeed
    ++ held (.memory 0) { attrSub f 0 with aesData := true } x.memKey0
    ++ held (.memory 1) { attrSub f 0 with aesData := true } x.memKey1
    ++ held .checkpoint { attrSub f 0 with wrap := true } x.ckptKey
    ++ (s.rounds.filter (fun r => r.func == f)).flatMap (fun r =>
        held (.round r.cfg.round) { attrOwn f 4 with derive_ := true }
          (r.keys.bind (fun k => if k.scalar = 0 then none else some (k.scalar + k.kem * 2 ^ 384))))
    ++ (s.qps.filter (fun q => q.func == f)).flatMap (fun q =>
        held (.qpOut q.qpn) { attrOwn f 0 with aesData := true } (some? (if q.initiate then q.keyIR else q.keyRI))
          ++ held (.qpIn q.qpn) { attrOwn f 0 with aesData := true } (some? (if q.initiate then q.keyRI else q.keyIR)))

/-- A use of a subslot of function `f` by its engines is allowed (R336). -/
def State.subUsable (s : State) (f : Nat) (k : SubKind) (use : KeyAttr → Bool) : Bool :=
  (s.subslots f).any (fun x => x.kind == k && s.keyUsable x.attr use)

/-! ## Zeroising (R339) -/

/-- Assets and binding of a function are cleared (R339, R349). -/
def State.clearAssets (s : State) (f : Nat) : State :=
  let s1 := s.updFn f (fun x =>
    { x with
      policy := none
      joinList := []
      evks := []
      commKeys := []
      evkCache := []
      noiseSeed := none
      memKey0 := none
      memKey1 := none
      ckptKey := none
      assetFlags := 0
      tenantKey := 0
      idKey := none })
  let s2 := { s1 with
    rng := { s1.rng with reqs := s1.rng.reqs.filter (fun q => q.use != RngUse.identity f) } }
  ((((s2.wr Reg.fnBound 0 f).wr Reg.fnTenantTag 0 f).wr Reg.fnAssetSeq 0 f).wr Reg.fnMemkey 0 f).wr Reg.fnRotState 0 f

/-- The function key of `f` is zeroised: its rounds and QPs end with a code, and its assets are cleared. -/
def State.zeroFkey (s : State) (f code : Nat) : State :=
  let s1 := (s.abandonAll f code (fun _ => true)).qpErrorAll code (fun q => q.func == f)
  (s1.clearAssets f).wr Reg.fnFkeyValid 0 f

/-- A slot overwritten with zeros, its owner kept. -/
def KeySlot.zeroed (k : KeySlot) : KeySlot := { attr := { ownerKind := k.attr.ownerKind, func := k.attr.func } }

/-- Zeroise slot `i`. -/
def State.zeroSlot (s : State) (i code : Nat) : State :=
  let a := (s.slot i).attr
  let s1 := { s.updSlot i KeySlot.zeroed with
    rng := { s.rng with reqs := s.rng.reqs.filter (fun q => q.use != RngUse.slotMask i) } }
  if a.ownerKind = 2 then s1.zeroFkey a.func code else s1

/-- Zeroise slot `i` and mark it unassigned. -/
def State.releaseSlot (s : State) (i code : Nat) : State :=
  let a := (s.slot i).attr
  let s1 := (s.zeroSlot i code).updSlot i (fun _ => {})
  if a.ownerKind = 2 then s1.wr Reg.fnFkeySlot 0 a.func else s1

/-! ## KEY_CMD (R351) -/

/-- BAR0 offset of KEY_CMD. -/
def offKeyCmd : Nat := 0xC01030

/-- CLK_FAB cycles of zeroising a slot: 64 cycles of CLK_CTL, which runs at half of CLK_FAB (R339). -/
def zeroT : Nat := 128

/-- KEY_BUSY: a slot is being overwritten, or a new key waits for its words (R338, R351). -/
def State.keyBusy (s : State) : Bool :=
  decide (s.time < s.nalam.keyUntil) || s.rng.reqs.any (fun q => match q.use with
    | .slotMask _ => true
    | _ => false)

/-- A slot's zeroising starts. -/
def State.keyWork (s : State) : State := { s with nalam := { s.nalam with keyUntil := s.time + zeroT } }

/-- A KEY_CMD that completes with a code; one written while KEY_BUSY is set is ignored. -/
def State.keyCmd (s : State) (r : Req) (body : State → Nat × State) : State :=
  s.privCmd r offKeyCmd (fun s =>
    if s.keyBusy then s
    else
      let (code, s1) := body s
      s1.wr Reg.nalamKeyCode code)

/-- Words of a new slot: the key value and its mask; of a P-384 candidate. -/
def slotWords : Nat := 8
def scalarWords : Nat := 6

/-- ASSIGN. A function key's value and mask, and the function's identity key, come from class-0 requests (R338, R346). -/
def State.assign (s : State) (r : Req) (slot f : Nat) (toCC : Bool) : State :=
  s.keyCmd r (fun s =>
    if slot < 4 || 64 ≤ slot || (s.slot slot).attr.ownerKind != 3 || (!toCC && (s.fkeySlot f).isSome) then (0x0602, s)
    else if toCC then (0, s.updSlot slot (fun _ => { attr := { ownerKind := 1 } }))
    else
      let s1 := ((s.clearAssets f).updSlot slot (fun _ => { attr := { ownerKind := 2, func := f } })).wr Reg.fnFkeySlot slot f
      (0, (s1.ask 0 0 slotWords (.slotMask slot)).ask 0 0 scalarWords (.identity f)))

/-- RELEASE, KEY_ZERO: of an assigned slot in 4 to 63. -/
def State.keyRelease (s : State) (r : Req) (slot : Nat) : State :=
  s.keyCmd r (fun s =>
    if slot < 4 || (s.slot slot).attr.ownerKind == 3 then (0x0602, s) else (0, (s.releaseSlot slot 0x0604).keyWork))
def State.keyZero (s : State) (r : Req) (slot : Nat) : State :=
  s.keyCmd r (fun s =>
    if slot < 4 || (s.slot slot).attr.ownerKind == 3 then (0x0602, s) else (0, (s.zeroSlot slot 0x0604).keyWork))

/-- FKEY_ZERO: a function zeroises its own key once its driver has attached (R339, R401). -/
def State.fkeyZero (s : State) (f : Nat) : State :=
  s.funcCmd f Reg.fnFkeyZero 0 (fun s =>
  if !s.rdb Reg.attAttached f then s
  else match s.fkeySlot f with
    | some i => s.zeroSlot i 0x0604
    | none => s)

/-! ## Life cycle (R328, R329) -/

/-- Burn a pattern: fuses only go from 0 to 1. Every slot is zeroised, every round is abandoned, and the device is held
until the next full reset. -/
def State.transition (s : State) (pattern : Nat) : State :=
  let s1 := (List.range 64).foldl (fun s f => s.abandonAll f 0x0609 (fun _ => true)) s
  let s2 := (List.range 64).foldl (fun s i => s.zeroSlot i 0x0609) s1
  let s3 := (List.range 4).foldl (fun s i => s.updSlot i KeySlot.zeroed) s2
  { s3 with
    otp := { s3.otp with lc := Nat.lor s3.otp.lc pattern }
    nalam := { s3.nalam with held := true }
    pins := { s3.pins with stopped := true } }

/-- LC_VOID. -/
def State.lcVoid (s : State) (r : Req) : State := s.keyCmd r (fun s => (0, s.transition 0xFFFF))

/-- The fields of a token (R329, R330). Their offsets in the body are not stated, SCOPE apart. PRESUMED -/
def tokDie (t : Bytes) : Nat := leAt t 0 16
def tokTarget (t : Bytes) : Nat := leAt t 16 1
def tokNonce (t : Bytes) : Nat := leAt t 32 32
def tokScope (t : Bytes) : Nat := leAt t 64 8

/-- A token's signatures verify under the keys of the anchor, which the running image's header carries (R335, R340). -/
def State.tokenSigned (s : State) (t : Bytes) : Bool :=
  let body := t.take 128
  let pub := slice s.nalam.fwImage 128 97
  let lms := slice s.nalam.fwImage 256 56
  s.keyUsable (s.slot 3).attr (·.verify) && t.length == 128 + 96 + 1772
    && ecdsaVerify pub body (slice t 128 96) && lmsVerify 20 lms (toLe 48 (sha384N body)) (t.drop 224)

/-- A token names this die and the nonce last presented. -/
def State.tokenFresh (s : State) (t : Bytes) : Bool := tokDie t == s.otp.dieId && tokNonce t == s.rd Reg.nalamLcNonce

/-- The pattern an accepted transition burns; none when it is not permitted. -/
def nextPattern (lc target : Nat) : Option Nat :=
  if lc = 1 ∧ target = 2 then some 0x00FF else if lc = 2 ∧ target = 3 then some 0x0FFF else none

/-- LIFECYCLE_TRANSITION: the nonce is drawn anew after each token (R351). -/
def State.lifecycle (s : State) (t : Bytes) : State :=
  if !s.ready then s
  else
    let s1 := s.ask 0 0 4 .lcNonce
    match nextPattern s.lc (tokTarget t), s.tokenFresh t && s.tokenSigned t with
    | some p, true => s1.transition p
    | _, _ => s1.raise 0 0x0609

/-- ROLLBACK_COMMIT (R342): fuses up to the running image's SVN are burned. -/
def State.rollback (s : State) (r : Req) : State :=
  s.privCmd r 0xC01010 (fun s =>
    let n := max s.otp.svn (s.rd Reg.nalamFwSvn)
    ({ s with otp := { s.otp with svn := n } }).wr Reg.nalamOtpSvn n)

/-- REMASK: every 1,350,000 cycles, one request of 512 bytes, or a pass skipped while words are not given out. -/
def State.remask (s : State) : State :=
  if !s.ready || decide (s.time < s.nalam.remaskAt + 1350000) then s
  else
    let s1 := { s with nalam := { s.nalam with remaskAt := s.time } }
    if s.rngServes then s1.ask 0 0 64 .remask else s1.bump Reg.nalamRemaskMissed

/-- The request of a re-masking pass has been served: both shares of slots 0 to 3 are replaced, 128 bytes a slot. -/
def State.remasked (s : State) (ws : List Word) : State :=
  (List.range 4).foldl (fun s i => s.updSlot i (fun k =>
    let m := wordsNat ((ws.drop (16 * i)).take 16)
    { k with masked := Nat.xor k.value m, mask := m })) s

/-- ASSIGN (R351). -/
def execAssign (r : Req) (slot func : Nat) (toCC : Bool) (s : State) : Res := .next (s.assign r slot func toCC)
/-- KEY_RELEASE (R339). -/
def execKeyRelease (r : Req) (slot : Nat) (s : State) : Res := .next (s.keyRelease r slot)
/-- KEY_ZERO (R339). -/
def execKeyZero (r : Req) (slot : Nat) (s : State) : Res := .next (s.keyZero r slot)
/-- LC_VOID (R329). -/
def execLcVoid (r : Req) (s : State) : Res := .next (s.lcVoid r)
/-- FKEY_ZERO (R339). -/
def execFkeyZero (f : Nat) (s : State) : Res := .next (s.fkeyZero f)
/-- ROLLBACK_COMMIT (R342). -/
def execRollbackCommit (r : Req) (s : State) : Res := .next (s.rollback r)
/-- LIFECYCLE_TRANSITION (R329). -/
def execLifecycleTransition (token : Bytes) (s : State) : Res := .next (s.lifecycle token)
/-- REMASK (R337). -/
def execRemask (s : State) : Res := .next s.remask

end Sys2Proof.Machine
end

