-- ==== Sys2Proof/Machine/Spdm.lean ====
section
/-! DEFINITION. SPDM on a function's DOE mailbox (R347, R348, R350), evidence (R344, R345) and MCTP control on the sideband
(R373). Message bodies follow DSP0274 and are not laid out here. -/
namespace Sys2Proof.Machine
open Sys2Proof

/-- Response codes of DSP0274. -/
def rspDigests : Nat := 0x01
def rspCertificate : Nat := 0x02
def rspChallenge : Nat := 0x03
def rspVersion : Nat := 0x04
def rspMeasurements : Nat := 0x60
def rspCapabilities : Nat := 0x61
def rspAlgorithms : Nat := 0x63
def rspKeyExchange : Nat := 0x64
def rspFinish : Nat := 0x65
def rspHeartbeat : Nat := 0x68
def rspKeyUpdate : Nat := 0x69
def rspEndSession : Nat := 0x6C
def rspVendor : Nat := 0x7E
def rspError : Nat := 0x7F

/-- Change a function's session. -/
def State.updSession (s : State) (f : Nat) (g : Session → Session) : State := s.updFn f (fun x => { x with session := g x.session })
/-- A function's session. -/
def State.session (s : State) (f : Nat) : Session := (s.fn f).session

/-- A response whose body DSP0274 lays out. -/
def State.spdmAnswer (s : State) (f code : Nat) : State :=
  let (d, s1) := s.draw
  s1.emit (.doe f code (Config.spdmBody code d))

/-- An SPDM ERROR response: a code of the fault table, 0x060B for a protocol error (R350). -/
def State.spdmError (s : State) (f code : Nat) : State := (s.spdmAnswer f rspError).raise f code

/-- Function `f`'s DOE mailbox answers (R347, R389, R397); it is no register access that R370 refuses. -/
def State.doeUp (s : State) (f : Nat) : Bool := s.ready && (s.fn f).exists_ && (s.fn f).resetAt.isNone

/-- A request on function `f`'s mailbox: well formed, in sequence and of version 1.3, or an error (R347, R350). -/
def State.spdm (s : State) (f : Nat) (q : SpdmReq) (needs : Bool) (body : State → State) : State :=
  if !s.doeUp f then s
  else if !q.ok || q.ver != 0x13 || (needs && !((s.session f).isOpen && q.inSession)) then s.spdmError f 0x060B
  else body s

/-- A response that carries a fresh nonce: it leaves when its class-0 request has been served (R320). -/
def State.spdmNonce (s : State) (f code words : Nat) (body : Bytes) : State := s.ask 0 0 words (.nonce f code body)

/-- Words of a nonce; of the nonce, key share and ML-KEM seed of a KEY_EXCHANGE. -/
def nonceWords : Nat := 4
def exchangeWords : Nat := 18

/-- The request of a response has been served: KEY_EXCHANGE takes its ML-KEM seed from it (R348). -/
def State.nonceServed (s : State) (f code : Nat) (body : Bytes) (ws : List Word) : State :=
  let nonce := ws.take nonceWords |>.flatMap (fun w => toLe 8 w.toNat)
  let (d, s1) := s.draw
  if code = rspKeyExchange then
    let seed := wordsNat (ws.drop 10)
    (s1.updSession f (fun x => if x.isOpen then { x with ekSeed := seed } else x)).emit
      (.doe f code (nonce ++ mlkemPublic seed ++ Config.spdmBody code d))
  else s1.emit (.doe f code (body ++ nonce ++ Config.spdmBody code d))

/-! ## Evidence -/

/-- The evidence record of function `f` (R345). -/
def State.evidence (s : State) (f : Nat) : Bytes :=
  let x := s.fn f
  let idPub := match x.idKey with
    | some k => p384Point k
    | none => List.replicate 97 0
  toLe 32 (0x56454C43 + 1 * 2 ^ 32 + s.lc * 2 ^ 40 + b2n s.otp.gradeE * 2 ^ 48 + 0xB0 * 2 ^ 56 + s.otp.dieId % 2 ^ 128 * 2 ^ 64
      + f * 2 ^ 192 + s.rd Reg.nalamFwSvn * 2 ^ 200 + s.rd Reg.nalamOtpSvn * 2 ^ 208 + s.rd Reg.nalamBootIndex * 2 ^ 224)
    ++ toLe 48 s.nalam.fwDigest ++ toLe 48 (s.rd Reg.progDigest f) ++ idPub ++ toLe 7 0 ++ toLe 48 x.tenantKey
    ++ toLe 4 (s.tenantTag f) ++ toLe 4 x.assetFlags ++ toLe 8 (s.rd Reg.fnAssetSeq f) ++ toLe 8 0
    ++ toLe 56 s.nalam.bootLmsPub ++ toLe 1612 s.nalam.factorySig

/-- The per-boot signature of measurement index 2. -/
def State.evidenceSig (s : State) (rec_ nonce : Bytes) : Bytes :=
  lmsSign 10 (s.slot 2).value (1024 - s.rd Reg.nalamLeavesLeft)
    (toLe 48 (sha384N (asciiBytes "CLTH-EVID-1" ++ rec_ ++ nonce)))

/-- GET_MEASUREMENTS: signed evidence uses one leaf (R344, R345). -/
def State.measurements (s : State) (f : Nat) (q : SpdmReq) : State :=
  s.spdm f q false (fun s =>
    if !q.flag then s.spdmAnswer f rspMeasurements
    else if s.rdb Reg.nalamBootLimit then s.spdmError f 0x0608
    else if s.rd Reg.nalamLeavesLeft = 0 then s.spdmError f 0x060A
    else
      let rec_ := s.evidence f
      let sig := s.evidenceSig rec_ q.nonce
      let s1 := (s.wr Reg.nalamLeavesLeft (s.rd Reg.nalamLeavesLeft - 1)).bump Reg.nalamEvidenceCount
      let s2 := if q.inSession && (s.session f).isOpen then s1.updSession f (fun x => { x with measured := true }) else s1
      s2.spdmNonce f rspMeasurements nonceWords (rec_ ++ sig))

/-! ## Sessions -/

/-- KEY_EXCHANGE: a session that is open ends first. -/
def State.keyExchange (s : State) (f : Nat) (q : SpdmReq) : State :=
  s.spdm f q false (fun s =>
    let (d, s1) := s.draw
    let s2 := { s1 with rng := { s1.rng with reqs := s1.rng.reqs.filter (fun r => match r.use with
      | .nonce g c _ => !(g == f && c == rspKeyExchange)
      | _ => true) } }
    (s2.updSession f (fun _ => { isOpen := true, mutAuth := q.mutAuth, master := Config.free d })).spdmNonce f rspKeyExchange
      exchangeWords [])

/-- FINISH: with mutual authentication the requester's signature must verify; a failure ends the session. -/
def State.finishSession (s : State) (f : Nat) (q : SpdmReq) : State :=
  s.spdm f q true (fun s =>
    if (s.session f).finished || ((s.session f).mutAuth && !q.mutAuth) then (s.updSession f (fun _ => {})).spdmError f 0x060B
    else (s.updSession f (fun x => { x with finished := true, key := q.key })).spdmAnswer f rspFinish)

/-- END_SESSION: nothing it installed is removed (R350). -/
def State.endSession (s : State) (f : Nat) (q : SpdmReq) : State :=
  s.spdm f q true (fun s => (s.updSession f (fun _ => {})).spdmAnswer f rspEndSession)

/-- GET_VERSION (R347): DSP0274 gives the request itself version 1.0, so its version byte is not checked. -/
def execGetVersion (f : Nat) (q : SpdmReq) (s : State) : Res :=
  .next (s.spdm f { q with ver := 0x13 } false (fun s => s.spdmAnswer f rspVersion))
/-- GET_CAPABILITIES (R347). -/
def execGetCapabilities (f : Nat) (q : SpdmReq) (s : State) : Res := .next (s.spdm f q false (fun s => s.spdmAnswer f rspCapabilities))
/-- NEGOTIATE_ALGORITHMS (R347). -/
def execNegotiateAlgorithms (f : Nat) (q : SpdmReq) (s : State) : Res :=
  .next (s.spdm f q false (fun s => s.spdmAnswer f rspAlgorithms))
/-- GET_DIGESTS (R347). -/
def execGetDigests (f : Nat) (q : SpdmReq) (s : State) : Res := .next (s.spdm f q false (fun s => s.spdmAnswer f rspDigests))
/-- GET_CERTIFICATE (R347): the chain of certificate slot 0 only. -/
def execGetCertificate (f : Nat) (q : SpdmReq) (s : State) : Res :=
  .next (s.spdm f q false (fun s => if q.flag then s.spdmAnswer f rspCertificate else s.spdmError f 0x060B))
/-- CHALLENGE (R347): signed with slot 1, with a fresh nonce. -/
def execChallenge (f : Nat) (q : SpdmReq) (s : State) : Res :=
  .next (s.spdm f q false (fun s => s.spdmNonce f rspChallenge nonceWords []))
/-- GET_MEASUREMENTS (R345). -/
def execGetMeasurements (f : Nat) (q : SpdmReq) (s : State) : Res := .next (s.measurements f q)
/-- KEY_EXCHANGE (R348). -/
def execKeyExchange (f : Nat) (q : SpdmReq) (s : State) : Res := .next (s.keyExchange f q)
/-- FINISH (R347). -/
def execFinish (f : Nat) (q : SpdmReq) (s : State) : Res := .next (s.finishSession f q)
/-- HEARTBEAT (R347). -/
def execHeartbeat (f : Nat) (q : SpdmReq) (s : State) : Res := .next (s.spdm f q true (fun s => s.spdmAnswer f rspHeartbeat))
/-- KEY_UPDATE (R347). -/
def execKeyUpdate (f : Nat) (q : SpdmReq) (s : State) : Res := .next (s.spdm f q true (fun s => s.spdmAnswer f rspKeyUpdate))
/-- END_SESSION (R350). -/
def execEndSession (f : Nat) (q : SpdmReq) (s : State) : Res := .next (s.endSession f q)

/-! ## MCTP control (R373) -/

/-- An MCTP message on the sideband: message type in byte 0, of DSP0236. Set Endpoint ID (command 1) takes the endpoint ID of
its data and Get Endpoint ID (command 2) reads it; other control messages are answered; SPDM goes to the SPDM responder; other types are dropped and counted. The
bytes of a control message are those of DSP0236: type, instance, command, data. PRESUMED -/
def State.mctp (s : State) (msg : Bytes) : State :=
  if !s.ready then s
  else
    let type := leAt msg 0 1 % 128
    if type = 0 then
      let cmd := leAt msg 2 1
      let s1 := if cmd = 1 then { s with nalam := { s.nalam with mctpEid := leAt msg 4 1 } } else s
      let head := toLe 4 (leAt msg 1 1 % 128 * 2 ^ 8 + cmd * 2 ^ 16)
      if cmd = 1 then s1.emit (.mctp (head ++ toLe 3 (s1.nalam.mctpEid * 2 ^ 8)))
      else if cmd = 2 then s1.emit (.mctp (head ++ toLe 3 s1.nalam.mctpEid))
      else
        let (d, s2) := s1.draw
        s2.emit (.mctp (head ++ Config.spdmBody 0 d))
    else if type = 5 then
      let (d, s1) := s.draw
      s1.emit (.mctp (Config.spdmBody 5 d))
    else { s with nalam := { s.nalam with mctpDropped := s.nalam.mctpDropped + 1 } }

/-- MCTP_CONTROL (R373). -/
def execMctpControl (msg : Bytes) (s : State) : Res := .next (s.mctp msg)

end Sys2Proof.Machine
end

