-- ==== Sys2Proof/Machine/Assets.lean ====
section
/-! DEFINITION. Tenant assets (R348, R349): the session's asset key, the binding, the policy (R157, R158), the join list
(R288), keys (R124), the noise seed, memory keys (R357) and the checkpoint key; their mirroring in a ply (R304). -/
namespace Sys2Proof.Machine
open Sys2Proof

/-! ## The request (R349) -/

def aKind (m : Bytes) : Nat := leAt m 5 1
def aSeq (m : Bytes) : Nat := leAt m 8 8
def aBody (m : Bytes) : Bytes := m.drop 48

/-- Check 1: the header is well formed. -/
def assetWf (m : Bytes) : Bool :=
  decide (48 ≤ m.length) && leAt m 0 4 == 0x53414C43 && leAt m 4 1 == 1 && zerosAt m [(6, 2), (20, 12)]
    && decide (aKind m ≤ 8) && m.length == 48 + leAt m 16 4 && (aKind m != 0 || allZero (slice m 32 16))

/-- The IV: ASSET_SEQ and 4 zero bytes. -/
def assetIv (m : Bytes) : Bytes := slice m 8 8 ++ toLe 4 0

/-- A round of the function is neither RELEASED nor ABANDONED. -/
def State.hasLive (s : State) (f : Nat) : Bool := s.rounds.any (fun r => r.func == f && r.live_)

/-- The session may install assets (R348). -/
def Session.attested (x : Session) : Bool := x.isOpen && x.mutAuth && x.finished && x.measured

/-- The session's requester presents the function's TENANT_KEY. -/
def State.presents (s : State) (f : Nat) : Bool := sha384N (s.session f).key == (s.fn f).tenantKey

/-- The code of checks 1 to 8, 0 when they pass. A request outside an attested session is refused with them. -/
def State.assetCode (s : State) (f : Nat) (m : Bytes) : Nat :=
  let k := aKind m
  let x := s.session f
  if !assetWf m then 0x060C
  else if s.plied && s.isB then 0x0806
  else if !x.attested || !s.rdb Reg.fnFkeyValid f || (s.rdb Reg.fnBound f && !s.presents f) || (k == 0) == x.kem
      || decide (aSeq m ≤ s.rd Reg.fnAssetSeq f)
      || (k != 0 && slice m 32 16 != gcmMac x.assetKey (assetIv m) (m.take 32) (aBody m))
      || (k == 1 && s.rdb Reg.fnBound f) || (k == 6 && s.hasLive f) then 0x060C
  else 0

/-- The answer to an asset request: its code. -/
def State.assetAnswer (s : State) (f code : Nat) : State := s.emit (.doe f rspVendor (toLe 8 code))

/-- A key body whose digest does not match raises 0x0304 (R124); the other refusals of R349 are only answered. -/
def State.digestRaise (s : State) (f code : Nat) : State := if code = 0x0304 then s.raise f code else s

/-- The assets of function `f` at the start of this cycle are kept for its opens (R159, R349): `s` is the state before an
installation. -/
def State.keepAssets (s1 s : State) (f : Nat) : State :=
  s1.updFn f (fun x =>
    if (s.fn f).assetsWas.any (fun p => p.1 == s.time) then x
    else { x with assetsWas := some (s.time,
      { policy := (s.fn f).policy, joinList := (s.fn f).joinList, evks := (s.fn f).evks, commKeys := (s.fn f).commKeys }) })

/-- An asset command: the checks (a malformed header fails the first, R9), then `install` on the plain body, which gives its own code and the body as strand A mirrors
it. -/
def State.asset (s : State) (f kind : Nat) (m : Bytes) (install : Bytes → State → Nat × Bytes × State) : State :=
  if !s.doeUp f || (assetWf m && aKind m != kind) then s
  else
    let c := s.assetCode f m
    if c ≠ 0 then (s.bump Reg.nalamAssetRefusedCount).assetAnswer f c
    else
      let plain := if kind = 0 then aBody m else gcmCrypt (s.session f).assetKey (assetIv m) (m.take 32) (aBody m)
      let (code, body, s1) := install plain s
      if code ≠ 0 then ((s1.bump Reg.nalamAssetRefusedCount).digestRaise f code).assetAnswer f code
      else
        let s2 := ((s1.keepAssets s f).wr Reg.fnAssetSeq (aSeq m) f).updFn f (fun x => { x with assetFlags := Nat.lor x.assetFlags (2 ^ kind) })
        let s3 := if s2.plied && s2.isA && decide (2 ≤ kind) then s2.plySend f plyAsset 0 0 (m.take 48 ++ body) else s2
        s3.assetAnswer f 0

/-! ## Installing -/

/-- KEM: the session's asset key (R348). -/
def State.installKem (s : State) (f : Nat) (b : Bytes) : Nat × State :=
  if b.length ≠ 1568 then (0x060C, s)
  else
    let x := s.session f
    let ss := mlkemDecap x.ekSeed b
    let k := sha384Key (asciiBytes "CLTH-ASSET-1" ++ toLe 48 x.master ++ toLe 32 ss)
    (0, s.updSession f (fun x => { x with kem := true, assetKey := k }))

/-- BIND: the tenant tag and key (R348). -/
def State.installBind (s : State) (f : Nat) (b : Bytes) : Nat × State :=
  if b.length ≠ 4 then (0x060C, s)
  else
    let s1 := s.updFn f (fun x => { x with tenantKey := sha384N x.session.key })
    (0, (s1.wr Reg.fnTenantTag (leNat b) f).wr Reg.fnBound 1 f)

/-- Read a policy record (R157). -/
def parsePolicy (b : Bytes) : Policy :=
  let v := leAt b 6 1
  { modes := leAt b 5 1, format := v % 8, form := v / 8 % 2, ndest := v / 16 % 8, id := leAt b 8 4, tag := leAt b 12 4
    kMin := leAt b 16 4, sigma := leAt b 20 4, tau := leAt b 24 6, digest := leAt b 32 32
    dests := (List.range 4).map (fun i => { kind := leAt b (64 + 64 * i) 1, peer := leAt b (80 + 64 * i) 48 }) }

/-- The cases of R158. -/
def State.policyBad (s : State) (f : Nat) (b : Bytes) : Bool :=
  let p := parsePolicy b
  b.length != 320 || leAt b 0 4 != 0x50524C43 || leAt b 4 1 != 1 || decide (16 ≤ p.modes) || p.modes == 0
    || decide (128 ≤ leAt b 6 1) || !zerosAt b [(7, 1), (30, 2)] || decide (5 < p.format) || p.ndest == 0 || decide (4 < p.ndest)
    || decide (p.kMin < 2) || decide (2 ^ 24 - 1 < p.kMin - 1) || (p.sigma != 0 && (decide (p.sigma < 2 ^ 11) || decide (2 ^ 31 < p.sigma)))
    || p.tag != s.tenantTag f || decide (p.id ≤ (s.fn f).lastPolicy)
    || (List.range 4).any (fun i =>
        let d := p.dests.getD i { kind := 0, peer := 0 }
        !zerosAt b [(65 + 64 * i, 15)]
          || (if i < p.ndest then d.kind == 0 || decide (2 < d.kind) || (d.kind == 1 && d.peer != 0)
              else !allZero (slice b (64 + 64 * i) 64)))
    || (p.tau != 0 && (bit p.modes 0 || bit p.modes 1))
    || (p.form == 0 && p.format != 0 && bit p.modes 3)
    || p.digest != tableDigest p.sigma

/-- POLICY (R158). -/
def State.installPolicy (s : State) (f : Nat) (b : Bytes) : Nat × State :=
  if s.policyBad f b then (0x0908, s)
  else
    let p := parsePolicy b
    (0, s.updFn f (fun x => { x with
      policy := some p
      lastPolicy := p.id }))

/-- JOIN_LIST (R288). -/
def State.installJoin (s : State) (f : Nat) (b : Bytes) : Nat × State :=
  let n := b.length / 64
  let bad := b.length % 64 != 0 || decide (1024 < n) || (List.range n).any (fun i =>
    decide (2 ^ 14 ≤ leAt b (64 * i) 2) || decide (4 ≤ leAt b (64 * i + 2) 1) || !zerosAt b [(64 * i + 3, 13)])
  if bad then (0x060C, s)
  else (0, s.updFn f (fun x => { x with joinList := (List.range n).map (fun i =>
    let r := leAt b (64 * i + 2) 1
    { lid := leAt b (64 * i) 2, stair := bit r 0, ply := bit r 1, peer := leAt b (64 * i + 16) 48 }) }))

/-- A key body decrypted under its transfer key. The spec names no mode for it: AES-256-GCM with a zero IV is taken.
PRESUMED -/
def transferBody (key : Nat) (b : Bytes) : Bytes := gcmCrypt key (toLe 12 0) [] b

/-- Place a key body in tiles, and their checksums. -/
def State.placeKey (s : State) (tile ntiles : Nat) (body : Bytes) : State :=
  (List.range ntiles).foldl (fun s i =>
    let s1 := s.putTile (tile + i) 0 (slice body (65536 * i) 65536)
    (s1.setTag (tile + i) { s1.tag (tile + i) with csum := s1.csum (tile + i) }).wrote (tile + i)) s

/-- A key tag (R124). -/
def parseEvk (b : Bytes) : EvkTag :=
  let t := leAt b 0 64
  { keyset := bits t 0 64, ps := bits t 64 3, kind := bits t 72 4, level := bits t 76 6, galK := bits t 88 18, tile := bits t 128 24
    ntiles := bits t 152 32, digest := bits t 256 256 }

/-- The reserved bits of a key tag. -/
def evkWf (b : Bytes) : Bool :=
  let t := leAt b 0 64
  bits t 67 5 == 0 && bits t 82 6 == 0 && bits t 106 22 == 0 && bits t 184 72 == 0 && decide (bits t 72 4 ≤ 4)
    && (bits t 72 4 == 1 || bits t 88 18 == 0)

/-- EVK: key tag, table index, transfer key and host address, then the body as it was read, still encrypted when `raw`.
The widths of the index and the address are not stated: 1 byte and 8 (log entry 14). PRESUMED
A malformed tag, a body of another length and tiles outside the function give 0x0304 and empty the entry, as a digest that
differs does; the spec gives 0x0304 to key bodies and names no case but the digest (log entry 102). DESIGN CHOICE -/
def State.installEvk (s : State) (f : Nat) (b : Bytes) (raw : Bool) (host : Option Bytes) : Nat × Bytes × State :=
  let t := parseEvk b
  match host with
  | none => (0x0A15, [], s)
  | some h =>
    let body := if raw then transferBody (leAt b 65 32) h else h
    let tiles := (List.range t.ntiles).map (t.tile + ·)
    if b.length ≠ 105 || !evkWf b || body.length ≠ t.ntiles * tileSize || tiles.any (fun i => !s.tileOk f i)
        || sha256N body ≠ t.digest then
      -- the entry is left empty
      (0x0304, [], s.updFn f (fun x => { x with evks := x.evks.filter (fun k => k.1 != leAt b 64 1) }))
    else (0, b ++ body, (s.placeKey t.tile t.ntiles body).updFn f (fun x =>
      { x with evks := (leAt b 64 1, t) :: x.evks.filter (fun k => k.1 != leAt b 64 1) }))

/-- COMMITTEE_KEY: KEYSET, first tile, length in bytes, SHA-256, transfer key, host address; widths 8, 3, 4, 32, 32 and 8.
PRESUMED -/
def State.installCommittee (s : State) (f : Nat) (b : Bytes) (raw : Bool) (host : Option Bytes) : Nat × Bytes × State :=
  let keyset := leAt b 0 8
  let tile := leAt b 8 3
  let len := leAt b 11 4
  let n := ceilDiv len tileSize
  match host with
  | none => (0x0A15, [], s)
  | some h =>
    let body := if raw then transferBody (leAt b 47 32) h else h
    if b.length ≠ 87 || body.length ≠ len || ((List.range n).map (tile + ·)).any (fun i => !s.tileOk f i)
        || sha256N body ≠ leAt b 15 32 then (0x0304, [], s)
    else (0, b ++ body, (s.placeKey tile n body).updFn f (fun x =>
      { x with commKeys := { keyset := keyset, tile := tile, len := len, digest := leAt b 15 32 }
                 :: x.commKeys.filter (fun k => k.keyset != keyset) }))

/-- NOISE_SEED. -/
def State.installNoise (s : State) (f : Nat) (b : Bytes) : Nat × State :=
  if b.length ≠ 32 then (0x060C, s) else (0, s.updFn f (fun x => { x with noiseSeed := some (leNat b) }))

/-- CHECKPOINT_KEY. -/
def State.installCkpt (s : State) (f : Nat) (b : Bytes) : Nat × State :=
  if b.length ≠ 32 then (0x060C, s) else (0, s.updFn f (fun x => { x with ckptKey := some (leNat b) }))

/-! ## Memory keys (R357, R358) -/

/-- The far tiles of a function: its far range, ascending, then its near tiles remapped under its memory key (R418; log
entry 104). -/
def State.farTiles (s : State) (f : Nat) : List Nat :=
  (List.range (s.rd Reg.fnFarCount f)).map (0x800000 + s.rd Reg.fnFarBase f + ·)
    ++ ((s.remap.filter (fun x => !x.device && (s.tag x.near).tenant == f)).map (·.near))

/-- Pages of the far range whose generation differs from `gen`. -/
def State.oldPages (s : State) (f gen : Nat) : Nat :=
  ((s.farTiles f).map (fun t => popcount (Nat.xor (s.tag t).keygen (if gen = 1 then 0xFFFF else 0)) 16)).sum

/-- MEM_KEY: the first key starts initialisation, a later one a rotation. -/
def State.installMem (s : State) (f : Nat) (b : Bytes) : Nat × State :=
  if b.length ≠ 64 || s.rd Reg.fnRotState f ≠ 0 then (0x060C, s)
  else if !s.rdb Reg.fnMemkey f then
    let s1 := s.updFn f (fun x => { x with memKey0 := some (leNat b), memKey1 := none, sweep := 0 })
    (0, ((s1.wr Reg.fnMemkey 1 f).wr Reg.fnCurgen 0 f).wr Reg.fnRotState (if s.rd Reg.fnFarCount f = 0 then 0 else 1) f)
  else
    let gen := 1 - s.rd Reg.fnCurgen f
    let old := s.oldPages f gen
    let s1 := s.updFn f (fun x => if gen = 1 then { x with memKey1 := some (leNat b), memKeyAt := some s.time, sweep := 0 }
      else { x with memKey0 := some (leNat b), memKeyAt := some s.time, sweep := 0 })
    (0, (((s1.wr Reg.fnCurgen gen f).wr Reg.fnOldPages old f).wr Reg.fnRotState 2 f).rotated f)

/-- Initialisation completes: every far tile of the range is zero under the key, its tag zero apart from TENANT. -/
def State.memInitDone (s : State) (f : Nat) : State :=
  if s.rd Reg.fnRotState f ≠ 1 || !s.ready || !s.farTurn f then s
  else ((s.farTiles f).foldl (fun s t =>
    (s.setTag t { tenant := f, far := true }).zeroTile t) s).wr Reg.fnRotState 0 f

/-- The sweep converts the next tile that has an old page and is not staged; after the last it begins again. -/
def State.memSweep (s : State) (f : Nat) : State :=
  if s.rd Reg.fnRotState f ≠ 2 || !s.ready || !s.farTurn f then s
  else
    let gen := if s.rd Reg.fnCurgen f = 1 then 0xFFFF else 0
    let l := (s.farTiles f).filter (fun t => (s.tag t).keygen != gen && (s.stagedOf t).isNone)
    match l.find? (fun t => decide ((s.fn f).sweep ≤ t)), l.head? with
    | some t, _ => (s.updFn f (fun x => { x with sweep := t + 1 })).farWritten t
    | none, some t => (s.updFn f (fun x => { x with sweep := t + 1 })).farWritten t
    | none, none => s

/-! ## Mirrored assets at strand B (R304) -/

/-- Strand B installs an asset strand A has installed: A's header and the plain body. -/
def State.plyAssetMsg (s : State) (f : Nat) (body : Bytes) : State :=
  let b := body.drop 48
  let done (p : Nat × State) : State := if p.1 = 0 then p.2 else p.2.raise f p.1
  let done3 (p : Nat × Bytes × State) : State := if p.1 = 0 then p.2.2 else p.2.2.raise f p.1
  let s1 := match aKind body with
    | 2 => done (s.installPolicy f b)
    | 3 => done (s.installJoin f b)
    | 4 => done3 (s.installEvk f (b.take 105) false (some (b.drop 105)))
    | 5 => done3 (s.installCommittee f (b.take 87) false (some (b.drop 87)))
    | 6 => done (s.installNoise f b)
    | 7 => done (s.installMem f b)
    | 8 => done (s.installCkpt f b)
    | _ => s
  (s1.keepAssets s f).updFn f (fun x => { x with assetFlags := Nat.lor x.assetFlags (2 ^ aKind body) })

/-- An install that mirrors the body it was given. -/
def plain2 (b : Bytes) (p : Nat × State) : Nat × Bytes × State := (p.1, b, p.2)

/-- KEM (R348). -/
def execKem (f : Nat) (msg : Bytes) (s : State) : Res := .next (s.asset f 0 msg (fun b s => plain2 b (s.installKem f b)))
/-- BIND (R348). -/
def execBind (f : Nat) (msg : Bytes) (s : State) : Res := .next (s.asset f 1 msg (fun b s => plain2 b (s.installBind f b)))
/-- POLICY (R158). -/
def execPolicy (f : Nat) (msg : Bytes) (s : State) : Res := .next (s.asset f 2 msg (fun b s => plain2 b (s.installPolicy f b)))
/-- JOIN_LIST (R288). -/
def execJoinList (f : Nat) (msg : Bytes) (s : State) : Res := .next (s.asset f 3 msg (fun b s => plain2 b (s.installJoin f b)))
/-- EVK (R124). -/
def execEvk (f : Nat) (msg : Bytes) (host : Option Bytes) (s : State) : Res :=
  .next (s.asset f 4 msg (fun b s => s.installEvk f b true host))
/-- COMMITTEE_KEY (R349). -/
def execCommitteeKey (f : Nat) (msg : Bytes) (host : Option Bytes) (s : State) : Res :=
  .next (s.asset f 5 msg (fun b s => s.installCommittee f b true host))
/-- NOISE_SEED (R349). -/
def execNoiseSeed (f : Nat) (msg : Bytes) (s : State) : Res := .next (s.asset f 6 msg (fun b s => plain2 b (s.installNoise f b)))
/-- MEM_KEY (R357). -/
def execMemKey (f : Nat) (msg : Bytes) (s : State) : Res := .next (s.asset f 7 msg (fun b s => plain2 b (s.installMem f b)))
/-- CHECKPOINT_KEY (R349). -/
def execCheckpointKey (f : Nat) (msg : Bytes) (s : State) : Res :=
  .next (s.asset f 8 msg (fun b s => plain2 b (s.installCkpt f b)))
/-- MEM_KEY_INIT_DONE (R357). -/
def execMemKeyInitDone (f : Nat) (s : State) : Res := .next (s.memInitDone f)
/-- MEM_ROTATION_SWEEP (R358). -/
def execMemRotationSweep (f : Nat) (s : State) : Res := .next (s.memSweep f)

end Sys2Proof.Machine
end

