-- ==== Sys2Proof/Machine/Partition.lean ====
section
/-! DEFINITION. Partitions (R353 to R356): the staged partition, its checks, revocation, and the zeroisation of what leaves a
function (R360). -/
namespace Sys2Proof.Machine
open Sys2Proof

/-- A partition (R353). -/
structure Partition where
  spindles : Nat
  nearBase : Nat
  nearCount : Nat
  farBase : Nat
  farCount : Nat
  bundles : Nat
  ctrBase : Nat
  ctrCount : Nat
  pinQuota : Nat
  winQuota : Nat
  twrQuota : Nat
  deriving DecidableEq, Repr

/-- The partition of function `f` (R365). -/
def State.partition (s : State) (f : Nat) : Partition :=
  { spindles := s.rd Reg.fnSpindles f, nearBase := s.rd Reg.fnNearBase f, nearCount := s.rd Reg.fnNearCount f
    farBase := s.rd Reg.fnFarBase f, farCount := s.rd Reg.fnFarCount f, bundles := s.rd Reg.fnBundles f
    ctrBase := s.rd Reg.fnCtrBase f, ctrCount := s.rd Reg.fnCtrCount f, pinQuota := s.rd Reg.fnPinQuota f
    winQuota := s.rd Reg.fnWinQuota f, twrQuota := s.rd Reg.fnTwrQuota f }

/-- The staged partition (R366). -/
def State.stagedPartition (s : State) : Partition :=
  { spindles := s.rd Reg.partSpindles, nearBase := bits (s.rd Reg.partNear) 0 16, nearCount := bits (s.rd Reg.partNear) 32 17
    farBase := bits (s.rd Reg.partFar) 0 23, farCount := bits (s.rd Reg.partFar) 24 23, bundles := s.rd Reg.partBundles
    ctrBase := s.rd Reg.partCtrBase, ctrCount := s.rd Reg.partCtrCount, pinQuota := s.rd Reg.partPinQuota
    winQuota := s.rd Reg.partWinQuota, twrQuota := s.rd Reg.partTwrQuota }

/-- An exclusive item of `p` overlaps one of `q`. -/
def Partition.meets (p q : Partition) : Bool :=
  Nat.land p.spindles q.spindles != 0 || runsMeet (p.nearBase, p.nearCount) (q.nearBase, q.nearCount)
    || runsMeet (p.farBase, p.farCount) (q.farBase, q.farCount) || runsMeet (p.ctrBase, p.ctrCount) (q.ctrBase, q.ctrCount)

/-- The functions other than `f`. -/
def others (f : Nat) : List Nat := (List.range 64).filter (fun g => g != f)

/-- Why a partition is refused (R354). -/
def State.partBad (s : State) (f : Nat) (p : Partition) : Bool :=
  let os := (others f).map s.partition
  os.any p.meets
    || decide (2 ^ s.lgrade ≤ p.spindles) || decide (0x10000 < p.nearBase + p.nearCount)
    || decide (s.farTop - 0x800000 < p.farBase + p.farCount) || decide (4096 < p.ctrCount)
    || decide (8192 < p.ctrBase + p.ctrCount)
    || decide (4096 < p.winQuota + (os.map (·.winQuota)).sum) || decide (4096 < p.twrQuota + (os.map (·.twrQuota)).sum)
    || decide (8192 < p.pinQuota + (os.map (·.pinQuota)).sum) || !(s.fn f).exists_

/-- The tiles of a partition, near then far. -/
def Partition.tiles (p : Partition) : List Nat :=
  (List.range p.nearCount).map (p.nearBase + ·) ++ (List.range p.farCount).map (0x800000 + p.farBase + ·)
/-- A tile of the partition. -/
def Partition.hasTile (p : Partition) (t : Nat) : Bool :=
  if isFar t then decide (0x800000 + p.farBase ≤ t) && decide (t < 0x800000 + p.farBase + p.farCount)
  else decide (p.nearBase ≤ t) && decide (t < p.nearBase + p.nearCount)
/-- Its device counters. -/
def Partition.ctrs (p : Partition) : List Nat := (List.range p.ctrCount).map (p.ctrBase + ·)
/-- Counter number `n` names the same device counter in both. -/
def Partition.sameCtr (p q : Partition) (n : Nat) : Bool :=
  decide (n < p.ctrCount) && decide (n < q.ctrCount) && p.ctrBase + n == q.ctrBase + n

/-- Set the partition view of a function. -/
def State.setPartition (s : State) (f : Nat) (p : Partition) : State :=
  let s1 := (((((s.wr Reg.fnSpindles p.spindles f).wr Reg.fnNearBase p.nearBase f).wr Reg.fnNearCount p.nearCount f).wr
    Reg.fnFarBase p.farBase f).wr Reg.fnFarCount p.farCount f).wr Reg.fnBundles p.bundles f
  let s2 := ((((s1.wr Reg.fnCtrBase p.ctrBase f).wr Reg.fnCtrCount p.ctrCount f).wr Reg.fnPinQuota p.pinQuota f).wr
    Reg.fnWinQuota p.winQuota f).wr Reg.fnTwrQuota p.twrQuota f
  (s2.wr Reg.fnSealedNet (b2n (Nat.land p.bundles (s.rd Reg.partSealedBundles) != 0)) f).rotateAll

/-! ## Revocation (R355) -/

/-- Rounds, windows and TWRs over tiles that leave function `f`: steps 1 and 3. -/
def State.revokeTiles (s : State) (f : Nat) (gone : Nat → Bool) : State :=
  let s1 := s.abandonAll f 0x060F (fun r => r.tiles.any gone)
  let s2 := (s1.windows.filter (fun w => w.func == f && ((List.range w.nt).map (w.base + ·)).any gone)).foldl
    (fun s w => s.closeWindow w) s1
  (s2.twrs.filter (fun w => w.func == f && w.op == 1 && ((List.range w.nt).map (fun k => w.tile + k * w.stride)).any gone)).foldl
    (fun s w => s.twrFail w.id 0x060F) s2

/-- Staged copies and pages of function `f` whose tile or pool tile leaves it: those of a tile that stays are written back
first. -/
def State.unstageGone (s : State) (f : Nat) (gone : Nat → Bool) : State :=
  let s1 := (s.staged.filter (fun g => g.func == f && (gone g.tile || gone g.slot))).foldl
    (fun s g => if gone g.tile then s.discardStage g.tile else s.unstage g.tile) s
  (s1.pages.filter (fun g => g.func == f && (gone g.tile || gone g.slot))).foldl
    (fun s g => if gone g.tile then s.pageOut g else s.dropPages g.tile) s1

/-- Both memory keys of a function are zeroised (R357). -/
def State.dropMemKeys (s : State) (f : Nat) : State :=
  ((s.updFn f (fun x => { x with memKey0 := none, memKey1 := none })).wr Reg.fnMemkey 0 f).wr Reg.fnRotState 0 f

/-- Pins above the quota go, in descending QPN (R355). -/
def State.unpinTo (s : State) (f quota : Nat) : State :=
  let pins := sortBy id ((s.qps.filter (fun q => q.func == f && q.pinned)).map (·.qpn))
  (pins.drop quota).foldl (fun s n => s.updQp n (fun q => { q with pinned := false })) s

/-- A partition takes effect. -/
def State.applyPartition (s : State) (f : Nat) (p : Partition) : State :=
  let q := s.partition f
  let gone (t : Nat) : Bool := q.hasTile t && !p.hasTile t
  let lostSp := (List.range 32).filter (fun j => bit q.spindles j && !bit p.spindles j)
  let lostCtr := (List.range q.ctrCount).filter (fun n => !q.sameCtr p n)
  let lostTiles := q.tiles.filter gone
  let lostBundles := (List.range 64).filter (fun b => bit q.bundles b && !bit p.bundles b)
  -- steps 1 to 3, while the old partition still names what leaves
  let s1 := if lostSp.isEmpty && lostCtr.isEmpty then s else s.abandonAll f 0x060F (fun _ => true)
  let s2 := lostSp.foldl (fun s j => s.updSpin j (fun x => { x with stopping := true })) (s1.revokeTiles f gone)
  let s3 := s2.qpErrorAll 0x060F (fun x => x.func == f && lostBundles.contains x.bundle)
  let s4 := (s3.twrs.filter (fun w => w.func == f && (lostCtr.contains w.ctr || lostCtr.contains w.doneCtr))).foldl
    (fun s w => s.twrFail w.id 0x060F) s3
  let s5 := if lostTiles.any isFar then s4.dropMemKeys f else s4
  -- what joins
  let s6 := (p.tiles.filter (fun t => !q.hasTile t)).foldl (fun s t => s.setTag t { s.tag t with tenant := f, far := isFar t }) s5
  let joins := (List.range p.ctrCount).filter (fun n => !q.sameCtr p n)
  let lostDev := (q.ctrs.filter (fun d => !p.ctrs.contains d))
  let newSp := (List.range 32).filter (fun j => bit p.spindles j && !bit q.spindles j)
  let s7 := newSp.foldl (fun s j => s.updSpin j (fun x => { x with st := .idle }))
    (joins.foldl (fun s n => s.ctrForce (p.ctrBase + n) 0) s6)
  let s8 := (s7.setPartition f p).unpinTo f p.pinQuota
  if lostSp.isEmpty && lostTiles.isEmpty && lostDev.isEmpty then s8
  else { s8 with partRev := some { func := f, tiles := lostTiles, ctrs := lostDev, spindles := lostSp } }.wr Reg.partBusy 1

/-- PART_CMD. -/
def State.partCmd (s : State) (r : Req) : State :=
  s.privCmd r 0x1003C38 (fun s =>
    if s.rdb Reg.partBusy then s
    else
      let f := s.rd Reg.partFunc
      let p := s.stagedPartition
      if s.partBad f p then s.wr Reg.partCode 0x060E else (s.applyPartition f p).wr Reg.partCode 0)

/-- A near or far tile leaves a function: data and tag of a near tile are zero, and a far tile's tag (R360). -/
def State.wipeTile (s : State) (t : Nat) : State := if isFar t then s.setTag t {} else (s.zeroTile t).setTag t {}

/-- PARTITION_REVOCATION_DONE: unit instructions issued before have retired, and no fold is in flight on what was revoked or
on a copy staged there (R72); step 4 zeroises what was revoked. -/
def State.revocationDone (s : State) (f : Nat) : State :=
  match s.partRev with
  | none => s
  | some v =>
    let gone (t : Nat) : Bool := v.tiles.contains t
    let held := (s.staged.filter (fun g => g.func == f && (gone g.tile || gone g.slot))).map (·.tile)
      ++ (s.pages.filter (fun g => g.func == f && (gone g.tile || gone g.slot))).map (·.tile)
    if !s.ready || v.func ≠ f || v.spindles.any (fun j => !(s.spin j).uq.isEmpty) || !s.quiet (v.tiles ++ held) then s
    else
      let s1 := v.spindles.foldl (fun s j => s.updSpin j (fun x => { nextId := x.nextId })) (s.unstageGone f gone)
      let s2 := v.tiles.foldl (fun s t => s.wipeTile t) s1
      let s3 := v.ctrs.foldl (fun s d => s.ctrForce d 0) (s2.dropLeaves f gone)
      { s3 with partRev := none }.wr Reg.partBusy 0

/-- PART_CMD (R355). -/
def execPartCmd (r : Req) (s : State) : Res := .next (s.partCmd r)
/-- PARTITION_REVOCATION_DONE (R355). -/
def execPartitionRevocationDone (f : Nat) (s : State) : Res := .next (s.revocationDone f)

end Sys2Proof.Machine
end

