-- ==== Sys2Proof/Machine/PlyMsgs.lean ====
section
/-! DEFINITION. The ply (R302 to R309): forming and dissolving it, its messages at either strand, and the loss of the
partner. -/
namespace Sys2Proof.Machine
open Sys2Proof

/-! ## Forming (R302) -/

/-- Rounds of a function that run plied go on unplied. -/
def State.unply (s : State) (p : Round → Bool) : State :=
  { s with rounds := updIf s.rounds (fun r => r.live_ && p r) (fun r => { r with ply := { r.ply with plied := false, awaiting := [] } }) }

/-- The ply is refused with a code, which PLY_CODE shows (log entry 100). DEDUCED -/
def State.plyRefuse (s : State) (code : Nat) : State := (s.wr Reg.plyState 0).wr Reg.plyCode code

/-- PLY_QPN names a ply QP of PF0 in RTS, on the ply bundle. -/
def State.pf0PlyQp (s : State) : Option Qp :=
  (s.qp? (s.rd Reg.plyQpn)).filter (fun q => q.func == 0 && q.plyAttr && q.st == .rts && q.bundle == s.rd Reg.plyBundle)

/-- The ranges are exchanged and the ply forms, or is refused (R302). -/
def State.plyDecide (s : State) (x : PlyRange) : State :=
  match negotiate x.verMin x.verMax (s.rd Reg.devPlyVerMin) (s.rd Reg.devPlyVerMax) with
  | none => s.plyRefuse 0x0803
  | some v =>
    if x.grade ≠ s.rd Reg.devGrade || x.stepping ≠ s.rd Reg.devStepping then s.plyRefuse 0x0804
    else if x.role + s.rd Reg.plyRole ≠ 3 || x.role = 0 || s.rd Reg.plyRole = 0 || !x.epochValid || !s.rdb Reg.gateEpochValid then
      s.plyRefuse 0x0806
    else
      let s1 := ((s.wr Reg.plyState 2).wr Reg.plyVer v).wr Reg.plyCode 0
      { s1 with ply := { s1.ply with heard := s.time, lastBeat := s.time, opens := [] } }

/-- What the device tells its partner of itself (R302). -/
def State.plyOwn (s : State) : PlyRange :=
  { verMin := s.rd Reg.devPlyVerMin, verMax := s.rd Reg.devPlyVerMax, grade := s.rd Reg.devGrade, stepping := s.rd Reg.devStepping
    qgMin := s.rd Reg.devQgVerMin, qgMax := s.rd Reg.devQgVerMax, role := s.rd Reg.plyRole, epochValid := s.rdb Reg.gateEpochValid }

/-- PLY_FORM: acts in UNFORMED alone, since a ply re-forms only through DISSOLVE (R309). The device's own range goes to the
partner; the spec gives its message no form. DESIGN CHOICE (log entry 124) -/
def State.plyForm (s : State) (r : Req) : State :=
  s.privCmd r 0xD00008 (fun s =>
    if s.rd Reg.plyState ≠ 0 then s
    else
      let s1 := s.wr Reg.plyState 1
      if s1.pf0PlyQp.isSome then s1.emit (.plyRange s1.plyOwn) else s1)

/-- PLY_RANGE_EXCHANGE: the partner's range, on the PF0 ply QP. -/
def State.plyExchange (s : State) (x : PlyRange) : State :=
  if !s.ready || s.rd Reg.plyState ≠ 1 || s.pf0PlyQp.isNone then s
  else ({ s with ply := { s.ply with partner := some x } }).plyDecide x

/-- PLY_DISSOLVE: rounds opened before stay unplied (R309). -/
def State.plyDissolve (s : State) (r : Req) : State :=
  s.privCmd r 0xD00008 (fun s =>
    let s1 := (s.unply (fun r => r.ply.plied)).wr Reg.plyState 0
    { s1.wr Reg.plyVer 0 with ply := {} })

/-! ## Messages (R303, R304) -/

/-- The header of a ply message is well formed. -/
def plyHdrOk (s : State) (msg : Bytes) : Bool :=
  decide (64 ≤ msg.length) && leAt msg 0 4 == 0x59504C43 && leAt msg 4 1 == s.rd Reg.plyVer % 256
    && zerosAt msg [(13, 3), (24, 40)] && (leAt msg 5 1 == plyVerdict || leAt msg 6 2 == 0)

/-- A ply message arrives on QP `qpn` of function `f`: it is counted, LAST_SEEN moves, and the PF0 QP's timer restarts. -/
def State.plyHeard (s : State) (f qpn : Nat) (msg : Bytes) : State :=
  let s1 := (s.bump Reg.plyMirrorRxBytes 0 msg.length).wr Reg.plyLastSeen s.time
  { s1 with ply := { s1.ply with
      heard := if f = 0 ∧ qpn = s.rd Reg.plyQpn then s.time else s1.ply.heard
      rxSeq := Sparse.set 0 s1.ply.rxSeq f (leAt msg 16 8) } }

/-- QP `qpn` is the ply QP of function `f`. -/
def State.isPlyQp (s : State) (f qpn : Nat) : Bool := (s.qp? qpn).any (fun q => q.func == f && s.plyPeer q)

/-! ## At strand B -/

/-- OPEN (R305): kept until B's own open comes, and used at once when it has. -/
def State.plyOpenMsg (s : State) (f r : Nat) (body : Bytes) : State :=
  let o := (f, r, leAt body 0 32, leAt body 32 32, leAt body 64 48 + leAt body 112 64 * 2 ^ 384)
  let s1 := { s with ply := { s.ply with opens := o :: s.ply.opens.filter (fun x => !(x.1 == f && x.2.1 == r)) } }
  s1.takeOpen f r

/-- COHORT (R306): the closing cohort; B acts on it once it has closed. -/
def State.plyCohortMsg (s : State) (f r : Nat) (body : Bytes) : State :=
  match s.round? f r with
  | none => s
  | some x =>
    if !x.ply.plied || x.ply.cohort.isSome then s
    else
      let s1 := s.updRound f r (fun x => { x with ply := { x.ply with cohort := some (slotsOf x.cfg.slots body) } })
      if x.st = .closed then s1.applyCohort f r else s1

/-- SHARE (R304): a mirrored recovery message or partial decryption record. -/
def State.plyShareMsg (s : State) (f r : Nat) (body : Bytes) : State :=
  match s.round? f r with
  | none => s
  | some x =>
    if leAt body 0 4 = 0x48544C43 then
      match s.submitTile f body.length with
      | some t => s.message f false false true t body
      | none => s
    else s.partialOn x body

/-- RETURN (R133): a mirrored committee return, or the identifier of a query that timed out. It is kept, for a CLIP that B has
not issued yet as well. -/
def State.plyReturnMsg (s : State) (f r : Nat) (body : Bytes) : State :=
  let qid := if body.length = 8 then leNat body else leAt body 8 8
  match s.round? f r with
  | none => s
  | some x =>
    let d := if body.length = 8 then (if x.cfg.nlPath = 3 then QDecision.chain else .excluded)
      else .returned (returnCt x.cfg.pset (x.cfg.limbs - 1) body)
    if !x.live_ then s
    else match s.queries.find? (fun q => q.func == f && q.round == r && q.qid == qid && q.decided.isNone) with
      | some q => s.decide_ f q.handle d
      | none => s.keepReturn f r qid d

/-- DIGEST (R307): kept until B's own digest is formed, and compared. -/
def State.plyDigestMsg (s : State) (f r : Nat) (body : Bytes) : State :=
  (s.updRound f r (fun x => { x with ply := { x.ply with peerDigest := some (leAt body 0 32) } })).plyCompare f r

/-- DONE (R308): B's held sends complete. -/
def State.plyDoneMsg (s : State) (f r : Nat) : State :=
  s.updRound f r (fun x => { x with ply := { x.ply with done := true } })

/-! ## At strand A -/

/-- VERDICT (R305 to R307): the answers to OPEN, COHORT and DIGEST in turn. After a refusal of OPEN or a divergence of the
cohort the round runs on unplied; a digest mismatch abandons it. -/
def State.plyVerdictMsg (s : State) (f r code : Nat) : State :=
  match s.round? f r with
  | none => s
  | some x =>
    if !x.ply.plied then s
    else if code = 0 then
      s.updRound f r (fun x => { x with ply := { x.ply with
        answers := x.ply.answers + 1, verdict := if x.ply.answers = 2 then some 0 else x.ply.verdict } })
    else if x.ply.answers = 2 ∧ x.ply.digest.isSome then s.abandon f r 0x0801
    else s.updRound f r (fun x => { x with ply := { x.ply with plied := false } })

/-- A ply message's effect. Kinds that go from A to B act at strand B only, VERDICT at strand A only. -/
def State.plyAct (s : State) (f : Nat) (msg : Bytes) : State :=
  let r := leAt msg 8 5
  let body := msg.drop 64
  let t := leAt msg 5 1
  if t = plyVerdict then (if s.isA then s.plyVerdictMsg f r (leAt msg 6 2) else s)
  else if !s.isB then s
  else if t = plyAsset then s.plyAssetMsg f body
  else if t = plyOpen then s.plyOpenMsg f r body
  else if t = plyCohort then s.plyCohortMsg f r body
  else if t = plyShare then s.plyShareMsg f r body
  else if t = plyReturn then s.plyReturnMsg f r body
  else if t = plyDigest then s.plyDigestMsg f r body
  else if t = plyDone then s.plyDoneMsg f r
  else s

/-- A message that begins with the ply magic completes on QP `qpn` of function `f`. Out of a ply, on another QP, or with a
malformed header it is dropped. DESIGN CHOICE -/
def State.plyMessage (s : State) (f qpn : Nat) (msg : Bytes) : State :=
  if !s.plied || !s.isPlyQp f qpn || !plyHdrOk s msg then s else (s.plyHeard f qpn msg).plyAct f msg

/-- A command that names its type of message. -/
def State.plyCmd (s : State) (f qpn type : Nat) (msg : Bytes) : State :=
  if s.ready && leAt msg 5 1 == type then s.plyMessage f qpn msg else s

/-! ## Time (R306, R309) -/

/-- PLY_LATE_SLOT_EXPIRY: a slot of A's cohort still missing at d + 1,350,000. -/
def State.plyLate (s : State) (f r : Nat) : State :=
  match s.round? f r with
  | none => s
  | some x =>
    if s.ready && s.mirroredHere x && x.live_ && !x.ply.awaiting.isEmpty && decide (x.deadline + 1350000 ≤ s.time) then
      (s.verdict f r 0x0801).abandon f r 0x0801
    else s

/-- PLY_HEARTBEAT: every 135,000 cycles a header with TYPE 0 goes out on the PF0 ply QP; the spec states no form for it.
DESIGN CHOICE -/
def State.plyBeat (s : State) : State :=
  if !s.ready || !s.plied || decide (s.time < s.ply.lastBeat + 135000) then s
  else
    let s1 := { s with ply := { s.ply with lastBeat := s.time } }
    match s.pf0PlyQp with
    | none => s1
    | some _ => s1.plySend 0 0 0 0 []

/-- A mode 3 query that strand B now sends itself (R133). -/
def State.askAgain (s : State) (q : Query) : State :=
  match s.round? q.func q.round with
  | none => s
  | some x =>
    if x.live_ && q.decided.isNone && !q.onWire then
      ((s.updQuery q.func q.handle (fun q => { q with onWire := true, sentAt := s.time })).post
        ((x.cfg.m3.map (·.committeeQp)).getD 0) (.query q.handle) q.msg)
    else s

/-- A strand's rounds go on alone (R309): at strand B contributions held past d are appended, and A's seed that has not come
is drawn. -/
def State.alone (s : State) (x : Round) : State :=
  let f := x.func
  let r := x.cfg.round
  let s1 := s.updRound f r (fun x =>
    let x1 := if x.st = .closed then x.releaseHold (fun _ => true) else x
    { x1 with ply := { x1.ply with plied := false, awaiting := [] } })
  if x.st = .opening ∧ !x.drawn ∧ s.isB then s1.ask 1 f (if x.cfg.mode = 2 then 18 else 4) (.roundOpen f r) else s1

/-- Strand B holds a fired FORWARD of a plied round: it does not forward (R309). -/
def State.dropHeldForwards (s : State) : State :=
  if !s.isB then s
  else (s.twrs.filter (fun w => w.fired && w.op == 1 && (s.round? w.func w.round).any (fun x => x.ply.plied))).foldl
    (fun s w => (s.updTwr w.id (fun w => { w with left := 0 })).fwdDone w.id) s

/-- The round a ply event of function `f` names: its first live plied round, 0 with none. R283 gives such events the object kind
round and R309 names a function only. DESIGN CHOICE (log entry 123) -/
def State.plyObj (s : State) (f : Nat) : Nat :=
  ((s.rounds.find? (fun r => r.func == f && r.live_ && r.ply.plied)).map (·.cfg.round)).getD 0

/-- The partner is lost (R309): SOLO, 0x0802 to every function with a ply QP, and each plied round goes on alone. -/
def State.partnerLost (s : State) : State :=
  let fs := ((s.qps.filter (fun q => q.plyAttr)).map (·.func)).dedup
  let s1 := ((s.wr Reg.plyState 3).wr Reg.plyCode 0x0802).bump Reg.plyFailovers
  let s2 := (fs.foldl (fun s f => s.raise f 0x0802 4 (s.plyObj f)) s1).dropHeldForwards
  let s3 := (s2.rounds.filter (fun r => r.live_ && r.ply.plied)).foldl (fun s r => s.alone r) s2
  if s.isB then s3.queries.foldl (fun s q => s.askAgain q) s3 else s3

/-- PLY_PARTNER_LOST: 13,500,000 cycles without a message on the PF0 ply QP, or that QP in ERROR. -/
def State.plyLost (s : State) : State :=
  let dead := (s.qp? (s.rd Reg.plyQpn)).any (fun q => q.st == .error)
  if s.ready && s.plied && (dead || decide (s.ply.heard + 13500000 ≤ s.time)) then s.partnerLost else s

/-- PLY_FORM (R302). -/
def execPlyForm (r : Req) (s : State) : Res := .next (s.plyForm r)
/-- PLY_RANGE_EXCHANGE (R302). -/
def execPlyRangeExchange (x : PlyRange) (s : State) : Res := .next (s.plyExchange x)
/-- PLY_DISSOLVE (R309). -/
def execPlyDissolve (r : Req) (s : State) : Res := .next (s.plyDissolve r)
/-- PLY_ASSET (R304). -/
def execPlyAsset (f qpn : Nat) (msg : Bytes) (s : State) : Res := .next (s.plyCmd f qpn plyAsset msg)
/-- PLY_OPEN (R305). -/
def execPlyOpen (f qpn : Nat) (msg : Bytes) (s : State) : Res := .next (s.plyCmd f qpn plyOpen msg)
/-- PLY_COHORT (R306). -/
def execPlyCohort (f qpn : Nat) (msg : Bytes) (s : State) : Res := .next (s.plyCmd f qpn plyCohort msg)
/-- PLY_VERDICT (R307). -/
def execPlyVerdict (f qpn : Nat) (msg : Bytes) (s : State) : Res := .next (s.plyCmd f qpn plyVerdict msg)
/-- PLY_SHARE (R304). -/
def execPlyShare (f qpn : Nat) (msg : Bytes) (s : State) : Res := .next (s.plyCmd f qpn plyShare msg)
/-- PLY_RETURN (R133). -/
def execPlyReturn (f qpn : Nat) (msg : Bytes) (s : State) : Res := .next (s.plyCmd f qpn plyReturn msg)
/-- PLY_DIGEST (R307). -/
def execPlyDigest (f qpn : Nat) (msg : Bytes) (s : State) : Res := .next (s.plyCmd f qpn plyDigest msg)
/-- PLY_DONE (R308). -/
def execPlyDone (f qpn : Nat) (msg : Bytes) (s : State) : Res := .next (s.plyCmd f qpn plyDone msg)
/-- PLY_HEARTBEAT (R309). -/
def execPlyHeartbeat (s : State) : Res := .next s.plyBeat

end Sys2Proof.Machine
end

