-- ==== Sys2Proof/Machine/Connect.lean ====
section
/-! DEFINITION. Connections: the context cache (R253, R254), CREATE_QP and QP_CTL (R244, R250, R388), and the handshake (R240
to R243). -/
namespace Sys2Proof.Machine
open Sys2Proof

/-! ## The context cache (R253, R254) -/

/-- Contexts the cache holds, contexts pinned at most. -/
def cacheMax : Nat := 16384
def pinMax : Nat := 8192
/-- The count at which an eviction is not made and the QPN retires with its QP. -/
def evictTop : Nat := 2 ^ 31 - 1

/-- A context may be evicted. A listening QP waits for its peer's handshake and stays. DEDUCED -/
def State.evictable (s : State) (q : Qp) : Bool :=
  q.cached && !q.pinned && q.rxAt != some s.time && !q.tx.tracker && !q.rx.tracker && q.tx.unacked.isEmpty && q.tx.queue.isEmpty && q.ctl.isEmpty
    && q.st != .init && q.st != .listen && q.st != .handshake && !q.accepting
    && decide (Sparse.get 0 s.evictions q.qpn + 1 < evictTop)

/-- Write a context to the table in PF0's memory: 240 bytes sealed under the device key, and the tag. -/
def State.evict (s : State) (qpn : Nat) : State :=
  let n := Sparse.get 0 s.evictions qpn + 1
  let aad := toLe 4 qpn ++ toLe 4 n
  let (d, s1) := { s with evictions := Sparse.set 0 s.evictions qpn n }.draw
  let iv := toLe 4 qpn ++ toLe 8 n
  let ct := gcmCrypt s.nalam.ctxKey iv aad (Config.contextBody d)
  (s1.updQp qpn (fun q => { q with cached := false, evictedAt := some s.time })).hostPut 0 (s.rd Reg.qpcQpTableBase + 256 * qpn)
    (ct ++ gcmMac s.nalam.ctxKey iv aad ct)

/-- Make room for one more context: the least recently used that may go. None when none may. -/
def State.cacheRoom (s : State) (keep : Nat) : Option State :=
  if ((s.qps.filter (fun q => q.cached)).length) < cacheMax then some s
  else (minBy? (·.lastUse) (s.qps.filter (fun q => s.evictable q && q.qpn != keep))).map (fun q => s.evict q.qpn)

/-- Contexts on chip. -/
def State.cachedQps (s : State) : Nat := (s.qps.filter (fun q => q.cached)).length

/-- A packet for a context evicted in this very cycle: the eviction is abandoned, and where its place has been taken another
context goes instead (R253). With no other that may go it stands. What it wrote to the table stays. DESIGN CHOICE (log entry
122) -/
def State.keepContext (s : State) (q : Qp) : State :=
  if q.cached || q.evictedAt != some s.time then s
  else
    let n := Sparse.get 0 s.evictions q.qpn
    let s1 := ({ s with evictions := Sparse.set 0 s.evictions q.qpn (n - 1) }).updQp q.qpn (fun q =>
      { q with cached := true, evictedAt := none, fetchAt := none, rxAt := some s.time })
    if s1.cachedQps ≤ cacheMax then s1
    else match minBy? (·.lastUse) (s1.qps.filter (fun v => s1.evictable v && v.qpn != q.qpn)) with
      | some v => s1.evict v.qpn
      | none => s

/-- Fetches outstanding at most, and now (R255). -/
def fetchMax : Nat := 2048
def State.fetches (s : State) : Nat := (s.qps.filter (fun q => q.fetchAt.isSome)).length

/-- A fetch of a QP's context starts, or a fetch under way serves it too; none beyond 2,048 is started (R255). -/
def State.startFetch (s : State) (qpn : Nat) : State :=
  s.updQp qpn (fun q =>
    if q.cached || q.fetchAt.isSome || decide (fetchMax ≤ s.fetches) then q else { q with fetchAt := some s.time })

/-- Why a pin is refused (R253). -/
def State.pinRefused (s : State) (f : Nat) : Bool :=
  decide (pinMax ≤ (s.qps.filter (fun q => q.pinned)).length)
    || decide (s.rd Reg.fnPinQuota f ≤ (s.qps.filter (fun q => q.func == f && q.pinned)).length)

/-! ## CREATE_QP (R388) -/

/-- The record holds no malformed field and no value out of range. -/
def qpRecordOk (b : Bytes) : Bool :=
  let v4 := bit (leAt b 1 1) 2
  b.length == 128 && decide (leAt b 0 1 < 2) && decide (leAt b 1 1 < 8) && decide (leAt b 2 1 < 64)
    && (leAt b 4 2 == 4096 || leAt b 4 2 == 8192) && zerosAt b [(6, 2), (34, 2), (92, 4), (109, 19)]
    && decide (1 ≤ leAt b 8 8) && decide (leAt b 8 8 < 2 ^ 40) && (!v4 || zerosAt b [(20, 12)])
    && decide (leAt b 36 4 < 2 ^ 20) && decide (1350 ≤ leAt b 88 4) && decide (leAt b 88 4 ≤ 86400)
    && decide (12500000 ≤ leAt b 96 8) && decide (leAt b 96 8 ≤ 12500000000)

/-- The landing-zone tiles of round `r` can never hold a reservation of `n` bytes (R250). -/
def State.neverFits (s : State) (f r n : Nat) : Bool :=
  (s.round? f r).any (fun x => decide (x.cfg.lzCount < ceilDiv n tileSize))

/-- The code a QP's round gives: unknown or ended, or too small. -/
def State.bindCode (s : State) (f r n : Nat) : Nat :=
  if r = 0 then 0
  else if !(s.round? f r).any (fun x => x.live_) then 0x0110
  else if s.neverFits f r n then 0x010A else 0

/-- The lowest QPN from `n` that is neither allocated nor retired. -/
def State.freeQpn (s : State) : Nat → Nat → Option Nat
  | 0, _ => none
  | k + 1, n =>
    if 2 ^ 20 ≤ n then none
    else if (s.qp? n).isSome || decide (evictTop ≤ Sparse.get 0 s.evictions n + 1) then s.freeQpn k (n + 1)
    else some n

/-- The ply bundle (R302). -/
def State.plyBundle (s : State) (b : Nat) : Bool := s.rd Reg.plyRole != 0 && b == s.rd Reg.plyBundle

/-- A field that holds its bytes in wire order, most significant byte first (R8, R388). -/
def wireAt (b : Bytes) (off len : Nat) : Nat := leNat (slice b off len).reverse

/-- A QP as its record describes it. -/
def qpOf (n f ports : Nat) (b : Bytes) : Qp :=
  let fl := leAt b 1 1
  { qpn := n, func := f, st := .init, initiate := leAt b 0 1 == 0, bundle := leAt b 2 1, npath := leAt b 3 1 + 1
    mtu := leAt b 4 2, maxMsg := leAt b 8 8, ipv4 := bit fl 2, peerAddr := wireAt b 16 (if bit fl 2 then 4 else 16)
    peerPort := wireAt b 32 2
    peerQpn := leAt b 36 4, filter := leAt b 40 48, tq := leAt b 88 4, ai := leAt b 96 8, round := leAt b 104 5
    plyAttr := bit fl 1, pinned := bit fl 0, ports := ports }

/-- Words of a handshake request (R320, R333): an initiator's nonce, scalar and ML-KEM seed, a responder's nonce, scalar and
encapsulation randomness. -/
def helloWords : Nat := 18
def acceptWords : Nat := 14

/-- CREATE_QP: an initiator asks for its nonce and ephemerals, a listener listens. With a cache of contexts none of which may
go, the new context goes to the table at once. DESIGN CHOICE (log entry 122) -/
def State.createQp (s : State) (f : Nat) (b : Bytes) : (Nat × Nat) × State :=
  let bundle := leAt b 2 1
  if !qpRecordOk b then ((0x0A14, 0), s)
  else if !bit (s.rd Reg.fnBundles f) bundle then ((0x060E, 0), s)
  else if s.plyBundle bundle && !bit (leAt b 1 1) 1 then ((0x0806, 0), s)
  else if !s.subUsable f .identity (·.sign) then ((0x0601, 0), s)
  else if bit (leAt b 1 1) 0 && s.pinRefused f then
    ((0x040A, 0), s.raise f 0x040A 1 ((s.freeQpn (s.qps.length + s.evictions.length + 1) 0).getD 0))
  else if s.bindCode f (leAt b 104 5) (leAt b 8 8) ≠ 0 then ((s.bindCode f (leAt b 104 5) (leAt b 8 8), 0), s)
  else match s.freeQpn (s.qps.length + s.evictions.length + 1) 0 with
    | none => ((0x0413, 0), s)
    | some n =>
      let q := { qpOf n f (s.rd Reg.qpcBundle 0 bundle) b with lastUse := s.time }
      let q1 := if q.initiate then q else { q with st := .listen }
      let s1 := match s.cacheRoom n with
        | some v => { v with qps := v.qps ++ [q1] }
        | none => ({ s with qps := s.qps ++ [q1] } : State).evict n
      ((0, n), if q.initiate then s1.ask 0 1 helloWords (.handshake n) else s1)

/-! ## QP_CTL (R244, R250, R253) -/

/-- A QP_CTL descriptor with a given action on a QP of the function; another's QPN, or an action the QP's state does not
take, is a value out of range. DESIGN CHOICE -/
def State.qpCtl (s : State) (f n : Nat) (desc : Bytes) (action : Nat) (body : Nat → Qp → State → Nat × State) : State :=
  let a := jArg1 (leNat desc) % 256
  if a ≠ action && (action != 1 || (decide (1 ≤ a) && decide (a ≤ 5))) then s
  else s.job0 f n desc 8 (fun d s =>
    if a ≠ action then ((0x0A14, 0), s)
    else match (s.qp? (jArg0 d)).filter (fun q => q.func == f) with
      | none => ((0x0A14, 0), s)
      | some q =>
        let (c, s1) := body d q s
        ((c, 0), s1))

/-- Start draining (R244). -/
def State.startDrain (s : State) (qpn : Nat) : State := s.updQp qpn (fun q => { q with st := .draining, drainAt := s.time })

/-- Action 1. The CLOSE packet goes at the command. DEDUCED -/
def State.qpClose (s : State) (f n : Nat) (desc : Bytes) : State :=
  s.qpCtl f n desc 1 (fun _ q s =>
    if q.st ≠ .rts then (0x0A14, s)
    else (0, ((s.sendControl q.qpn .close).startDrain q.qpn).drainCheck
      q.qpn))

/-- Action 2. -/
def State.qpDestroy (s : State) (f n : Nat) (desc : Bytes) : State :=
  s.qpCtl f n desc 2 (fun _ q s =>
    if q.st ≠ .closed && q.st ≠ .error then (0x0A14, s) else (0, { s with qps := s.qps.filter (fun x => x.qpn != q.qpn) }))

/-- Action 3: a context that is not on chip is fetched. -/
def State.qpPin (s : State) (f n : Nat) (desc : Bytes) : State :=
  s.qpCtl f n desc 3 (fun _ q s =>
    if q.pinned then (0, s)
    else if s.pinRefused f then (0x040A, s.raise f 0x040A 1 q.qpn)
    else (0, (s.updQp q.qpn (fun q => { q with pinned := true })).startFetch q.qpn))

/-- Action 4. -/
def State.qpUnpin (s : State) (f n : Nat) (desc : Bytes) : State :=
  s.qpCtl f n desc 4 (fun _ q s => (0, s.updQp q.qpn (fun q => { q with pinned := false })))

/-- Action 5. -/
def State.qpBind (s : State) (f n : Nat) (desc : Bytes) : State :=
  s.qpCtl f n desc 5 (fun d q s =>
    let r := bits (jArg1 d) 8 40
    let c := s.bindCode f r q.maxMsg
    if c ≠ 0 then (c, s) else (0, (s.updQp q.qpn (fun q => { q with round := r })).creditAll))

/-! ## Handshake packets (R241) -/

/-- A handshake packet's bytes before its signature. -/
def handshakeBytes (ver op dst path now : Nat) (body : Bytes) : Bytes := kztHeader ver op 0 dst 0 0 0 path now 0 ++ body
/-- The bytes of a packet as it arrived: base header and body. -/
def packetBytes (p : Packet) : Bytes := kztHeader p.ver p.opcode p.flags p.dst p.psn p.epoch p.msn p.path p.tstamp p.plen ++ p.body

/-- Bytes of the HELLO body and of the ACCEPT body, without the signature; of a REFUSE body. -/
def helloLen : Nat := 1802
def acceptLen : Nat := 1802
def refuseLen : Nat := 40

/-- The two keys of a connection (R242). -/
def keyOf (label : String) (x ss transcript : Nat) : Nat :=
  sha384Key (asciiBytes label ++ toLe 48 x ++ toLe 32 ss ++ toLe 48 transcript)

/-- A QP has its keys: it is in RTS with the rate a new QP has (R251), its ephemerals zeroised. -/
def State.keyed (s : State) (qpn x ss : Nat) (hello accept : Bytes) : State :=
  let t := sha384N (hello ++ accept)
  s.updQp qpn (fun q =>
    let k := ((List.range 64).filter (fun p => bit q.ports p)).length
    { q with
      st := .rts
      keyIR := keyOf "CLTH-KZT-1-IR" x ss t
      keyRI := keyOf "CLTH-KZT-1-RI" x ss t
      ephScalar := 0
      ephKem := 0
      accepting := false
      tx := { q.tx with rate := min (k * 50000000000) 50000000000 } })

/-! ## Handshake packets that leave: at most one a bundle in 10 µs (R251) -/

/-- CLK_FAB cycles between handshake packets of a bundle. -/
def shakeGap : Nat := 13500

/-- A packet of a QP with no keys leaves on its next port. -/
def State.outShake (s : State) (q1 : Qp) (port op : Nat) (pkt : Bytes) : State :=
  ((s.updQp q1.qpn (fun _ => q1)).emit (.control q1.qpn op pkt)).bump Reg.portTxFrames port

/-- The first HELLO of an initiator: in HANDSHAKE from now on (R241, R244). -/
def State.outHello (s : State) (q1 : Qp) (port path : Nat) : State :=
  let id := s.idScalar q1.func
  let body := toLe 2 (s.rd Reg.devKztVerMin) ++ toLe 2 (s.rd Reg.devKztVerMax) ++ toLe 4 q1.qpn ++ q1.nonceI
    ++ p384Point q1.ephScalar ++ mlkemPublic q1.ephKem ++ p384Point id
  let m := handshakeBytes 0 opHello q1.peerQpn path s.time body
  let pkt := m ++ ecdsaSign id m
  s.outShake { q1 with st := .handshake, hello := pkt, attempts := 1, helloAt := s.time } port opHello pkt

/-- The ACCEPT of a responder: in RTS from now on, with its keys (R241, R242, R244). `ephKem` holds its nonce and, above it,
the encapsulation randomness. -/
def State.outAccept (s : State) (q1 : Qp) (port path : Nat) : State :=
  let e := q1.ephScalar
  let ek := slice q1.hello 169 1568
  let r := q1.ephKem / 2 ^ 256
  let id := s.idScalar q1.func
  let body := toLe 2 q1.ver ++ toLe 2 0 ++ toLe 4 q1.qpn ++ toLe 32 (q1.ephKem % 2 ^ 256) ++ p384Point e
    ++ mlkemEncap ek r ++ p384Point id
  let m := handshakeBytes q1.ver opAccept q1.peerQpn path s.time body
  let pkt := m ++ ecdsaSign id (q1.hello ++ m)
  ((s.outShake { q1 with acceptPkt := pkt } port opAccept pkt).keyed q1.qpn
    (ecdh e (slice q1.hello 72 97)) (mlkemShared ek r) q1.hello pkt).creditAll

/-- A waiting handshake packet leaves. A HELLO or an ACCEPT goes again as it went, byte for byte (R243). -/
def State.sendShake (s : State) (q1 : Qp) (port path : Nat) : ShakeKind → State
  | .hello => s.outHello q1 port path
  | .helloAgain => s.outShake { q1 with attempts := q1.attempts + 1, helloAt := s.time } port opHello q1.hello
  | .accept => s.outAccept q1 port path
  | .acceptAgain => s.outShake q1 port opAccept q1.acceptPkt
  | .refuse dst code nonce =>
    s.outShake q1 port opRefuse (handshakeBytes 0 opRefuse dst path s.time (toLe 2 code ++ toLe 6 0 ++ nonce))

/-- Bytes on the wire of a handshake packet: no extension and no tag. -/
def State.shakeWire (s : State) (q : Qp) (k : ShakeKind) : Nat :=
  s.wireBytes q (match k with
    | .refuse _ _ _ => refuseLen
    | _ => helloLen + 96) - 32

/-- The handshake packet of a bundle that goes next: the first to wait whose QP has a port up and, on a sealed bundle, the slot
(R361). -/
def State.nextShake (s : State) (b : Nat) : Option (Shake × Nat × Nat × Qp) :=
  s.shakes.findSome? (fun k => ((s.qp? k.qpn).filter (fun q => q.bundle == b && s.slotOk q (s.shakeWire q k.kind))).bind (fun q =>
    (s.hop q).map (fun h => (k, h))))

/-- The bundle's next handshake packet leaves, when 10 µs have passed since the one before. -/
def State.serveShake (s : State) (b : Nat) : State :=
  if s.time < Sparse.get 0 s.shakeNext b then s
  else match s.nextShake b with
    | none => s
    | some (k, port, path, q1) =>
      ({ s with shakes := s.shakes.erase k, shakeNext := Sparse.set 0 s.shakeNext b (s.time + shakeGap) } : State).sendShake q1 port path k.kind

/-- A handshake packet of a QP is to go: at once where it may, else in its turn. -/
def State.shake (s : State) (q : Qp) (k : ShakeKind) : State :=
  ({ s with shakes := s.shakes ++ [{ qpn := q.qpn, kind := k }] } : State).serveShake q.bundle

/-- A HELLO or an ACCEPT of the QP waits to go again. -/
def State.shaking (s : State) (q : Qp) : Bool :=
  s.shakes.any (fun k => k.qpn == q.qpn && (k.kind == .helloAgain || k.kind == .acceptAgain))

/-- An initiator's words have been served: its HELLO is to go. -/
def State.helloServed (s : State) (q : Qp) (ws : List Word) : State :=
  let again := ws.length == 6
  let cand := wordsNat (if again then ws else (ws.drop 4).take 6)
  let nonce := if again then q.nonceI else toLe 32 (wordsNat (ws.take 4))
  let kem := if again then q.ephKem else wordsNat (ws.drop 10)
  let q1 := { q with nonceI := nonce, ephKem := kem }
  if !scalarOk cand then (s.updQp q.qpn (fun _ => q1)).ask 0 1 6 (.handshake q.qpn)
  else (s.updQp q.qpn (fun _ => { q1 with ephScalar := cand + 1 })).shake q .hello

/-- A responder's words have been served: its ACCEPT is to go. -/
def State.acceptServed (s : State) (q : Qp) (ws : List Word) : State :=
  let again := ws.length == 6
  let held := if again then q.ephKem else wordsNat (ws.take 4) + wordsNat (ws.drop 10) * 2 ^ 256
  let cand := wordsNat (if again then ws else (ws.drop 4).take 6)
  if !scalarOk cand then (s.updQp q.qpn (fun q => { q with ephKem := held })).ask 0 1 6 (.handshake q.qpn)
  else (s.updQp q.qpn (fun q => { q with ephScalar := cand + 1, ephKem := held })).shake q .accept

/-- A handshake request has been served (R320). -/
def State.handshakeServed (s : State) (qpn : Nat) (ws : List Word) : State :=
  match s.qp? qpn with
  | none => s
  | some q =>
    if q.st = .init then s.helloServed q ws
    else if q.st = .listen ∧ q.accepting then s.acceptServed q ws
    else s

/-! ## Checks before a handshake packet is acted on (R239) -/

/-- A packet fails check 1, 2 or 4. -/
def State.dropMalformed (s : State) : State := s.bump Reg.qpcDropMalformed
/-- A packet of function `f`'s QP fails check 5: 0x0403 at most once a millisecond for a QP. -/
def State.dropAuth (s : State) (q : Qp) : State :=
  let s1 := (s.bump Reg.qpcDropAuth).bump Reg.fnFDropAuth q.func
  if q.rx.authAt.any (fun t => decide (s.time < t + 1350000)) then s1
  else (s1.raise q.func 0x0403 1 q.qpn).updQp q.qpn (fun q => { q with rx := { q.rx with authAt := some s.time } })
/-- A packet fails check 3. -/
def State.dropCtx (s : State) (q : Qp) (n : Nat := 1) : State :=
  ((s.bump Reg.qpcDropCtxMiss 0 n).bump Reg.fnFDropCtxMiss q.func n).raise q.func 0x0401 1 q.qpn

/-- The opcodes of R236. -/
def opcodes : List Nat := [opHello, opAccept, opRefuse, opSend, opWrite, opAck, opNak, opClose]

/-- Opcodes of data packets. -/
def isData (p : Packet) : Bool := p.opcode == opSend || p.opcode == opWrite

/-- An ACK's body is well formed. -/
def ackWf (b : Bytes) : Bool := zerosAt b [(3, 1), (19, 1), (23, 1)]

/-- The packet's length is that of PLEN and of its opcode's body, and the body's reserved fields are zero (R238, R241). A packet
without payload has PLEN 0: R236 counts payload bytes, and the bodies of control and handshake packets are fixed. DESIGN CHOICE
(log entry 121) -/
def bodyOk (p : Packet) : Bool :=
  if isData p then p.body.length == p.plen
  else p.plen == 0 && p.msn == 0 &&
    (if p.opcode = opAck then p.body.length == 56 && ackWf p.body
     else if p.opcode = opNak then p.body.length == 12 && zerosAt p.body [(3, 1), (10, 2)]
     else if p.opcode = opClose then p.body.length == 0
     else p.psn == 0 && p.epoch == 0 &&
      (if p.opcode = opHello then p.body.length == helloLen + 96 && decide (leAt p.body 4 4 < 2 ^ 20)
       else if p.opcode = opAccept then p.body.length == acceptLen + 96 && leAt p.body 2 2 == 0 && decide (leAt p.body 4 4 < 2 ^ 20)
       else p.body.length == refuseLen && leAt p.body 2 6 == 0))

/-- Check 1 on a frame with a good FCS: R232, the base header and the length (R238). The MTU is checked with the QP. -/
def packetWf (p : Packet) : Bool :=
  p.netOk && p.rsvdOk && opcodes.contains p.opcode && !bit p.flags 3 && decide (p.plen ≤ 8192) && bodyOk p

/-- A frame arrives for the command that handles `op`: counted at its port, then checks 1 and 2, PLEN above the QP's MTU among
them; a context whose eviction this cycle chose stays. `other` says that this command takes packets with a reserved opcode
too. -/
def State.frame (s : State) (p : Packet) (op : Nat) (other : Bool) (body : Qp → State → State) : State :=
  if !s.ready || (p.opcode != op && !(other && !opcodes.contains p.opcode)) then s
  else if !p.fcsOk then (s.bump Reg.portFcsErrors p.port).dropMalformed
  else
    let s1 := s.bump Reg.portRxFrames p.port
    if !packetWf p || p.dport ≠ s.rd Reg.qpcKztUdpPort then s1.dropMalformed
    else match s1.qp? p.dst with
      | none => s1.dropMalformed
      | some q0 =>
        if q0.mtu < p.plen then s1.dropMalformed
        else
          let s2 := s1.keepContext q0
          match s2.qp? p.dst with
          | none => s2
          | some q => body q s2

/-- A packet of a context on chip: counted, and the context used. -/
def State.hit (s : State) (qpn : Nat) : State :=
  (s.bump Reg.qpcCacheHits).updQp qpn (fun q => { q with lastUse := s.time, rxAt := some s.time })

/-- A handshake packet whose context is on chip. -/
def State.handshakeIn (s : State) (p : Packet) (op : Nat) (body : Qp → State → State) : State :=
  s.frame p op false (fun q s => if !q.cached then s.dropCtx q else body q (s.hit q.qpn))

/-! ## HELLO, ACCEPT, REFUSE -/

/-- HELLO at a responder: signature, PEER_FILTER, version, then the random words of its ACCEPT. -/
def State.hello (s : State) (p : Packet) : State :=
  s.handshakeIn p opHello (fun q s =>
    let nonce := slice p.body 8 32
    if p.ver ≠ 0 || (q.st != .listen && q.st != .rts) then s.dropMalformed
    else
      let id := slice p.body 1705 97
      let bytes := packetBytes p
      if !ecdsaVerify id (bytes.take (bytes.length - 96)) (bytes.drop (bytes.length - 96)) then s.dropAuth q
      else if q.st = .rts then (if nonce = q.nonceI ∧ !q.initiate ∧ !s.shaking q then s.shake q .acceptAgain else s)
      else if q.accepting then s
      else if q.filter ≠ 0 ∧ q.filter ≠ sha384N id then s.shake q (.refuse (leAt p.body 4 4) 0x0407 nonce)
      else match negotiate (leAt p.body 0 2) (leAt p.body 2 2) (s.rd Reg.devKztVerMin) (s.rd Reg.devKztVerMax) with
        | none => s.shake q (.refuse (leAt p.body 4 4) 0x0404 nonce)
        | some v =>
          (s.updQp q.qpn (fun q => { q with
            accepting := true, ver := v, peerId := sha384N id, peerQpn := leAt p.body 4 4, nonceI := nonce, hello := bytes })).ask
            0 1 acceptWords (.handshake q.qpn))

/-- ACCEPT at the initiator. One whose signature fails is counted under check 5 of R239, and R241 sends the QP to ERROR with
the code on any failure: both are done. DEDUCED (log entry 121) -/
def State.accept (s : State) (p : Packet) : State :=
  s.handshakeIn p opAccept (fun q s =>
    let own := decide (s.rd Reg.devKztVerMin ≤ p.ver) && decide (p.ver ≤ s.rd Reg.devKztVerMax)
    if q.st ≠ .handshake || !own then s.dropMalformed
    else
      let id := slice p.body 1705 97
      let bytes := packetBytes p
      if !ecdsaVerify id (q.hello ++ bytes.take (bytes.length - 96)) (bytes.drop (bytes.length - 96)) then
        ((s.bump Reg.qpcDropAuth).bump Reg.fnFDropAuth q.func).qpEnd q.qpn .error 0x0403
      else if q.filter ≠ 0 ∧ q.filter ≠ sha384N id then s.qpEnd q.qpn .error 0x0407
      else if leAt p.body 0 2 ≠ p.ver then s.qpEnd q.qpn .error 0x0404
      else
        let x := ecdh q.ephScalar (slice p.body 40 97)
        let ss := mlkemDecap q.ephKem (slice p.body 137 1568)
        ((s.updQp q.qpn (fun q => { q with ver := p.ver, peerId := sha384N id, peerQpn := leAt p.body 4 4 })).keyed q.qpn x ss
          q.hello bytes).creditAll)

/-- Attempts of a handshake (R243). -/
def attemptMax : Nat := 3

/-- REFUSE at the initiator: it names the outstanding HELLO, its code is recorded and, while an attempt is left, the next one
is brought forward. It ends no handshake: the last attempt runs its 10 ms (R239, R241). -/
def State.refuse (s : State) (p : Packet) : State :=
  s.handshakeIn p opRefuse (fun q s =>
    if p.ver ≠ 0 || q.st ≠ .handshake || slice p.body 8 32 ≠ q.nonceI then s.dropMalformed
    else
      let s1 := s.updQp q.qpn (fun q => { q with lastCode := leAt p.body 0 2 })
      if q.attempts < attemptMax && !s.shaking q then s1.shake q .helloAgain else s1)

/-- HANDSHAKE_RETRY: 10 ms without an answer, HELLO goes again; after three attempts the QP gives up, with the code a REFUSE
left or 0x0408. -/
def State.handshakeRetry (s : State) (qpn : Nat) : State :=
  match s.qp? qpn with
  | none => s
  | some q =>
    if !s.ready || q.st ≠ .handshake || s.shaking q || decide (s.time < q.helloAt + 13500000) then s
    else if q.attempts < attemptMax then s.shake q .helloAgain
    else s.qpEnd qpn .error (if q.lastCode = 0 then 0x0408 else q.lastCode)

/-- CREATE_QP (R388). -/
def execCreateQp (f n : Nat) (desc : Bytes) (rec : Option Bytes) (s : State) : Res :=
  .next (s.job f n desc 7 (some 128) rec (fun _ b s => s.createQp f b))
/-- QP_CLOSE (R244). -/
def execQpClose (f n : Nat) (desc : Bytes) (s : State) : Res := .next (s.qpClose f n desc)
/-- QP_DESTROY (R244). -/
def execQpDestroy (f n : Nat) (desc : Bytes) (s : State) : Res := .next (s.qpDestroy f n desc)
/-- QP_PIN (R253). -/
def execQpPin (f n : Nat) (desc : Bytes) (s : State) : Res := .next (s.qpPin f n desc)
/-- QP_UNPIN (R253). -/
def execQpUnpin (f n : Nat) (desc : Bytes) (s : State) : Res := .next (s.qpUnpin f n desc)
/-- QP_BIND (R250). -/
def execQpBind (f n : Nat) (desc : Bytes) (s : State) : Res := .next (s.qpBind f n desc)
/-- HELLO (R241). -/
def execHello (p : Packet) (s : State) : Res := .next (s.hello p)
/-- ACCEPT (R241). -/
def execAccept (p : Packet) (s : State) : Res := .next (s.accept p)
/-- REFUSE (R241). -/
def execRefuse (p : Packet) (s : State) : Res := .next (s.refuse p)
/-- HANDSHAKE_RETRY (R243). -/
def execHandshakeRetry (qpn : Nat) (s : State) : Res := .next (s.handshakeRetry qpn)

end Sys2Proof.Machine
end

