-- ==== Sys2Proof/Machine/Receive.lean ====
section
/-! DEFINITION. Receiving on a queue pair: the checks of R239 from check 3 on, the receive window (R245), placement and
completion of messages (R265 to R274), ACK, NAK and CLOSE (R246 to R251, R269), and the arrival of a context (R255, R256). -/
namespace Sys2Proof.Machine
open Sys2Proof

/-! ## Trackers and the receive window (R245) -/

/-- Trackers of the device. -/
def trackerMax : Nat := 4096
/-- Reassembly slots of the device (R273). -/
def reasmMax : Nat := 1024

/-- Trackers in use. -/
def State.trackersUsed (s : State) : Nat := (s.qps.map (fun q => b2n q.tx.tracker + b2n q.rx.tracker)).sum

/-- CUM moves past what has been received. -/
def advance (got : List Nat) : Nat → Nat → Nat
  | 0, c => c
  | n + 1, c => if got.contains c then advance got n (c + 1) else c

/-- A data packet is marked received. -/
def Qp.mark (q : Qp) (seq : Nat) : Qp :=
  let x := q.rx
  let got := seq :: x.got
  let cum := advance got got.length x.cum
  let rest := got.filter (fun p => decide (cum ≤ p))
  { q with rx := { x with
      cum := cum
      got := rest
      highest := max x.highest seq
      tracker := (x.tracker || decide (x.cum + 64 < seq)) && !rest.isEmpty } }

/-- A new arrival is acknowledged at once (R246): it opens the first gap, closes the lowest one, asks for it, ends a message,
or is the sixteenth. -/
def Qp.ackAtOnce (q : Qp) (p : Packet) (seq : Nat) : Bool :=
  bit p.flags 1 || bit p.flags 2 || decide (16 ≤ q.rx.sinceAck + 1) || (q.rx.got.isEmpty && seq != q.rx.cum)
    || (seq == q.rx.cum && q.rx.got.contains (seq + 1))

/-- An ACK that packet `p` triggers. -/
def State.ackNow (s : State) (qpn : Nat) (p : Packet) : State :=
  (s.updQp qpn (fun q => { q with rx := { q.rx with echo := p.tstamp, echoAt := s.time } })).sendAck qpn

/-- An arrival is counted towards the next ACK. -/
def State.arrived (s : State) (qpn : Nat) (p : Packet) : State :=
  s.updQp qpn (fun q =>
    let x := { q.rx with sinceAck := q.rx.sinceAck + 1 }
    { q with rx := if x.firstUnacked.isSome then x else { x with firstUnacked := some s.time, echo := p.tstamp, echoAt := s.time } })

/-- A packet fails check 6. -/
def State.dropWindow (s : State) (q : Qp) : State := (s.bump Reg.qpcDropWindow).bump Reg.fnFDropWindow q.func

/-- Message `m` is beyond the credit given (R250). -/
def Qp.overCredit (q : Qp) (m : Nat) : Bool :=
  match q.rx.credit with
  | none => true
  | some c => decide (2 ^ 23 ≤ (c + 2 ^ 24 - m % 2 ^ 24) % 2 ^ 24)

/-! ## Messages being received (R237, R271 to R273) -/

/-- The message a first packet begins. -/
def rxNew (p : Packet) : RxMsg :=
  { msn := p.msn, write := p.opcode == opWrite, handle := if p.opcode = opWrite then p.arg else 0
    len := if p.opcode = opWrite then 0 else p.arg, first := none, final := none, got := [], data := [], held := false
    failed := false, recs := [] }

/-- The packet's lengths and offsets agree with R237 and with what its message has shown. -/
def Qp.packetFits (q : Qp) (m : RxMsg) (p : Packet) (seq : Nat) : Bool :=
  let final := bit p.flags 1
  m.write == (p.opcode == opWrite) && (final || p.plen == q.mtu)
    && (if m.write then m.handle == p.arg && (match m.first with
          | some (s0, o0) => decide (s0 ≤ seq) && p.off == o0 + (seq - s0) * q.mtu
          | none => true)
        else m.len == p.arg && decide (1 ≤ p.arg) && decide (p.arg ≤ q.maxMsg) && p.off % q.mtu == 0 && decide (p.off / q.mtu ≤ seq)
          && (bit p.flags 0 == (p.off == 0)) && (final == (p.off + p.plen == p.arg)) && decide (p.off + p.plen ≤ p.arg)
          && m.first.all (fun v => v.1 == seq - p.off / q.mtu))

/-- The message with a packet added. -/
def RxMsg.add (m : RxMsg) (mtu : Nat) (p : Packet) (seq : Nat) (plain : Bytes) : RxMsg :=
  { m with
    first := if m.write then (if bit p.flags 0 then some (seq, p.off) else m.first) else some (seq - p.off / mtu, 0)
    final := if bit p.flags 1 then some (seq, p.off + p.plen) else m.final
    got := seq :: m.got
    data := if m.failed then [] else writeBytes m.data p.off plain }

/-- Every PSN of the message has arrived. -/
def RxMsg.whole (m : RxMsg) : Bool :=
  match m.first, m.final with
  | some (a, _), some (b, _) => (List.range (b + 1 - a)).all (fun i => m.got.contains (a + i))
  | _, _ => false

/-- Reassembly slots in use. -/
def State.reasmUsed (s : State) : Nat := (s.qps.map (fun q => (q.rx.msgs.filter (fun m => m.held)).length)).sum

/-- Put a message of a QP. -/
def Qp.putMsg (q : Qp) (m : RxMsg) : Qp :=
  { q with rx := { q.rx with msgs := q.rx.msgs.filter (fun v => v.msn != m.msn) ++ [m] } }

/-- A message is no longer being received; its reservation is freed. -/
def State.dropMsg (s : State) (qpn msn : Nat) : State :=
  s.updQp qpn (fun q => { q with rx := { q.rx with
    msgs := q.rx.msgs.filter (fun v => v.msn != msn), resv := q.rx.resv.filter (fun v => v.1 != msn) } })

/-- A message fails (R268); 0x040B and 0x040C go to the window's function as well (R283). -/
def State.failMsg (s : State) (q : Qp) (m : RxMsg) (seq code : Nat) : State :=
  let s1 := s.rxFail q.qpn m.msn seq code
  let s2 := if m.whole then s1.dropMsg q.qpn m.msn else s1
  if code = 0x0402 then s2 else s2.raise q.func code 6 m.handle

/-! ## Completion (R266, R272) -/

/-- The first words of the kinds of message (R83, R103, R293, R304, R129, R137). -/
def magicCohort : Nat := 0x48434C43
def magicReturn : Nat := 0x524E4C43
def magicPartial : Nat := 0x44504C43
def magicPly : Nat := 0x59504C43
def magicMsg : Nat := 0x48544C43

/-- A completed SEND message goes to what its first word names; one with no such word is a row list where the QP's round
takes one (R153), else a contribution in error (R84). -/
def State.deliver (s : State) (q : Qp) (lz : Nat) (msg : Bytes) : State :=
  let k := leAt msg 0 4
  let f := q.func
  if k = magicCohort then s.cohortMessage f q.qpn msg
  else if k = magicReturn then s.committeeReturn f q.qpn msg
  else if k = magicPartial then s.partialMsg f q.qpn msg
  else if k = magicPly then s.plyMessage f q.qpn msg
  else match (if k = magicMsg then none else s.rowListRound f q.qpn) with
    | some x => s.rowListMsg f q.qpn x msg
    | none => s.message f (s.boundTo (some q.qpn) (hRound (hdrOf msg))) false false lz msg

/-- A message has completed: what it does is seen when its completion is posted (R272). -/
def State.awaitPost (s : State) (q : Qp) (m : RxMsg) (k : PostKind) : State :=
  { s with posts := s.posts ++ [{ qpn := q.qpn, msn := m.msn, kind := k }] }

/-- A SEND message completes at its reservation's first tile. -/
def State.sendDone (s : State) (q : Qp) (m : RxMsg) : State :=
  s.awaitPost q m (.send (((q.rx.resv.find? (fun v => v.1 == m.msn)).map (fun v => v.2.1)).getD 0) (readBytes m.data 0 m.len))

/-- Records of a TILE message that have all their bytes and are not combined yet, ascending, after packet `p` (R267). The
record the message ends in waits while its FINAL packet is held. -/
def RxMsg.ready (m : RxMsg) (mtu : Nat) (p : Packet) (seq : Nat) : List Nat :=
  let have_ := fun (k : Int) => decide (0 ≤ k) && m.got.contains k.toNat && !(m.held && m.final.any (fun v => (v.1 : Int) == k))
  let pkt := fun (x : Nat) => (seq : Int) + ((x : Int) - p.off) / mtu
  let near := fun (o n : Nat) => (List.range (ceilDiv (o % recordLen + n) recordLen)).map (fun i => o / recordLen + i)
  let last := match m.final with
    | some (b, e) => near (p.off + (b - seq) * mtu) (e - (p.off + (b - seq) * mtu))
    | none => []
  (near p.off p.plen ++ last).dedup.filter (fun i =>
    !m.recs.contains i &&
      (let a := pkt (i * recordLen)
       let b := pkt ((i + 1) * recordLen - 1)
       (List.range (b - a + 1).toNat).all (fun k => have_ (a + k))))

/-- Check and combine records in ascending order: false when one is refused. -/
def State.combineRecords (s : State) (w : Window) (qpn msn : Nat) (data : List Host.Cell) : List Nat → Bool × State
  | [] => (true, s)
  | i :: is =>
    let (ok, s1) := s.record w qpn i (readBytes data (i * recordLen) recordLen)
    if !ok then (false, s1)
    else (s1.updQp qpn (fun q => { q with rx := { q.rx with
      msgs := updIf q.rx.msgs (fun m => m.msn == msn) (fun m => { m with recs := i :: m.recs }) } })).combineRecords w qpn msn data is

/-- A LANDING message completes: its bytes are to lie in the window (R266). -/
def State.landingDone (s : State) (q : Qp) (w : Window) (m : RxMsg) (off n : Nat) : State :=
  s.awaitPost q m (.landing w.ctr w.addend (w.base + off / tileSize) (readBytes m.data off n))

/-- A completion is posted. A SEND message goes where its first word says; a LANDING message lies in its window, is treated as
a SEND message, and CTR takes ADDEND (R266). What waited for the message to end may go on. -/
def State.postOne (s : State) (c : Completion) : State :=
  match s.qp? c.qpn with
  | none => s
  | some q =>
    let s1 := s.dropMsg c.qpn c.msn
    let s2 := match c.kind with
      | .send lz msg => s1.deliver q lz msg
      | .landing ctr addend lz msg =>
        let s3 := s1.place lz msg
        (s3.message q.func (s3.boundTo (some q.qpn) (hRound (hdrOf msg))) true false lz msg).ctrAdd q.func ctr addend
    s2.creditAll.drainCheck c.qpn

/-- The completions of a cycle are posted at its end, by ascending QPN and then MSN (R274). -/
def State.postAll (s : State) : State :=
  (sortBy (fun c => c.qpn * 2 ^ 24 + c.msn) s.posts).foldl (fun s c => s.postOne c) { s with posts := [] }

/-- A WRITE packet has been added to its message: the window's checks (R265, R267), placement and completion. -/
def State.written (s : State) (q : Qp) (m : RxMsg) (p : Packet) (seq : Nat) : State :=
  match s.windowFor q p.arg with
  | none => s.failMsg q m seq 0x0402
  | some w =>
    let whole := m.whole
    let (_, off) := m.first.getD (0, 0)
    let n := (m.final.map (·.2)).getD 0 - off
    if w.len < p.off + p.plen || (bit p.flags 0 && p.off % w.unit != 0)
        || (whole && ((w.tileKind && n % recordLen != 0) || decide (q.maxMsg < n))) then s.failMsg q m seq 0x040B
    else if !w.tileKind then (if whole then s.landingDone q w m off n else s)
    else
      let (ok, s1) := s.combineRecords w q.qpn m.msn m.data (m.ready q.mtu p seq)
      if !ok then s1.failMsg q m seq 0x040C
      else if whole then s1.dropMsg q.qpn m.msn else s1

/-- What a packet added to its message brings about. -/
def State.packetPlaced (s : State) (q : Qp) (m : RxMsg) (p : Packet) (seq : Nat) : State :=
  if m.failed then (if m.whole then s.dropMsg q.qpn m.msn else s)
  else if m.write then s.written q m p seq
  else if m.whole then s.sendDone q m else s

/-! ## Data packets (R239 checks 6 and 7) -/

/-- A data packet of a QP has passed check 5. A duplicate below CUM counts as one of check 7. DEDUCED. In DRAINING no packet of
a message none of whose packets came before is taken: its FIRST would not be (R244). DESIGN CHOICE (log entry 121) -/
def State.dataIn (s : State) (q : Qp) (p : Packet) : State :=
  let seq := seqOf p.epoch p.psn
  let x := q.rx
  let probe := p.opcode == opSend && p.plen == 0
  let known := x.msgs.find? (fun m => m.msn == p.msn)
  if x.cum + 4095 < seq || (decide (x.cum + 64 < seq) && !x.tracker && decide (trackerMax ≤ s.trackersUsed)) || (!probe && q.overCredit p.msn
      && decide (x.cum ≤ seq)) then s.dropWindow q
  else if seq < x.cum || x.got.contains seq then
    ((s.bump Reg.qpcDropDup).bump Reg.fnFDropDup q.func).ackNow q.qpn p
  else if probe then s.ackNow q.qpn p
  else if q.st = .draining ∧ known.isNone then s.dropWindow q
  else
    let m := known.getD (rxNew p)
    if !q.packetFits m p seq then s.dropMalformed
    else
      let aad := kztHeader p.ver p.opcode p.flags p.dst p.psn p.epoch p.msn p.path p.tstamp p.plen
        ++ kztExt (p.opcode == opWrite) p.off p.arg
      let m1 := m.add q.mtu p seq (gcmCrypt q.keyIn (dataIv (p.flags / 16) p.psn p.epoch) aad p.body)
      let held := bit p.flags 1 && !m1.whole && !m.failed
      if held && decide (reasmMax ≤ s.reasmUsed) then (s.bump Reg.qpcReasmDrops).bump Reg.fnFReasmDrops q.func
      else
        let m2 := { m1 with held := (m1.held || held) && !m1.whole }
        let s1 := (s.updQp q.qpn (fun q => (q.mark seq).putMsg m2)).arrived q.qpn p
        let s2 := (s1.packetPlaced q m2 p seq).creditAll
        let s3 := if q.ackAtOnce p seq then s2.ackNow q.qpn p else s2
        s3.drainCheck q.qpn

/-! ## Control packets -/

/-- Checks of a control packet that has passed check 5: its CSEQ is the greatest so far. -/
def State.controlIn (s : State) (q : Qp) (p : Packet) (body : State → State) : State :=
  let c := p.psn + p.epoch * 2 ^ 24
  if c ≤ q.rx.cseq then s.dropWindow q
  else body (s.updQp q.qpn (fun q => { q with rx := { q.rx with cseq := c } }))

/-- The line rate of a QP's bundle, bytes a second (R234, R251). -/
def State.rateMax (s : State) (q : Qp) : Nat :=
  ((List.range 64).filter (fun p => bit q.ports p && bit (s.rd Reg.qpcBundle 0 q.bundle) p)).length * 50000000000
/-- RATE_MIN. -/
def rateMin : Nat := 125000000

/-- The rate after an RTT sample (R251). -/
def nextRate (rate rmax ai r tgt : Nat) : Nat :=
  if r ≤ tgt then min rmax (rate + ai)
  else max rateMin (rate * max (10 * r - 8 * (r - tgt)) (5 * r) / (10 * r))

/-- An RTT sample (R248, R251). The first sample sets SRTT and half of it RTTVAR (RFC 6298). PRESUMED -/
def QpTx.sample (x : QpTx) (q : Qp) (rmax now r : Nat) : QpTx :=
  let rtts := (now, r) :: x.rtts.filter (fun p => decide (now < p.1 + 13500000000))
  let base := rtts.foldl (fun a p => min a p.2) r
  let srtt := if x.srtt = 0 then r else (7 * x.srtt + r) / 8
  let var := if x.srtt = 0 then r / 2 else (3 * x.rttvar + (max x.srtt r - min x.srtt r)) / 4
  let x1 := { x with rtts := rtts, srtt := srtt, rttvar := var, backoff := 0 }
  if now < x.lastAdjust + srtt then x1
  else { x1 with rate := nextRate x.rate rmax q.ai r (base + q.tq), lastAdjust := now }

/-- A packet of the sender is acknowledged by an ACK's body (R238). -/
def ackedBy (b : Bytes) (seq : Nat) : Bool :=
  let cum := seqOf (leAt b 4 4) (leAt b 0 3)
  let base := cum + (leAt b 20 3 + 2 ^ 24 - cum % 2 ^ 24) % 2 ^ 24
  decide (seq < cum) || (decide (base ≤ seq) && decide (seq < base + 256) && bit (leAt b 24 32) (seq - base))

/-- All of a message has been sent. -/
def TxMsg.allSent (m : TxMsg) : Bool := m.seq0.isSome && decide (m.data.length ≤ m.sent)

/-- An ACK (R247, R250, R251). -/
def State.ackIn (s : State) (q : Qp) (p : Packet) : State :=
  let b := p.body
  let x := q.tx
  let acked := x.unacked.filter (fun k => ackedBy b k.seq)
  let rest := x.unacked.filter (fun k => !ackedBy b k.seq)
  let x1 := { x with credit := some (leAt b 16 3) }
  if acked.isEmpty then (s.updQp q.qpn (fun q => { q with tx := x1 })).drainCheck q.qpn
  else
    let r := (s.time % 2 ^ 32 + 2 ^ 33 - leAt b 8 4 - leAt b 12 4) % 2 ^ 32
    let late := acked.foldl (fun a k => max a k.blockAt) 0
    let rest1 := updIf rest (fun k => k.sends == 1 && decide (k.blockAt + s.rd Reg.qpcReorderT ≤ late)) (fun k => { k with lost := true })
    let done := x.queue.filter (fun m => m.allSent && !rest1.any (fun k => k.msn == m.msn))
    let x2 := { (x1.sample q (s.rateMax q) s.time r) with
      unacked := rest1
      tracker := x.tracker && decide (64 < rest1.length)
      queue := x.queue.filter (fun m => !(m.allSent && !rest1.any (fun k => k.msn == m.msn))) }
    let s1 := s.updQp q.qpn (fun q => { q with tx := x2 })
    ((done.filter (fun m => !m.naked)).foldl (fun s m => s.txDone m.owner) s1).drainCheck q.qpn

/-- Packets of a message. -/
def TxMsg.packets (m : TxMsg) (mtu : Nat) : Nat := max 1 (ceilDiv m.data.length mtu)

/-- A NAK (R269): the message completes with the code, and the rest of it goes as bytes of 0xFF. -/
def State.nakIn (s : State) (q : Qp) (p : Packet) : State :=
  let seq := seqOf (leAt p.body 4 4) (leAt p.body 0 3)
  let code := leAt p.body 8 2
  match q.tx.queue.find? (fun m => m.seq0.any (fun a => decide (a ≤ seq) && decide (seq < a + m.packets q.mtu))) with
  | none => s
  | some m =>
    if m.naked then s
    else
      let s1 := s.updQp q.qpn (fun q => { q with tx := { q.tx with
        queue := updIf q.tx.queue (fun v => v.msn == m.msn && v.seq0.isSome) (fun v => { v with naked := true, owner := .nobody }) } })
      (s1.txFail code m.owner).raise q.func code 1 q.qpn seq

/-! ## Checks 3 to 5 (R239, R255) -/

/-- The GCM tag of a data or control packet is right (R242). -/
def tagOk (p : Packet) (q : Qp) : Bool :=
  let h := kztHeader p.ver p.opcode p.flags p.dst p.psn p.epoch p.msn p.path p.tstamp p.plen
  if isData p then p.tag == gcmMac q.keyIn (dataIv (p.flags / 16) p.psn p.epoch) (h ++ kztExt (p.opcode == opWrite) p.off p.arg) p.body
  else p.tag == gcmMac q.keyIn (controlIv (p.psn + p.epoch * 2 ^ 24)) (h ++ p.body) []

/-- A data or control packet from check 4 on, its context on chip. A QP with no keys passes no tag. -/
def State.checked (s : State) (qpn : Nat) (p : Packet) : State :=
  match s.qp? qpn with
  | none => s.dropMalformed
  | some q =>
    if p.ver ≠ q.ver || q.ver = 0 then s.dropMalformed
    else if (q.st != .rts && q.st != .draining) || !tagOk p q then s.dropAuth q
    else if isData p then s.dataIn q p
    else s.controlIn q p (fun s =>
      if p.opcode = opAck then s.ackIn q p
      else if p.opcode = opNak then s.nakIn q p
      else if q.st = .rts then (s.startDrain q.qpn).drainCheck q.qpn else s)

/-- Bytes a packet takes in the basin. -/
def packetSize (p : Packet) : Nat := 32 + (if isData p then 16 else 0) + p.body.length + 16
/-- Bytes of the basin, packets of a QP in it (R255). -/
def basinMax : Nat := 16777216
def parkMax : Nat := 64

/-- Bytes in the basin. -/
def State.basinUsed (s : State) : Nat := (s.qps.map (fun q => (q.parked.map packetSize).sum)).sum

/-- Park a packet whose context is not on chip, and start the fetch. -/
def State.park (s : State) (q : Qp) (p : Packet) : State :=
  if parkMax ≤ q.parked.length || decide (basinMax < s.basinUsed + packetSize p) || (q.fetchAt.isNone && decide (fetchMax ≤ s.fetches)) then
    s.dropCtx q
  else ((s.bump Reg.qpcCacheMisses).updQp q.qpn (fun q => { q with parked := q.parked ++ [p] })).startFetch q.qpn

/-- A data or control packet arrives for the command of opcode `op`. -/
def State.packetIn (s : State) (p : Packet) (op : Nat) (other : Bool) : State :=
  s.frame p op other (fun q s =>
    if q.cached then (s.hit q.qpn).checked q.qpn p else s.park q p)

/-! ## Contexts that arrive (R254 to R256) -/

/-- CONTEXT_FETCH_DONE: the context is authentic when its tag is and its count is the table's. -/
def State.fetched (s : State) (qpn : Nat) (tagOk : Bool) (count : Nat) : State :=
  match s.qp? qpn with
  | none => s
  | some q =>
    if !s.ready || q.fetchAt.isNone || !s.dmaOk 0 then s
    else if !tagOk || count ≠ Sparse.get 0 s.evictions qpn then s.qpEnd qpn .error 0x0406
    else match s.cacheRoom qpn with
      | none => s
      | some s1 =>
        q.parked.foldl (fun s p => s.checked qpn p)
          (s1.updQp qpn (fun q => { q with cached := true, fetchAt := none, parked := [], lastUse := s.time }))

/-- FETCH_TIMEOUT. -/
def State.fetchLate (s : State) (qpn : Nat) : State :=
  match s.qp? qpn with
  | none => s
  | some q =>
    if !s.ready || !q.fetchAt.any (fun t => decide (t + s.rd Reg.qpcFetchTimeout < s.time)) then s
    else
      let s1 := s.updQp qpn (fun q => { q with fetchAt := none, parked := [] })
      if q.parked.isEmpty then s1 else s1.dropCtx q q.parked.length

/-- SEND (R239, R271); a packet with a reserved opcode is dropped here as malformed. -/
def execSend (p : Packet) (s : State) : Res := .next (s.packetIn p opSend true)
/-- WRITE (R265). -/
def execWrite (p : Packet) (s : State) : Res := .next (s.packetIn p opWrite false)
/-- ACK (R247). -/
def execAck (p : Packet) (s : State) : Res := .next (s.packetIn p opAck false)
/-- NAK (R269). -/
def execNak (p : Packet) (s : State) : Res := .next (s.packetIn p opNak false)
/-- CLOSE (R244). -/
def execClose (p : Packet) (s : State) : Res := .next (s.packetIn p opClose false)
/-- CONTEXT_FETCH_DONE (R256). -/
def execContextFetchDone (qpn : Nat) (tagOk : Bool) (count : Nat) (s : State) : Res := .next (s.fetched qpn tagOk count)
/-- FETCH_TIMEOUT (R256). -/
def execFetchTimeout (qpn : Nat) (s : State) : Res := .next (s.fetchLate qpn)

end Sys2Proof.Machine
end

