-- ==== Sys2Proof/Machine/Transmit.lean ====
section
/-! DEFINITION. Sending on a queue pair: pacing and the order of service (R251, R252), selective repeat (R247, R248), credit
probes (R250), the timers of a QP, sealed slots (R361), and ports that come and go (R235, R283, R450). -/
namespace Sys2Proof.Machine
open Sys2Proof

/-! ## The next packet of a QP (R247, R250) -/

/-- What a QP may send next: a lost packet, or the next packet of a message. -/
inductive TxNext where
  | again (k : TxPkt)
  | fresh (m : TxMsg)
  deriving DecidableEq, Repr

/-- The lost packet to send first. One that a timeout declared lost in this very cycle waits: an ACK of the same cycle comes
first (R248). -/
def Qp.lostPkt (q : Qp) (now : Nat) : Option TxPkt :=
  minBy? (·.seq) (q.tx.unacked.filter (fun k => k.lost && k.lateAt != some now))

/-- The message whose packets go next; a QP in DRAINING begins none. -/
def Qp.nextMsg (q : Qp) : Option TxMsg :=
  match q.tx.queue.find? (fun m => !m.allSent) with
  | some m => if q.st = .rts ∨ m.seq0.isSome then some m else none
  | none => none

/-- MSN of a message: its own once begun. -/
def Qp.msnOf (q : Qp) (m : TxMsg) : Nat := if m.seq0.isSome then m.msn else q.tx.msn

/-- The credit last received admits message `n`. -/
def Qp.creditFor (q : Qp) (n : Nat) : Bool :=
  match q.tx.credit with
  | none => false
  | some c => decide ((c + 2 ^ 24 - n % 2 ^ 24) % 2 ^ 24 < 2 ^ 23)

/-- The window of R247 admits one more packet. -/
def State.windowRoom (s : State) (q : Qp) : Bool :=
  let n := q.tx.unacked.length
  decide (n ≤ 63) || (decide (n < 4096) && (q.tx.tracker || decide (s.trackersUsed < trackerMax)))

/-- What QP `q` may send now, pacing apart. -/
def State.txNext (s : State) (q : Qp) : Option TxNext :=
  if q.st != .rts && q.st != .draining then none
  else match q.lostPkt s.time with
    | some k => some (.again k)
    | none =>
      match q.nextMsg with
      | some m => if q.creditFor (q.msnOf m) && s.windowRoom q then some (.fresh m) else none
      | none => none

/-- Payload bytes of what goes next. -/
def TxNext.len (q : Qp) : TxNext → Nat
  | .again k => k.len
  | .fresh m => min q.mtu (m.data.length - m.sent)

/-! ## Pacing (R251, R252, R361) -/

/-- A packet of `wire` bytes may leave: a port is up, its release time has come, and the slot holds it. -/
def State.paced (s : State) (q : Qp) (wire : Nat) : Bool :=
  q.cached && decide (q.tx.nextSend ≤ s.time + spacing wire q.tx.rate) && s.slotOk q wire && (s.hop q).isSome

/-- The QP may send a packet of its own now. -/
def State.released? (s : State) (q : Qp) : Bool := (s.txNext q).any (fun n => s.paced q (s.wireBytes q (n.len q)))

/-- The QP the weir serves first among those of its bundle. -/
def State.servedFirst (s : State) (q : Qp) : Bool :=
  s.qps.all (fun v => v.qpn == q.qpn || v.bundle != q.bundle || !s.released? v
    || decide (q.tx.nextSend < v.tx.nextSend) || (q.tx.nextSend == v.tx.nextSend && decide (q.qpn < v.qpn)))

/-- A data packet leaves: encrypted and tagged, on the next port and path. The QP is given with its ports moved on. -/
def State.sendData (s : State) (q1 : Qp) (port path write flags retry seq msn off arg : Nat) (plain : Bytes) : State :=
  let op := if write = 1 then opWrite else opSend
  let h := kztHeader q1.ver op (flags + 16 * retry) q1.peerQpn seq (seq / 2 ^ 24) msn path s.time plain.length
    ++ kztExt (write == 1) off arg
  let iv := dataIv retry (seq % 2 ^ 24) (seq / 2 ^ 24)
  let ct := gcmCrypt q1.keyOut iv h plain
  let t := spacing (s.wireBytes q1 plain.length) q1.tx.rate
  let s1 := ((s.updQp q1.qpn (fun _ => { q1 with lastUse := s.time, tx := { q1.tx with nextSend := max q1.tx.nextSend s.time + t } })).emit
    (.data q1.qpn op seq retry path port ct (leNat (gcmMac q1.keyOut iv h ct)))).bump Reg.portTxFrames port
  if retry = 0 then s1 else (s1.bump Reg.qpcRetransmits).bump Reg.fnFRetransmits q1.func

/-- A packet of a message goes out. `off` is its offset in the message; after a NAK its bytes are 0xFF (R269). -/
def State.sendPart (s : State) (q1 : Qp) (port path : Nat) (m : TxMsg) (msn retry seq off n : Nat) : State :=
  let plain := if m.naked then List.replicate n 0xFF else slice m.data off n
  let flags := b2n (off == 0) + 2 * b2n (m.data.length ≤ off + n)
  if m.write then s.sendData q1 port path 1 flags retry seq msn (m.offset + off) m.handle plain
  else s.sendData q1 port path 0 flags retry seq msn off m.data.length plain

/-- CLK_FAB cycles a path stays suspect (R235). -/
def suspectT : Nat := 1350000

/-- The QP with the path of a packet that goes again after a timeout marked suspect from now on (R235). -/
def Qp.suspect (q : Qp) (now : Nat) (k : TxPkt) : Qp :=
  if k.lateAt.isNone then q
  else { q with tx := { q.tx with suspects := (k.path, now + suspectT) :: q.tx.suspects.filter (fun p => p.1 != k.path) } }

/-- A lost packet goes again; a seventeenth transmission is not made (R243). -/
def State.sendAgain (s : State) (q : Qp) (k : TxPkt) : State :=
  match s.hop (q.suspect s.time k), q.tx.queue.find? (fun m => m.seq0.isSome && m.msn == k.msn) with
  | some (port, path, q1), some m =>
    if 16 ≤ k.retry + 1 then s.qpEnd q.qpn .error 0x0409
    else
      let x := { q1.tx with unacked := updIf q1.tx.unacked (fun v => v.seq == k.seq) (fun v =>
        { v with retry := k.retry + 1, sends := k.sends + 1, path := path, sentAt := s.time, lost := false, lateAt := none }) }
      s.sendPart { q1 with tx := x } port path m k.msn (k.retry + 1) k.seq k.off k.len
  | _, _ => s

/-- Block of 64 sequence numbers (R247). -/
def blockOf (seq : Nat) : Nat := seq / 64

/-- The next packet of a message goes for the first time, unless probes have used up its transmissions (R243). -/
def State.sendFresh (s : State) (q : Qp) (m : TxMsg) : State :=
  let seq := q.tx.seq
  if 0xFFFFFFFE < seq / 2 ^ 24 then s.qpEnd q.qpn .error 0x0405
  else if 16 ≤ q.tx.probes then s.qpEnd q.qpn .error 0x0409
  else match s.hop q with
    | none => s
    | some (port, path, q1) =>
      let msn := q.msnOf m
      let n := min q.mtu (m.data.length - m.sent)
      let block := if seq % 64 = 0 || (q.tx.blockAt = 0) then s.time else q.tx.blockAt
      let x := q1.tx
      let k : TxPkt := { seq := seq, msn := msn, off := m.sent, len := n, retry := x.probes, sends := 1, path := path
                         sentAt := s.time, blockAt := block, lost := false }
      let upd := fun (v : TxMsg) => { v with msn := msn, seq0 := some (v.seq0.getD seq), sent := v.sent + n }
      let first := x.queue.findIdx (fun v => !v.allSent)
      let x1 := { x with
        seq := seq + 1
        msn := if m.seq0.isSome then x.msn else (x.msn + 1) % 2 ^ 24
        queue := updAt x.queue first upd
        unacked := x.unacked ++ [k]
        tracker := x.tracker || decide (64 < x.unacked.length + 1)
        probes := 0
        blockedSince := none
        blockAt := block }
      s.sendPart { q1 with tx := x1 } port path m msn x.probes seq m.sent n

/-- A QP with nothing to send but a message beyond its credit is blocked from now on. -/
def State.noteBlocked (s : State) (q : Qp) : State :=
  if q.tx.blockedSince.isNone && (q.lostPkt s.time).isNone && (q.nextMsg).any (fun m => !q.creditFor (q.msnOf m)) then
    s.updQp q.qpn (fun q => { q with tx := { q.tx with blockedSince := some s.time } })
  else s

/-- The QP's handshake packet is the next of its bundle, and its time has come (R251). -/
def State.shakeDue (s : State) (q : Qp) : Bool :=
  decide (Sparse.get 0 s.shakeNext q.bundle ≤ s.time) && (s.nextShake q.bundle).any (fun k => k.1.qpn == q.qpn)

/-- KZT_PACKET_TRANSMIT (R251): a handshake packet that waits, control packets that wait, or the QP's next data packet; a context
that is not on chip is fetched first. -/
def State.transmit (s : State) (qpn : Nat) : State :=
  match s.qp? qpn with
  | none => s
  | some q =>
    if s.ready && s.shakeDue q then s.serveShake q.bundle
    else if !s.ready || (q.st != .rts && q.st != .draining) then s
    else if !q.cached then s.startFetch qpn
    else if !q.ctl.isEmpty then (s.sendCtl qpn q.ctl).drainCheck qpn
    else match s.txNext q with
      | none => s.noteBlocked q
      | some n =>
        if !s.released? q || !s.servedFirst q then s
        else match n with
          | .again k => s.sendAgain q k
          | .fresh m => s.sendFresh q m

/-- CREDIT_PROBE (R250): an empty SEND with the PSN of the next data packet, released like any data packet (R251, R252); each
uses one of that PSN's transmissions (R243). -/
def State.probe (s : State) (qpn : Nat) : State :=
  match s.qp? qpn with
  | none => s
  | some q =>
    let due := q.tx.blockedSince.any (fun t => decide (t + s.rd Reg.qpcProbeT ≤ s.time))
    let blocked := (q.nextMsg).any (fun m => !q.creditFor (q.msnOf m))
    if !s.ready || (q.st != .rts && q.st != .draining) || !q.cached || !due || !blocked || !s.paced q (s.wireBytes q 0) || !s.servedFirst q then s
    else if 0xFFFFFFFE < q.tx.seq / 2 ^ 24 then s.qpEnd qpn .error 0x0405
    else if 16 ≤ q.tx.probes then s.qpEnd qpn .error 0x0409
    else match s.hop q with
      | none => s
      | some (port, path, q1) =>
        let x := { q1.tx with probes := q1.tx.probes + 1, blockedSince := some s.time }
        s.sendData { q1 with tx := x } port path 0 4 q.tx.probes q.tx.seq q.tx.msn 0 0 []

/-! ## Timers (R235, R244, R246, R248) -/

/-- RTO. -/
def State.rto (s : State) (q : Qp) : Nat :=
  min (s.rd Reg.qpcRtoMax) (max (s.rd Reg.qpcRtoMin) (q.tx.srtt + 4 * q.tx.rttvar) * 2 ^ q.tx.backoff)

/-- RTO_EXPIRY (R247, R251). -/
def State.rtoExpiry (s : State) (qpn seq : Nat) : State :=
  match s.qp? qpn with
  | none => s
  | some q =>
    match q.tx.unacked.find? (fun k => k.seq == seq) with
    | none => s
    | some k =>
      if !s.ready || k.lost || decide (s.time < k.sentAt + s.rto q) then s
      else
        let s1 := s.bump Reg.qpcRtoExpiries
        if s.rd Reg.qpcRetryLimit ≤ k.sends then s1.qpEnd qpn .error 0x0409
        else s1.updQp qpn (fun q => { q with tx := { q.tx with
          unacked := updIf q.tx.unacked (fun v => v.seq == seq) (fun v => { v with lost := true, lateAt := some s.time })
          backoff := q.tx.backoff + 1
          rate := rateMin } })

/-- PATH_SUSPECT_EXPIRY (R235). -/
def State.pathClear (s : State) (qpn h : Nat) : State :=
  if !s.ready then s
  else s.updQp qpn (fun q => { q with tx := { q.tx with
    suspects := q.tx.suspects.filter (fun p => p.1 != h || decide (s.time < p.2)) } })

/-- ACK_TIMER (R246): 2 µs after the first arrival not yet acknowledged. -/
def State.ackTimer (s : State) (qpn : Nat) : State :=
  match s.qp? qpn with
  | none => s
  | some q => if s.ready && q.rx.firstUnacked.any (fun t => decide (t + 2700 ≤ s.time)) then s.sendAck qpn else s

/-- DRAINING_TIMEOUT (R244): 10 ms. -/
def State.drainLate (s : State) (qpn : Nat) : State :=
  match s.qp? qpn with
  | none => s
  | some q => if s.ready && q.st == .draining && decide (q.drainAt + 13500000 ≤ s.time) then s.qpEnd qpn .closed 0 else s

/-! ## Ports (R235, R283, R450) -/

/-- The source CLK_LNK of octet `n` locks to: its lowest port that is up, or SYS_REFCLK. -/
def State.linkSource (s : State) (n : Nat) : Nat :=
  (((List.range 8).map (8 * n + ·)).find? (fun p => s.rdb Reg.portUp p)).getD 0x3F

/-- CLK_LNK of a port's octet follows. -/
def State.relock (s : State) (port : Nat) : State :=
  let n := port / 8
  (s.wr Reg.clkLnkSrc (putBits (s.rd Reg.clkLnkSrc) (6 * n) 6 (s.linkSource n))).wr Reg.clkLnkLock
    (putBits (s.rd Reg.clkLnkLock) n 1 1)

/-- A bundle has no port up: PF0 and every function with a QP bound to it are told. -/
def State.bundleDown (s : State) (b : Nat) : State :=
  if (List.range 64).any (fun p => bit (s.rd Reg.qpcBundle 0 b) p && s.rdb Reg.portUp p) then s
  else s.raiseAll ((0 :: (s.qps.filter (fun q => q.bundle == b)).map (·.func)).dedup) 0x0412 3 b

/-- The ports are out of reset and run. -/
def State.portsRun (s : State) : Bool := s.pins.dataPath && !s.pins.stopped && !s.pins.frz && !s.pins.perst

/-- PORT_DOWN. A port that has lost its link has to train again. DEDUCED -/
def State.portDown (s : State) (port : Nat) : State :=
  if !s.portsRun || s.nports ≤ port || !s.rdb Reg.portUp port then s
  else
    let s1 := (((s.wr Reg.portUp 0 port).wr Reg.portAnDone 0 port).bump Reg.portLinkDowns port).relock port
    ((List.range 64).filter (fun b => bit (s.rd Reg.qpcBundle 0 b) port)).foldl (fun s b => s.bundleDown b) (s1.raise 0 0x0410 2 port)

/-- A port's link comes up. -/
def State.linkUp (s : State) (port : Nat) : State := ((s.wr Reg.portUp 1 port).wr Reg.portAnDone 1 port).relock port

/-- PORT_UP. -/
def State.portUp (s : State) (port : Nat) : State :=
  if !s.portsRun || s.nports ≤ port || s.rdb Reg.portUp port then s
  else
    let s1 := s.linkUp port
    if s1.ready then s1.raise 0 0x0411 2 port else s1

/-- KZT_PACKET_TRANSMIT (R251). -/
def execKztPacketTransmit (qpn : Nat) (s : State) : Res := .next (s.transmit qpn)
/-- ACK_TIMER (R246). -/
def execAckTimer (qpn : Nat) (s : State) : Res := .next (s.ackTimer qpn)
/-- RTO_EXPIRY (R247). -/
def execRtoExpiry (qpn seq : Nat) (s : State) : Res := .next (s.rtoExpiry qpn seq)
/-- PATH_SUSPECT_EXPIRY (R235). -/
def execPathSuspectExpiry (qpn h : Nat) (s : State) : Res := .next (s.pathClear qpn h)
/-- CREDIT_PROBE (R250). -/
def execCreditProbe (qpn : Nat) (s : State) : Res := .next (s.probe qpn)
/-- DRAINING_TIMEOUT (R244). -/
def execDrainingTimeout (qpn : Nat) (s : State) : Res := .next (s.drainLate qpn)
/-- PORT_DOWN (R235). -/
def execPortDown (port : Nat) (s : State) : Res := .next (s.portDown port)
/-- PORT_UP (R283). -/
def execPortUp (port : Nat) (s : State) : Res := .next (s.portUp port)

end Sys2Proof.Machine
end

