-- ==== Sys2Proof/Machine/Sync.lean ====
section
/-! DEFINITION. The SYNC input: markers, the epoch and their loss (R296 to R299, R310). The time between markers is counted
in cycles since power-up, which no epoch steps. -/
namespace Sys2Proof.Machine
open Sys2Proof

/-- CLK_FAB cycles between markers, and the time without one that is a loss (R298, R299). -/
def markerPeriod : Nat := 13500000
def markerTimeout : Nat := 13635000

/-- SYNC_EPOCH (R298): the number is staged for the next marker. -/
def State.syncEpoch (s : State) (r : Req) (m : Nat) : State :=
  s.privCmd r 0xE00010 (fun s => { s with sync := { s.sync with staged := some (m % 2 ^ 48) } })

/-- Functions with a staircase or plied round that has not ended. -/
def State.syncUsers (s : State) : List Nat :=
  ((s.rounds.filter (fun x => x.live_ && (x.cfg.isStair || x.ply.plied))).map (·.func)).dedup

/-- The timebase no longer follows SYNC (R299). -/
def State.syncLost (s : State) : State :=
  let s1 := ((s.wr Reg.gateEpochValid 0).wr Reg.gateSyncLock 0).bump Reg.gateSyncLossCount
  s1.raiseAll ((0 :: s1.syncUsers).dedup) 0x0A12

/-- The epoch staged for this marker: it never moves the timebase backward (R298). -/
def State.loadEpoch (s : State) : State :=
  match s.sync.staged with
  | none => s
  | some m =>
    let t := m * markerPeriod
    let s1 := { s with sync := { s.sync with staged := none } }
    if t < s.time then s1.bump Reg.gateSyncLossCount else { s1 with time := t, ctl := {} }.wr Reg.gateEpochValid 1

/-- A marker (R296, R298, R299). -/
def State.marker (s : State) : State :=
  if !s.portsRun then s
  else
    let good := s.sync.lastMarker.any (fun t => s.upTime == t + markerPeriod)
    let s1 := s.loadEpoch
    let s2 := { (s1.wr Reg.gateSyncPresent 1).wr Reg.gateMarkTime s1.time with sync := { s1.sync with lastMarker := some s.upTime } }
    let s3 := if good then s2.wr Reg.gateSyncLock 1 else s2
    if s3.rdb Reg.gateEpochValid && s3.time % markerPeriod != 0 then s3.syncLost else s3

/-- No marker within the time R299 allows. -/
def State.markerLate (s : State) : State :=
  if s.portsRun && s.rdb Reg.gateEpochValid && decide (s.sync.lastMarker.getD 0 + markerTimeout < s.upTime) then s.syncLost else s

/-- SYNC_EPOCH (R298). -/
def execSyncEpoch (r : Req) (m : Nat) (s : State) : Res := .next (s.syncEpoch r m)
/-- SYNC_MARKER (R298). -/
def execSyncMarker (s : State) : Res := .next s.marker
/-- SYNC_MARKER_TIMEOUT (R299). -/
def execSyncMarkerTimeout (s : State) : Res := .next s.markerLate

end Sys2Proof.Machine
end

