-- ==== Sys2Proof/Machine/Checkpoint.lean ====
section
/-! DEFINITION. CHECKPOINT, RESUME (R427 to R429) and LEAF_DIGESTS (R430). -/
namespace Sys2Proof.Machine
open Sys2Proof

/-- What a checkpoint written by another device holds: R428 fixes its header and chunks, not the layout of its content. -/
opaque checkpointOf : Bytes → Ckpt

/-! ## The sealed form (R428) -/

/-- Bytes of the header, of a chunk, of a chunk with its tag. -/
def ckptHeader : Nat := 256
def ckptChunk : Nat := 65536
def ckptStride : Nat := 65552

/-- K_c. -/
def ckptKc (key id : Nat) : Nat := sha384Key (asciiBytes "CLTH-CKPT-1" ++ toLe 32 key ++ toLe 32 id)

/-- The words of a function's partition a header carries (R365, R285). -/
def State.partWords (s : State) (f : Nat) : List Nat :=
  [s.rd Reg.fnSpindles f, s.rd Reg.fnNearBase f + s.rd Reg.fnNearCount f * 2 ^ 32, s.rd Reg.fnFarBase f + s.rd Reg.fnFarCount f * 2 ^ 24,
   s.rd Reg.fnCtrBase f, s.rd Reg.fnCtrCount f]

/-- The header without its tag. -/
def State.ckptHead (s : State) (f id chunks : Nat) : Bytes :=
  toLe 16 (0x4B434C43 + 1 * 2 ^ 32 + b2n s.otp.gradeE * 2 ^ 40 + s.rd Reg.devQgVerMax * 2 ^ 48 + s.rd Reg.attAbiVer f * 2 ^ 64)
    ++ toLe 32 id ++ ((s.partWords f).map (toLe 8)).flatten ++ toLe 8 0 ++ toLe 8 s.time ++ toLe 8 chunks ++ toLe 128 0

/-- A checkpoint as it lies in host memory. -/
def sealCkpt (kc : Nat) (head body : Bytes) (chunks : Nat) : Bytes :=
  head ++ gcmMac kc (toLe 12 (2 ^ 32 - 1)) head [] ++ ((List.range chunks).map (fun i =>
    let pt := slice body (i * ckptChunk) ckptChunk
    let ct := gcmCrypt kc (toLe 12 i) [] (pt ++ List.replicate (ckptChunk - pt.length) 0)
    ct ++ gcmMac kc (toLe 12 i) [] ct)).flatten

/-- Every tag of a checkpoint is right, and its length is that of its chunks. -/
def ckptTagsOk (kc : Nat) (b : Bytes) : Bool :=
  let n := leAt b 104 8
  b.length == ckptHeader + n * ckptStride && slice b 240 16 == gcmMac kc (toLe 12 (2 ^ 32 - 1)) (b.take 240) []
    && (List.range n).all (fun i =>
      slice b (ckptHeader + i * ckptStride + ckptChunk) 16 == gcmMac kc (toLe 12 i) [] (slice b (ckptHeader + i * ckptStride) ckptChunk))

/-- The plaintext of a checkpoint's chunks. -/
def ckptPlain (kc : Nat) (b : Bytes) : Bytes :=
  ((List.range (leAt b 104 8)).map (fun i => gcmCrypt kc (toLe 12 i) [] (slice b (ckptHeader + i * ckptStride) ckptChunk))).flatten

/-! ## What is saved (R427) -/

/-- A round without its messages that are not folded: their slots are EMPTY, and no longer among the accepted. -/
def Round.forCkpt (r : Round) : Round :=
  let gone := (r.dedup.filter (fun p => p.2 == 1)).map (·.1)
  { gone.foldl (fun r n => r.setSlot n 0) r with
    intake := []
    live := []
    guardHold := []
    dupHold := []
    counts := { r.counts with accepted := r.counts.accepted - gone.length } }

/-- A program may be saved. -/
def SpState.parked : SpState → Bool
  | .stopped => true
  | .trapped => true
  | .done => true
  | .idle => true
  | .loaded => true
  | _ => false

/-- CHECKPOINT is possible now. -/
def State.ckptOk (s : State) (f : Nat) : Bool :=
  (s.spindlesOf f).all (fun j => (s.spin j).st.parked)
    && !s.rounds.any (fun r => r.func == f && (r.st == .guard || r.st == .unmask || r.st == .gated))
    && s.rd Reg.attSvc f != 2 && (s.fn f).ckptKey.isSome

/-- Tiles a checkpoint of a function saves. -/
def State.ckptTiles (s : State) (f : Nat) : List Nat :=
  ((s.rounds.filter (fun r => r.func == f && r.live_)).flatMap Round.tiles
    ++ (s.spindlesOf f).flatMap (fun j => (s.spin j).decls.flatMap (fun p => ((List.range p.2).map (p.1 + ·)).filter isFar))).dedup

/-- What a checkpoint of a function saves. -/
def State.ckptOf (s : State) (f id : Nat) : Ckpt :=
  let ts := sortBy id_ (s.ckptTiles f)
  let base := s.rd Reg.fnCtrBase f
  { id := id
    rounds := (s.rounds.filter (fun r => r.func == f && r.live_)).map Round.forCkpt
    lastRound := (s.fn f).lastRound
    ctrs := s.ctrs.filter (fun p => decide (base ≤ p.1) && decide (p.1 < base + s.rd Reg.fnCtrCount f))
    spindles := ((s.spindlesOf f).filter (fun j => !(s.spin j).image.isEmpty)).map (fun j => (j, s.spin j))
    tags := ts.map (fun t => (t, s.tag t))
    tiles := ts.flatMap (fun t => ((s.tileBytes t 0 tileSize).mapIdx (fun i b => (t * tileSize + i, b))).filter (fun p => p.2 != 0)) }
where
  id_ (x : Nat) : Nat := x

/-- CHECKPOINT (R427): checked, then its CKPT_ID is asked for. -/
def State.checkpoint (s : State) (f n : Nat) (desc : Bytes) : State :=
  let d := leNat desc
  if desc.length ≠ 64 || jOp d ≠ 0x10 || !s.ringTakes f n d then s
  else
    let s1 := s.takeJob f n
    if !jobWf d then s1.jobDone f n d 0x0A14 0
    else if !s1.ckptOk f || (s1.fn f).ckptJob.isSome then s1.jobDone f n d 0x0A25 0
    else (s1.updFn f (fun x => { x with ckptJob := some (n, d) })).ask 1 f 4 (.checkpoint f)

/-- A CHECKPOINT that waited completes, and with it a DESTROY that waited for it (R382). -/
def State.ckptDone (s : State) (f n d code result : Nat) : State :=
  let s1 := s.jobDone f n d code result
  if s1.rd Reg.ringBusy f n = 1 then s1.ringGone f n else s1

/-- A CHECKPOINT whose CKPT_ID has been drawn: once no fold is in flight on a staged tile, staged tiles and pages are written
back (R71, R72), and the checkpoint goes to the buffer. -/
def State.checkpointOn (s : State) (f : Nat) : State :=
  match (s.fn f).ckptJob, (s.fn f).ckptId with
  | some (n, d), some id =>
    let s0 := s.updFn f (fun x => { x with ckptJob := none, ckptId := none })
    let dirty := (s0.staged.filter (fun g => g.func == f && g.dirty)).map (·.tile)
    let pages := ((s0.pages.filter (fun g => g.func == f && g.dirty)).map (·.tile)).dedup
    if !s0.ckptOk f then s0.ckptDone f n d 0x0A25 0
    else if !s0.quiet (dirty ++ pages) then s
    else
      let s1 := pages.foldl (fun s t => s.pagesBack t) (dirty.foldl (fun s t => s.writeBack t) s0)
      let (k, s2) := s1.draw
      let body := Config.checkpointBody k
      let chunks := ceilDiv body.length ckptChunk
      let kc := ckptKc ((s2.fn f).ckptKey.getD 0) id
      let out := sealCkpt kc (s2.ckptHead f id chunks) body chunks
      if jRecLen d < out.length then s2.ckptDone f n d 0x0A25 0
      else ({ s2 with ckpts := s2.ckpts ++ [s2.ckptOf f id] }.hostPut f (jRecAddr d) out).ckptDone f n d 0 out.length
  | _, _ => s

/-- The CKPT_ID has been drawn. -/
def State.checkpointDrawn (s : State) (f : Nat) (ws : List Word) : State :=
  (s.updFn f (fun x => { x with ckptId := if x.ckptJob.isSome then some (wordsNat ws) else none })).checkpointOn f

/-- Checkpoints that wait for folds in flight go on. -/
def State.checkpointsOn (s : State) : State := (List.range 64).foldl (fun s f => s.checkpointOn f) s

/-! ## RESUME (R429) -/

/-- RESUME is refused. -/
def State.resumeBad (s : State) (f kc : Nat) (b : Bytes) : Bool :=
  !ckptTagsOk kc b || leAt b 0 4 != 0x4B434C43 || leAt b 4 1 != 1 || leAt b 5 1 != b2n s.otp.gradeE
    || leAt b 6 2 != s.rd Reg.devQgVerMax || leAt b 8 2 != s.rd Reg.attAbiVer f
    || (List.range 5).map (fun i => leAt b (48 + 8 * i) 8) != s.partWords f
    || (s.fn f).ckptKey.isNone || s.rd Reg.attSvc f != 0 || s.rounds.any (fun r => r.func == f && r.live_)
    || (s.spindlesOf f).any (fun j => (s.spin j).st != .idle)

/-- A tile of a checkpoint is put back: its tag, but for FAR and KEYGEN, which are the device's, and its data. -/
def State.restoreTile (s : State) (c : Ckpt) (t : Nat) (g : TileTag) : State :=
  let h := s.tag t
  let s1 := (s.setTag t { g with far := h.far, keygen := h.keygen }).wrote t
  s1.putTile t 0 ((List.range tileSize).map (fun i => Sparse.get 0 c.tiles (t * tileSize + i)))

/-- Tile bytes and tags of a checkpoint are put back. -/
def State.restoreTiles (s : State) (c : Ckpt) : State := c.tags.foldl (fun s p => s.restoreTile c p.1 p.2) s

/-- A round that had not drawn its seed asks for it again. -/
def State.redraw (s : State) (f : Nat) (r : Round) : State :=
  if r.st = .opening ∧ !r.drawn then s.ask 1 f (if r.cfg.mode = 2 then 18 else 4) (.roundOpen f r.cfg.round) else s

/-- A function's state is restored: rounds and counters, and programs in STOPPED. -/
def State.restore (s : State) (f : Nat) (c : Ckpt) : State :=
  let s1 := (c.ctrs.foldl (fun s p => s.ctrForce p.1 p.2) (s.restoreTiles c)).updFn f (fun x =>
    { x with lastRound := c.lastRound })
  let s2 := c.spindles.foldl (fun s p => s.updSpin p.1 (fun _ =>
    { p.2 with
      st := .stopped
      stopping := false
      wait := .none
      scratch := p.2.scratch.foldl (fun m q => Sparse.set 0 m q.1 q.2) [] })) s1
  let s3 := { s2 with rounds := s2.rounds.filter (fun r => r.func != f) ++ c.rounds }
  c.rounds.foldl (fun s r => s.redraw f r) s3

/-- RESUME: a checkpoint this device wrote holds what it saved; one of another device, what its content says. -/
def State.resumeCkpt (s : State) (f n : Nat) (desc : Bytes) (rec_ : Option Bytes) : State :=
  s.job f n desc 0x11 none rec_ (fun _ b s =>
    let kc := ckptKc ((s.fn f).ckptKey.getD 0) (leAt b 16 32)
    if s.resumeBad f kc b then ((0x0A26, 0), s)
    else
      let c := (s.ckpts.find? (fun c => c.id == leAt b 16 32)).getD (checkpointOf (ckptPlain kc b))
      ((0, 0), s.restore f c))

/-! ## LEAF_DIGESTS (R430) -/

/-- LEAF_DIGESTS: leaves that are not kept give 0x0A14 (R430), and so do a range beyond them and a buffer too small, of which
nothing is stated. DESIGN CHOICE (log entry 127) -/
def State.leafDigests (s : State) (f n : Nat) (desc : Bytes) : State :=
  let d := leNat desc
  if desc.length ≠ 64 || jOp d ≠ 0x12 || !s.ringTakes f n d then s
  else
    let s1 := s.takeJob f n
    let first := jArg1 d % 2 ^ 32
    let count := jArg1 d / 2 ^ 32
    let kept := ((s1.round? f (jArg0 d)).map (fun x => sortBy (·.1) x.gate.accLeaves)).getD []
    if !jobWf d || kept.isEmpty || decide (kept.length < first + count) || decide (jRecLen d < 32 * count) then s1.jobDone f n d 0x0A14 0
    else (s1.hostPut f (jRecAddr d) (((kept.drop first).take count).map (fun p => toLe 32 p.2)).flatten).jobDone f n d 0 count

/-- CHECKPOINT (R427). -/
def execCheckpoint (f n : Nat) (desc : Bytes) (s : State) : Res := .next (s.checkpoint f n desc)
/-- CHECKPOINT_RESUME (R429). -/
def execCheckpointResume (f n : Nat) (desc : Bytes) (rec_ : Option Bytes) (s : State) : Res := .next (s.resumeCkpt f n desc rec_)
/-- LEAF_DIGESTS (R430). -/
def execLeafDigests (f n : Nat) (desc : Bytes) (s : State) : Res := .next (s.leafDigests f n desc)

end Sys2Proof.Machine
end

