-- ==== Sys2Proof/Machine/Fatal.lean ====
section
/-! DEFINITION. What ends service: a failed boot (R398), a fatal event (R408), and the loss of creel tier 1 or of a far package
(R418, R419). -/
namespace Sys2Proof.Machine
open Sys2Proof

/-- Every key slot and subslot is zeroised, with the keys of every function. -/
def State.zeroAllKeys (s : State) : State :=
  let s1 := { s with
    nalam := { s.nalam with slots := s.nalam.slots.map KeySlot.zeroed }
    qps := s.qps.map (fun q => { q with keyIR := 0, keyRI := 0 })
    rounds := s.rounds.map (fun r => { r with keys := none }) }
  (List.range 64).foldl (fun s f => (s.clearAssets f).wr Reg.fnFkeyValid 0 f) s1

/-- STAGE is FAILED with a code, and BOOTFAIL_N is low. -/
def State.failed (s : State) (code detail : Nat) : State :=
  { ((s.wr Reg.bootStage 7).wr Reg.bootCode code).wr Reg.bootDetail detail with
    pins := { s.pins with bootfail := true } }

/-- The boot fails (R398): every block but the Nalam core, the PCIe controller and the sideband is held in reset. -/
def State.bootFail (s : State) (code detail : Nat) : State :=
  let s1 := (s.zeroAllKeys.failed code detail).wr Reg.rngState 0
  { s1 with
    rng := { index := s1.rng.index, collections := s1.rng.collections }
    pins := { s1.pins with dataPath := false, stopped := true } }

/-- A fatal event (R408). `clk`: PCIe and CLK_CTL still run, so the records are written. -/
def State.fatal (s : State) (code : Nat) (clk : Bool := true) : State :=
  if s.rdb Reg.evFatal then s
  else
    let s1 := if clk then s.raiseAll ((List.range 64).filter (fun f => (s.fn f).exists_)) code 0 0 true else s
    let s2 := { s1 with pins := { s1.pins with stopped := true } }.zeroAllKeys
    (((s2.wr Reg.evFatalCode code).wr Reg.evFatal 1).wr Reg.evFatalTime s.time).failed code 0

/-! ## Creel tier 1 (R418) -/

/-- Tile `t` is a near tile of tier 1 that has not been remapped. -/
def State.inTier1 (s : State) (t : Nat) : Bool := !isFar t && t % 2 == 1 && !s.remap.any (fun p => p.near == t)

/-- Odd near tiles of function `f`, ascending. -/
def State.oddTiles (s : State) (f : Nat) : List Nat :=
  ((List.range (s.rd Reg.fnNearCount f)).map (s.rd Reg.fnNearBase f + ·)).filter s.inTier1

/-- Far tile `t` is in no function's range, and holds no remapped tile. -/
def State.farFree (s : State) (t : Nat) : Bool :=
  !(List.range 64).any (fun f => (s.partition f).hasTile t) && !s.remap.any (fun p => p.far == t)

/-- The highest admissible far tile below `top` that is free. -/
def State.farFrom (s : State) : Nat → Option Nat
  | 0 => none
  | n + 1 => if s.farFree (0x800000 + n) then some (0x800000 + n) else s.farFrom n

/-- One odd tile is remapped; its contents are gone. Its far page's contents are open, so they are free values. It lies under
its function's memory key, or under the device key when there is none (R418). With no far tile left it is revoked. -/
def State.remapTile (s : State) (f t : Nat) : State :=
  match s.farFrom (s.farTop - 0x800000) with
  | some h =>
    let (d, s1) := ({ s with remap := s.remap ++ [{ near := t, far := h, device := !s.rdb Reg.fnMemkey f }] } : State).draw
    let gen := if s.rdb Reg.fnMemkey f ∧ s.rd Reg.fnCurgen f = 1 then 0xFFFF else 0
    { s1.setTag t { s1.tag t with far := true, keygen := gen } with
      tiles := writeBytes (Sparse.clear s1.tiles (h * tileSize) ((h + 1) * tileSize)) (h * tileSize) (toLe tileSize (Config.free d)) }
  | none => ((s.revokeTiles f (fun x => x == t)).unstageGone f (fun x => x == t)).wipeTile t

/-- A function in SERVICE is in RECOVERY while an action runs on it; a remap is over at once (R416). -/
def State.remapAll (s : State) (f : Nat) : State := (s.oddTiles f).foldl (fun s t => s.remapTile f t) s

/-- Tier 1 fails. -/
def State.tierLost (s : State) : State :=
  if s.rdb Reg.evTier1Lost then s
  else
    let fs := (List.range 64).filter (fun f => !(s.oddTiles f).isEmpty)
    let s1 := ((s.wr Reg.creelTier1Ok 0).wr Reg.evTier1Lost 1).raiseAll (0 :: fs).dedup 0x0A22
    let odd := s1.inTier1
    let s2 := fs.foldl (fun s f => s.abandonAll f 0x0A22 (fun r => r.tiles.any odd)) s1
    let s3 := (s2.staged.filter (fun g => odd g.slot)).foldl (fun s g => s.discardStage g.tile) s2
    let s4 := { s3 with pages := s3.pages.filter (fun g => !odd g.slot) }
    fs.foldl (fun s f => s.remapAll f) s4

/-! ## Far packages (R419) -/

/-- Package `p` (0 to 15, four to a quadrant) fails: from then on page `p` of every far tile reads as `farPage` says. -/
def State.packageLost (s : State) (p : Nat) : State :=
  let q := p / 4
  let s1 := (s.wr Reg.farPkgOk (putBits (s.rd Reg.farPkgOk q) (p % 4) 1 0) q).wr Reg.evPkgLost
    (Nat.lor (s.rd Reg.evPkgLost) (2 ^ p))
  let fs := (List.range 64).filter (fun f => s1.rd Reg.fnFarCount f != 0)
  let s2 := s1.raiseAll (0 :: fs).dedup 0x0A23
  (List.range 64).foldl (fun s f => s.abandonAll f 0x0A23 (fun r => r.tiles.any s1.isFarNow)) s2

end Sys2Proof.Machine
end

