-- ==== Sys2Proof/Machine/Rng.lean ====
section
/-! DEFINITION. The random bit generator: entropy sources and their tests (R312 to R315), collection and reseed (R316, R317),
the queue (R318), service of requests (R320), software reads (R321), and health failure (R325, R326). CLK_PER is CLK_FAB
over 8. -/
namespace Sys2Proof.Machine
open Sys2Proof

/-! ## States and sources -/

/-- STATE values (R325). -/
def rngStartup : Nat := 1
def rngSeeded : Nat := 2
def rngDraining : Nat := 3
def rngHalted : Nat := 4
def rngDead : Nat := 5

/-- Words of the output queue; words of a generate request; the level below which the DRBG refills (R316, R318). -/
def queueMax : Nat := 512
def genWords : Nat := 64
def refillBelow : Nat := 448
/-- CLK_FAB cycles of a source's settling. -/
def settleT : Nat := 675000
/-- Generate requests between reseeds at most. -/
def reseedRequests : Nat := 65536

/-- Change the generator. -/
def State.updRng (s : State) (g : Rng → Rng) : State := { s with rng := g s.rng }
/-- Source `k`. -/
def State.source (s : State) (k : Nat) : Source := s.rng.sources.getD k {}
/-- Change source `k`. -/
def State.updSource (s : State) (k : Nat) (g : Source → Source) : State := s.updRng (fun x => { x with sources := updAt x.sources k g })

/-- A source takes DECIM and starts to settle (R312, R315). -/
def State.startSource (s : State) (k : Nat) : State :=
  s.updSource k (fun x => if x.disabled then x else
    { x with ok := false, phase := 1, since := s.upTime, decim := s.rd Reg.rngDecim })

/-- Enabled sources. -/
def State.enabled (s : State) : List Source := s.rng.sources.filter (fun x => !x.disabled)

/-- Every enabled source has passed its start-up test. -/
def State.sourcesOk (s : State) : Bool := s.enabled.all (fun x => x.ok)

/-- Collection of an entropy input begins. -/
def State.collect (s : State) : State := s.updRng (fun x => { x with collecting := true, collectAt := s.upTime })

/-- After a source has passed its start-up test, or dropped out: the input that STARTUP or a recovery waits for is
collected (R317, R325). -/
def State.collectIfOk (s : State) : State :=
  let st := s.rd Reg.rngState
  if s.sourcesOk && !s.rng.collecting && (st == rngStartup || st == rngDraining || st == rngHalted) then s.collect else s

/-- CLK_FAB cycles of a collection: equal shares of 4,096 bits, and for the first of 128 nonce bits (R316, R317). -/
def State.collectT (s : State) : Nat :=
  let n := max 1 s.enabled.length
  let decim := s.enabled.foldl (fun a x => max a x.decim) 0
  (ceilDiv 4096 n + (if s.rng.seeded then 0 else ceilDiv 128 n)) * decim * 80

/-- Entropy start at power-up (R315). -/
def State.startEntropy (s : State) : State := (List.range 8).foldl (fun s k => s.startSource k) (s.wr Reg.rngState rngStartup)

/-- RNG_SOURCE_SETTLED. -/
def State.sourceSettled (s : State) (k : Nat) : State :=
  let x := s.source k
  if s.busUp && x.phase == 1 && decide (x.since + settleT ≤ s.upTime) then
    s.updSource k (fun x => { x with phase := 2, since := s.upTime })
  else s

/-- RNG_STARTUP_TEST_DONE: 1,024 bits have passed. -/
def State.startupDone (s : State) (k : Nat) : State :=
  let x := s.source k
  if s.busUp && x.phase == 2 && decide (x.since + 1024 * x.decim * 80 ≤ s.upTime) then
    (s.updSource k (fun x => { x with ok := true, phase := 3, fails := 0 })).collectIfOk
  else s

/-! ## Software reads (R321, R325) -/

/-- A software read takes a word and its code. -/
def State.softWord (s : State) (r : Req) (w : Word) (code : Nat) : State :=
  (s.updRng (fun x => { x with lastWord := w, lastCode := code, codes := (r, code) :: x.codes.filter (fun p => p.1 != r) })).emit
    (.read 0xB00040 (w.toNat + code * 2 ^ 64))

/-- The idle word: WORD 0 with code 0x0502. -/
def State.idleWord (s : State) (r : Req) : State := (s.softWord r 0 0x0502).bump Reg.rngIdleWords

/-- Software reads that wait return the idle word. -/
def State.idleReads (s : State) : State :=
  s.rng.reqs.foldl (fun s q => match q.use with
    | .software r => s.idleWord r
    | _ => s) (s.updRng (fun x => { x with reqs := x.reqs.filter (fun q => match q.use with
      | .software _ => false
      | _ => true) }))

/-! ## HALTED and DEAD (R325, R326) -/

/-- DRAINING with an empty queue is HALTED. -/
def State.haltIfDry (s : State) : State :=
  if s.rd Reg.rngState = rngDraining ∧ s.rng.queue = [] then (s.wr Reg.rngState rngHalted).idleReads.noEntropy else s

/-- The round a request's instruction works on: its own, or the one its step counter names. -/
def State.useRound (s : State) : RngUse → Option (Nat × Nat)
  | .roundOpen f r => some (f, r)
  | .stream j e | .sampler j e =>
    match s.owner? j, (s.spin j).uq.find? (fun u => u.id == e) with
    | some f, some u => some (f, u.round.getD (u.stepc / 2 ^ 24))
    | _, _ => none
  | _ => none

/-- Too few sources: DEAD, where no request is ever served; before the DRBG's first seed, the boot fails (R393). -/
def State.goDead (s : State) : State :=
  if s.rd Reg.bootStage = 4 then s.bootFail 0x0503 0 else
  let rs := (s.rng.reqs.filterMap (fun q => s.useRound q.use)).dedup
  let s1 := ((s.wr Reg.rngState rngDead).raise 0 0x0503).idleReads
  let s2 := s1.updRng (fun x => { x with
    collecting := false
    reqs := x.reqs.filter (fun q => match s1.useRound q.use with
      | some p => !rs.contains p
      | none => true) })
  rs.foldl (fun s p => if (s.round? p.1 p.2).any (fun x => x.live_) then s.abandon p.1 p.2 0x0503 else s) s2

/-! ## Tests that fail (R314, R315, R325) -/

/-- A failure is counted, and captured when VALID is clear. -/
def State.failLog (s : State) (k : Nat) (test : RngTest) (startup : Bool) : State :=
  let s1 := s.bump (if test = .repetition then Reg.rngRctFailCount else Reg.rngAptFailCount)
  s1.capture Reg.rngFailValid
    [(Reg.rngFailSrc, k), (Reg.rngFailTest, if test = .repetition then 0 else 1), (Reg.rngFailStartup, b2n startup)]

/-- RNG_HEALTH_FAIL: a collection in progress is discarded, and the source starts again; after three failed start-ups in a
row it is disabled. -/
def State.healthFail (s : State) (k : Nat) (test : RngTest) : State :=
  let x := s.source k
  if !s.busUp || x.disabled || (x.phase != 2 && x.phase != 3) then s
  else
    let s1 := (s.failLog k test (x.phase == 2)).updRng (fun g => { g with collecting := false })
    if x.phase = 3 then
      let s2 := if s1.rd Reg.rngState = rngSeeded then
          ((s1.raise 0 0x0501).wr Reg.rngState rngDraining).updRng (fun g => { g with raised := [] })
        else s1
      (s2.startSource k).haltIfDry
    else if x.fails + 1 < 3 then (s1.updSource k (fun x => { x with fails := x.fails + 1 })).startSource k
    else
      let s2 := s1.updSource k (fun x => { x with disabled := true, ok := false, phase := 0, fails := 3 })
      if s2.enabled.length < 4 then s2.goDead else s2.collectIfOk

/-! ## Seeding (R316 to R318) -/

/-- The DRBG after the collection: instantiated with entropy input, nonce and the die identifier, or reseeded with entropy
input alone (R316). The bits themselves are free. -/
def State.seedDrbg (s : State) : DrbgState :=
  let bits_ := Config.entropy s.rng.collections
  if s.rng.seeded then s.rng.drbg.seed (toLe 512 bits_)
  else ({} : DrbgState).seed (toLe 512 bits_ ++ toLe 16 (bits_ / 2 ^ 4096) ++ toLe 16 s.otp.dieId)

/-- RNG_COLLECTION_DONE: the DRBG instantiates, or reseeds. -/
def State.collectionDone (s : State) : State :=
  if !s.busUp || !s.rng.collecting || decide (s.upTime < s.rng.collectAt + s.collectT) then s
  else
    let s1 := if s.rng.seeded then s.bump Reg.rngReseedCount else s
    (s1.wr Reg.rngState rngSeeded).updRng (fun x =>
      { x with collecting := false, seeded := true, requestsSinceSeed := 0, seededAt := s.upTime, raised := []
               drbg := s.seedDrbg, collections := x.collections + 1 })

/-- RESEED_TIMER. -/
def State.reseedTimer (s : State) : State :=
  let due := decide (s.rng.seededAt + s.rd Reg.rngReseedMs * 1350000 ≤ s.upTime) || decide (reseedRequests ≤ s.rng.requestsSinceSeed)
  if s.busUp && s.rd Reg.rngState == rngSeeded && !s.rng.collecting && s.sourcesOk && due then s.collect else s

/-- GENERATE_REQUEST: 64 words join the queue. -/
def State.generate (s : State) : State :=
  if !s.busUp || s.rd Reg.rngState ≠ rngSeeded || decide (refillBelow ≤ s.rng.queue.length) then s
  else s.updRng (fun x => { x with
    queue := x.queue ++ (blocksOf 8 genWords (x.drbg.generate 32).1).map (fun b => BitVec.ofNat 64 (leNat b))
    drbg := (x.drbg.generate 32).2
    index := x.index + genWords
    requestsSinceSeed := x.requestsSinceSeed + 1 })

/-! ## Service (R320) -/

/-- A function's identity key (R346): a candidate that gives no scalar takes 48 bytes more. -/
def State.identityDrawn (s : State) (f : Nat) (ws : List Word) : State :=
  let c := wordsNat ws
  if scalarOk c then s.updFn f (fun x => { x with idKey := some (c + 1) }) else s.ask 0 0 scalarWords (.identity f)

/-- A function key and its mask (R338). -/
def State.slotDrawn (s : State) (slot : Nat) (ws : List Word) : State :=
  let a := (s.slot slot).attr
  if a.ownerKind ≠ 2 then s
  else (s.setSlot slot (attrFkey a.func) (wordsNat (ws.take 4)) (wordsNat (ws.drop 4))).wr Reg.fnFkeyValid 1 a.func

/-- The per-boot LMS seed and identifier (R343), under a mask of the core's. -/
def State.lmsDrawn (s : State) (ws : List Word) : State :=
  let (d, s1) := s.draw
  s1.setSlot 2 attrLms (wordsNat ws) (Config.free d)

/-- The context sealing key: derived from the root and a drawn value (R334). The derivation is not stated. PRESUMED -/
def State.ctxDrawn (s : State) (ws : List Word) : State :=
  { s with nalam := { s.nalam with
      ctxKey := sha384Key (asciiBytes "CLTH-CTX-1" ++ toLe 32 (s.slot 0).value ++ toLe 32 (wordsNat ws)) } }

/-- Unit entry `id` of spindle `j` waits for words no longer: the watchdog, which did not count the wait, counts from now
(R192). -/
def State.wordsCame (s : State) (j id : Nat) : State :=
  if s.awaitsWords j id then s else s.updSpin j (fun x => { x with active := s.time })

/-- A request has been served whole. -/
def State.rngDone (s : State) (q : RngReq) : State :=
  match q.use with
  | .identity f => s.identityDrawn f q.got
  | .lmsKey => s.lmsDrawn q.got
  | .ctxSeal => s.ctxDrawn q.got
  | .slotMask slot => s.slotDrawn slot q.got
  | .handshake n => s.handshakeServed n q.got
  | .nonce f code body => s.nonceServed f code body q.got
  | .lcNonce => s.wr Reg.nalamLcNonce (wordsNat q.got)
  | .remask => s.remasked q.got
  | .roundOpen f r => s.roundDrawn f r q.got
  | .checkpoint f => s.checkpointDrawn f q.got
  -- masking shares enter no result (R324)
  | .stream j id => s.wordsCame j id
  | .sampler j id => s.wordsCame j id
  | .software r => s.softWord r (q.got.headD 0) 0

/-- The request the next word goes to: lowest class, then the requester named first, then the earliest. -/
def Rng.next? (x : Rng) : Option Nat :=
  (minBy? (fun (p : Nat × RngReq) => p.2.cls * 1024 + p.2.order) ((List.range x.reqs.length).zip x.reqs)).map (·.1)

/-- RNG_WORD_SERVE. -/
def State.serveWord (s : State) : State :=
  if !s.busUp || !s.rngServes then s
  else match s.rng.next?, s.rng.queue with
    | some i, w :: ws =>
      match s.rng.reqs[i]? with
      | none => s
      | some q =>
        let q1 := { q with got := q.got ++ [w] }
        let s1 := s.updRng (fun x => { x with
          queue := ws
          reqs := if q1.words ≤ q1.got.length then x.reqs.eraseIdx i else updAt x.reqs i (fun _ => q1) })
        (if q1.words ≤ q1.got.length then s1.rngDone q1 else s1).haltIfDry
    | _, _ => s

/-! ## RNG_DATA (R319, R321) -/

/-- BAR0 offset of WORD in the normal view. -/
def offRngData : Nat := 0xB00040

/-- Order of the readers of class 4. -/
def reqOrder : Req → Nat
  | .nalam => 0
  | .cc => 1
  | _ => 2

/-- RNG_DATA: a read of WORD in the normal view. Another address takes no word. In DEAD, as in HALTED, the idle word.
DEDUCED -/
def State.rngData (s : State) (r : Req) (addr : Nat) : State :=
  let internal := r == .nalam || r == .cc
  if addr ≠ offRngData || !(if internal then s.busUp else s.devAccess r) then s
  else if s.outside r then s.accErr r 0x0703 addr
  else if !internal && !s.privileged r then (s.emit (.read addr 0)).accErr r 0x0702 addr
  else
    let st := s.rd Reg.rngState
    if st = rngHalted ∨ st = rngDead then s.idleWord r else s.ask 4 (reqOrder r) 1 (.software r)

/-- RNG_SOURCE_SETTLED (R315). -/
def execRngSourceSettled (k : Nat) (s : State) : Res := .next (s.sourceSettled k)
/-- RNG_STARTUP_TEST_DONE (R315). -/
def execRngStartupTestDone (k : Nat) (s : State) : Res := .next (s.startupDone k)
/-- RNG_HEALTH_FAIL (R325). -/
def execRngHealthFail (k : Nat) (test : RngTest) (s : State) : Res := .next (s.healthFail k test)
/-- RNG_COLLECTION_DONE (R317). -/
def execRngCollectionDone (s : State) : Res := .next s.collectionDone
/-- RESEED_TIMER (R316). -/
def execReseedTimer (s : State) : Res := .next s.reseedTimer
/-- GENERATE_REQUEST (R318). -/
def execGenerateRequest (s : State) : Res := .next s.generate
/-- RNG_WORD_SERVE (R320). -/
def execRngWordServe (s : State) : Res := .next s.serveWord
/-- RNG_DATA (R321). -/
def execRngData (r : Req) (addr : Nat) (s : State) : Res := .next (s.rngData r addr)

end Sys2Proof.Machine
end

