-- ==== Sys2Proof/Machine/HostIf.lean ====
section
/-! DEFINITION. The host's side: function resets (R389, R390), virtual functions (R369, R402), snapshots of counters (R378), IDE
(R368, R370), the PCIe link (R422), and EVT_TAIL (R281). -/
namespace Sys2Proof.Machine
open Sys2Proof

/-! ## Which field a key is (R374, R378) -/

/-- Key `k` of `State.regs` is an item of field `f`. -/
def Fld.has (f : Fld) (k : Nat) : Bool :=
  let a := k / 1024
  k % 1024 == f.lsb && decide (f.page.base ≤ a) && decide ((a - f.page.base) / 0x10000 < f.page.count)
    && (let o := (a - f.page.base) % 0x10000
        if f.n ≤ 1 then o == f.off
        else decide (f.off ≤ o) && (o - f.off) % f.stride == 0 && decide ((o - f.off) / f.stride < f.n))

/-- Key `k` lies in instance `i` of the FUNC page. -/
def inFuncPage (i k : Nat) : Bool :=
  decide (Page.func.base + i * 0x10000 ≤ k / 1024) && decide (k / 1024 < Page.func.base + (i + 1) * 0x10000)

/-! ## Snapshots (R378) -/

/-- The RC fields among `State.regs`. -/
def State.counters (s : State) : List (Nat × Nat) :=
  s.regs.filter (fun p => Reg.rows.any (fun f => f.acc == .rc && f.has p.1))

/-- The RC fields as they were at the start of this CLK_CTL cycle. -/
def State.cycleCounters (s : State) : List (Nat × Nat) := s.ctl.was.foldl (fun m p => Sparse.set 0 m p.1 p.2) s.counters

/-- FSNAP_SEQ counts, once in a CLK_CTL cycle. -/
def State.countSnap (s : State) (f : Nat) : State :=
  if s.ctl.snaps.contains f then s
  else
    let s1 := s.bump Reg.fnFsnapSeq f
    { s1 with ctl := { s1.ctl with snaps := f :: s1.ctl.snaps } }

/-- SNAP_CMD: every RC field is copied, and every sequence number counts. -/
def State.snap (s : State) (r : Req) : State :=
  s.privCmd r 0x50000 (fun s =>
    let s1 := { s with holding := s.cycleCounters }.bump Reg.snapSeq
    (List.range 64).foldl (fun s f => s.countSnap f) s1)

/-- FSNAP_CMD: the RC fields of one FUNC page. -/
def State.fsnap (s : State) (f : Nat) : State :=
  s.funcCmd f Reg.fnFsnapCmd 0 (fun s =>
    let keep := s.holding.filter (fun p => !inFuncPage f p.1)
    let now := s.cycleCounters.filter (fun (p : Nat × Nat) => inFuncPage f p.1)
    ({ s with holding := sortBy (fun (p : Nat × Nat) => p.1) (keep ++ now) } : State).countSnap f)

/-! ## DMA that resumes (R370, R422) -/

/-- Vectors that waited for DMA go, as far as they are not masked (R371). -/
def State.sendPending (s : State) (f : Nat) : State :=
  (List.range 32).foldl (fun s v =>
    if bit (s.rd Reg.msixPending f) v && s.rd Reg.msixMask f v = 0 then
      (s.wr Reg.msixPending (putBits (s.rd Reg.msixPending f) v 1 0) f).emit (.msix f v)
    else s) s

/-- Writes and events that waited go to host memory in order. -/
def State.dmaResume (s : State) (f : Nat) : State :=
  if !s.dmaOk f then s
  else
    let x := s.fn f
    let s1 := s.updFn f (fun x => { x with dmaWait := [], evtWait := [] })
    let s2 := x.dmaWait.foldl (fun s p => s.hostPut f p.1 p.2) s1
    (x.evtWait.foldl (fun s e => s.raiseAt e.at_ f e.code e.kind e.obj e.aux e.fatal) s2).sendPending f

/-- PCIE_LINK_DOWN (R422). -/
def State.linkLost (s : State) : State :=
  if !s.ready || !s.pins.pcieUp then s
  else ({ s with pins := { s.pins with pcieUp := false } }.bump Reg.evPcieDowns).raise 0 0x0A24

/-- PCIE_LINK_UP (R422). -/
def State.linkBack (s : State) : State :=
  if !s.ready || s.pins.pcieUp then s
  else (List.range 64).foldl (fun s f => s.dmaResume f) { s with pins := { s.pins with pcieUp := true } }

/-! ## IDE (R368, R370) -/

/-- IDE_REQ: set once the function's stream is in the secure state; a later write is dropped and logged (R10, R11). -/
def State.ideReq (s : State) (f : Nat) : State :=
  let k := Reg.fnIdeReq.key f 0
  s.funcCmd f Reg.fnIdeReq 0 (fun s =>
    if s.wot.contains k then s.accErr (selfReq f) 0x0701 (ownOff f Reg.fnIdeReq)
    else if (s.fn f).ideKeyed then { s.wr Reg.fnIdeReq 1 f with wot := k :: s.wot }
    else s)

/-- IDE_STREAM_FAILED: with IDE_REQ set, the function's DMA and register accesses stop. -/
def State.ideFail (s : State) (f : Nat) : State :=
  if !s.ready || !(s.fn f).ideKeyed then s
  else
    let s1 := s.updFn f (fun x => { x with ideKeyed := false, ideSecure := false })
    if s1.rdb Reg.fnIdeReq f then (s1.updFn f (fun x => { x with ideFailed := true })).raise f 0x0611 else s1

/-- IDE_KM: in a finished session. PF0's stream is the secure context when the session's requester presents PF0's
TENANT_KEY. -/
def State.ideKm (s : State) (f : Nat) (q : SpdmReq) : State :=
  s.spdm f q true (fun s =>
    let x := s.session f
    if !x.finished then s.spdmError f 0x060B
    else
      let secure := f == 0 && x.mutAuth && sha384N x.key == (s.fn 0).tenantKey && (s.fn 0).tenantKey != 0
      ((s.updFn f (fun x => { x with ideKeyed := true, ideSecure := secure, ideFailed := false })).dmaResume f).spdmAnswer f rspVendor)

/-! ## Function reset (R389, R390) -/

/-- Fields of the FUNC page that a function reset returns to their reset value: RW, RWL and WOT ones, and those of the
rings, the event ring, the MSI-X table and the attachment. -/
def resetFields : List Fld :=
  Reg.rows.filter (fun f => f.page == .func && (f.acc == .rw || f.acc == .rwl || f.acc == .wot))
    ++ [Reg.ringState, Reg.ringBusy, Reg.ringVer, Reg.ringCode, Reg.ringSqTail, Reg.ringSqHead, Reg.ringCqHead, Reg.fnEvtHead,
        Reg.msixAddr, Reg.msixData, Reg.msixMask, Reg.msixPending, Reg.attAbiVer, Reg.attAttachCode, Reg.attAttached, Reg.attAttachBusy]

/-- The registers of step 5. -/
def State.resetRegs (s : State) (f : Nat) : State :=
  { s with
    regs := s.regs.filter (fun p => !(inFuncPage f p.1 && resetFields.any (fun x => x.has p.1)))
    wot := s.wot.filter (fun k => !inFuncPage f k) }

/-- Instructions of a spindle in flight write these far tiles. -/
def Spindle.writing (x : Spindle) : List Nat := x.segs.map (·.tile)

/-- Step 3: the function's spindles are unloaded; staged tiles and pages that a cancelled instruction was writing are discarded,
the others written back. -/
def State.cancelUnits (s : State) (f : Nat) : State :=
  let js := s.spindlesOf f
  let busy := js.flatMap (fun j => (s.spin j).writing)
  let s1 := js.foldl (fun s j => s.unloadSpin j) s
  let s2 := { s1 with rng := { s1.rng with reqs := s1.rng.reqs.filter (fun q => match q.use with
    | .stream j _ => !js.contains j
    | .sampler j _ => !js.contains j
    | .checkpoint g => g != f
    | .nonce g _ _ => g != f
    | _ => true) } }
  let s3 := (s2.staged.filter (fun g => g.func == f)).foldl (fun s g =>
    if busy.contains g.tile then s.discardStage g.tile else s.unstage g.tile) s2
  (s3.pages.filter (fun g => g.func == f)).foldl (fun s g => if busy.contains g.tile then s.pageOut g else s.dropPages g.tile) s3

/-- Step 4: windows, TWRs, QPs and their pins. -/
def State.cutNetwork (s : State) (f code : Nat) : State :=
  let s1 := (s.windows.filter (fun w => w.func == f)).foldl (fun s w => s.closeWindow w) s
  let s2 := { s1 with twrs := s1.twrs.filter (fun w => w.func != f), gates := s1.gates.filter (fun g => g.func != f) }
  (s2.qpErrorAll code (fun q => q.func == f)).unpinTo f 0

/-- Step 5: what the function holds apart from what R389 preserves. -/
def Func.forReset (x : Func) : Func :=
  { x with
    rings := List.replicate 4 {}
    evtSent := false
    evtLostMark := false
    coalesce := []
    lastRound := none
    dests := []
    session := {}
    ideFailed := false
    -- the stream's keys go with the session that programmed them. DEDUCED (log entry 126)
    ideKeyed := false
    ideSecure := false
    dmaWait := []
    evtWait := []
    ckptJob := none
    ckptId := none }

/-- Steps 1 to 5 of a reset of function `f`. A reset already under way goes on as one. -/
def State.startReset (s0 : State) (f code : Nat) (byGo : Bool) : State :=
  let s := s0.postAll
  if (s.fn f).resetAt.isSome then s.updFn f (fun x => { x with resetByGo := x.resetByGo || byGo })
  else
    let s1 := (s.updFn f (fun x => { x with resetAt := some s.time, resetByGo := byGo })).wr Reg.rstResetMask
      (Nat.lor (s.rd Reg.rstResetMask) (2 ^ f))
    let s2 := ((s1.abandonAll f code (fun _ => true)).cancelUnits f).cutNetwork f code
    let base := s2.rd Reg.fnCtrBase f
    let s3 := (List.range (s2.rd Reg.fnCtrCount f)).foldl (fun s n => s.ctrForce (base + n) 0) s2
    ((s3.updFn f Func.forReset).resetRegs f).wr Reg.progBusy 0 f

/-- An FLR of PF0 resets and disables every VF as well (R390). -/
def State.flr (s : State) (f : Nat) : State :=
  if !s.ready || !(s.fn f).exists_ then s
  else if f ≠ 0 then s.startReset f 0x0A16 false
  else
    let vfs := (List.range 64).filter (fun g => g != 0 && (s.fn g).exists_)
    vfs.foldl (fun s g => (s.startReset g 0x0A16 false).updFn g (fun x => { x with exists_ := false })) (s.startReset 0 0x0A16 false)

/-- FR_GO: of FR_FUNC, when it exists. -/
def State.frGo (s : State) (r : Req) : State :=
  s.privCmd r 0x10008 (fun s =>
    let f := s.rd Reg.rstFrFunc
    if !(s.fn f).exists_ then s.wr Reg.rstFrCode 0x0A17
    else ((s.wr Reg.rstFrCode 0).wr Reg.rstFrBusy 1).startReset f 0x0A16 true)

/-- FUNCTION_RESET_DONE: the near tiles have been zeroised, no spindle of it is being substituted (R414), and the function is in START (R389, R402). -/
def State.resetDone (s : State) (f : Nat) : State :=
  if !s.ready || (s.fn f).resetAt.isNone || (s.spindlesOf f).any s.substituting then s
  else
    let near := (List.range (s.rd Reg.fnNearCount f)).map (s.rd Reg.fnNearBase f + ·)
    let s1 := near.foldl (fun s t => s.wipeTile t) (s.dropLeaves f near.contains)
    let s2 := s1.wr Reg.rstResetMask (putBits (s1.rd Reg.rstResetMask) f 1 0)
    let s3 := if (s.fn f).resetByGo then s2.wr Reg.rstFrBusy 0 else s2
    (s3.updFn f (fun x => { x with resetAt := none, resetByGo := false })).wr Reg.attSvc 0 f

/-! ## Virtual functions (R369, R402) -/

/-- VF_ENABLE: VF1 to VF`num` exist; one that is disabled is reset. DEDUCED -/
def State.vfEnable (s : State) (num : Nat) : State :=
  if !s.busUp || 63 < num then s
  else
    let gone := (List.range 64).filter (fun g => decide (num < g) && (s.fn g).exists_)
    let s1 := gone.foldl (fun s g => (if s.ready then s.startReset g 0x0A16 false else s).updFn g (fun x => { x with exists_ := false })) s
    (List.range num).foldl (fun s g =>
      if (s.fn (g + 1)).exists_ then s else (s.updFn (g + 1) (fun x => { x with exists_ := true })).wr Reg.attSvc 0 (g + 1)) s1

/-! ## EVT_TAIL (R281) -/

/-- The driver has read events: the ring's vector is armed again. -/
def State.evtTail (s : State) (f v : Nat) : State :=
  s.funcCmd f Reg.fnEvtTail 0 (fun s => (s.wr Reg.fnEvtTail v f).updFn f (fun x => { x with evtSent := false }))

/-- SNAP_CMD (R378). -/
def execSnapCmd (r : Req) (s : State) : Res := .next (s.snap r)
/-- FSNAP_CMD (R378). -/
def execFsnapCmd (f : Nat) (s : State) : Res := .next (s.fsnap f)
/-- PCIE_LINK_DOWN (R422). -/
def execPcieLinkDown (s : State) : Res := .next s.linkLost
/-- PCIE_LINK_UP (R422). -/
def execPcieLinkUp (s : State) : Res := .next s.linkBack
/-- IDE_REQ (R370). -/
def execIdeReq (f : Nat) (s : State) : Res := .next (s.ideReq f)
/-- IDE_STREAM_FAILED (R370). -/
def execIdeStreamFailed (f : Nat) (s : State) : Res := .next (s.ideFail f)
/-- IDE_KM (R370). -/
def execIdeKm (f : Nat) (q : SpdmReq) (s : State) : Res := .next (s.ideKm f q)
/-- FLR (R389). -/
def execFlr (f : Nat) (s : State) : Res := .next (s.flr f)
/-- FR_GO (R390). -/
def execFrGo (r : Req) (s : State) : Res := .next (s.frGo r)
/-- FUNCTION_RESET_DONE (R389). -/
def execFunctionResetDone (f : Nat) (s : State) : Res := .next (s.resetDone f)
/-- VF_ENABLE (R402). -/
def execVfEnable (num : Nat) (s : State) : Res := .next (s.vfEnable num)
/-- EVT_TAIL (R281). -/
def execEvtTail (f : Nat) (v : BitVec 32) (s : State) : Res := .next (s.evtTail f v.toNat)

end Sys2Proof.Machine
end

