-- ==== Sys2Proof/Machine/Spares.lean ====
section
/-! DEFINITION. Physical spindles: their roles (R435), residue failures and repair (R409 to R411), and what takes the place of a
failed one (R414 to R416, R445). -/
namespace Sys2Proof.Machine
open Sys2Proof

/-! ## Spindles (R411, R414, R415) -/

/-- Physical spindle `p`. -/
def State.phy (s : State) (p : Nat) : Phys := s.phys.getD p {}
/-- Change physical spindle `p`. -/
def State.updPhys (s : State) (p : Nat) (g : Phys → Phys) : State := { s with phys := updAt s.phys p g }

/-- Physical spindles by number. -/
def State.physNums (s : State) : List Nat := List.range s.phys.length

/-- The physical spindle that runs logical spindle `j`. -/
def State.physOf (s : State) (j : Nat) : Option Nat := s.physNums.find? (fun p => (s.phy p).logical.contains j)

/-- An action starts on a spindle of function `f` (R416). -/
def State.enterRecovery (s : State) (f : Nat) : State := if s.rd Reg.attSvc f = 1 then s.wr Reg.attSvc 2 f else s

/-- An action has ended: the function is in SERVICE when none of its spindles is recovering (R416). -/
def State.leaveRecovery (s : State) (f : Nat) : State :=
  if s.rd Reg.attSvc f = 2 ∧ !(s.spindlesOf f).any (fun j => (s.spin j).recovering) then s.wr Reg.attSvc 1 f else s

/-- Change something for the owner of spindle `j`, when it has one. -/
def State.forOwner (s : State) (j : Nat) (g : Nat → State → State) : State :=
  match s.owner? j with
  | some f => g f s
  | none => s

/-- Physical spindle `p` is under field test. -/
def State.underTest (s : State) (p : Nat) : Bool := s.bist.kind == 2 && s.bist.target == p

/-- A working spare. -/
def State.isSpare (s : State) (p : Nat) : Bool := (s.phy p).role == roleSpare && !s.underTest p

/-- The spare to use next: the lowest-numbered working one. -/
def State.spare? (s : State) : Option Nat := s.physNums.find? s.isSpare

/-- SPARES_LEFT counts the working spares. -/
def State.countSpares (s : State) : State := s.wr Reg.evSparesLeft (s.physNums.filter s.isSpare).length

/-- A field test ends as INVALID: the spindle is a spare again (R445, R446). -/
def State.testInvalid (s : State) : State :=
  let s1 := ((s.bump Reg.bistFsInvalid).wr Reg.bistFsResult 2).wr Reg.bistFsPspin s.bist.target
  ({ (s1.wr Reg.bistFsTime s.time).wr Reg.bistState 3 with bist := { s.bist with kind := 0, next := s.bist.target } }).countSpares

/-- The host for one more context: the function's spindle that runs one only, with the lowest logical number. -/
def State.host? (s : State) (f : Nat) : Option Nat :=
  (minBy? (fun (p : Nat) => (s.phy p).lspin0) (s.physNums.filter (fun p =>
    (s.phy p).role == roleActive && (s.spindlesOf f).contains (s.phy p).lspin0)))

/-- Logical spindle `j` runs as a second context on `p` (R415): it issues again at once. -/
def State.timeshare (s : State) (j f p : Nat) : State :=
  let s1 := ((s.updPhys p (fun x => { x with role := roleHost, lspin1 := j })).wr Reg.evShared (s.rd Reg.evShared + 1)).bump Reg.evTimeshares
  (s1.raiseAll [0, f].dedup 0x0A27 8 j).updSpin j (fun x => { x with recovering := false })

/-- Another physical spindle is found for logical spindle `j`: a spare, or the one under test, whose test is abandoned
(R445). -/
def State.rehome (s : State) (j : Nat) : State :=
  let s0 := s.updSpin j (fun x => { x with recovering := true })
  let s1 := if s0.spare?.isNone && s0.bist.kind == 2 then s0.testInvalid else s0
  match s1.spare? with
  | some p => (s1.updPhys p (fun x => { x with role := roleActive, lspin0 := j })).countSpares.forOwner j (fun f s => s.enterRecovery f)
  | none => s1.forOwner j (fun f s =>
      match s.host? f with
      | some p => s.timeshare j f p
      | none => (s.raiseAll [0, f].dedup 0x0A29).abandonAll f 0x0A29 (fun _ => true))

/-- Some physical spindle works. -/
def State.anyWorks (s : State) : Bool := s.phys.any (fun x => x.role == roleActive || x.role == roleSpare || x.role == roleHost)

/-- Physical spindle `p` fails with a code; the last working spindle belongs to the minimum service set (R408, R423). -/
def State.failSpindle (s : State) (p code : Nat) : State :=
  let js := sortBy id (s.phy p).logical
  let shared := (s.phy p).role == roleHost
  let s1 := s.updPhys p (fun x => { x with role := roleFailed, lastCode := code, lspin0 := 0, lspin1 := 0, shadow := false })
  let s2 := if shared then s1.wr Reg.evShared (s1.rd Reg.evShared - 1) else s1
  if s2.anyWorks then js.foldl (fun s j => s.rehome j) s2 else s2.fatal 0x0A1E

/-- CLK_FAB cycles in which a third mismatch fails the spindle. -/
def mismatchT : Nat := 1350000000

/-- One more mismatch on physical spindle `p`. -/
def State.mismatch (s : State) (p : Nat) : State :=
  (((s.bump Reg.evResidueFails).bump Reg.physSpResidueFails p).bump Reg.evUnitRepairs).raise 0 0x0A01 8 ((s.phy p).logical.headD 0)

/-- RESIDUE_CHECK_FAIL: on a unit in work, or in the control state. -/
def State.residueFail (s : State) (j : Nat) (cause : ResidueCause) : State :=
  match s.physOf j with
  | none => s
  | some p =>
    let x := s.spin j
    if !s.ready || x.recovering then s
    else match cause with
      | .controlEcc => (s.raise 0 0x0A2E 8 j).failSpindle p 0x0A2E
      | .mismatch =>
        if x.uq.isEmpty then s
        else
          let recent := (s.phy p).mismatches.filter (fun t => decide (s.upTime < t + mismatchT))
          let s1 := (s.mismatch p).updPhys p (fun x => { x with mismatches := s.upTime :: recent })
          if 2 ≤ recent.length then s1.failSpindle p 0x0A01 else s1
      | .reexecution => if x.uq.isEmpty then s else (s.mismatch p).failSpindle p 0x0A01

/-- RESIDUE_CHECK_FAIL (R411). -/
def execResidueCheckFail (sp : Nat) (cause : ResidueCause) (s : State) : Res := .next (s.residueFail sp cause)

end Sys2Proof.Machine
end

