-- ==== Sys2Proof/Machine/Boot.lean ====
section
/-! DEFINITION. From power to service: full reset and the power-up sequence (R391 to R398), the firmware image (R340, R341), the
root and attestation keys (R331 to R334, R343), the spindle check (R441), attaching (R400 to R402), and warm reset (R404). Steps 3 and 4 of R393 are
over when the image arrives. -/
namespace Sys2Proof.Machine
open Sys2Proof

/-! ## Full reset (R392, R406) -/

/-- PERST_N asserted: everything but the fuses and what lies outside the device is gone. -/
def State.fullReset (s : State) : State :=
  { State.reset with
    otp := s.otp
    host := s.host
    ckpts := s.ckpts
    out := s.out
    fresh := s.fresh
    rng := { State.reset.rng with index := s.rng.index, collections := s.rng.collections }
    pending := s.pending }

/-- Fields whose reset value comes from OTP (R258, R379, R435, R464). -/
def State.fromOtp (s : State) : State :=
  let d := s.otp.dieId
  let s1 := ((((s.wr Reg.devStepping 0xB0).wr Reg.devGrade (b2n s.otp.gradeE)).wr Reg.devLgrade s.lgrade).wr Reg.devPorts s.nports).wr
    Reg.devDieIdLo d
  let s2 := ((((s1.wr Reg.devDieIdHi (d / 2 ^ 64)).wr Reg.nalamLc (lcCode s.otp.lc)).wr Reg.nalamOtpSvn s.otp.svn).wr
    Reg.nalamBootIndex s.otp.boots).wr Reg.nalamBootsLeft (32768 - s.otp.boots)
  let s3 := ((List.range s.nports).foldl (fun s p => s.wr Reg.portEnabled 1 p) s2).wr Reg.weirPLimit (if s.otp.gradeE then 1150 else 1450)
  { s3 with phys := if s.otp.gradeE then physReset.mapIdx (fun n x => if 24 ≤ n ∧ n < 32 then { x with role := 4, lspin0 := 0 } else x)
                    else physReset }

/-- PERST_N released: step 1 (R393). -/
def State.powerUp (s : State) : State :=
  if !s.pins.perst then s
  else { s with upTime := 0, pins := { s.pins with perst := false, stopped := false } }.fromOtp

/-- The value of a slot that the Nalam core writes itself, under a mask of its own. -/
def State.holdSlot (s : State) (i : Nat) (a : KeyAttr) (v : Nat) : State :=
  let (d, s1) := s.draw
  s1.setSlot i a v (Config.free d)

/-- ROOT_PLL_LOCK: the ROM runs on CLK_CTL and reads the fuses. -/
def State.pllLock (s : State) : State :=
  if !s.busUp || s.rd Reg.bootStage ≠ 0 || s.rdb Reg.clkRootLock then s
  else
    let s1 := (((s.wr Reg.clkRootLock 1).wr Reg.clkSysrefOk 1).wr Reg.clkPcierefOk 1).holdSlot 3 attrAnchor s.otp.anchor
    if lcCode s.otp.lc = 4 then s1.bootFail 0x0612 0 else s1.wr Reg.bootStage 1

/-- ROOT_PLL_FAIL: no lock within 1 ms. -/
def State.pllFail (s : State) : State :=
  if s.busUp && s.rd Reg.bootStage == 0 && !s.rdb Reg.clkRootLock && decide (1350000 ≤ s.upTime) then s.bootFail 0x0A1C 0 else s

/-! ## The image (R340, R341, R394) -/

/-- FW_LEN bounds. -/
def fwLenMin : Nat := 2368
def fwLenMax : Nat := 6293760

/-- FW_DOORBELL. -/
def State.doorbell (s : State) (r : Req) : State :=
  let mine := match r with
    | .pf0 _ => true
    | .nalam => true
    | _ => false
  if !mine || !s.busUp || s.rd Reg.bootStage ≠ 1 || s.rdb Reg.bootImgBusy then s
  else
    let n := s.rd Reg.bootFwLen
    if n < fwLenMin ∨ fwLenMax < n then s.wr Reg.bootImgCode 0x0A1D else s.wr Reg.bootImgBusy 1

/-- The header is well formed, and the image's length agrees with it. -/
def fwWf (b : Bytes) : Bool :=
  let n := leAt b 24 4
  leAt b 0 4 == 0x57464C43 && leAt b 4 2 == 1 && decide (leAt b 8 1 ≤ 64)
    && zerosAt b [(6, 2), (9, 7), (32, 96), (225, 31), (312, 72), (480, 32), (2284, 20)]
    && decide (64 ≤ n) && decide (n ≤ 6291456) && n % 64 == 0 && leAt b 28 4 % 4 == 0 && decide (leAt b 28 4 < n)
    && b.length == 2304 + n

/-- The signed message, and its digest D. -/
def fwMessage (b : Bytes) : Bytes := b.take 384 ++ b.drop 2304
def fwDigestOf (b : Bytes) : Nat := sha384N (fwMessage b)

/-- The checks of R341 in order. -/
def State.imageCode (s : State) (b : Bytes) : Nat :=
  firstCode
    [ (!fwWf b, 0x0605)
    , (sha384N (slice b 128 184) != (s.slot 3).value, 0x0605)
    , (decide (leAt b 8 1 < s.otp.svn), 0x0606)
    , (!ecdsaVerify (slice b 128 97) (fwMessage b) (slice b 384 96), 0x0605)
    , (!lmsVerify 20 (slice b 256 56) (toLe 48 (fwDigestOf b)) (slice b 512 1772), 0x0605) ]

/-- The image runs: its digest, its version and its ranges. -/
def State.holdImage (s : State) (b : Bytes) : State :=
  { s with nalam := { s.nalam with fwDigest := fwDigestOf b, fwImage := b } }.wr Reg.nalamFwSvn (leAt b 8 1)

/-- The ranges of the running image (R379). -/
def State.fwRanges (s : State) : State :=
  let b := s.nalam.fwImage
  (((s.wr Reg.devFwAbiMin (leAt b 16 2)).wr Reg.devFwAbiMax (leAt b 18 2)).wr Reg.devRingMin (leAt b 20 2)).wr Reg.devRingMax (leAt b 22 2)

/-! ## The root (R331 to R334) -/

/-- The first scalar a label gives from the root, counter from `i` (R333). -/
def derivedScalar (label : String) (root : Nat) : Nat → Nat → Nat
  | 0, _ => 1
  | n + 1, i =>
    let c := sha384N (asciiBytes label ++ toLe 32 root ++ toLe 4 i)
    if scalarOk c then c + 1 else derivedScalar label root n (i + 1)

/-- The root of a PUF key in a life-cycle state. -/
def rootOfPuf (puf lc : Nat) : Nat := sha384Key (asciiBytes "CLTH-ROOT-1" ++ toLe 32 puf ++ toLe 1 lc)

/-- Slots 0 and 1, and the device keys held outside slots. How the latter derive from slot 0 is not stated. PRESUMED -/
def State.deriveKeys (s : State) : State :=
  let root := rootOfPuf Config.pufKey.toNat s.lc
  let s1 := (s.holdSlot 0 attrRoot root).holdSlot 1 attrDak (derivedScalar "CLTH-DAK-1" root (2 ^ 32) 0)
  { s1 with nalam := { s1.nalam with
      farTagKey := sha384Key (asciiBytes "CLTH-FAR-1" ++ toLe 32 root)
        + 2 ^ 256 * sha384Key (asciiBytes "CLTH-FAR-2" ++ toLe 32 root)
      scrambleKey := sha384Key (asciiBytes "CLTH-SCR-1" ++ toLe 32 root) } }.wr Reg.nalamRootOk 1

/-- Microseconds since PERST_N was released, saturating. -/
def State.micros (s : State) : Nat := min (s.upTime / 1350) (2 ^ 32 - 1)

/-- FW_IMAGE_ARRIVAL: steps 3 and 4, and entropy starts. -/
def State.imageArrival (s : State) (b : Bytes) : State :=
  if !s.busUp || s.rd Reg.bootStage ≠ 1 || !s.rdb Reg.bootImgBusy || b.length ≠ s.rd Reg.bootFwLen || decide (13500000000 < s.upTime) then s
  else
    let s1 := { ((s.wr Reg.bootImgBusy 0).wr Reg.bootImgCode 0).wr Reg.bootTImage s.micros with
      nalam := { s.nalam with imageAt := s.upTime } }
    let c := s1.imageCode b
    if c ≠ 0 then s1.bootFail c 0
    else
      let (d, s2) := s1.draw
      if !Config.pufOk d then s2.bootFail 0x0607 0
      else ((s2.holdImage b).deriveKeys.wr Reg.bootStage 4).startEntropy

/-- FW_IMAGE_TIMEOUT: 10 s from the release. -/
def State.imageTimeout (s : State) : State :=
  if s.busUp && s.rd Reg.bootStage == 1 && decide (13500000000 ≤ s.upTime) then s.bootFail 0x0A18 0 else s

/-! ## Step 6 (R395, R343) -/

/-- Boot-index fuses. -/
def bootFuses : Nat := 32768

/-- The boot's attestation key: its fuse is burned and its seed asked for, or BOOT_LIMIT. -/
def State.bootKey (s : State) : State :=
  if bootFuses ≤ s.otp.boots then s.wr Reg.nalamBootLimit 1
  else
    let i := s.otp.boots
    ({ s with otp := { s.otp with boots := i + 1 } }.wr Reg.nalamBootsLeft (bootFuses - (i + 1))).ask 0 0 6 .lmsKey

/-- Physical spindle `p` fails its boot test: a spare runs its logical spindle, or none does. -/
def State.bootSpindle (s : State) (p : Nat) : State :=
  let x := s.phy p
  let s1 := s.updPhys p (fun x => { x with role := roleFailed, lastCode := 0x0A2B, lspin0 := 0 })
  if x.role ≠ roleActive then s1
  else match s1.spare? with
    | some q => s1.updPhys q (fun y => { y with role := roleActive, lspin0 := x.lspin0 })
    | none => s1.updSpin x.lspin0 (fun y => { y with recovering := true })

/-- Soft repairs join those in force (R439); what each covers is not stated. -/
def State.softRepairs (s : State) (n : Nat) : State :=
  { s with
    fresh := s.fresh + n
    bist := { s.bist with soft := s.bist.soft ++ (List.range n).map (fun i => Config.free (s.fresh + i)) } }

/-- The BOOT set on every spindle (R441). An invalid result fails nothing (R446). -/
def State.bootCheck (s : State) (c : BistResult) : State :=
  if !c.valid then s
  else
    let bad := s.physNums.filter (fun p => (bit c.lbist p || bit c.scratch p) && (s.phy p).role != 4)
    (bad.foldl (fun s p => s.bootSpindle p) (s.softRepairs c.repaired)).countSpares

/-- The code VID drives at a step, within the step's window (R458). -/
def vidFor (step : Nat) : Nat := max (if step = 0 then 16 else 4) (min 36 (Config.vidCode step))

/-- DRBG_SEEDED_AT_BOOT: step 6 begins; its spindle check has the result `c`. VID leaves the code it had until now. -/
def State.seededAtBoot (s : State) (c : BistResult) : State :=
  if !s.busUp || s.rd Reg.bootStage ≠ 4 || s.rd Reg.rngState ≠ rngSeeded then s
  else
    let s1 := { (s.wr Reg.bootStage 5).fwRanges with
      pins := { s.pins with dataPath := true }
      weir := { s.weir with vidGoal := vidFor 0, vidAt := s.upTime }
      nalam := { s.nalam with initAt := s.upTime, ccRunning := true } }
    let s2 := (s1.wr Reg.weirRamping 1).bootCheck c
    if s2.anyWorks then s2.bootKey.ask 0 0 4 .ctxSeal else s2.bootFail 0x0A1E 2

/-- A part of step 6 may end now. -/
def State.initPart (s : State) (done : Fld) : Bool := s.busUp && s.rd Reg.bootStage == 5 && !s.rdb done

/-- CREEL_DONE: near tiles and their tags are zero. -/
def State.creelReady (s : State) (tier0 tier1 : Bool) : State :=
  if !s.initPart Reg.bootCreelDone then s
  else if !tier0 then (s.wr Reg.creelTier0Ok 0).bootFail 0x0A1E 1
  else
    let s1 := ({ s with
      tiles := s.tiles.filter (fun p => isFar (p.1 / tileSize))
      tags := s.tags.filter (fun p => isFar p.1)
      upsets := s.upsets.filter (fun p => isFar (p.1 * 8 / tileSize)) }.wr Reg.creelZeroiseBusy 0).wr Reg.bootCreelDone 1
    if tier1 then s1 else s1.tierLost

/-- FAR_DONE: bit p of `fast` and `slow` says that package p trains at the rate (R55). -/
def State.farReadyBoot (s : State) (fast slow : Nat) : State :=
  if !s.initPart Reg.bootFarDone then s
  else
    let full := fast % 65536 == 65535
    let ok := if full then fast else slow
    ((List.range 4).foldl (fun s q =>
      ((s.wr Reg.farPkgOk (bits ok (4 * q) 4) q).wr Reg.farRateFallback (b2n (!full)) q).wr Reg.farTrained 1 q) s).wr Reg.bootFarDone 1

/-- ATTEST_DONE: the per-boot key is in slot 2, certified by leaf i of the factory tree; or BOOT_LIMIT stands. -/
def State.attestReady (s : State) : State :=
  if !s.initPart Reg.bootAttestDone then s
  else if s.rdb Reg.nalamBootLimit then s.wr Reg.bootAttestDone 1
  else if !(s.slot 2).attr.valid then s
  else
    let pub := lmsPublic 10 (s.slot 2).value
    let seed := derivedScalar "CLTH-FLT-1" (s.slot 0).value (2 ^ 32) 0
    (({ s with nalam := { s.nalam with bootLmsPub := leNat pub, factorySig := leNat (lmsSign 15 seed (s.rd Reg.nalamBootIndex) pub) } }.wr
      Reg.nalamAttestReady 1).wr Reg.nalamLeavesLeft 1024).wr Reg.bootAttestDone 1

/-- PORTS_DONE: every enabled port is up, or 2,000 ms have passed. -/
def State.portsReady (s : State) (up : Nat) : State :=
  let all := (List.range s.nports).all (fun p => bit up p || s.rdb Reg.portUp p)
  if !s.initPart Reg.bootPortsDone || !(all || decide (s.nalam.initAt + 2700000000 ≤ s.upTime)) then s
  else ((List.range s.nports).foldl (fun s p => if bit up p && !s.rdb Reg.portUp p then s.linkUp p else s) s).wr Reg.bootPortsDone 1

/-- FWINIT_DONE. -/
def State.fwReady (s : State) : State :=
  if s.initPart Reg.bootFwinitDone && s.nalam.ccRunning then s.wr Reg.bootFwinitDone 1 else s

/-- The done bits in the order of BOOT_STATUS. -/
def doneBits : List Fld := [Reg.bootCreelDone, Reg.bootFarDone, Reg.bootAttestDone, Reg.bootPortsDone, Reg.bootFwinitDone]

/-- A function that exists is in START; its reset, if any, is over. -/
def State.startFunction (s : State) (f : Nat) : State :=
  let s1 := s.wr Reg.rstResetMask (putBits (s.rd Reg.rstResetMask) f 1 0)
  (s1.updFn f (fun x => { x with resetAt := none, resetByGo := false })).wr Reg.attSvc 0 f

/-- READY (R396). -/
def State.declareReady (s : State) : State :=
  if !s.busUp || s.rd Reg.bootStage ≠ 5 || doneBits.any (fun d => !s.rdb d) || s.rd Reg.rngState ≠ rngSeeded || s.nalam.held
      || !(s.rdb Reg.nalamAttestReady || s.rdb Reg.nalamBootLimit) then s
  else
    let s1 := ((s.wr Reg.bootStage 6).wr Reg.bootTReady s.micros).wr Reg.bootWarm (b2n s.nalam.warm)
    let s2 := { (s1.wr Reg.warmBusy 0).wr Reg.rstFrBusy 0 with nalam := { s1.nalam with warm := false } }
    ((List.range 64).filter (fun f => (s2.fn f).exists_)).foldl (fun s f => s.startFunction f) s2

/-- BOOT_TIMEOUT: 3,000 ms after the image arrived. DETAIL holds the done bits still clear. -/
def State.bootLate (s : State) : State :=
  let st := s.rd Reg.bootStage
  if s.busUp && decide (2 ≤ st) && decide (st ≤ 5) && !s.nalam.warm && decide (s.nalam.imageAt + 4050000000 ≤ s.upTime) then
    s.bootFail 0x0A1B (doneBits.mapIdx (fun i d => if s.rdb d then 0 else 2 ^ i)).sum
  else s

/-! ## Attaching (R400 to R402) -/

/-- ATTACH. -/
def State.attach (s : State) (f : Nat) : State :=
  s.funcCmd f Reg.attAttach 0 (fun s =>
  if s.rdb Reg.attAttached f || s.rdb Reg.attAttachBusy f then s
  else match negotiate (s.rd Reg.attDrvAbiMin f) (s.rd Reg.attDrvAbiMax f) (s.rd Reg.devFwAbiMin) (s.rd Reg.devFwAbiMax) with
    | none => (s.wr Reg.attAttachCode 0x0A04 f).raiseOwn f 0x0A04
    | some v => ((s.wr Reg.attAttached 1 f).wr Reg.attAbiVer v f).wr Reg.attAttachCode 0 f)

/-- GO_SERVICE. -/
def State.goService (s : State) (f : Nat) : State :=
  s.funcCmd f Reg.attGoService 0 (fun s =>
    if !s.rdb Reg.attAttached f then s.wr Reg.attAttachCode 0x0A1A f
    else if s.rd Reg.attSvc f = 0 then s.wr Reg.attSvc 1 f else s)

/-! ## Warm reset (R404) -/

/-- WARM_GO: the image is read and checked; a refusal changes nothing but WARM_CODE. -/
def State.warmGo (s : State) (r : Req) (img : Option Bytes) : State :=
  s.privCmd r 0x10020 (fun s =>
    if s.rdb Reg.warmBusy then s
    else match img with
      | none => s.wr Reg.warmCode 0x0A15
      | some b =>
        let c := s.imageCode b
        let code := if b.length ≠ s.rd Reg.bootFwLen then 0x0605 else c
        if code ≠ 0 then s.wr Reg.warmCode code
        else { (s.wr Reg.warmCode 0).wr Reg.warmBusy 1 with nalam := { s.nalam with warmDigest := some (fwDigestOf b) } })

/-- WARM_IMAGE_VERIFIED: every function is reset, slots 4 to 63 are unassigned, and the image of the second read must be the
one verified; then the creel is zeroised and the new firmware starts. -/
def State.warmVerified (s : State) (b : Bytes) : State :=
  match s.nalam.warmDigest with
  | none => s
  | some d =>
    if !s.ready then s
    else
      let s1 := ((List.range 64).filter (fun f => (s.fn f).exists_)).foldl (fun s f => s.startReset f 0x0A19 false) s
      let s2 := (List.range 60).foldl (fun s i => s.releaseSlot (i + 4) 0x0A19) s1
      let s3 := { s2 with nalam := { s2.nalam with warmDigest := none, warm := true, ccRunning := true } }
      if fwDigestOf b ≠ d then s3.bootFail 0x0605 0
      else ((((s3.holdImage b).fwRanges.wr Reg.bootStage 5).wr Reg.bootCreelDone 0).wr Reg.bootFwinitDone 0).wr Reg.creelZeroiseBusy 1

/-! ## Host reads that fail (R372) -/

/-- The opcodes whose record the firmware reads, and its length where R384 fixes it. -/
def recWant : List (Nat × Option Nat) :=
  [(1, none), (4, none), (5, some 104), (7, some 128), (9, some 64), (0x0B, some 64), (0x11, none)]

/-- HOST_ACCESS_FAIL. The second read of a warm reset's image leaves nothing to compare: the boot fails. DEDUCED -/
def State.hostFail (s : State) : HostOp → State
  | .progImage f => s.loadImage f none
  | .sq f n =>
    if s.funcUp f && decide (n < 4) && s.rd Reg.ringState f n == ringActive && s.sqUsed f n != 0 then
      (s.wr Reg.ringState ringError f n).ringFail f n 0x0A13
    else s
  | .sqRecord f n desc =>
    match recWant.find? (fun p => p.1 == jOp (leNat desc)) with
    | some (op, want) => s.job f n desc op want none (fun _ _ s => ((0x0A15, 0), s))
    | none => s
  | .fwImage =>
    if s.busUp && s.rd Reg.bootStage == 1 && s.rdb Reg.bootImgBusy then (s.wr Reg.bootImgBusy 0).wr Reg.bootImgCode 0x0A15 else s
  | .warmImage => if s.ready && s.nalam.warmDigest.isSome then s.bootFail 0x0605 0 else s
  | .twrSend id => if s.ready then
      (match s.twrs.find? (fun w => w.id == id) with
       | some w => if w.op = 2 then s.twrFire id none else s
       | none => s)
    else s

/-- PERST_N_ASSERT (R392). -/
def execPerstNAssert (s : State) : Res := .next s.fullReset
/-- PERST_N_RELEASE (R393). -/
def execPerstNRelease (s : State) : Res := .next s.powerUp
/-- ROOT_PLL_LOCK (R393). -/
def execRootPllLock (s : State) : Res := .next s.pllLock
/-- ROOT_PLL_FAIL (R393). -/
def execRootPllFail (s : State) : Res := .next s.pllFail
/-- FW_DOORBELL (R394). -/
def execFwDoorbell (r : Req) (s : State) : Res := .next (s.doorbell r)
/-- FW_IMAGE_ARRIVAL (R393). -/
def execFwImageArrival (img : Bytes) (s : State) : Res := .next (s.imageArrival img)
/-- FW_IMAGE_TIMEOUT (R393). -/
def execFwImageTimeout (s : State) : Res := .next s.imageTimeout
/-- DRBG_SEEDED_AT_BOOT (R319). -/
def execDrbgSeededAtBoot (check : BistResult) (s : State) : Res := .next (s.seededAtBoot check)
/-- CREEL_DONE (R395). -/
def execCreelDone (tier0 tier1 : Bool) (s : State) : Res := .next (s.creelReady tier0 tier1)
/-- FAR_DONE (R55). -/
def execFarDone (fast slow : Nat) (s : State) : Res := .next (s.farReadyBoot fast slow)
/-- ATTEST_DONE (R343). -/
def execAttestDone (s : State) : Res := .next s.attestReady
/-- PORTS_DONE (R395). -/
def execPortsDone (up : Nat) (s : State) : Res := .next (s.portsReady up)
/-- FWINIT_DONE (R395). -/
def execFwinitDone (s : State) : Res := .next s.fwReady
/-- READY (R396). -/
def execReady (s : State) : Res := .next s.declareReady
/-- BOOT_TIMEOUT (R396). -/
def execBootTimeout (s : State) : Res := .next s.bootLate
/-- ATTACH (R400). -/
def execAttach (f : Nat) (s : State) : Res := .next (s.attach f)
/-- GO_SERVICE (R402). -/
def execGoService (f : Nat) (s : State) : Res := .next (s.goService f)
/-- WARM_GO (R404). -/
def execWarmGo (r : Req) (img : Option Bytes) (s : State) : Res := .next (s.warmGo r img)
/-- WARM_IMAGE_VERIFIED (R404). -/
def execWarmImageVerified (img : Bytes) (s : State) : Res := .next (s.warmVerified img)
/-- HOST_ACCESS_FAIL (R372). -/
def execHostAccessFail (what : HostOp) (s : State) : Res := .next (s.hostFail what)

end Sys2Proof.Machine
end

