-- ==== Sys2Proof/Machine/Faults.lean ====
section
/-! DEFINITION. Faults and repair: spindle substitution (R412 to R414), watchdogs (R420, R421), clocks (R451), books (R424), scrubbing (R69,
R70), and staging (R71). -/
namespace Sys2Proof.Machine
open Sys2Proof

/-! ## Substitution and journals (R412 to R414) -/

/-- SPARE_SUBSTITUTED: the journal has been replayed, which leaves the spindle as it was (R413); an UNLOAD or a function reset that
waited takes effect (R414). -/
def State.substituted (s : State) (j : Nat) : State :=
  if !s.ready || !(s.spin j).recovering || (s.physOf j).isNone then s
  else
    let s1 := (s.updSpin j (fun x => { x with recovering := false, active := s.time })).bump Reg.evSpareSubs
    let s2 := (s1.raise 0 0x0A03 8 j).forOwner j (fun f s => s.leaveRecovery f)
    if (s.spin j).unloading then (s2.updSpin j Spindle.unloaded).forOwner j (fun f s => s.settleBusy f) else s2

/-- JOURNAL_POINT: of a spindle whose program issues. When one is due, the device says. -/
def State.journalAt (s : State) (j : Nat) : State :=
  if s.issuing j then s.updSpin j (fun x => x.journalPoint s.time) else s

/-! ## Watchdogs and clocks (R420, R421, R451) -/

/-- CC_WATCHDOG: the firmware starts again. A core that fails within 1 s of its restart is taken out of service; for CC0, or when
the image in control SRAM is no longer the one verified, that is fatal. The code of a mismatch is not stated: CC0 has no image to
run. DEDUCED (log entry 127) -/
def State.ccFail (s : State) (core : Nat) : State :=
  if !s.ready || !s.nalam.ccRunning || s.nalam.ccOut.contains core then s
  else
    let again := s.nalam.ccRestarts.any (fun p => p.1 == core && decide (s.upTime < p.2 + mismatchT))
    let s1 := { s.bump Reg.evCcWdog with
      nalam := { s.nalam with
        ccRestarts := (core, s.upTime) :: s.nalam.ccRestarts.filter (fun p => p.1 != core)
        ccOut := if again then core :: s.nalam.ccOut else s.nalam.ccOut } }
    let rings := (List.range 64).filter (fun f => (List.range 4).any (fun n => s.rd Reg.ringState f n != 0))
    let s2 := rings.foldl (fun s f => (List.range 4).foldl (fun s n =>
      if s.rd Reg.ringState f n = 0 then s else (s.wr Reg.ringState ringError f n).wr Reg.ringCode 0x0A1F f n) s) s1
    let s3 := (0 :: rings).dedup.foldl (fun s f => s.raise f 0x0A1F) s2
    let s4 := (List.range 64).foldl (fun s f => s.abandonAll f 0x0A1F (fun r => r.basic)) s3
    if again && core == 0 || fwDigestOf s.nalam.fwImage != s.nalam.fwDigest then s4.fatal 0x0A1E else s4

/-- NALAM_WATCHDOG (R421). -/
def State.nalamHang (s : State) : State := if s.busUp then s.fatal 0x0A21 else s

/-- CLOCK_LOSS. Without CLK_CTL no record is written; after a fatal event the lower rows of R451 have no further effect. -/
def State.clockLost (s : State) (ref : ClockRef) : State :=
  if !s.busUp || (s.rdb Reg.evFatal && ref != .sysRefclk && ref != .rootPll) then s
  else
    let s1 := s.bump Reg.clkLossCount
    match ref with
    | .sysRefclk => (s1.wr Reg.clkSysrefOk 0).fatal 0x0A20 false
    | .rootPll => (s1.wr Reg.clkRootLock 0).fatal 0x0A20 false
    | .pcieRefclk => (s1.wr Reg.clkPcierefOk 0).linkLost
    | .sync =>
      let s2 := s1.wr Reg.gateSyncPresent 0
      if s2.rdb Reg.gateEpochValid then s2.syncLost else s2
    | .portLine port => s1.portDown port

/-! ## Books (R424) -/

/-- Landing-zone tiles taken in the pools of function `f`, as runs. -/
def State.lzRuns (s : State) (f : Nat) : List (Nat × Nat) :=
  (s.qps.filter (fun q => q.func == f)).flatMap (fun q => q.rx.resv.map (fun v => v.2))
    ++ (s.rounds.filter (fun r => r.func == f && r.live_)).flatMap (fun r =>
      ((r.intake ++ r.live ++ r.guardHold ++ r.dupHold).filter (fun m => !m.window)).map (fun m => (m.lz, lzTiles m.len)))

/-- A book fails its audit: at the second time in a row it is raised, and the function's rounds are abandoned. -/
def State.bookFails (s : State) (book f : Nat) (bad all : Bool) : State :=
  let clear := { s with books := s.books.filter (fun b => b != (book, f)) }
  if !bad then clear
  else if s.books.contains (book, f) then
    let s1 := ((clear.bump Reg.evBookMismatches).raiseAll [0, f].dedup 0x0A28)
    if all then s1.abandonAll f 0x0A28 (fun _ => true) else s1
  else { s with books := (book, f) :: s.books }

/-- BOOK_AUDIT: the landing-zone pools (4), the trackers (5) and the basin (6). What is free is what is not taken, so a pool
fails when two holders share a tile. -/
def State.bookAudit (s : State) : State :=
  if !s.ready then s
  else
    let s1 := (List.range 64).foldl (fun s f => s.bookFails 4 f (overlaps (s.lzRuns f)) true) s
    (s1.bookFails 5 0 (decide (trackerMax < s1.trackersUsed)) false).bookFails 6 0 (decide (basinMax < s1.basinUsed)) false

/-! ## Scrubbing (R69, R70) -/

/-- Near tiles that hold messages or control data, or pages of row blocks, which no tag describes. -/
def State.untagged (s : State) (t : Nat) : Bool :=
  s.pages.any (fun g => g.slot == t) || s.rounds.any (fun r => r.live_ && ((decide (r.cfg.lzBase ≤ t) && decide (t < r.cfg.lzBase + r.cfg.lzCount))
    || (decide (r.cfg.ctlBase ≤ t) && decide (t < r.cfg.ctlBase + r.cfg.ctlCount))))

/-- CREEL_SCRUB: a near tile with no folds in flight is read and verified; a pool tile is the staged tile it holds. The spec
gives landing zones and control tiles no write that keeps their checksum (R59, R65, R66 are the only ones), so every message
would fail it: their words are read and their checksum is not compared. DESIGN CHOICE (log entry 89) -/
def State.creelScrub (s : State) (t : Nat) : State :=
  if !s.ready || !s.rdb Reg.creelScrubEn || isFar t || 65536 ≤ t || s.isFarNow t then s
  else
    let t1 := ((s.staged.find? (fun g => g.slot == t)).map (·.tile)).getD t
    if s.inflight t1 ≠ 0 then s
    else { (if s.untagged t then s.eccRead t else (s.verify t1 5).2) with scrubHold := s.scrubHold.filter (fun x => x != t1) }

/-- SCRUB_FOLD_HOLD: a tile that has had folds in flight without a break for 1 ms, a dirty page in the pool counting as one,
takes no new ones until it has been read; its pages are written back (R70, R148). -/
def State.scrubFoldHold (s : State) (t : Nat) : State :=
  if s.ready && s.rdb Reg.creelScrubEn && s.flying t 1350000 && !s.scrubHold.contains t then
    ({ s with scrubHold := t :: s.scrubHold } : State).land t
  else s

/-- The tag far memory holds for tile `t`: of a staged tile, the one its last lockage left there. -/
def State.farTagOf (s : State) (t : Nat) : TileTag :=
  match s.stagedOf t with
  | some g => g.farTag
  | none => s.tag t

/-- FAR_SCRUB: an admitted far tile is verified as a lockage read verifies it: the far copy against the far tag, staged or
not. A far range is admitted once a memory key is held and its initialisation has run (R357). -/
def State.farScrub (s : State) (t : Nat) : State :=
  let mine (f : Nat) : Bool := (s.partition f).hasTile t && s.rdb Reg.fnMemkey f && s.rd Reg.fnRotState f != 1
  if s.ready && s.isFarNow t && !s.aloft t && ((List.range 64).any mine || s.remap.any (fun x => x.near == t && x.device)) then
    let far := { s.setTag t (s.farTagOf t) with staged := s.staged.filter (fun g => g.tile != t) }
    let u := (far.verify t 5).2
    { u.setTag t (s.tag t) with staged := s.staged, scrubHold := u.scrubHold.filter (fun x => x != t) }
  else s

/-! ## Staging (R71, R72) -/

/-- The staging pool of function `f`: the runs that its live rounds declare. A copy staged for a round that has ended stays in
its slot until the slot is needed. DESIGN CHOICE (log entry 107) -/
def State.stagePool (s : State) (f : Nat) : List Nat :=
  ((s.rounds.filter (fun r => r.func == f && r.live_)).flatMap (fun r =>
    (List.range r.cfg.stageCount).map (r.cfg.stageBase + ·))).dedup

/-- The instruction at spindle `j`'s PC is one of function `f`'s that waits for tile `t` (R71, R189). -/
def State.waitsFor (s : State) (f t j : Nat) : Bool :=
  let x := s.spin j
  match x.fetch with
  | none => false
  | some w =>
    match usesOf w (s.nctr j) with
    | none => false
    | some u => s.issuing j && s.owner? j == some f && x.guard w && unitClass w
        && (namesQ u w).any (fun i => (opTiles (x.qreg i).toNat).contains t)

/-- Lockage for tile `t` has met a checksum mismatch of tile `bad`: the instructions that wait for `t` trap (R190). -/
def State.stageFails (s : State) (f t bad : Nat) : State :=
  ((List.range 32).filter (s.waitsFor f t)).foldl (fun s j =>
    let x := s.spin j
    s.trap j 0x0101 false x.pc (BitVec.ofNat 64 (x.fetch.getD 0)) x.stepc bad) s

/-- Folds in flight touch page `p` of tile `t`. -/
def State.pageFolds (s : State) (t p : Nat) : Bool :=
  s.spindles.any (fun x => x.segs.any (fun g => g.tile == t
    && (pagesIn (g.base * wBytes g.wsel) (g.elems.length * wBytes g.wsel)).contains p))

/-- Pool tiles that hold pages of row blocks of which none is being folded. -/
def State.idleFrames (s : State) (pool : List Nat) : List PageCopy :=
  s.pages.filter (fun g => pool.contains g.slot && s.pages.all (fun h => h.slot != g.slot || !s.pageFolds h.tile h.page))

/-- A pool tile for function `f`: a free one, else that of the least recently folded staged tile with no folds in flight,
written back first, else one that holds pages of row blocks. Which free tile is taken is not stated: the first in the order of
the rounds' runs; a tile staged and not yet folded counts as folded when it was staged. DESIGN CHOICE (log entry 107). `t` is
the tile whose instructions trap when a write-back fails (R190). -/
def State.stageSlot (s : State) (f t : Nat) : Option Nat × State :=
  let pool := s.stagePool f
  match pool.find? (fun n => !s.staged.any (fun g => g.slot == n) && !s.pages.any (fun g => g.slot == n)) with
  | some n => (some n, s)
  | none =>
    match minBy? (fun (g : Staged) => g.lastUse) (s.staged.filter (fun g => pool.contains g.slot && s.quiet [g.tile])),
        minBy? (fun (g : PageCopy) => g.lastUse) (s.idleFrames pool) with
    | some g, _ =>
      let s1 := s.writeBack g.tile
      -- a copy that fails its checksum is not written, and stays
      if (s1.stagedOf g.tile).any (fun x => x.dirty) then (none, s1.stageFails f t g.tile) else (some g.slot, s1.unstage g.tile)
    | none, some g =>
      (some g.slot, (s.pages.filter (fun h => h.slot == g.slot)).foldl (fun (s : State) (h : PageCopy) =>
        (s.pageBack h).pageOut { h with dirty := false }) s)
    | none, none => (none, s)

/-- The place in the pool for a page of a row block of tile `t`: one free in a tile that holds pages already, else a pool tile's
first, else that of the page least recently folded with no fold in flight. DESIGN CHOICE (log entry 107) -/
def State.pageSlot (s : State) (f t : Nat) : Option (Nat × Nat) × State :=
  let pool := s.stagePool f
  let open_ := (pool.filter (fun n => s.pages.any (fun g => g.slot == n))).flatMap (fun n => (List.range 16).map (fun k => (n, k)))
  match open_.find? (fun q => !s.pages.any (fun g => g.slot == q.1 && g.pos == q.2)) with
  | some q => (some q, s)
  | none =>
    match s.stageSlot f t with
    | (some n, s1) => (some (n, 0), s1)
    | (none, s1) =>
      match minBy? (fun (g : PageCopy) => g.lastUse) (s1.pages.filter (fun g => pool.contains g.slot && !s1.pageFolds g.tile g.page)) with
      | none => (none, s1)
      | some g =>
        let s2 := s1.pageBack g
        (some (g.slot, g.pos), { s2 with pages := s2.pages.erase { g with dirty := false } })

/-- Page `p` of row block `t` comes into the pool, unverified (R148). -/
def State.pageIn (s : State) (f t p : Nat) : State :=
  if (s.pageOf t p).isSome then s
  else match s.pageSlot f t with
    | (none, s1) => s1
    | (some (n, k), s1) =>
      let g : PageCopy := { func := f, tile := t, page := p, slot := n, pos := k, dirty := false, lastUse := s1.time }
      { s1.bump Reg.farLockageBytes (p / 4) 4096 with
        tiles := writeBytes s1.tiles g.addr (s1.farPage t p)
        upsets := Sparse.clear s1.upsets (g.addr / 8) ((g.addr + 4096) / 8)
        pages := s1.pages ++ [g] }

/-- Pages of tile `t` that rows waiting to be folded need (R148). -/
def State.wantedPagesOf (s : State) (f t : Nat) : List Nat :=
  ((List.range 32).flatMap (fun j => match s.rowWaits j with
    | some (g, r, p) => if g = f ∧ p.tile = t then s.rowPages r.cfg p else []
    | none => [])).dedup

/-- STAGING_DONE: the tile is read, verified and placed; of a row block that FOLDR waits for, the pages it waits for. -/
def State.stage (s : State) (f t : Nat) : State :=
  if !s.ready || !(s.partition f).hasTile t || !s.isFarNow t || (s.stagedOf t).isSome || !s.farTurn f then s
  else if !(s.wantedPagesOf f t).isEmpty then (s.wantedPagesOf f t).foldl (fun s p => s.pageIn f t p) s
  else if s.pages.any (fun g => g.tile == t) && !s.quiet [t] then s
  else match (s.dropPages t).stageSlot f t with
    | (none, s1) => s1
    | (some slot, s1) =>
      let (ok, s2) := s1.verify t 3
      if !ok then s2.stageFails f t t
      else
        let data := s2.tileBytes t 0 tileSize
        let u : State := { s2.lockBytes with
          staged := s2.staged ++ [{ func := f, tile := t, slot := slot, dirty := false, lastUse := s.time, farTag := s2.tag t }] }
        u.putTile t 0 data

/-- SPARE_SUBSTITUTED (R414). -/
def execSpareSubstituted (sp : Nat) (s : State) : Res := .next (s.substituted sp)
/-- JOURNAL_POINT (R412). -/
def execJournalPoint (sp : Nat) (s : State) : Res := .next (s.journalAt sp)
/-- CC_WATCHDOG (R420). -/
def execCcWatchdog (core : Nat) (s : State) : Res := .next (s.ccFail core)
/-- NALAM_WATCHDOG (R421). -/
def execNalamWatchdog (s : State) : Res := .next s.nalamHang
/-- CLOCK_LOSS (R451). -/
def execClockLoss (ref : ClockRef) (s : State) : Res := .next (s.clockLost ref)
/-- CREEL_TIER_LOST (R418). -/
def execCreelTierLost (s : State) : Res := .next (if s.ready then s.tierLost else s)
/-- FAR_PACKAGE_LOST (R419). -/
def execFarPackageLost (p : Nat) (s : State) : Res := .next (if s.ready then s.packageLost p else s)
/-- BOOK_AUDIT (R424). -/
def execBookAudit (s : State) : Res := .next s.bookAudit
/-- CREEL_SCRUB (R69). -/
def execCreelScrub (t : Nat) (s : State) : Res := .next (s.creelScrub t)
/-- SCRUB_FOLD_HOLD (R70). -/
def execScrubFoldHold (t : Nat) (s : State) : Res := .next (s.scrubFoldHold t)
/-- FAR_SCRUB (R69). -/
def execFarScrub (t : Nat) (s : State) : Res := .next (s.farScrub t)
/-- STAGING_DONE (R71). -/
def execStagingDone (f t : Nat) (s : State) : Res := .next (s.stage f t)

end Sys2Proof.Machine
end

