-- ==== Sys2Proof/Machine/RegFile.lean ====
section
/-! DEFINITION. The register file as a requester sees it: fields that other parts of State hold, which page and register an
address names (R374, R375), writes by access code, aliases and locks (R10, R11, R376), and reads that clear (R377). -/
namespace Sys2Proof.Machine
open Sys2Proof

/-! ## Fields another part of State holds -/

/-- STATE of PROG_STATUS (R200). -/
def SpState.code : SpState → Nat
  | .unassigned => 0
  | .idle => 1
  | .loaded => 2
  | .running => 3
  | .handler => 4
  | .trapped => 5
  | .stopped => 6
  | .done => 7

/-- The bundle of a port. -/
def State.bundleOf (s : State) (p : Nat) : Option Nat := (List.range 64).find? (fun b => bit (s.rd Reg.qpcBundle 0 b) p)

/-- What function `f` sees of its logical spindle `j`; 0 where it is not assigned. -/
def State.mySpin (s : State) (f j : Nat) (g : Spindle → Nat) : Nat := if bit (s.rd Reg.fnSpindles f) j then g (s.spin j) else 0

/-- The owner of the logical spindle that physical spindle `n` runs. -/
def State.physOwner (s : State) (n : Nat) : Option Nat := ((s.phy n).logical.head?).bind s.owner?

/-- Bits that hold of the sources. -/
def State.sourceBits (s : State) (p : Source → Bool) : Nat := (s.rng.sources.mapIdx (fun k x => if p x then 2 ^ k else 0)).sum

/-- Fields held elsewhere: the field, and its value at page instance `i`, item `j`. -/
def views (s : State) : List (Fld × (Nat → Nat → Nat)) :=
  [ (Reg.creelSbOcc, fun _ _ => s.sbTiles.length)
  , (Reg.progState, fun i j => s.mySpin i j (fun x => x.st.code))
  , (Reg.progLevel, fun i j => s.mySpin i j (fun x => b2n x.expert))
  , (Reg.progPc, fun i j => s.mySpin i j (fun x => x.pc))
  , (Reg.progTrap, fun i j => s.mySpin i j (fun x => x.trap))
  , (Reg.qpcCacheOcc, fun _ _ => (s.qps.filter (fun q => q.cached)).length)
  , (Reg.qpcPinned, fun _ _ => (s.qps.filter (fun q => q.pinned)).length)
  , (Reg.qpcFetchOut, fun _ _ => (s.qps.filter (fun q => q.fetchAt.isSome)).length)
  , (Reg.qpcTrackersFree, fun _ _ => trackerMax - s.trackersUsed)
  , (Reg.qpcBasinOcc, fun _ _ => s.basinUsed)
  , (Reg.portBundle, fun i _ => (s.bundleOf i).getD 0)
  , (Reg.portInBundle, fun i _ => b2n (s.bundleOf i).isSome)
  , (Reg.fnWinUsed, fun i _ => (s.windows.filter (fun w => w.func == i)).length)
  , (Reg.fnTwrUsed, fun i _ => (s.twrs.filter (fun w => w.func == i && w.due.isNone)).length)
  , (Reg.fnCtrVal, fun i _ => s.ctrGet i (s.rd Reg.fnCtrSel i))
  , (Reg.rngSrcOk, fun _ _ => s.sourceBits (fun x => x.ok))
  , (Reg.rngSrcDisabled, fun _ _ => s.sourceBits (fun x => x.disabled))
  , (Reg.rngQueueWords, fun _ _ => s.rng.queue.length)
  , (Reg.nalamSlotAttr, fun _ _ => (s.slot (s.rd Reg.nalamSlotSel)).attr.word)
  , (Reg.nalamKeyBusy, fun _ _ => b2n s.keyBusy)
  , (Reg.fnFunc, fun i _ => i)
  , (Reg.fnIsPf, fun i _ => b2n (i == 0))
  , (Reg.fnIdeActive, fun i _ => b2n (s.fn i).ideKeyed)
  , (Reg.fnSealedFar, fun _ _ => s.rd Reg.partSealedFar)
  , (Reg.fnThrottleStep, fun _ _ => s.rd Reg.weirStep)
  , (Reg.physRole, fun i _ => (s.phy i).role)
  , (Reg.physLspin0, fun i _ => (s.phy i).lspin0)
  , (Reg.physLspin1, fun i _ => (s.phy i).lspin1)
  , (Reg.physFunc, fun i _ => (s.physOwner i).getD 0)
  , (Reg.physAssigned, fun i _ => b2n (s.physOwner i).isSome)
  , (Reg.physLastCode, fun i _ => (s.phy i).lastCode)
  , (Reg.bistLogEntry, fun _ _ => s.bist.log.getD (s.rd Reg.bistLogSel) 0)
  , (Reg.bistEntries, fun _ _ => s.bist.log.length)
  , (Reg.bistSoftUsed, fun _ _ => s.bist.soft.length)
  , (Reg.bistFuseLeft, fun _ _ => 4096 - s.otp.repairs.length) ]

/-- The value a field reads as: a write-only field reads as 0, a counter as before this CLK_CTL cycle (R377). -/
def State.fieldNow (s : State) (f : Fld) (i j : Nat) : Nat :=
  if f.acc = .wo then 0
  else match (views s).find? (fun p => p.1 == f) with
    | some p => p.2 i j % 2 ^ f.w
    | none => (s.ctl.was.lookup (f.key i j)).getD (s.rd f i j)

/-! ## Which register an address names (R374, R375) -/

/-- The pages. -/
def pages : List Page :=
  [.dev, .rst, .clk, .weir, .event, .snap, .spindle, .creel, .far, .port, .qpc, .rng, .nalam, .ply, .gate, .func]

/-- Page and instance at an offset of PF0's BAR0. -/
def pageAt (a : Nat) : Option (Page × Nat) :=
  (pages.find? (fun p => decide (p.base ≤ a) && decide (a < p.base + p.count * 0x10000))).map (fun p => (p, (a - p.base) / 0x10000))

/-- Page and instance a requester's address names: a virtual function has its own FUNC page only. -/
def reqPage (r : Req) (a : Nat) : Option (Page × Nat) :=
  match r with
  | .vf n _ => if a < 0x10000 then some (.func, n) else none
  | _ => pageAt a

/-- A field that lies at page instance `i`: the partition command registers are in PF0's FUNC page only (R366). -/
def Fld.on (f : Fld) (p : Page) (i : Nat) : Bool := f.page == p && (p != .func || i == 0 || decide (f.off < 0x3C00))

/-- The items of the field that meet bytes `o` to `o + n − 1` of a page. -/
def Fld.items (f : Fld) (o n : Nat) : List Nat :=
  (List.range f.n).filter (fun j =>
    let b := (f.off + j * f.stride) * 8 + f.lsb
    decide (b < (o + n) * 8) && decide (o * 8 < b + f.w))

/-- Fields and items that meet bytes of a page; write-once fields come first, so that an access that sets a lock finds it set
(R11). -/
def fieldsAt (p : Page) (i o n : Nat) : List (Fld × Nat) :=
  let fs := (Reg.rows.filter (fun f => f.on p i)).flatMap (fun f => (f.items o n).map (fun j => (f, j)))
  fs.filter (fun x => x.1.acc == .wot) ++ fs.filter (fun x => x.1.acc != .wot)

/-- There is a register at offset `o`: a field in its 64-bit word, the identity registers of a FUNC page (R379), a holding
copy (R378), or the reserved end of a bundle's address register (R257). -/
def isReg (p : Page) (i o : Nat) : Bool :=
  let w := o / 8 * 8
  !(fieldsAt p i w 8).isEmpty || (p == .func && decide (o < 0x38)) || (fieldsAt p i (Nat.xor w 0x2000) 8).any (fun x => x.1.acc == .rc)
    || (p == .qpc && decide (0x300 ≤ o) && decide (o < 0xB00))

/-- PF0's view of another function's page (R374). -/
def foreign (r : Req) (p : Page) (i o : Nat) : Bool :=
  p == .func && i != 0 && (match r with
    | .vf _ _ => false
    | _ => true) && !(decide (o < 0x40) || (decide (0x3800 ≤ o) && decide (o < 0x3838)))

/-- The instance's registers exist in this grade. -/
def State.enabledPage (s : State) (p : Page) (i : Nat) : Bool :=
  match p with
  | .port => decide (i < s.nports)
  | .spindle => (s.phy i).role != 4
  | _ => true

/-- The request reaches a page of the device: its function is there, and the clocks run (R369, R431). -/
def State.onBus (s : State) (r : Req) : Bool :=
  s.busUp && (match r with
    | .vf n _ => (s.fn n).exists_
    | _ => true)

/-- The requester's function is in function reset: its accesses have no effect, and reads answer zero, but for offset 0x38 of its
own page (R389). -/
def State.inReset (s : State) (r : Req) : Bool :=
  match r with
  | .vf n _ => (s.fn n).resetAt.isSome
  | .pf0 _ => (s.fn 0).resetAt.isSome
  | _ => false

/-- The address is mapped: before READY, only the DEV page and the mailbox in the NALAM page (R397). -/
def State.mappedAt (s : State) (r : Req) (a : Nat) : Bool :=
  s.mapped || (match r with
    | .vf _ _ => false
    | _ => decide (a < 0x10000) || (decide (0xC00000 ≤ a) && decide (a < 0xC01000)))

/-- An access of `n` bytes: `dead` where it has no effect and a read answers zero; R370 and R375 refuse with a log; the rest
names a page, an instance and an offset in the page's normal view or an alias of it. -/
def State.access (s : State) (r : Req) (a n : Nat) (dead : State → State) (body : Page → Nat → Nat → Nat → State) : State :=
  if !s.onBus r then s
  else if s.outside r then s.accErr r 0x0703 a
  else if s.inReset r || !s.mappedAt r a then dead s
  else if (n != 4 && n != 8) || a % n != 0 then (dead s).accErr r 0x0703 a
  else match reqPage r a with
    | none => (dead s).accErr r 0x0703 a
    | some (p, i) =>
      let o := a % 0x4000
      if !s.enabledPage p i then dead s
      else if foreign r p i o then (dead s).accErr r 0x0702 a
      else if !isReg p i o then (dead s).accErr r 0x0703 a
      else body p i o (a % 0x10000 / 0x4000)

/-! ## Writes (R10, R11, R376) -/

/-- Fields whose write has a row of its own in the command table. -/
def ownRow : List Fld :=
  [Reg.progCmd, Reg.fnXcmd, Reg.gateSyncEpoch, Reg.plyCmd, Reg.nalamRollbackCommit, Reg.nalamKeyCmd, Reg.nalamSlot, Reg.nalamFunc,
   Reg.nalamToCc, Reg.fnFkeyZero, Reg.partCmd, Reg.snapCmd, Reg.fnFsnapCmd, Reg.ringCmd, Reg.ringSqTail, Reg.ringCqHead, Reg.rstFrGo,
   Reg.bootFwDoorbell, Reg.attAttach, Reg.attGoService, Reg.warmGo, Reg.bistCmd, Reg.bistPspin, Reg.fnEvtTail, Reg.fnCtrVal,
   Reg.fnIdeReq]

/-- `v` within `lo` and `hi`, or `d`. -/
def within (lo hi d v : Nat) : Nat := if lo ≤ v ∧ v ≤ hi then v else d

/-- The TDP of the grade in W (R459). -/
def State.tdp (s : State) : Nat := if s.otp.gradeE then 1150 else 1450

/-- The ports that exist, as bits. -/
def State.portBits (s : State) : Nat := 2 ^ s.nports - 1

/-- What a field holds after a write of `v`: its range, and the bits that ignore writes. -/
def State.fixed (s : State) (f : Fld) (v : Nat) : Nat :=
  match ([ (Reg.creelPeriodMs, within 10 80 80 v), (Reg.qpcPathBase, within 0 0xFF00 0xC000 v)
         , (Reg.qpcReorderT, within 1350 1350000 13500 v), (Reg.qpcRtoMin, within 13500 13500000 67500 v)
         , (Reg.qpcRtoMax, within (s.rd Reg.qpcRtoMin) 1350000000 13500000 v), (Reg.qpcRetryLimit, within 2 16 12 v)
         , (Reg.qpcFetchTimeout, within 13500 13500000 135000 v), (Reg.qpcProbeT, within 13500 13500000 135000 v)
         , (Reg.qpcQpTableBase, v / 4096 * 4096), (Reg.fnEvtBase, v / 4096 * 4096), (Reg.fnEvtLog2, within 6 16 6 v)
         , (Reg.qpcBundle, Nat.land v s.portBits), (Reg.plyRole, if v = 3 then s.rd Reg.plyRole else v)
         , (Reg.rngDecim, within 4 64 16 v), (Reg.rngRctCutoff, within 2 255 41 v), (Reg.rngAptCutoff, within 513 1024 795 v)
         , (Reg.rngReseedMs, within 1 100 10 v), (Reg.partNetSlot, within 1350 1350000 13500 v)
         , (Reg.partFarSlot, within 1350 1350000 13500 v), (Reg.weirTHot, within 80 104 100 v)
         , (Reg.weirTCool, within 60 (s.rd Reg.weirTHot - 2) (s.rd Reg.weirTHot - 5) v)
         , (Reg.weirPLimit, within 600 s.tdp s.tdp v), (Reg.partNear, Nat.land v 0x1FFFF0000FFFF)
         , (Reg.partFar, Nat.land v 0x7FFFFF7FFFFF) ] : List (Fld × Nat)).find? (fun p => p.1 == f) with
  | some p => p.2
  | none => v

/-- What follows a field's new value: sources start again after a write to DECIM (R315), a vector that is unmasked goes
(R371), and a bundle's sealing shows in the functions that hold it (R365). -/
def State.afterWrite (s : State) (f : Fld) (i : Nat) : State :=
  if f = Reg.rngDecim then (List.range 8).foldl (fun s k => s.startSource k) (s.updRng (fun x => { x with collecting := false }))
  else if f = Reg.msixMask then (if s.dmaOk i then s.sendPending i else s)
  else if f = Reg.partSealedBundles then
    ((List.range 64).foldl (fun s g => s.wr Reg.fnSealedNet (b2n (Nat.land (s.rd Reg.fnBundles g) (s.rd Reg.partSealedBundles) != 0)) g) s).rotateAll
  else if f = Reg.partNetSlot ∨ f = Reg.partFarSlot ∨ f = Reg.partSealedFar then s.rotateAll
  else s

/-- The field's lock is set. -/
def State.locked (s : State) (f : Fld) : Bool := f.lock.any (fun k => Sparse.get 0 s.regs k == 1)

/-- The new value of a field's bits `m`, written as `v`, in the normal view or an alias (R376). -/
def aliasValue (view cur m v : Nat) : Nat :=
  match view with
  | 0 => Nat.lor (Nat.xor cur (Nat.land cur m)) v
  | 1 => Nat.lor cur v
  | 2 => Nat.xor cur (Nat.land cur v)
  | _ => Nat.xor cur v

/-- A write of 1 to a W1C field: it clears, but for a bit set in the same CLK_CTL cycle; and a capture log takes a new capture of
that cycle (R377). -/
def State.clearBit (s : State) (f : Fld) (i : Nat) : State :=
  let k := f.key i 0
  if s.ctl.set.contains k then s
  else match s.ctl.next.find? (fun p => p.1 == k) with
    | some p => { s with regs := p.2.foldl (fun m q => Sparse.set 0 m q.1 q.2) s.regs }
    | none => s.wr f 0 i

/-- Write bits of one field (R10). Every write to a locked RWL field, and every later write to a WOT field, is dropped and
logged, whatever its value (R11). Each field dropped is logged by itself. DESIGN CHOICE (log entry 71) -/
def State.writeField (s : State) (r : Req) (a view : Nat) (f : Fld) (i j m v : Nat) : State :=
  let cur := s.rd f i j
  let new := aliasValue view cur m v
  let put (x : Nat) : State := (s.wr f (s.fixed f x) i j).afterWrite f i
  match f.acc with
  | .rw => put new
  | .rwl => if s.locked f then s.accErr r 0x0701 a else put new
  | .wot =>
    if view ≠ 0 then s
    else if s.wot.contains (f.key i j) then s.accErr r 0x0701 a
    else { put new with wot := f.key i j :: s.wot }
  | .w1c => if view ≠ 0 || v = 0 then s else s.clearBit f i
  | .wo => if view ≠ 0 then s else put new
  | .ro => s
  | .rc => s

/-- The bits of field item `j` that bytes `o` to `o + n − 1` write, and their values from `v`. -/
def Fld.part (f : Fld) (j o n v : Nat) : Nat × Nat :=
  let b := (f.off + j * f.stride) * 8 + f.lsb
  let lo := max b (o * 8)
  let w := min (b + f.w) ((o + n) * 8) - lo
  ((2 ^ w - 1) * 2 ^ (lo - b), bits v (lo - o * 8) w * 2 ^ (lo - b))

/-- REGISTER_WRITE. Fields of access P ignore a write from any other requester than those R10 names, which is logged once. -/
def State.regWrite (s : State) (r : Req) (a n v : Nat) : State :=
  s.access r a n (fun s => s) (fun p i o view =>
    let fs := fieldsAt p i o n
    let denied := !s.privileged r && fs.any (fun x => x.1.priv)
    let s1 := (fs.filter (fun x => !ownRow.contains x.1 && !(x.1.priv && denied))).foldl (fun s x =>
      let (m, w) := x.1.part x.2 o n v
      s.writeField r a view x.1 i x.2 m w) s
    if denied then s1.accErr r 0x0702 a else s1)

/-! ## Reads -/

/-- What 8 bytes at offset `o` of a page read as (R375): the fields there, those of DEV in a FUNC page, and the holding
copies (R378). A field of access P reads as 0 to a requester without privilege (R10). -/
def State.readWord (s : State) (p : Page) (i o : Nat) (priv : Bool := true) : Nat :=
  let p1 := if p = .func ∧ o < 0x38 then Page.dev else p
  let i1 := if p1 = p then i else 0
  let gather (fs : List (Fld × Nat)) (q : Nat) (val : Fld → Nat → Nat) : Nat :=
    (fs.map (fun x =>
      let b := (x.1.off + x.2 * x.1.stride) * 8 + x.1.lsb
      let v := val x.1 x.2
      if q * 8 ≤ b then v * 2 ^ (b - q * 8) else v / 2 ^ (q * 8 - b))).sum % 2 ^ 64
  let seen (x : Fld × Nat) : Bool := priv || !x.1.priv
  gather ((fieldsAt p1 i1 o 8).filter seen) o (fun f j => s.fieldNow f i1 j)
    + (if (fieldsAt p1 i1 o 8).isEmpty then
        gather ((fieldsAt p1 i1 (Nat.xor o 0x2000) 8).filter (fun x => x.1.acc == .rc && seen x)) (Nat.xor o 0x2000)
          (fun f j => Sparse.get 0 s.holding (f.key i1 j))
      else 0)

/-- SECURE (R379) of a read at offset `o`: 1 in a FUNC page when it arrives in the secure context (R368). -/
def State.secureBit (s : State) (r : Req) (p : Page) (o : Nat) : Nat :=
  match r with
  | .pf0 sec => if p = .func ∧ o = 0x38 ∧ sec ∧ (s.fn 0).ideSecure then 2 ^ 9 else 0
  | _ => 0

/-- Offset 0x38 of the requester's own FUNC page, in its BAR0. -/
def ownFunc38 (r : Req) : Nat := if reqHome r = 0 then Page.func.base + 0x38 else 0x38

/-- What a read that has no effect answers: zero, but for offset 0x38 in a function reset (R389). -/
def State.readDead (s : State) (r : Req) (a : Nat) : State :=
  s.emit (.read a (if s.inReset r ∧ a = ownFunc38 r then s.readWord .func (reqHome r) 0x38 + s.secureBit r .func 0x38 else 0))

/-- A counter is read and cleared: it keeps what it counted in this CLK_CTL cycle (R377). -/
def State.takeCount (s : State) (f : Fld) (i j : Nat) : State :=
  let k := f.key i j
  match s.ctl.was.lookup k with
  | none => s.wr f 0 i j
  | some v =>
    let s1 := s.wr f (s.rd f i j + 2 ^ f.w - v) i j
    { s1 with ctl := { s1.ctl with was := (k, 0) :: s1.ctl.was.filter (fun p => p.1 != k) } }

/-- COUNTER_READ_CLEAR: an 8-byte read of an RC field in the normal view clears it; another register it only reads. Fields of
access P read as 0 to a requester without privilege, and the refusal is logged (R10, R11). RNG_DATA has a row of its own; its second half alone is the code of the last word the requester took (R321). -/
def State.readClear (s : State) (r : Req) (a : Nat) : State :=
  s.access r a 8 (fun s => s.readDead r a) (fun p i o view =>
    let fs := fieldsAt p i o 8
    let denied := !s.privileged r && fs.any (fun x => x.1.priv)
    if p = .rng ∧ o = 0x40 then (if view = 0 then s else s.emit (.read a 0))
    else if p = .rng ∧ o = 0x48 then
      s.emit (.read a (if view = 0 then ((s.rng.codes.find? (fun x => x.1 == r)).map (·.2)).getD 0 else 0))
    else
      let s1 := s.emit (.read a (s.readWord p i o (s.privileged r) + s.secureBit r p o))
      let s2 := if view ≠ 0 then s1
        else (fs.filter (fun x => x.1.acc == .rc && !(x.1.priv && denied))).foldl (fun s x => s.takeCount x.1 i x.2) s1
      if denied then s2.accErr r 0x0702 a else s2)

/-- REGISTER_WRITE (R10). -/
def execRegisterWrite (r : Req) (addr size : Nat) (v : BitVec 64) (s : State) : Res := .next (s.regWrite r addr size v.toNat)
/-- COUNTER_READ_CLEAR (R10). -/
def execCounterReadClear (r : Req) (addr : Nat) (s : State) : Res := .next (s.readClear r addr)

end Sys2Proof.Machine
end

