-- ==== Sys2Proof/Machine/Weir.lean ====
section
/-! DEFINITION. The weir: samples, steps and VID (R453, R454, R458), the thermal trip (R455), and rails (R457). -/
namespace Sys2Proof.Machine
open Sys2Proof

/-- CLK_FAB cycles between step changes, and between VID codes. -/
def stepSpacing : Nat := 13500000
def vidSpacing : Nat := 13500
/-- Samples of 10 ms, of 100 ms and of 1 ms. -/
def samples10ms : Nat := 100
def samples100ms : Nat := 1000
def samples1ms : Nat := 10
/-- The temperature of the trip, °C. -/
def tripTemp : Nat := 110
/-- The hottest junction at which a test result is valid (R446). -/
def testTemp : Nat := 105

/-- A condition of R446 is broken while a test runs. -/
def State.breakTest (s : State) : State :=
  if s.rd Reg.bistState = 1 then { s with bist := { s.bist with broken := true } } else s

/-- The divider changes. -/
def State.setStep (s : State) (k : Nat) : State :=
  { ((s.wr Reg.weirStep k).bump Reg.weirStepChanges).breakTest with weir := { s.weir with lastChange := some s.upTime, stepUp := none } }

/-- VID starts to move to a code. -/
def State.moveVid (s : State) (goal : Nat) (up : Option Nat) : State :=
  { s.wr Reg.weirRamping (if up.isSome || goal != s.rd Reg.weirVid then 1 else 0) with
    weir := { s.weir with vidGoal := goal, stepUp := up, vidAt := s.upTime } }

/-- THERMAL_TRIP. -/
def State.trip (s : State) (temp : Nat) : State :=
  if s.busUp && decide (tripTemp ≤ temp) then (s.raise 0 0x0A2D).bootFail 0x0A2D 0 else s

/-- A sample counts towards the time spent at the step in effect. -/
def State.countStep (s : State) : State :=
  let k := s.rd Reg.weirStep
  let n := s.weir.atStep.getD k 0 + 1
  if n < samples1ms then { s with weir := { s.weir with atStep := updAt s.weir.atStep k (fun _ => n) } }
  else { s.bump Reg.weirTimeAtStep 0 1 k with
    weir := { s.weir with atStep := updAt s.weir.atStep k (fun _ => 0) } }

/-- The target step of a sample; the average of the power samples is taken exactly (R7, R453). -/
def State.wanted (s : State) (tj : Nat) (powers : List Nat) (cool : Nat) : Nat :=
  let k := s.rd Reg.weirStep
  let limit := s.rd Reg.weirPLimit * powers.length
  let want := if s.rd Reg.weirTHot ≤ tj ∨ limit < powers.sum then k + 1
    else if samples100ms ≤ cool ∧ powers.sum * 10 < 9 * limit then k - 1 else k
  min (max want (s.rd Reg.weirStepFloor)) 3

/-- WEIR_SAMPLE: a step down changes the divider, then VID; a step up raises VID first, and an over-temperature meanwhile
cancels it. -/
def State.weirSample (s : State) (temps : List Nat) (power : Nat) : State :=
  if !s.busUp || s.rd Reg.bootStage < 5 then s
  else
    let tj := temps.foldl max 0
    let powers := (power :: s.weir.powers).take samples10ms
    let pavg := powers.sum / powers.length
    let cool := if tj ≤ s.rd Reg.weirTCool then s.weir.cool + 1 else 0
    let want := s.wanted tj powers cool
    let s1 := { (((s.wr Reg.weirTjMax tj).wr Reg.weirPowerW pavg).wr Reg.weirTarget want).countStep with
      weir := { s.countStep.weir with powers := powers, cool := cool } }
    let s2 := if testTemp < tj then s1.breakTest else s1
    let k := s.rd Reg.weirStep
    let spaced := s.weir.lastChange.all (fun t => decide (t + stepSpacing ≤ s.upTime))
    if tripTemp ≤ tj then s2.trip tj
    else if s.weir.stepUp.isSome then (if k < want then s2.moveVid (vidFor k) none else s2)
    else if !spaced || want == k then s2
    else if k < want then (s2.setStep want).moveVid (vidFor want) none
    else s2.moveVid (vidFor want) (some want)

/-- VID_STEP: one code; at the end of a step up the divider changes once the last code has been held. -/
def State.vidStep (s : State) : State :=
  if !s.busUp || !s.rdb Reg.weirRamping || decide (s.upTime < s.weir.vidAt + vidSpacing) then s
  else
    let v := s.rd Reg.weirVid
    let g := s.weir.vidGoal
    if v ≠ g then
      let v1 := if v < g then v + 1 else v - 1
      { (s.wr Reg.weirVid v1).wr Reg.weirRamping (b2n (v1 != g || s.weir.stepUp.isSome)) with weir := { s.weir with vidAt := s.upTime } }
    else
      let s1 := s.wr Reg.weirRamping 0
      match s.weir.stepUp with
      | some k => s1.setStep k
      | none => s1

/-- RAIL_FAULT: with PERST_N released, nothing is known of the device until the next full reset. -/
def State.railFault (s : State) (_rail : Rail) : Res := if s.pins.perst then .next s else .fault .railOutOfTolerance

/-- WEIR_SAMPLE (R453). -/
def execWeirSample (temps : List Nat) (power : Nat) (s : State) : Res := .next (s.weirSample temps power)
/-- VID_STEP (R454). -/
def execVidStep (s : State) : Res := .next s.vidStep
/-- THERMAL_TRIP (R455). -/
def execThermalTrip (temp : Nat) (s : State) : Res := .next (s.trip temp)
/-- RAIL_FAULT (R457). -/
def execRailFault (rail : Rail) (s : State) : Res := s.railFault rail

end Sys2Proof.Machine
end

