-- ==== Sys2Proof/Machine/Bist.lean ====
section
/-! DEFINITION. Built-in self-test and repair (R436 to R447). -/
namespace Sys2Proof.Machine
open Sys2Proof

/-- STATE values (R447). -/
def bistRunning : Nat := 1
def bistDone : Nat := 2
def bistInvalid : Nat := 3
/-- BAR0 offset of BIST_CMD. -/
def offBistCmd : Nat := 0xC01200
/-- Life-cycle codes (R328). -/
def lcSort : Nat := 1
def lcField : Nat := 2
def lcReturn : Nat := 3
/-- Entries of the failure log (R438), and of the OTP repair field (R440). -/
def logMax : Nat := 256
def repairMax : Nat := 4096
/-- CLK_FAB cycles of a second. -/
def oneSecond : Nat := 1350000000

/-- The conditions of R446 hold now: VDD_CORE is 0.600 + 0.005 V per code. -/
def State.testable (s : State) : Bool :=
  let v := s.rd Reg.weirVid
  !s.rdb Reg.weirRamping && decide ((if s.rd Reg.weirStep = 0 then 16 else 4) ≤ v) && decide (v ≤ 36)
    && decide (s.rd Reg.weirTjMax ≤ testTemp) && s.rdb Reg.clkSysrefOk

/-- SORT or RETURN. -/
def State.inFactory (s : State) : Bool := s.lc == lcSort || s.lc == lcReturn

/-- A BIST_CMD: in SORT and RETURN ordinary PF0 requests are accepted too; while a run is on it is ignored. -/
def State.bistCmd (s : State) (r : Req) (body : State → State) : State :=
  let pf := match r with
    | .pf0 _ => true
    | _ => false
  if !s.devAccess r then s
  else if s.outside r then s.accErr r 0x0703 offBistCmd
  else if !(s.privileged r || (pf && s.inFactory)) then s.accErr r 0x0702 offBistCmd
  else if s.rd Reg.bistState = bistRunning then s
  else body s

/-- A command is refused. -/
def State.bistRefuse (s : State) : State := s.wr Reg.bistCode 0x0A2A

/-- A run starts: the results of the last one go. -/
def State.bistStart (s : State) (kind target : Nat) : State :=
  { ((((s.wr Reg.bistState bistRunning).wr Reg.bistPass 0).wr Reg.bistRepaired 0).wr Reg.bistCode 0).wr Reg.bistOverflowed 0 with
    bist := { s.bist with kind := kind, target := target, broken := false, log := [], lastAt := s.upTime } }

/-- Every SRAM's contents and every function's state are gone (R443), and the keys as after a life-cycle transition. -/
def State.wipeAll (s : State) : State :=
  let s1 := s.zeroAllKeys
  { s1 with
    regs := s1.regs.filter (fun p => decide (p.1 / 1024 < Page.func.base))
    holding := []
    funcs := s1.funcs.map (fun x => { exists_ := x.exists_ })
    spindles := List.replicate 32 {}
    tiles := []
    tags := []
    drainsOut := []
    staged := []
    pages := []
    upsets := []
    tagUpsets := []
    scrubHold := []
    rounds := []
    queries := []
    ctrs := []
    ctrCyc := []
    posts := []
    shakes := []
    shakeNext := []
    windows := []
    twrs := []
    qps := []
    gates := []
    partRev := none }

/-- FULL: the device holds until a full reset. -/
def State.bistFull (s : State) (r : Req) : State :=
  s.bistCmd r (fun s =>
    if !s.inFactory || !s.testable then s.bistRefuse
    else
      let s1 := (s.bistStart 1 0).wipeAll
      { s1 with nalam := { s1.nalam with held := true }, pins := { s1.pins with stopped := true } })

/-- Physical spindle `p` can be field-tested: a working spare, or an active spindle that a spare can stand in for. -/
def State.fieldOk (s : State) (p : Nat) : Bool :=
  (s.phy p).role == roleSpare || ((s.phy p).role == roleActive && s.spare?.isSome && !(s.spin (s.phy p).lspin0).recovering)

/-- The next spindle of the rotation. -/
def State.fieldNext (s : State) : Option Nat :=
  let n := s.phys.length
  ((List.range n).map (fun k => (s.bist.next + k) % n)).find? s.fieldOk

/-- Spindle `p` is tested. A spare stands in for an active one by replay, which leaves the program as it was, within the bound
of R414. -/
def State.fieldTest (s : State) (p : Nat) : State :=
  let x := s.phy p
  let s1 := if x.role = roleActive then
      (match s.spare? with
       | some q => (s.updPhys q (fun y => { y with role := roleActive, lspin0 := x.lspin0 })).updPhys p (fun y =>
           { y with role := roleSpare, lspin0 := 0 })
       | none => s)
    else s
  (s1.bistStart 2 p).countSpares

/-- FIELD_NOW: of a spindle that can be tested. -/
def State.fieldNow_ (s : State) (r : Req) (p : Nat) : State :=
  s.bistCmd r (fun s =>
    if !s.testable || s.nalam.held then s.bistRefuse
    else match (if p = 0x3F then s.fieldNext else if p < s.phys.length && s.fieldOk p then some p else none) with
      | some q => s.fieldTest q
      | none => s.bistRefuse)

/-- FIELD_SELF_TEST: every FS_INTERVAL seconds. With the conditions of R446 unmet, the interval passes without a test. -/
def State.fieldRotation (s : State) : State :=
  let n := s.rd Reg.bistFsInterval
  if !s.ready || s.lc ≠ lcField || n = 0 || s.rd Reg.bistState = bistRunning || decide (s.upTime < s.bist.lastAt + n * oneSecond) then s
  else match (if s.testable then s.fieldNext else none) with
    | some p => s.fieldTest p
    | none => { s with bist := { s.bist with lastAt := s.upTime } }

/-- FUSE_REPAIR: soft repairs not yet burned. -/
def State.fuseRepair (s : State) (r : Req) : State :=
  s.bistCmd r (fun s =>
    let new := s.bist.soft.filter (fun x => !s.otp.repairs.contains x)
    if !s.inFactory then s.bistRefuse
    else if repairMax < s.otp.repairs.length + new.length then s.wr Reg.bistCode 0x0A2C
    else { s with otp := { s.otp with repairs := s.otp.repairs ++ new } }.wr Reg.bistCode 0)

/-- The failure log and the repairs of a valid run. -/
def State.bistLog (s : State) (b : BistResult) : State :=
  ({ s with bist := { s.bist with log := b.log.take logMax } }.wr Reg.bistOverflowed (b.log.length - logMax)).softRepairs b.repaired
    |>.wr Reg.bistRepaired (b2n (b.repaired != 0))

/-- The code of a run. -/
def bistCodeOf (lbist scratch : Bool) (b : BistResult) (full : Bool) : Nat :=
  if lbist || (full && (b.cc != 0 || b.other)) then 0x0A2B
  else if scratch || (full && (b.slices != 0 || b.unrep)) then 0x0A2C else 0

/-- A FULL run ends. -/
def State.fullDone (s : State) (b : BistResult) : State :=
  let s1 := ((s.bistLog b).wr Reg.bistLbistFail b.lbist).wr Reg.bistCcFail b.cc |>.wr Reg.bistSliceUnrep b.slices
  let bad := s1.physNums.filter (fun p => (bit b.lbist p || bit b.scratch p) && (s1.phy p).role != 4)
  let code := bistCodeOf (b.lbist != 0) (b.scratch != 0) b true
  let s2 := (bad.foldl (fun s p => s.bootSpindle p) s1).countSpares
  let s3 := if b.slices % 2 ^ 32 = 0 then s2 else s2.wr Reg.creelTier0Ok 0
  let s4 := if b.slices / 2 ^ 32 = 0 then s3 else (s3.wr Reg.creelTier1Ok 0).wr Reg.evTier1Lost 1
  { ((s4.wr Reg.bistCode code).wr Reg.bistPass (b2n (code == 0))).wr Reg.bistState bistDone with bist := { s4.bist with kind := 0 } }

/-- A field test ends: the target is a spare, or has failed. -/
def State.fieldDone (s : State) (b : BistResult) : State :=
  let p := s.bist.target
  let code := bistCodeOf (bit b.lbist p) (bit b.scratch p) b false
  let s1 := (((s.bistLog b).wr Reg.bistFsPspin p).wr Reg.bistFsResult (b2n (code != 0))).wr Reg.bistFsTime s.time
  let s2 := ((s1.wr Reg.bistCode code).wr Reg.bistPass (b2n (code == 0))).wr Reg.bistState bistDone
  let s3 := { s2 with bist := { s2.bist with kind := 0, next := (p + 1) % max 1 s2.phys.length } }
  (if code = 0 then s3
   else ((s3.updPhys p (fun x => { x with role := roleFailed, lastCode := 0x0A2B })).bump Reg.bistFsFails).raise 0 0x0A2B).countSpares

/-- BIST_DONE. -/
def State.bistEnd (s : State) (b : BistResult) : State :=
  if !s.busUp || s.rd Reg.bistState ≠ bistRunning then s
  else if !b.valid || s.bist.broken || !s.testable then
    (if s.bist.kind = 2 then s.testInvalid else { s.wr Reg.bistState bistInvalid with bist := { s.bist with kind := 0 } })
  else if s.bist.kind = 2 then s.fieldDone b
  else s.fullDone b

/-- FULL (R443). -/
def execFull (r : Req) (s : State) : Res := .next (s.bistFull r)
/-- FIELD_NOW (R444). -/
def execFieldNow (r : Req) (pspin : Nat) (s : State) : Res := .next (s.fieldNow_ r pspin)
/-- FUSE_REPAIR (R440). -/
def execFuseRepair (r : Req) (s : State) : Res := .next (s.fuseRepair r)
/-- FIELD_SELF_TEST (R444). -/
def execFieldSelfTest (s : State) : Res := .next s.fieldRotation
/-- BIST_DONE (R446). -/
def execBistDone (res : BistResult) (s : State) : Res := .next (s.bistEnd res)

end Sys2Proof.Machine
end

