-- ==== Sys2Proof/Machine/Expiry.lean ====
section
/-! DEFINITION. The timers that wait for messages: a completion of the same cycle comes first (R105), so each posts the cycle's
completions before it acts. -/
namespace Sys2Proof.Machine
open Sys2Proof

/-- ROUND_GUARD_TIMER (R80). -/
def execRoundGuardTimer (f r : Nat) (s : State) : Res := .next (s.postAll.guardTimer f r)
/-- ROUND_DEADLINE (R80). -/
def execRoundDeadline (f r : Nat) (s : State) : Res := .next (s.postAll.roundDeadline f r)
/-- UNMASK_TIMEOUT (R96). -/
def execUnmaskTimeout (f r : Nat) (s : State) : Res := .next (s.postAll.unmaskTimeout f r)
/-- NL_TIMEOUT (R132). -/
def execNlTimeout (f handle : Nat) (s : State) : Res := .next (s.postAll.nlTimeout f handle)
/-- PARTIAL_DECRYPT_TIMEOUT (R137). -/
def execPartialDecryptTimeout (f r : Nat) (s : State) : Res := .next (s.postAll.partialTimeout f r)
/-- CHILD_WAIT_EXPIRY (R294). -/
def execChildWaitExpiry (f r : Nat) (s : State) : Res := .next (s.postAll.childWait f r)
/-- WAIT_TIMEOUT (R195). -/
def execWaitTimeout (sp : Nat) (s : State) : Res := .next (s.postAll.waitTimeout sp)
/-- PLY_LATE_SLOT_EXPIRY (R306). -/
def execPlyLateSlotExpiry (f r : Nat) (s : State) : Res := .next (s.postAll.plyLate f r)
/-- PLY_PARTNER_LOST (R309). -/
def execPlyPartnerLost (s : State) : Res := .next s.postAll.plyLost

end Sys2Proof.Machine
end

