-- ==== Sys2Proof/Machine/Freeze.lean ====
section
/-! DEFINITION. Freeze (R431, R432) and the TAP (R330, R433). -/
namespace Sys2Proof.Machine
open Sys2Proof

/-! ## Freeze -/

/-- FRZ_N asserted. In SORT and RETURN the clocks stop; otherwise zeroisation comes first, and nothing else is modelled
meanwhile. -/
def State.freeze (s : State) : State :=
  if s.pins.perst || s.pins.frz then s
  else
    let s1 := { s with pins := { s.pins with frz := true } }
    let lc := lcCode s.otp.lc
    if lc = lcSort ∨ lc = lcReturn then s1.wr Reg.evFrozen 1 else s1

/-- Tiles whose tag has SEALED set. -/
def State.sealedTiles (s : State) : List Nat := (s.tags.filter (fun p => p.2.sealed)).map (·.1)

/-- What a round keeps: masked and ciphertext tiles, and nothing that resumes it. -/
def Round.frozen (r : Round) : Round :=
  { r with seed := 0, keys := none, intake := [], live := [], guardHold := [], dupHold := [], um := {} }

/-- FREEZE_ZEROISE_DONE (R432): then the clocks stop. -/
def State.freezeZeroised (s : State) : State :=
  if !s.pins.frz || s.pins.perst || s.rdb Reg.evFrozen then s
  else
    let s1 := s.zeroAllKeys
    let s2 := s1.rounds.foldl (fun s r => s.zeroLz r.cfg.lzBase r.cfg.lzCount) (s1.sealedTiles.foldl (fun s t => s.zeroTile t) s1)
    { s2.wr Reg.evFrozen 1 with
      rounds := s2.rounds.map Round.frozen
      rng := { index := s2.rng.index, collections := s2.rng.collections } }.wr Reg.rngState 0

/-! ## The TAP -/

/-- The clocks have stopped. -/
def State.frozen (s : State) : Bool := s.rdb Reg.evFrozen && !s.pins.perst

/-- The instruction register takes a code, and TDO shows a value. -/
def State.tapShow (s : State) (ir tdo : Nat) : State := { s with tap := { s.tap with ir := ir, tdo := tdo } }

/-- IDCODE's 32 bits. -/
def idcodeWord : Nat := 0xB * 2 ^ 28 + 0x7116 * 2 ^ 12 + Config.manufacturerId.toNat * 2 + 1

/-- What the boundary cells hold is not stated. -/
def State.sample (s : State) : State :=
  let (d, s1) := s.draw
  { s1.tapShow 0x02 (Config.free d) with tap := { s1.tap with ir := 0x02, tdo := Config.free d, samples := s1.tap.samples + 1 } }

/-- EXTEST: only while PERST_N is asserted or the device is frozen. -/
def State.extest (s : State) : State := if s.pins.perst || s.frozen then s.tapShow 0x03 0 else s

/-- A debug token's target code. -/
def debugTarget : Nat := 7

/-- DBG_TOKEN: checked by the Nalam core, so before its clock stops. The nonce is drawn anew (R351). -/
def State.debugToken (s : State) (t : Bytes) : State :=
  let s0 := { s with tap := { s.tap with ir := 0x20 } }
  if !s0.mapped then s0
  else
    let s1 := s0.ask 0 0 4 .lcNonce
    if tokTarget t = debugTarget && s.tokenFresh t && s.tokenSigned t then { s1 with tap := { s1.tap with tokenOk := true, scope := tokScope t } }
    else s1.raise 0 0x060D

/-- FRZ_ADDR. -/
def State.freezeAddr (s : State) (a : Nat) : State := { s with tap := { s.tap with ir := 0x21, addr := a } }

/-- A register's bits over the TAP: the page is PF0's BAR0. -/
def State.tapReg (s : State) (a : Nat) : Nat :=
  match pageAt (a / 8 * 8) with
  | some (p, i) => s.readWord p i (a / 8 * 8 % 0x4000)
  | none => 0

/-- Eight bytes at a freeze address: a register, creel bytes, scratch (of a host with two contexts, the first one's: DESIGN CHOICE,
log entry 127), or lockkeeper state, whose layout is not stated; nor is a region above 3. -/
def State.tapRead (s : State) (a : Nat) : Nat × State :=
  let off := a % 2 ^ 56
  match a / 2 ^ 56 with
  | 0 => (s.tapReg off, s)
  | 1 => (if off < 65536 * tileSize then readNat s.tiles off 8 else 0, s)
  | 2 => (match (s.phy (bits a 50 6)).logical.head? with
      | some j => readNat (s.spin j).scratch (a % 2 ^ 50) 8
      | none => 0, s)
  | _ =>
    let (d, s1) := s.draw
    (Config.free d % 2 ^ 64, s1)

/-- FRZ_DATA: only while frozen; in FIELD within the scope of an accepted token, else zero. -/
def State.freezeData (s : State) : State :=
  let s0 := { s with tap := { s.tap with ir := 0x22 } }
  if !s0.frozen then s0
  else
    let a := s.tap.addr
    let lc := lcCode s.otp.lc
    let allowed := lc == lcSort || lc == lcReturn || (s.tap.tokenOk && bit s.tap.scope (a / 2 ^ 56))
    let (v, s1) := if allowed then s0.tapRead a else (0, s0)
    { s1 with tap := { s1.tap with tdo := v, addr := (a + 8) % 2 ^ 64 } }

/-- FRZ_N_ASSERT (R431). -/
def execFrzNAssert (s : State) : Res := .next s.freeze
/-- FREEZE_ZEROISE_DONE (R432). -/
def execFreezeZeroiseDone (s : State) : Res := .next s.freezeZeroised
/-- BYPASS (R433). -/
def execBypass (s : State) : Res := .next (s.tapShow 0xFF 0)
/-- IDCODE (R433). -/
def execIdcode (s : State) : Res := .next (s.tapShow 0x01 idcodeWord)
/-- SAMPLE_PRELOAD (R433). -/
def execSamplePreload (s : State) : Res := .next s.sample
/-- EXTEST (R433). -/
def execExtest (s : State) : Res := .next s.extest
/-- DBG_TOKEN (R330). -/
def execDbgToken (token : Bytes) (s : State) : Res := .next (s.debugToken token)
/-- FRZ_ADDR (R433). -/
def execFrzAddr (v : BitVec 64) (s : State) : Res := .next (s.freezeAddr v.toNat)
/-- FRZ_DATA (R433). -/
def execFrzData (s : State) : Res := .next s.freezeData

end Sys2Proof.Machine
end

