-- ==== Sys2Proof/Machine/Retire.lean ====
section
/-! DEFINITION. Retirement of unit instructions (R186 to R190): the last effect, the report, and what waits for it. -/
namespace Sys2Proof.Machine
open Sys2Proof

/-- No other entry of function `f` fails the message again: it is gone (R87). -/
def State.forgetFail (s : State) (f r lz slot : Nat) : State :=
  let mine (e : UnitEntry) : Bool := e.round == some r && e.msg == some (lz, slot) && e.failCode.isSome
  { s with spindles := (List.range s.spindles.length).map (fun j =>
      if s.owner? j = some f then
        { s.spin j with uq := updIf (s.spin j).uq mine (fun e => { e with failCode := none }) }
      else s.spin j) }

/-- The message of an entry fails with a code, once (R87); a message that does not authenticate leaves nothing behind
(R218). -/
def State.rejectEntry (s : State) (f : Nat) (e : UnitEntry) : State :=
  match e.failCode, e.msg, e.round with
  | some c, some (lz, slot), some r =>
    match (s.round? f r).bind (fun x => x.live.find? (fun m => m.lz == lz && m.slot == slot)) with
    | none => s
    | some m => ((if c = 0x0603 then s.zeroLz lz (lzTiles m.len) else s).rejectMsg f r slot lz c).forgetFail f r lz slot
  | _, _, _ => s

/-- The entry leaves the queue with its report; a copy that met a checksum mismatch traps, with the tile and qA (R190, R191). -/
def State.leave (s : State) (j : Nat) (e : UnitEntry) : State :=
  let s1 := s.updSpin j (fun x => x.retire e s.time)
  if e.op = .copy ∧ e.code = 0x0101 then s1.trapLate j 0x0101 e.id e.pc e.word e.stepc (e.ops.headD 0) (tQA e.word.toNat) else s1

/-- An EXPAND has cancelled its masks: a queue entry in mode 0, parts in mode 1 (R96, R204). -/
def State.expandDone (s : State) (f : Nat) (e : UnitEntry) : State :=
  match e.round with
  | none => s
  | some r =>
    (s.updRound f r (fun x => { x with um := { x.um with
      expanded := match e.msg with
        | some p => x.um.expanded ++ [p]
        | none => x.um.expanded
      parts := x.um.parts ++ e.spread } })).masksCancelled f r

/-- The round of an entry. -/
def State.entryRound (s : State) (f : Nat) (e : UnitEntry) : Option Round := e.round.bind (fun r => s.round? f r)

/-- An entry of function `f` retires, when its last effect can take place now. -/
def State.retireOf (s : State) (f j : Nat) (e : UnitEntry) : State :=
  match e.op with
  | .release =>
    (match s.entryRound f e with
     | some x =>
       if e.held && x.st == .gated && x.gate.stop.isNone then
         (match s.releaseReady x e with
          | none => s
          | some d => (s.releaseRun f x.cfg.round j e d).leave j e)
       else s.leave j e
     | none => s.leave j e)
  | .apply =>
    (match s.entryRound f e with
     | some x =>
       if e.held then
         (if s.applyReady x e then
           let (n, s1) := s.applyRun x e
           s1.leave j { e with writes := [(e.ops.getD 2 0 + 80, toLe 8 n)] }
         else s)
       else s.leave j e
     | none => s.leave j e)
  | .fold =>
    if e.held then
      (match s.queries.find? (fun q => q.func == f && q.handle == e.handle && some q.round == e.round) with
       | some q => if q.decided.isNone then s else (s.finishQuery f e.handle).leave j e
       | none => s.leave j e)
    else (s.rejectEntry f e).leave j e
  | .clipFinish => if s.clipReady f e.ops then (e.ops.foldl (fun s h => s.finishQuery f h) s).leave j e else s
  | .noise =>
    (match s.entryRound f e with
     | some x => if x.st = .gated then (s.leave j e).noiseDone f x.cfg.round e.spread else s.leave j e
     | none => s.leave j e)
  | .expand =>
    (match s.entryRound f e with
     | some x => if x.st = .unmask ∧ e.code = 0 then (s.leave j e).expandDone f e else s.leave j e
     | none => s.leave j e)
  | _ => (s.rejectEntry f e).leave j e

/-- UNIT_INSTRUCTION_RETIRE: entry `i` of spindle `j`, once its segments, its drain tiles and its random words are in. -/
def State.unitRetire (s : State) (j i : Nat) : State :=
  match (s.spin j).uq[i]? with
  | none => s
  | some e =>
    if !s.ready || (s.spin j).recovering || e.parts != 0 || !e.drains.isEmpty || s.awaitsWords j e.id then s
    else match s.owner? j with
      | some f => s.retireOf f j e
      | none => s.leave j e

/-! ## The end of a CLK_FAB cycle -/

/-- One CLK_FAB cycle of an idle block ends: completions are posted (R274), and triggers look at their counters (R260, R277);
the timebase and the time since power-up advance (R299, R399), checkpoints whose folds have retired are written (R72), and
credit that has become free is granted (R250). While PERST_N is asserted or the clocks have stopped, nothing happens. DESIGN
CHOICE (log entry 2) -/
def State.endCycle (s : State) : State :=
  if s.pins.perst || s.frozen then s
  else { s.postAll.armTwrs with time := s.time + 1, upTime := s.upTime + 1, ctrCyc := [], ctl := if s.time % 2 = 1 then {} else s.ctl }.checkpointsOn.creditAll

/-- UNIT_INSTRUCTION_RETIRE (R188). -/
def execUnitInstructionRetire (sp i : Nat) (s : State) : Res := .next (s.unitRetire sp i)

end Sys2Proof.Machine
end

