-- ==== Sys2Proof/Machine/Scalar.lean ====
section
/-! DEFINITION. The scalar class (R206), SYSR (R180) and BR (R185). -/
namespace Sys2Proof.Machine

/-! ## Forms -/

/-- A scalar instruction with OP `op`: its registers change by `g` and issue goes on at the next word. -/
def State.scalar (s : State) (j op : Nat) (g : Spindle → Nat → Spindle) : State :=
  s.issue j (0, op, 0) (fun _ w s => (s.updSpin j (fun x => g x w)).advance j)

/-- Format R: sD = f(sA, sB). -/
def State.aluR (s : State) (j op : Nat) (f : Word → Word → Word) : State :=
  s.scalar j op (fun x w => x.setS (wSD w) (f (x.sreg (wSA w)) (x.sreg (wSB w))))

/-- Format I: sD = f(sA, IMM). -/
def State.aluI (s : State) (j op : Nat) (f : Word → Word → Word) : State :=
  s.scalar j op (fun x w => x.setS (wSD w) (f (x.sreg (wSA w)) (wImm w)))

/-- Format R: pPD = f(sA, sB). -/
def State.cmpR (s : State) (j op : Nat) (f : Word → Word → Bool) : State :=
  s.scalar j op (fun x w => x.setP (wPDr w) (f (x.sreg (wSA w)) (x.sreg (wSB w))))

/-- Format I: pPD = f(sA, IMM). -/
def State.cmpI (s : State) (j op : Nat) (f : Word → Word → Bool) : State :=
  s.scalar j op (fun x w => x.setP (wPDi w) (f (x.sreg (wSA w)) (wImm w)))

/-- Format R: pPD = f(p[SA], p[SB]). -/
def State.predR (s : State) (j op : Nat) (f : Bool → Bool → Bool) : State :=
  s.scalar j op (fun x w => x.setP (wPDr w) (f (x.preg (wSA w)) (x.preg (wSB w))))

/-- The shift count: bits [5:0] of the second operand. -/
def shamt (b : Word) : Nat := b.toNat % 64

/-- First scratch address a program may not load from (R178). -/
def loadEnd : Nat := 0x1FF080

/-- A scratch access of `n` bytes at `a` is permitted: naturally aligned, above the text, below `top` (R178). -/
def Spindle.accessOk (x : Spindle) (a n top : Nat) : Bool := a % n == 0 && decide (x.textLen ≤ a) && decide (a + n ≤ top)

/-- sA + IMM modulo 2^64. -/
def Spindle.addr (x : Spindle) (w : Nat) : Nat := (x.sreg (wSA w) + wImm w).toNat

/-- A load of `n` bytes: `put` writes the number read (R178, R206). -/
def State.load (s : State) (j op n : Nat) (put : Spindle → Nat → Nat → Spindle) : State :=
  s.issue j (0, op, 0) (fun _ w s =>
    let x := s.spin j
    if x.accessOk (x.addr w) n loadEnd then
      (s.updSpin j (fun x => put x w (readNat x.scratch (x.addr w) n))).advance j
    else s.trapHere j 0x0A08 w)

/-- A store of `n` bytes of the number `val` gives (R178, R206). -/
def State.store (s : State) (j op n : Nat) (val : Spindle → Nat → Nat) : State :=
  s.issue j (0, op, 0) (fun _ w s =>
    let x := s.spin j
    if x.accessOk (x.addr w) n dataEnd then
      (s.updSpin j (fun x => x.poke (x.addr w) (toLe n (val x w)))).advance j
    else s.trapHere j 0x0A08 w)

/-- ST16 stores stream register SD[3:0], whose content and tiles are checked as it issues (R177, R52); it has no W, so no
ELAST is too large for it. LD16 and TAKE replace the content of the register they name, so they check none: after reset
every register is malformed. DEDUCED (log entry 116) -/
def State.storeQ (s : State) (j : Nat) : State :=
  s.issue j (0, 38, 0) (fun f w s =>
    let x := s.spin j
    let q := (x.qreg (wSD w)).toNat
    if !qWf x.textLen (2 ^ 15) q then s.trapHere j 0x0A09 w 0 (wSD w % 16)
    else match (opTiles q).find? (fun t => !s.tileOk f t) with
      | some t => s.trapHere j 0x010B w t (wSD w % 16)
      | none =>
        if x.accessOk (x.addr w) 16 dataEnd then
          (s.updSpin j (fun x => x.poke (x.addr w) (toLe 16 q))).advance j
        else s.trapHere j 0x0A08 w)

/-- Loads to a scalar register. -/
def putS (x : Spindle) (w v : Nat) : Spindle := x.setS (wSD w) (BitVec.ofNat 64 v)
/-- LD16 writes stream register SD[3:0]. -/
def putQ (x : Spindle) (w v : Nat) : Spindle := x.setQ (wSD w) (BitVec.ofNat 128 v)
/-- The low bytes of sD. -/
def valS (x : Spindle) (w : Nat) : Nat := (x.sreg (wSD w)).toNat

/-! ## System values and branches -/

/-- The system value `i` of spindle `j` of function `f` (R180). -/
def State.sysValue (s : State) (j f i : Nat) : Nat :=
  let x := s.spin j
  match i with
  | 0 => j
  | 1 => f
  | 2 => (x.bound.filter (fun k => decide (k < j))).length
  | 3 => x.bound.length
  | 4 => s.lgrade
  | 5 => s.time
  | 6 => x.stepc
  | 7 => s.rd Reg.attSvc f
  | 8 => 0x0100
  | _ => 0x3FFF

/-- SYSR: sD = system value IMM; the values of selectors 5, 6 and 7 are logged for replay (R412). -/
def State.sysr (s : State) (j : Nat) : State :=
  s.issue j (0, 39, 0) (fun f w s =>
    let i := (wImm w).toNat
    let v := BitVec.ofNat 64 (s.sysValue j f i)
    (s.updSpin j (fun x =>
      { x.setS (wSD w) v with sysrLog := if 5 ≤ i ∧ i ≤ 7 then x.sysrLog ++ [v] else x.sysrLog })).advance j)

/-- The target of a branch (R185): PC-relative with s0, otherwise sA + OFFSET. It is kept whole, so a target outside the
text traps when it is fetched. DEDUCED -/
def Spindle.target (x : Spindle) (w : Nat) : Nat :=
  ((if wSA w = 0 then BitVec.ofNat 64 x.pc else x.sreg (wSA w)) + wOff w).toNat

/-- BR: the target comes from the old sA, SL receives PC + 1. -/
def State.branch (s : State) (j : Nat) : State :=
  s.issue j (0, 40, 0) (fun _ w s =>
    (s.advance j).updSpin j (fun y => { (y.setS (wSD w) (BitVec.ofNat 64 y.pc)) with pc := (s.spin j).target w }))

/-! ## The commands -/

/-- ADD (R206). -/
def execAdd (sp : Nat) (s : State) : Res := .next (s.aluR sp 0 (· + ·))
/-- SUB (R206). -/
def execSub (sp : Nat) (s : State) : Res := .next (s.aluR sp 1 (· - ·))
/-- AND (R206). -/
def execAnd (sp : Nat) (s : State) : Res := .next (s.aluR sp 2 (· &&& ·))
/-- OR (R206). -/
def execOr (sp : Nat) (s : State) : Res := .next (s.aluR sp 3 (· ||| ·))
/-- XOR (R206). -/
def execXor (sp : Nat) (s : State) : Res := .next (s.aluR sp 4 (· ^^^ ·))
/-- SLL (R206). -/
def execSll (sp : Nat) (s : State) : Res := .next (s.aluR sp 5 (fun a b => a <<< shamt b))
/-- SRL (R206). -/
def execSrl (sp : Nat) (s : State) : Res := .next (s.aluR sp 6 (fun a b => a >>> shamt b))
/-- SRA (R206). -/
def execSra (sp : Nat) (s : State) : Res := .next (s.aluR sp 7 (fun a b => a.sshiftRight (shamt b)))
/-- MUL (R206). -/
def execMul (sp : Nat) (s : State) : Res := .next (s.aluR sp 8 (· * ·))
/-- MULHU (R206). -/
def execMulhu (sp : Nat) (s : State) : Res :=
  .next (s.aluR sp 9 (fun a b => BitVec.ofNat 64 (a.toNat * b.toNat / 2 ^ 64)))
/-- CMPEQ (R206). -/
def execCmpeq (sp : Nat) (s : State) : Res := .next (s.cmpR sp 10 (fun a b => a == b))
/-- CMPLT (R206). -/
def execCmplt (sp : Nat) (s : State) : Res := .next (s.cmpR sp 11 (fun a b => a.slt b))
/-- CMPLTU (R206). -/
def execCmpltu (sp : Nat) (s : State) : Res := .next (s.cmpR sp 12 (fun a b => a.ult b))
/-- SEL (R206): the predicate is named by PD. -/
def execSel (sp : Nat) (s : State) : Res :=
  .next (s.scalar sp 13 (fun x w => x.setS (wSD w) (if x.preg (wPDr w) then x.sreg (wSA w) else x.sreg (wSB w))))
/-- PAND (R206). -/
def execPand (sp : Nat) (s : State) : Res := .next (s.predR sp 14 (· && ·))
/-- POR (R206). -/
def execPor (sp : Nat) (s : State) : Res := .next (s.predR sp 15 (· || ·))
/-- PXOR (R206). -/
def execPxor (sp : Nat) (s : State) : Res := .next (s.predR sp 16 (fun a b => a != b))
/-- MOVP (R206). -/
def execMovp (sp : Nat) (s : State) : Res :=
  .next (s.scalar sp 17 (fun x w => x.setS (wSD w) (BitVec.ofNat 64 (b2n (x.preg (wSA w))))))
/-- ADDI (R206). -/
def execAddi (sp : Nat) (s : State) : Res := .next (s.aluI sp 18 (· + ·))
/-- ANDI (R206). -/
def execAndi (sp : Nat) (s : State) : Res := .next (s.aluI sp 19 (· &&& ·))
/-- ORI (R206). -/
def execOri (sp : Nat) (s : State) : Res := .next (s.aluI sp 20 (· ||| ·))
/-- XORI (R206). -/
def execXori (sp : Nat) (s : State) : Res := .next (s.aluI sp 21 (· ^^^ ·))
/-- SLLI (R206). -/
def execSlli (sp : Nat) (s : State) : Res := .next (s.aluI sp 22 (fun a b => a <<< shamt b))
/-- SRLI (R206). -/
def execSrli (sp : Nat) (s : State) : Res := .next (s.aluI sp 23 (fun a b => a >>> shamt b))
/-- SRAI (R206). -/
def execSrai (sp : Nat) (s : State) : Res := .next (s.aluI sp 24 (fun a b => a.sshiftRight (shamt b)))
/-- CMPEQI (R206). -/
def execCmpeqi (sp : Nat) (s : State) : Res := .next (s.cmpI sp 25 (fun a b => a == b))
/-- CMPLTI (R206). -/
def execCmplti (sp : Nat) (s : State) : Res := .next (s.cmpI sp 26 (fun a b => a.slt b))
/-- CMPLTUI (R206). -/
def execCmpltui (sp : Nat) (s : State) : Res := .next (s.cmpI sp 27 (fun a b => a.ult b))
/-- LIH (R206). -/
def execLih (sp : Nat) (s : State) : Res := .next (s.aluI sp 28 (fun a b => a + (b <<< (30 : Nat))))
/-- LD1 (R206). -/
def execLd1 (sp : Nat) (s : State) : Res := .next (s.load sp 29 1 putS)
/-- LD2 (R206). -/
def execLd2 (sp : Nat) (s : State) : Res := .next (s.load sp 30 2 putS)
/-- LD4 (R206). -/
def execLd4 (sp : Nat) (s : State) : Res := .next (s.load sp 31 4 putS)
/-- LD8 (R206). -/
def execLd8 (sp : Nat) (s : State) : Res := .next (s.load sp 32 8 putS)
/-- LD16 (R206). -/
def execLd16 (sp : Nat) (s : State) : Res := .next (s.load sp 33 16 putQ)
/-- ST1 (R206). -/
def execSt1 (sp : Nat) (s : State) : Res := .next (s.store sp 34 1 valS)
/-- ST2 (R206). -/
def execSt2 (sp : Nat) (s : State) : Res := .next (s.store sp 35 2 valS)
/-- ST4 (R206). -/
def execSt4 (sp : Nat) (s : State) : Res := .next (s.store sp 36 4 valS)
/-- ST8 (R206). -/
def execSt8 (sp : Nat) (s : State) : Res := .next (s.store sp 37 8 valS)
/-- ST16 (R206). -/
def execSt16 (sp : Nat) (s : State) : Res := .next (s.storeQ sp)
/-- SYSR (R180). -/
def execSysr (sp : Nat) (s : State) : Res := .next (s.sysr sp)
/-- BR (R185). -/
def execBr (sp : Nat) (s : State) : Res := .next (s.branch sp)

end Sys2Proof.Machine
end

