-- ==== Sys2Proof/Machine/Dispatch.lean ====
section
/-! DEFINITION. The dispatch: one arm per command of Syntax.lean, each a direct call of its meaning. -/
namespace Sys2Proof.Machine

/-- The effect of a command on everything but the queue of waiting commands. -/
def exec (i : Instr) (s : State) : Host.Outcome State Fault Refusal :=
  match i with
  | .registerWrite r addr size v => Sys2Proof.Machine.execRegisterWrite r addr size v s
  | .counterReadClear r addr => Sys2Proof.Machine.execCounterReadClear r addr s
  | .add sp => Sys2Proof.Machine.execAdd sp s
  | .sub sp => Sys2Proof.Machine.execSub sp s
  | .and sp => Sys2Proof.Machine.execAnd sp s
  | .or sp => Sys2Proof.Machine.execOr sp s
  | .xor sp => Sys2Proof.Machine.execXor sp s
  | .sll sp => Sys2Proof.Machine.execSll sp s
  | .srl sp => Sys2Proof.Machine.execSrl sp s
  | .sra sp => Sys2Proof.Machine.execSra sp s
  | .mul sp => Sys2Proof.Machine.execMul sp s
  | .mulhu sp => Sys2Proof.Machine.execMulhu sp s
  | .cmpeq sp => Sys2Proof.Machine.execCmpeq sp s
  | .cmplt sp => Sys2Proof.Machine.execCmplt sp s
  | .cmpltu sp => Sys2Proof.Machine.execCmpltu sp s
  | .sel sp => Sys2Proof.Machine.execSel sp s
  | .pand sp => Sys2Proof.Machine.execPand sp s
  | .por sp => Sys2Proof.Machine.execPor sp s
  | .pxor sp => Sys2Proof.Machine.execPxor sp s
  | .movp sp => Sys2Proof.Machine.execMovp sp s
  | .addi sp => Sys2Proof.Machine.execAddi sp s
  | .andi sp => Sys2Proof.Machine.execAndi sp s
  | .ori sp => Sys2Proof.Machine.execOri sp s
  | .xori sp => Sys2Proof.Machine.execXori sp s
  | .slli sp => Sys2Proof.Machine.execSlli sp s
  | .srli sp => Sys2Proof.Machine.execSrli sp s
  | .srai sp => Sys2Proof.Machine.execSrai sp s
  | .cmpeqi sp => Sys2Proof.Machine.execCmpeqi sp s
  | .cmplti sp => Sys2Proof.Machine.execCmplti sp s
  | .cmpltui sp => Sys2Proof.Machine.execCmpltui sp s
  | .lih sp => Sys2Proof.Machine.execLih sp s
  | .ld1 sp => Sys2Proof.Machine.execLd1 sp s
  | .ld2 sp => Sys2Proof.Machine.execLd2 sp s
  | .ld4 sp => Sys2Proof.Machine.execLd4 sp s
  | .ld8 sp => Sys2Proof.Machine.execLd8 sp s
  | .ld16 sp => Sys2Proof.Machine.execLd16 sp s
  | .st1 sp => Sys2Proof.Machine.execSt1 sp s
  | .st2 sp => Sys2Proof.Machine.execSt2 sp s
  | .st4 sp => Sys2Proof.Machine.execSt4 sp s
  | .st8 sp => Sys2Proof.Machine.execSt8 sp s
  | .st16 sp => Sys2Proof.Machine.execSt16 sp s
  | .sysr sp => Sys2Proof.Machine.execSysr sp s
  | .br sp => Sys2Proof.Machine.execBr sp s
  | .fold sp => Sys2Proof.Machine.execFold sp s
  | .foldSegmentRetire sp seg => Sys2Proof.Machine.execFoldSegmentRetire sp seg s
  | .foldr sp => Sys2Proof.Machine.execFoldr sp s
  | .directoryPageFetch sp => Sys2Proof.Machine.execDirectoryPageFetch sp s
  | .zero sp => Sys2Proof.Machine.execZero sp s
  | .copy sp => Sys2Proof.Machine.execCopy sp s
  | .drain sp => Sys2Proof.Machine.execDrain sp s
  | .drainCombine sp => Sys2Proof.Machine.execDrainCombine sp s
  | .drainRead sp => Sys2Proof.Machine.execDrainRead sp s
  | .chkt sp => Sys2Proof.Machine.execChkt sp s
  | .takeD sp => Sys2Proof.Machine.execTakeD sp s
  | .takeWake sp => Sys2Proof.Machine.execTakeWake sp s
  | .takeO sp => Sys2Proof.Machine.execTakeO sp s
  | .takeS sp => Sys2Proof.Machine.execTakeS sp s
  | .takeA sp => Sys2Proof.Machine.execTakeA sp s
  | .expand sp => Sys2Proof.Machine.execExpand sp s
  | .seedrec sp => Sys2Proof.Machine.execSeedrec sp s
  | .prgh sp => Sys2Proof.Machine.execPrgh sp s
  | .openMsg sp => Sys2Proof.Machine.execOpenMsg sp s
  | .ntt sp => Sys2Proof.Machine.execNtt sp s
  | .intt sp => Sys2Proof.Machine.execIntt sp s
  | .pmul sp => Sys2Proof.Machine.execPmul sp s
  | .padd sp => Sys2Proof.Machine.execPadd sp s
  | .auto sp => Sys2Proof.Machine.execAuto sp s
  | .modup sp => Sys2Proof.Machine.execModup sp s
  | .moddn sp => Sys2Proof.Machine.execModdn sp s
  | .resc sp => Sys2Proof.Machine.execResc sp s
  | .ksw sp => Sys2Proof.Machine.execKsw sp s
  | .lutr sp => Sys2Proof.Machine.execLutr sp s
  | .decode sp => Sys2Proof.Machine.execDecode sp s
  | .noise sp => Sys2Proof.Machine.execNoise sp s
  | .clip sp => Sys2Proof.Machine.execClip sp s
  | .clipFinish sp => Sys2Proof.Machine.execClipFinish sp s
  | .apply sp => Sys2Proof.Machine.execApply sp s
  | .release sp => Sys2Proof.Machine.execRelease sp s
  | .releaseTrailerDone f r => Sys2Proof.Machine.execReleaseTrailerDone f r s
  | .gate sp => Sys2Proof.Machine.execGate sp s
  | .gateRelease f g => Sys2Proof.Machine.execGateRelease f g s
  | .gateTimeout sp => Sys2Proof.Machine.execGateTimeout sp s
  | .waitc sp => Sys2Proof.Machine.execWaitc sp s
  | .waitTimeout sp => Sys2Proof.Machine.execWaitTimeout sp s
  | .signal sp => Sys2Proof.Machine.execSignal sp s
  | .signalApply sp => Sys2Proof.Machine.execSignalApply sp s
  | .fence sp => Sys2Proof.Machine.execFence sp s
  | .trap sp => Sys2Proof.Machine.execTrap sp s
  | .trapReturn sp => Sys2Proof.Machine.execTrapReturn sp s
  | .halt sp => Sys2Proof.Machine.execHalt sp s
  | .haltDone sp => Sys2Proof.Machine.execHaltDone sp s
  | .step sp => Sys2Proof.Machine.execStep sp s
  | .stepSetround sp => Sys2Proof.Machine.execStepSetround sp s
  | .lockkeeperWatchdog sp => Sys2Proof.Machine.execLockkeeperWatchdog sp s
  | .load f img => Sys2Proof.Machine.execLoad f img s
  | .start f => Sys2Proof.Machine.execStart f s
  | .stop f => Sys2Proof.Machine.execStop f s
  | .spindleStopped sp => Sys2Proof.Machine.execSpindleStopped sp s
  | .resume f => Sys2Proof.Machine.execResume f s
  | .unload f => Sys2Proof.Machine.execUnload f s
  | .openRound f n desc rec => Sys2Proof.Machine.execOpenRound f n desc rec s
  | .roundEnterOpen f r => Sys2Proof.Machine.execRoundEnterOpen f r s
  | .periodicRoundOpen f r => Sys2Proof.Machine.execPeriodicRoundOpen f r s
  | .roundGuardTimer f r => Sys2Proof.Machine.execRoundGuardTimer f r s
  | .roundDeadline f r => Sys2Proof.Machine.execRoundDeadline f r s
  | .candidatesResolved f r => Sys2Proof.Machine.execCandidatesResolved f r s
  | .unmaskTimeout f r => Sys2Proof.Machine.execUnmaskTimeout f r s
  | .abandonRound f n desc => Sys2Proof.Machine.execAbandonRound f n desc s
  | .roundStatus f n desc => Sys2Proof.Machine.execRoundStatus f n desc s
  | .hostSubmit f n desc rec => Sys2Proof.Machine.execHostSubmit f n desc rec s
  | .applyRound f n desc rec => Sys2Proof.Machine.execApplyRound f n desc rec s
  | .setDest f n desc => Sys2Proof.Machine.execSetDest f n desc s
  | .releaseDestTimeout f r => Sys2Proof.Machine.execReleaseDestTimeout f r s
  | .nop f n desc => Sys2Proof.Machine.execNop f n desc s
  | .createQp f n desc rec => Sys2Proof.Machine.execCreateQp f n desc rec s
  | .qpClose f n desc => Sys2Proof.Machine.execQpClose f n desc s
  | .qpDestroy f n desc => Sys2Proof.Machine.execQpDestroy f n desc s
  | .qpPin f n desc => Sys2Proof.Machine.execQpPin f n desc s
  | .qpUnpin f n desc => Sys2Proof.Machine.execQpUnpin f n desc s
  | .qpBind f n desc => Sys2Proof.Machine.execQpBind f n desc s
  | .checkpoint f n desc => Sys2Proof.Machine.execCheckpoint f n desc s
  | .checkpointResume f n desc rec => Sys2Proof.Machine.execCheckpointResume f n desc rec s
  | .leafDigests f n desc => Sys2Proof.Machine.execLeafDigests f n desc s
  | .contribution f qp lz msg => Sys2Proof.Machine.execContribution f qp lz msg s
  | .recoveryMessage f qp lz msg => Sys2Proof.Machine.execRecoveryMessage f qp lz msg s
  | .committeeReturn f qpn msg => Sys2Proof.Machine.execCommitteeReturn f qpn msg s
  | .nlTimeout f handle => Sys2Proof.Machine.execNlTimeout f handle s
  | .partialDecryption f qpn msg => Sys2Proof.Machine.execPartialDecryption f qpn msg s
  | .partialDecryptTimeout f r => Sys2Proof.Machine.execPartialDecryptTimeout f r s
  | .canonicalPassDone f r => Sys2Proof.Machine.execCanonicalPassDone f r s
  | .cohortMessage f qpn msg => Sys2Proof.Machine.execCohortMessage f qpn msg s
  | .childWaitExpiry f r => Sys2Proof.Machine.execChildWaitExpiry f r s
  | .partialDigestDone f r => Sys2Proof.Machine.execPartialDigestDone f r s
  | .hello p => Sys2Proof.Machine.execHello p s
  | .accept p => Sys2Proof.Machine.execAccept p s
  | .refuse p => Sys2Proof.Machine.execRefuse p s
  | .handshakeRetry qpn => Sys2Proof.Machine.execHandshakeRetry qpn s
  | .send p => Sys2Proof.Machine.execSend p s
  | .write p => Sys2Proof.Machine.execWrite p s
  | .ack p => Sys2Proof.Machine.execAck p s
  | .nak p => Sys2Proof.Machine.execNak p s
  | .close p => Sys2Proof.Machine.execClose p s
  | .kztPacketTransmit qpn => Sys2Proof.Machine.execKztPacketTransmit qpn s
  | .ackTimer qpn => Sys2Proof.Machine.execAckTimer qpn s
  | .rtoExpiry qpn seq => Sys2Proof.Machine.execRtoExpiry qpn seq s
  | .pathSuspectExpiry qpn h => Sys2Proof.Machine.execPathSuspectExpiry qpn h s
  | .creditProbe qpn => Sys2Proof.Machine.execCreditProbe qpn s
  | .drainingTimeout qpn => Sys2Proof.Machine.execDrainingTimeout qpn s
  | .contextFetchDone qpn tagOk count => Sys2Proof.Machine.execContextFetchDone qpn tagOk count s
  | .fetchTimeout qpn => Sys2Proof.Machine.execFetchTimeout qpn s
  | .portDown port => Sys2Proof.Machine.execPortDown port s
  | .portUp port => Sys2Proof.Machine.execPortUp port s
  | .openWin f path => Sys2Proof.Machine.execOpenWin f path s
  | .revokeWin f path => Sys2Proof.Machine.execRevokeWin f path s
  | .postTwr f path => Sys2Proof.Machine.execPostTwr f path s
  | .cancelTwr f path => Sys2Proof.Machine.execCancelTwr f path s
  | .twrFire id data => Sys2Proof.Machine.execTwrFire id data s
  | .ctrVal f v => Sys2Proof.Machine.execCtrVal f v s
  | .syncEpoch r m => Sys2Proof.Machine.execSyncEpoch r m s
  | .syncMarker => Sys2Proof.Machine.execSyncMarker s
  | .syncMarkerTimeout => Sys2Proof.Machine.execSyncMarkerTimeout s
  | .plyForm r => Sys2Proof.Machine.execPlyForm r s
  | .plyDissolve r => Sys2Proof.Machine.execPlyDissolve r s
  | .plyAsset f qpn msg => Sys2Proof.Machine.execPlyAsset f qpn msg s
  | .plyOpen f qpn msg => Sys2Proof.Machine.execPlyOpen f qpn msg s
  | .plyCohort f qpn msg => Sys2Proof.Machine.execPlyCohort f qpn msg s
  | .plyLateSlotExpiry f r => Sys2Proof.Machine.execPlyLateSlotExpiry f r s
  | .plyVerdict f qpn msg => Sys2Proof.Machine.execPlyVerdict f qpn msg s
  | .plyShare f qpn msg => Sys2Proof.Machine.execPlyShare f qpn msg s
  | .plyReturn f qpn msg => Sys2Proof.Machine.execPlyReturn f qpn msg s
  | .plyDigest f qpn msg => Sys2Proof.Machine.execPlyDigest f qpn msg s
  | .plyDone f qpn msg => Sys2Proof.Machine.execPlyDone f qpn msg s
  | .plyHeartbeat => Sys2Proof.Machine.execPlyHeartbeat s
  | .plyPartnerLost => Sys2Proof.Machine.execPlyPartnerLost s
  | .rngSourceSettled k => Sys2Proof.Machine.execRngSourceSettled k s
  | .rngStartupTestDone k => Sys2Proof.Machine.execRngStartupTestDone k s
  | .rngHealthFail k test => Sys2Proof.Machine.execRngHealthFail k test s
  | .rngCollectionDone => Sys2Proof.Machine.execRngCollectionDone s
  | .reseedTimer => Sys2Proof.Machine.execReseedTimer s
  | .generateRequest => Sys2Proof.Machine.execGenerateRequest s
  | .rngWordServe => Sys2Proof.Machine.execRngWordServe s
  | .rngData r addr => Sys2Proof.Machine.execRngData r addr s
  | .assign r slot func toCC => Sys2Proof.Machine.execAssign r slot func toCC s
  | .keyRelease r slot => Sys2Proof.Machine.execKeyRelease r slot s
  | .keyZero r slot => Sys2Proof.Machine.execKeyZero r slot s
  | .lcVoid r => Sys2Proof.Machine.execLcVoid r s
  | .fkeyZero f => Sys2Proof.Machine.execFkeyZero f s
  | .rollbackCommit r => Sys2Proof.Machine.execRollbackCommit r s
  | .lifecycleTransition token => Sys2Proof.Machine.execLifecycleTransition token s
  | .remask => Sys2Proof.Machine.execRemask s
  | .getVersion f q => Sys2Proof.Machine.execGetVersion f q s
  | .getCapabilities f q => Sys2Proof.Machine.execGetCapabilities f q s
  | .negotiateAlgorithms f q => Sys2Proof.Machine.execNegotiateAlgorithms f q s
  | .getDigests f q => Sys2Proof.Machine.execGetDigests f q s
  | .getCertificate f q => Sys2Proof.Machine.execGetCertificate f q s
  | .challenge f q => Sys2Proof.Machine.execChallenge f q s
  | .getMeasurements f q => Sys2Proof.Machine.execGetMeasurements f q s
  | .keyExchange f q => Sys2Proof.Machine.execKeyExchange f q s
  | .finish f q => Sys2Proof.Machine.execFinish f q s
  | .heartbeat f q => Sys2Proof.Machine.execHeartbeat f q s
  | .keyUpdate f q => Sys2Proof.Machine.execKeyUpdate f q s
  | .endSession f q => Sys2Proof.Machine.execEndSession f q s
  | .kem f msg => Sys2Proof.Machine.execKem f msg s
  | .bind f msg => Sys2Proof.Machine.execBind f msg s
  | .policy f msg => Sys2Proof.Machine.execPolicy f msg s
  | .joinList f msg => Sys2Proof.Machine.execJoinList f msg s
  | .evk f msg host => Sys2Proof.Machine.execEvk f msg host s
  | .committeeKey f msg host => Sys2Proof.Machine.execCommitteeKey f msg host s
  | .noiseSeed f msg => Sys2Proof.Machine.execNoiseSeed f msg s
  | .memKey f msg => Sys2Proof.Machine.execMemKey f msg s
  | .checkpointKey f msg => Sys2Proof.Machine.execCheckpointKey f msg s
  | .mctpControl msg => Sys2Proof.Machine.execMctpControl msg s
  | .partCmd r => Sys2Proof.Machine.execPartCmd r s
  | .memKeyInitDone f => Sys2Proof.Machine.execMemKeyInitDone f s
  | .memRotationSweep f => Sys2Proof.Machine.execMemRotationSweep f s
  | .ringCreate f n => Sys2Proof.Machine.execRingCreate f n s
  | .ringDestroy f n => Sys2Proof.Machine.execRingDestroy f n s
  | .sqTail f n v => Sys2Proof.Machine.execSqTail f n v s
  | .cqHead f n v => Sys2Proof.Machine.execCqHead f n v s
  | .flr f => Sys2Proof.Machine.execFlr f s
  | .frGo r => Sys2Proof.Machine.execFrGo r s
  | .functionResetDone f => Sys2Proof.Machine.execFunctionResetDone f s
  | .snapCmd r => Sys2Proof.Machine.execSnapCmd r s
  | .fsnapCmd f => Sys2Proof.Machine.execFsnapCmd f s
  | .ideReq f => Sys2Proof.Machine.execIdeReq f s
  | .ideStreamFailed f => Sys2Proof.Machine.execIdeStreamFailed f s
  | .pcieLinkDown => Sys2Proof.Machine.execPcieLinkDown s
  | .pcieLinkUp => Sys2Proof.Machine.execPcieLinkUp s
  | .perstNAssert => Sys2Proof.Machine.execPerstNAssert s
  | .perstNRelease => Sys2Proof.Machine.execPerstNRelease s
  | .fwDoorbell r => Sys2Proof.Machine.execFwDoorbell r s
  | .fwImageArrival img => Sys2Proof.Machine.execFwImageArrival img s
  | .fwImageTimeout => Sys2Proof.Machine.execFwImageTimeout s
  | .drbgSeededAtBoot check => Sys2Proof.Machine.execDrbgSeededAtBoot check s
  | .creelDone tier0 tier1 => Sys2Proof.Machine.execCreelDone tier0 tier1 s
  | .farDone fast slow => Sys2Proof.Machine.execFarDone fast slow s
  | .attestDone => Sys2Proof.Machine.execAttestDone s
  | .portsDone up => Sys2Proof.Machine.execPortsDone up s
  | .fwinitDone => Sys2Proof.Machine.execFwinitDone s
  | .ready => Sys2Proof.Machine.execReady s
  | .bootTimeout => Sys2Proof.Machine.execBootTimeout s
  | .attach f => Sys2Proof.Machine.execAttach f s
  | .goService f => Sys2Proof.Machine.execGoService f s
  | .warmGo r img => Sys2Proof.Machine.execWarmGo r img s
  | .warmImageVerified img => Sys2Proof.Machine.execWarmImageVerified img s
  | .residueCheckFail sp cause => Sys2Proof.Machine.execResidueCheckFail sp cause s
  | .spareSubstituted sp => Sys2Proof.Machine.execSpareSubstituted sp s
  | .journalPoint sp => Sys2Proof.Machine.execJournalPoint sp s
  | .ccWatchdog core => Sys2Proof.Machine.execCcWatchdog core s
  | .nalamWatchdog => Sys2Proof.Machine.execNalamWatchdog s
  | .clockLoss ref => Sys2Proof.Machine.execClockLoss ref s
  | .creelTierLost => Sys2Proof.Machine.execCreelTierLost s
  | .farPackageLost p => Sys2Proof.Machine.execFarPackageLost p s
  | .bookAudit => Sys2Proof.Machine.execBookAudit s
  | .creelScrub t => Sys2Proof.Machine.execCreelScrub t s
  | .scrubFoldHold t => Sys2Proof.Machine.execScrubFoldHold t s
  | .farScrub t => Sys2Proof.Machine.execFarScrub t s
  | .stagingDone f t => Sys2Proof.Machine.execStagingDone f t s
  | .frzNAssert => Sys2Proof.Machine.execFrzNAssert s
  | .freezeZeroiseDone => Sys2Proof.Machine.execFreezeZeroiseDone s
  | .bypass => Sys2Proof.Machine.execBypass s
  | .idcode => Sys2Proof.Machine.execIdcode s
  | .samplePreload => Sys2Proof.Machine.execSamplePreload s
  | .extest => Sys2Proof.Machine.execExtest s
  | .dbgToken token => Sys2Proof.Machine.execDbgToken token s
  | .frzAddr v => Sys2Proof.Machine.execFrzAddr v s
  | .frzData => Sys2Proof.Machine.execFrzData s
  | .full r => Sys2Proof.Machine.execFull r s
  | .fieldNow r pspin => Sys2Proof.Machine.execFieldNow r pspin s
  | .fuseRepair r => Sys2Proof.Machine.execFuseRepair r s
  | .fieldSelfTest => Sys2Proof.Machine.execFieldSelfTest s
  | .bistDone res => Sys2Proof.Machine.execBistDone res s
  | .weirSample temps power => Sys2Proof.Machine.execWeirSample temps power s
  | .vidStep => Sys2Proof.Machine.execVidStep s
  | .thermalTrip temp => Sys2Proof.Machine.execThermalTrip temp s
  | .railFault rail => Sys2Proof.Machine.execRailFault rail s
  | .unitInstructionRetire sp seg => Sys2Proof.Machine.execUnitInstructionRetire sp seg s
  | .rootPllLock => Sys2Proof.Machine.execRootPllLock s
  | .rootPllFail => Sys2Proof.Machine.execRootPllFail s
  | .vfEnable num => Sys2Proof.Machine.execVfEnable num s
  | .ideKm f q => Sys2Proof.Machine.execIdeKm f q s
  | .evtTail f v => Sys2Proof.Machine.execEvtTail f v s
  | .hostAccessFail what => Sys2Proof.Machine.execHostAccessFail what s
  | .partitionRevocationDone f => Sys2Proof.Machine.execPartitionRevocationDone f s
  | .plyRangeExchange x => Sys2Proof.Machine.execPlyRangeExchange x s

end Sys2Proof.Machine
end

