-- ==== Sys2Proof/Safety.lean ====
section
/-! DEFINITION. The terms statements about the device use: when a command stops nothing, when an instruction issues, and the
canonical form of the device's memories. -/
namespace Sys2Proof.Machine
open Sys2Proof

/-- Spindle `j` issues the instruction word `w` now: it issues instructions (R201), `w` stands at its PC and is well formed
(R187), its guard holds (R182) and nothing holds off its issue (R189). -/
def State.issues (s : State) (j w : Nat) : Bool :=
  s.issuing j && (s.spin j).fetch == some w
    && (match usesOf w (s.nctr j) with
      | some u => (s.spin j).guard w && !(s.spin j).stalls u w
      | none => false)

/-- Spindle `j` changes by `g` and goes on at the next word; nothing else changes. -/
def State.goOn (s : State) (j : Nat) (g : Spindle → Spindle) : State :=
  s.updSpin j (fun x => { g x with pc := (g x).pc + 1, active := s.time, wait := .none })

/-- The registers of a unit instruction are well formed and name the function's tiles (R177, R52); `e` is the elements of a
tile for the ELAST check. -/
def State.regsOk (s : State) (j : Nat) (e : Nat → Nat) (regs : List (Nat × List Nat)) : Bool :=
  (firstSome (fun (p : Nat × List Nat) =>
    s.regFault (s.spin j) ((s.owner? j).getD 0) (e ((s.spin j).qreg p.1).toNat) p.1 p.2) regs).isNone

/-- The operands word `w` captures on spindle `j` (R189). -/
def State.ops (s : State) (j w : Nat) : TOps := (s.spin j).capture ((s.owner? j).getD 0) w

/-- Spindle `j` issues the unit instruction `w` of form `key`, and its stream registers are as it needs them. -/
def State.unitReady (s : State) (j w : Nat) (key : Nat × Nat × Nat) (e : Nat → Nat) (regs : List (Nat × List Nat)) : Bool :=
  s.issues j w && wKey w == key && s.regsOk j e regs

/-- Every check of a polynomial instruction passes (R121) and nothing is in flight on its tiles (R127): `srcs` its source
operands, `srcDs` their descriptors, `res` the result before it takes the destination's place, `pre` and `level` the codes of
its own checks. -/
def State.polyPass (s : State) (j : Nat) (o : TOps) (srcs : List Nat) (srcDs : List CtDesc) (pre level : Nat) (res : CtDesc) :
    Bool :=
  let x := s.spin j
  let dst := x.ct o.qd
  let out := res.onto dst
  (o.qd :: srcs).all (fun q => s.ctWf o.f (x.ctRec q)) && out.fits && srcDs.all (fun d => !d.marked && d.ps == dst.ps)
    && pre == 0 && level == 0 && out.inBudget && s.quiet (dst.reserved ++ srcDs.flatMap (·.reserved))

/-- What a polynomial instruction that passes leaves: the values in the columns of its result, and an entry that writes the
result's descriptor when the instruction covers the top (R220). -/
def State.polyLeaves (s : State) (j w : Nat) (o : TOps) (res : CtDesc) (top : Bool) (cols : List Nat)
    (vals : List (Nat × Nat × List Nat)) (op : UOp) : State :=
  let out := res.onto ((s.spin j).ct o.qd)
  (s.putAll out cols vals).silent j w op (if top then [(qAddr o.qd, toLe 64 out.toNat)] else [])

/-- A command stops nothing: it answers a next state. -/
def completes (c : Instr) (s : State) : Prop := ∃ t, exec c s = .next t

/-- The byte memories are in canonical form: tiles, host memory and every spindle's scratch, those a checkpoint keeps
included. -/
def State.memWf (s : State) : Bool :=
  Sparse.wf 0 s.tiles && Sparse.wf 0 s.host && s.spindles.all (fun x => Sparse.wf 0 x.scratch)
    && s.ckpts.all (fun c => c.spindles.all (fun p => Sparse.wf 0 p.2.scratch))

/-- Keys strictly rising. -/
def rising {α : Type} : List (Nat × α) → Bool
  | [] => true
  | (k, _) :: m => m.all (fun p => decide (k < p.1)) && rising m

/-- The register fields, tags, lock counters, flights, rotations, window generations and eviction counts are in canonical form. -/
def State.tablesWf (s : State) : Bool :=
  rising s.regs && Sparse.wf {} s.tags && Sparse.wf 0 s.ctrs && Sparse.wf 0 s.flights && Sparse.wf ({}, {}) s.rots && Sparse.wf 0 s.winGens
    && Sparse.wf 0 s.evictions

end Sys2Proof.Machine
end

