-- ==== Sys2Proof/Certificates/Slice0/Obligations.lean ====
section
/-! DEFINITION. The statements about the device, for the provers: what each command does, what it leaves alone, and what every
step keeps. -/
open Sys2Proof Sys2Proof.Machine

/-! ## The queue -/

/-- The command at the front of the queue runs on the state with the queue's rest.
Rests on the model's own readings of log entry 1. -/
def Obligations.StepTakesFront : Prop :=
  ∀ (c : Instr) (cs : List Instr) (s : State), s.pending = c :: cs → step s = exec c { s with pending := cs }

/-- With no command waiting and nothing due — no queue pair, no completion to post, no triggered work and no checkpoint that
waits — one CLK_FAB cycle passes; with PERST_N asserted or the clocks stopped nothing happens. What an empty queue does is the
model's choice (log entry 2). -/
def Obligations.StepIdle : Prop :=
  ∀ s : State, s.pending = [] →
    ((s.pins.perst = true ∨ s.frozen = true) → step s = .next s) ∧
    (s.pins.perst = false → s.frozen = false → s.qps = [] → s.posts = [] → s.twrs = [] →
      (∀ f, (s.fn f).ckptJob = none) →
      step s = .next { s with
        time := s.time + 1
        upTime := s.upTime + 1
        ctrCyc := []
        ctl := if s.time % 2 = 1 then {} else s.ctl })

/-- Every command but RAIL_FAULT answers a next state, in every state.
Rests on the model's own readings of log entry 3. -/
def Obligations.NoCommandStops : Prop :=
  ∀ (c : Instr) (s : State), (∀ r, c ≠ .railFault r) → ∃ t, exec c s = .next t

/-! ## The scalar class -/

/-- Format R arithmetic, SEL and MOVP: sD takes the result, the spindle goes on at the next word, nothing else changes.

Format I arithmetic and LIH: sD takes the result of sA and the sign-extended immediate; nothing else changes.

Compares and predicate logic: pPD takes the result; nothing else changes. -/
def Obligations.ScalarForms : Prop :=
  (∀ (s : State) (j w : Nat), s.issues j w = true →
    let put (f : Word → Word → Word) : State :=
      s.goOn j (fun x => x.setS (wSD w) (f (x.sreg (wSA w)) (x.sreg (wSB w))))
    (wKey w = (0, 0, 0) → exec (.add j) s = .next (put (fun a b => a + b))) ∧
    (wKey w = (0, 1, 0) → exec (.sub j) s = .next (put (fun a b => a - b))) ∧
    (wKey w = (0, 2, 0) → exec (.and j) s = .next (put (fun a b => a &&& b))) ∧
    (wKey w = (0, 3, 0) → exec (.or j) s = .next (put (fun a b => a ||| b))) ∧
    (wKey w = (0, 4, 0) → exec (.xor j) s = .next (put (fun a b => a ^^^ b))) ∧
    (wKey w = (0, 5, 0) → exec (.sll j) s = .next (put (fun a b => a <<< (b.toNat % 64)))) ∧
    (wKey w = (0, 6, 0) → exec (.srl j) s = .next (put (fun a b => a >>> (b.toNat % 64)))) ∧
    (wKey w = (0, 7, 0) → exec (.sra j) s = .next (put (fun a b => a.sshiftRight (b.toNat % 64)))) ∧
    (wKey w = (0, 8, 0) → exec (.mul j) s = .next (put (fun a b => a * b))) ∧
    (wKey w = (0, 9, 0) → exec (.mulhu j) s = .next (put (fun a b => BitVec.ofNat 64 (a.toNat * b.toNat / 2 ^ 64)))) ∧
    (wKey w = (0, 13, 0) → exec (.sel j) s = .next (s.goOn j (fun x =>
      x.setS (wSD w) (if x.preg (wPDr w) then x.sreg (wSA w) else x.sreg (wSB w))))) ∧
    (wKey w = (0, 17, 0) → exec (.movp j) s = .next (s.goOn j (fun x =>
      x.setS (wSD w) (if x.preg (wSA w) then 1 else 0))))) ∧
  (∀ (s : State) (j w : Nat), s.issues j w = true →
    let put (f : Word → Word → Word) : State := s.goOn j (fun x => x.setS (wSD w) (f (x.sreg (wSA w)) (wImm w)))
    (wKey w = (0, 18, 0) → exec (.addi j) s = .next (put (fun a b => a + b))) ∧
    (wKey w = (0, 19, 0) → exec (.andi j) s = .next (put (fun a b => a &&& b))) ∧
    (wKey w = (0, 20, 0) → exec (.ori j) s = .next (put (fun a b => a ||| b))) ∧
    (wKey w = (0, 21, 0) → exec (.xori j) s = .next (put (fun a b => a ^^^ b))) ∧
    (wKey w = (0, 22, 0) → exec (.slli j) s = .next (put (fun a b => a <<< (b.toNat % 64)))) ∧
    (wKey w = (0, 23, 0) → exec (.srli j) s = .next (put (fun a b => a >>> (b.toNat % 64)))) ∧
    (wKey w = (0, 24, 0) → exec (.srai j) s = .next (put (fun a b => a.sshiftRight (b.toNat % 64)))) ∧
    (wKey w = (0, 28, 0) → exec (.lih j) s = .next (put (fun a b => a + b * 2 ^ 30)))) ∧
  (∀ (s : State) (j w : Nat), s.issues j w = true →
    let cmp (f : Word → Word → Bool) : State :=
      s.goOn j (fun x => x.setP (wPDr w) (f (x.sreg (wSA w)) (x.sreg (wSB w))))
    let cmpImm (f : Word → Word → Bool) : State := s.goOn j (fun x => x.setP (wPDi w) (f (x.sreg (wSA w)) (wImm w)))
    let prd (f : Bool → Bool → Bool) : State :=
      s.goOn j (fun x => x.setP (wPDr w) (f (x.preg (wSA w)) (x.preg (wSB w))))
    (wKey w = (0, 10, 0) → exec (.cmpeq j) s = .next (cmp (fun a b => a == b))) ∧
    (wKey w = (0, 11, 0) → exec (.cmplt j) s = .next (cmp (fun a b => decide (a.toInt < b.toInt)))) ∧
    (wKey w = (0, 12, 0) → exec (.cmpltu j) s = .next (cmp (fun a b => decide (a.toNat < b.toNat)))) ∧
    (wKey w = (0, 14, 0) → exec (.pand j) s = .next (prd (fun a b => a && b))) ∧
    (wKey w = (0, 15, 0) → exec (.por j) s = .next (prd (fun a b => a || b))) ∧
    (wKey w = (0, 16, 0) → exec (.pxor j) s = .next (prd (fun a b => xor a b))) ∧
    (wKey w = (0, 25, 0) → exec (.cmpeqi j) s = .next (cmpImm (fun a b => a == b))) ∧
    (wKey w = (0, 26, 0) → exec (.cmplti j) s = .next (cmpImm (fun a b => decide (a.toInt < b.toInt)))) ∧
    (wKey w = (0, 27, 0) → exec (.cmpltui j) s = .next (cmpImm (fun a b => decide (a.toNat < b.toNat)))))

/-- Loads and stores: a naturally aligned address above the text and below the end of what the instruction may reach is
loaded from or stored to, little-endian, and nothing else changes; every other address traps with 0x0A08 (R178). ST16 stores
a stream register whose content R177 and R52 allow and traps on any other (R177; log entry 116). -/
def Obligations.ScratchAccess : Prop :=
  ∀ (s : State) (j w : Nat), s.issues j w = true →
    let a (x : Spindle) : Nat := (x.sreg (wSA w) + wImm w).toNat
    let ok (n top : Nat) : Prop := a (s.spin j) % n = 0 ∧ (s.spin j).textLen ≤ a (s.spin j) ∧ a (s.spin j) + n ≤ top
    let load (n : Nat) : State := s.goOn j (fun x => x.setS (wSD w) (BitVec.ofNat 64 (readNat x.scratch (a x) n)))
    let store (n : Nat) : State := s.goOn j (fun x => x.poke (a x) (toLe n (x.sreg (wSD w)).toNat))
    let bad : State := s.trapHere j 0x0A08 w
    let q := ((s.spin j).qreg (wSD w)).toNat
    let f := (s.owner? j).getD 0
    (wKey w = (0, 29, 0) → (ok 1 0x1FF080 → exec (.ld1 j) s = .next (load 1)) ∧ (¬ ok 1 0x1FF080 → exec (.ld1 j) s = .next bad)) ∧
    (wKey w = (0, 30, 0) → (ok 2 0x1FF080 → exec (.ld2 j) s = .next (load 2)) ∧ (¬ ok 2 0x1FF080 → exec (.ld2 j) s = .next bad)) ∧
    (wKey w = (0, 31, 0) → (ok 4 0x1FF080 → exec (.ld4 j) s = .next (load 4)) ∧ (¬ ok 4 0x1FF080 → exec (.ld4 j) s = .next bad)) ∧
    (wKey w = (0, 32, 0) → (ok 8 0x1FF080 → exec (.ld8 j) s = .next (load 8)) ∧ (¬ ok 8 0x1FF080 → exec (.ld8 j) s = .next bad)) ∧
    (wKey w = (0, 33, 0) → (ok 16 0x1FF080 → exec (.ld16 j) s = .next (s.goOn j (fun x =>
        x.setQ (wSD w) (BitVec.ofNat 128 (readNat x.scratch (a x) 16))))) ∧ (¬ ok 16 0x1FF080 → exec (.ld16 j) s = .next bad)) ∧
    (wKey w = (0, 34, 0) → (ok 1 0x1FF000 → exec (.st1 j) s = .next (store 1)) ∧ (¬ ok 1 0x1FF000 → exec (.st1 j) s = .next bad)) ∧
    (wKey w = (0, 35, 0) → (ok 2 0x1FF000 → exec (.st2 j) s = .next (store 2)) ∧ (¬ ok 2 0x1FF000 → exec (.st2 j) s = .next bad)) ∧
    (wKey w = (0, 36, 0) → (ok 4 0x1FF000 → exec (.st4 j) s = .next (store 4)) ∧ (¬ ok 4 0x1FF000 → exec (.st4 j) s = .next bad)) ∧
    (wKey w = (0, 37, 0) → (ok 8 0x1FF000 → exec (.st8 j) s = .next (store 8)) ∧ (¬ ok 8 0x1FF000 → exec (.st8 j) s = .next bad)) ∧
    (wKey w = (0, 38, 0) →
      (qWf (s.spin j).textLen (2 ^ 15) q = true → (opTiles q).all (fun t => s.tileOk f t) = true →
        (ok 16 0x1FF000 → exec (.st16 j) s = .next (s.goOn j (fun x =>
          x.poke (a x) (toLe 16 (x.qreg (wSD w)).toNat)))) ∧
        (¬ ok 16 0x1FF000 → exec (.st16 j) s = .next bad)) ∧
      (qWf (s.spin j).textLen (2 ^ 15) q = false → exec (.st16 j) s = .next (s.trapHere j 0x0A09 w 0 (wSD w % 16))) ∧
      (∀ t, qWf (s.spin j).textLen (2 ^ 15) q = true → (opTiles q).find? (fun t => !s.tileOk f t) = some t →
        exec (.st16 j) s = .next (s.trapHere j 0x010B w t (wSD w % 16))))

/-- s0 reads as 0 and p0 as 1, and both ignore writes; any other register takes the value written, and no other register
changes.

A store changes exactly the bytes it stores: every other byte of scratch reads as before, and the stored bytes read as
the low bytes of the value, least significant first. -/
def Obligations.RegistersAndStores : Prop :=
  (∀ (x : Spindle) (i k : Nat) (v : Word) (b : Bool) (q : QWord),
    x.sreg 0 = 0 ∧ x.preg 0 = true ∧ x.setS 0 v = x ∧ x.setP 0 b = x ∧
    (i ≠ 0 → i < x.s.length → (x.setS i v).sreg i = v) ∧ (k ≠ i → (x.setS i v).sreg k = x.sreg k) ∧
    (i ≠ 0 → i < x.p.length → (x.setP i b).preg i = b) ∧ (k ≠ i → (x.setP i b).preg k = x.preg k) ∧
    (i < x.q.length → (x.setQ i q).qreg i = q) ∧ (k ≠ i → (x.setQ i q).qreg k = x.qreg k)) ∧
  (∀ (x : Spindle) (a n v k : Nat),
    ((k < a ∨ a + n ≤ k) → Sparse.get 0 (x.poke a (toLe n v)).scratch k = Sparse.get 0 x.scratch k) ∧
    (Sparse.wf 0 x.scratch = true → ∀ i, i < n → Sparse.get 0 (x.poke a (toLe n v)).scratch (a + i) = BitVec.ofNat 8 (v / 256 ^ i)) ∧
    (x.poke a (toLe n v)).s = x.s ∧ (x.poke a (toLe n v)).p = x.p ∧ (x.poke a (toLe n v)).q = x.q ∧
    (x.poke a (toLe n v)).pc = x.pc)

/-- SYSR reads the system values of R180; those of selectors 5 to 7 are logged for replay (R412). -/
def Obligations.SystemValues : Prop :=
  ∀ (s : State) (j w f : Nat), s.issues j w = true → s.owner? j = some f → wKey w = (0, 39, 0) →
    let sys (v : Nat) : State := s.goOn j (fun x => x.setS (wSD w) (BitVec.ofNat 64 v))
    let logged (v : Nat) : State := s.goOn j (fun x =>
      { x.setS (wSD w) (BitVec.ofNat 64 v) with sysrLog := x.sysrLog ++ [BitVec.ofNat 64 v] })
    let i := (wImm w).toNat
    (i = 0 → exec (.sysr j) s = .next (sys j)) ∧
    (i = 1 → exec (.sysr j) s = .next (sys f)) ∧
    (i = 2 → exec (.sysr j) s = .next (sys (((s.spin j).bound.filter (fun k => decide (k < j))).length))) ∧
    (i = 3 → exec (.sysr j) s = .next (sys (s.spin j).bound.length)) ∧
    (i = 4 → exec (.sysr j) s = .next (sys (if s.otp.gradeE then 24 else 32))) ∧
    (i = 5 → exec (.sysr j) s = .next (logged s.time)) ∧
    (i = 6 → exec (.sysr j) s = .next (logged (s.spin j).stepc)) ∧
    (i = 7 → exec (.sysr j) s = .next (logged (s.rd Reg.attSvc f))) ∧
    (i = 8 → exec (.sysr j) s = .next (sys 0x0100)) ∧
    (i = 9 → exec (.sysr j) s = .next (sys 0x3FFF))

/-- Format B: BR writes PC + 1 to SL (bits 20:16; s0 takes nothing) and goes to its base plus the signed 38-bit OFFSET (bits
63:26), the base being the PC when SA (bits 25:21) is s0 and sA otherwise; it branches when its guard holds and goes on when
it does not; a target outside the text traps when it is fetched, not when the branch issues (R185). -/
def Obligations.BranchFormat : Prop :=
  ∀ (s : State) (j w : Nat), wKey w = (0, 40, 0) →
    let sl := w / 2 ^ 16 % 32
    let sa := w / 2 ^ 21 % 32
    let target (x : Spindle) : Word :=
      (if sa = 0 then BitVec.ofNat 64 x.pc else x.sreg sa) + (BitVec.ofNat 38 (w / 2 ^ 26)).signExtend 64
    let t := s.updSpin j (fun x =>
      { x.setS sl (BitVec.ofNat 64 (x.pc + 1)) with pc := (target x).toNat, active := s.time, wait := .none })
    (s.issues j w = true → exec (.br j) s = .next t) ∧
    (s.issues j w = true → j < s.spindles.length → (s.spin j).textLen ≤ (target (s.spin j)).toNat * 8 →
      exec (.br j) t = .next (t.trapHere j 0x0A08 0)) ∧
    (∀ u, s.issuing j = true → (s.spin j).fetch = some w → usesOf w (s.nctr j) = some u → (s.spin j).guard w = false →
      exec (.br j) s = .next (s.goOn j id))

/-- A guard that does not hold skips the instruction whatever it is; a word that is not well formed traps with 0x0A07, and
a PC outside the text with 0x0A08. -/
def Obligations.GuardAndDecode : Prop :=
  ∀ (s : State) (j : Nat) (key : Nat × Nat × Nat) (body : Nat → Nat → State → State), s.issuing j = true →
    ((s.spin j).fetch = none → s.issue j key body = s.trapHere j 0x0A08 0) ∧
    (∀ w, (s.spin j).fetch = some w → usesOf w (s.nctr j) = none → s.issue j key body = s.trapHere j 0x0A07 w) ∧
    (∀ w u, (s.spin j).fetch = some w → usesOf w (s.nctr j) = some u → wKey w = key → (s.spin j).guard w = false →
      s.issue j key body = s.goOn j id)

/-! ## The tile class -/

/-- FOLD of a prepared message of mode 0 or 1: from the cursor, each tile of qD takes its elements as a fold segment of the
tile's issue epoch; the cursor moves past them, and the entry waits for its segments (R207, R65).

FOLD reports what stands in its way, and folds nothing: no live message or a tile of an ABANDONED round (0x0110), a message of
a sparse round or a recovery message (0x0111), another format (0x0108).
Rests on the model's own readings of log entries 4 and 41. -/
def Obligations.Folds : Prop :=
  (∀ (s : State) (j w : Nat) (x : Round) (m : Msg),
    let o := s.ops j w
    let plan := foldPlan x.cfg.tileElems x.cfg.msgElems (qLast o.qd) m.cursor (qTiles o.qd)
    let ts := plan.map (·.1)
    let segs := s.segsOf j (s.spin j).nextId x m plan
    let n := (plan.map (fun p => p.2.2)).sum
    s.unitReady j w (1, 0, 0) (fun _ => x.cfg.tileElems) [(tQD w, [0]), (tQA w, [1])] = true →
    s.liveMsg o.f o.qa = some (x, m) → (qTiles o.qd).all (fun t => !s.deadTile o.f t) = true →
    x.cfg.sparse = false → m.kind ≠ .recovery → x.cfg.mode ≠ 3 → m.prepared = true →
    (s.planConflict j x.cfg plan = false → s.allPresent ts = true → s.sbRoom ts = true →
      ts.all (fun t => !s.scrubHold.contains t) = true →
      exec (.fold j) s = .next
        (((((s.payRead x.cfg m m.cursor n).takeOff ts).updLive o.f m.round m.lz (fun m =>
            { m with
              cursor := m.cursor + n
              segs := m.segs + segs.length
              counted := m.counted ++ ts.map (fun t => (t, s.issueEpoch j t)) })).updSpin j
          (fun y => { y with segs := y.segs ++ segs })).reportMsg j w 0 .fold x m false segs.length)) ∧
    (s.planConflict j x.cfg plan = true → exec (.fold j) s = .next (s.reportMsg j w 0x0108 .fold x m (m.cursor == 0)))) ∧
  (∀ (s : State) (j w : Nat),
    let o := s.ops j w
    (s.unitReady j w (1, 0, 0) s.eOf [(tQD w, [0]), (tQA w, [1])] = true → s.liveMsg o.f o.qa = none →
      exec (.fold j) s = .next (s.report j w 0x0110 .fold)) ∧
    (∀ x m, s.unitReady j w (1, 0, 0) (fun _ => x.cfg.tileElems) [(tQD w, [0]), (tQA w, [1])] = true →
      s.liveMsg o.f o.qa = some (x, m) →
      ((qTiles o.qd).any (fun t => s.deadTile o.f t) = true → exec (.fold j) s = .next (s.report j w 0x0110 .fold)) ∧
      ((qTiles o.qd).any (fun t => s.deadTile o.f t) = false → (x.cfg.sparse = true ∨ m.kind = .recovery) →
        exec (.fold j) s = .next (s.report j w 0x0111 .fold))))

/-- FOLD_SEGMENT_RETIRE: a fold segment of the epoch its tile is in retires, a row's with the directory COUNT of its row: it
leaves its spindle, its entry has a part less, its message a segment less, and its elements go into the tile; the last one of
a message ends the message's slot (R59, R62, R87, R145). A segment of a later epoch waits: nothing changes (R65).

A fold into a near tile adds its elements: COUNT takes the contribution where the segment counts it, the checksum the
segment's checksum modulo the tile's modulus, a tile of COUNT 0 the format of the fold, and the epoch stays (R30, R58, R59).
Rests on the model's own readings of log entry 4. -/
def Obligations.FoldSegmentRetires : Prop :=
  (∀ (s : State) (j i f : Nat) (g : FoldSeg) (x : Round),
    (s.spin j).segs[i]? = some g → s.owner? j = some f → s.ready = true →
    let s1 := s.updSpin j (fun y =>
      { y with
        segs := y.segs.eraseIdx i
        active := s.time
        uq := y.uq.map (fun e => if e.id = g.entry then { e with parts := e.parts - 1 } else e) })
    let folded : State := (((s1.foldInto f x g).touchStage g.tile).updLive f g.round g.lz (fun m =>
      { m with segs := m.segs - 1 })).land g.tile |>.settleTiles
    let done (u : State) : Option Msg := (u.round? f g.round).bind (fun r => r.live.find? (fun m => m.lz == g.lz))
    ((s.tag g.tile).epoch ≠ g.epoch → exec (.foldSegmentRetire j i) s = .next s) ∧
    ((s.tag g.tile).epoch = g.epoch → s.round? f g.round = some x → g.row = none →
      ((∀ m, done folded = some m → ¬ (m.segs = 0 ∧ m.cursor = x.cfg.wholeMsg m)) →
        exec (.foldSegmentRetire j i) s = .next folded) ∧
      (∀ m, done folded = some m → m.segs = 0 → m.cursor = x.cfg.wholeMsg m →
        exec (.foldSegmentRetire j i) s = .next (folded.msgDone x m))) ∧
    (∀ row m, (s.tag g.tile).epoch = g.epoch → s.round? f g.round = some x → g.row = some row →
      x.live.find? (fun m => m.lz == g.lz) = some m →
      let folded : State := ((((s1.foldInto f x { g with counts := s.lastRow j i g x m }).touchStage g.tile).countRow f g.round
        row 1).updLive f g.round g.lz (fun m => { m with segs := m.segs - 1 })).land g.tile |>.settleTiles
      ((∀ m, done folded = some m → ¬ (m.segs = 0 ∧ m.cursor = x.cfg.wholeMsg m)) →
        exec (.foldSegmentRetire j i) s = .next folded) ∧
      (∀ m, done folded = some m → m.segs = 0 → m.cursor = x.cfg.wholeMsg m →
        exec (.foldSegmentRetire j i) s = .next (folded.msgDone x m)))) ∧
  (∀ (s : State) (f : Nat) (g : FoldSeg) (x : Round),
    let t := s.foldInto f x g
    s.tablesWf = true → s.stagedOf g.tile = none → s.isFarNow g.tile = false →
      (t.tag g.tile).count = (s.tag g.tile).count + b2n g.counts ∧
      ((s.tag g.tile).count = 0 → (t.tag g.tile).mode = x.cfg.mode ∧ (t.tag g.tile).wsel = x.cfg.wsel ∧
        (t.tag g.tile).limb = g.limb) ∧
      ((s.tag g.tile).count ≠ 0 →
        (t.tag g.tile).csum = ((s.tag g.tile).csum + csumOf g.base g.elems) % (s.tag g.tile).modulus ∧
        (t.tag g.tile).mode = (s.tag g.tile).mode ∧ (t.tag g.tile).wsel = (s.tag g.tile).wsel) ∧
      (t.tag g.tile).epoch = (s.tag g.tile).epoch ∧ (t.tag g.tile).tenant = (s.tag g.tile).tenant ∧
      (∀ k, k ≠ g.tile → t.tag k = s.tag k))

/-- The tile instructions that take whole tiles: ZERO enters the unit queue with its tiles, ends the issue epoch of each, and
each tile's next epoch starts once its old folds have retired (R66); COPY verifies and copies tile by tile, and traps when a
source fails (R210).
Rests on the model's own readings of log entry 38. -/
def Obligations.TileInstructions : Prop :=
  ∀ (s : State) (j w : Nat),
    let o := s.ops j w
    let zs := (qTiles o.qd).map (fun t => (t, 0))
    (s.unitReady j w (1, 2, 0) s.eOf [(tQD w, [0, 2])] = true → qKind o.qd = 0 →
      (qTiles o.qd).all (fun t => !s.sparseBusy o.f t) = true →
      exec (.zero j) s = .next ((s.drainRecord j true zs).enqueue j w
        { id := 0, op := .zero, word := 0, pc := 0, stepc := 0, drains := s.drainParts j false zs, writes := [] }).settleTiles) ∧
    (s.unitReady j w (1, 3, 0) s.eOf [(tQD w, [0, 2]), (tQA w, [0, 2])] = true → qKind o.qd = 0 → qKind o.qa = 0 →
      qNt o.qd = qNt o.qa → qLast o.qd = qLast o.qa → (qTiles o.qa).all (fun t => !(qTiles o.qd).contains t) = true →
      (qTiles o.qa ++ qTiles o.qd).all (fun t => !s.sparseBusy o.f t) = true →
      s.quiet (qTiles o.qa ++ qTiles o.qd) = true →
      ((qTiles o.qa ++ qTiles o.qd).any s.isFarNow = false ∨ s.farTurn o.f = true) →
      exec (.copy j) s = .next ((s.copyAll ((qTiles o.qa).zip (qTiles o.qd))).2.silent j w .copy []
        (if (s.copyAll ((qTiles o.qa).zip (qTiles o.qd))).1 then 0 else 0x0101) none [s.firstBad (qTiles o.qa)]))

/-- CHKT: every tile of qA is read and verified in order (its checksum recomputed over what it holds and compared with its
tag's; a pool slot is a near tile), each mismatch raises 0x0101; the report is 0x0101 when some tile fails and 0 when none does, and the capture log takes
the first failure, with source 6 (R212, R61).
Rests on the model's own readings of log entry 4. -/
def Obligations.CheckTiles : Prop :=
  ∀ (s : State) (j w : Nat),
    let o := s.ops j w
    let ts := qTiles o.qa
    let bad (t : Nat) : Bool := s.csum t != (s.tag t).csum
    let u := ts.foldl (fun (v : State) t => if bad t then (v.eccRead t).csumFail t 6 else v.eccRead t) s
    s.unitReady j w (1, 5, 0) s.eOf [(tQA w, [0])] = true → s.allPresent ts = true → s.quiet ts = true →
    s.staged.all (fun g => !isFar g.slot) = true →
    exec (.chkt j) s = .next (u.report j w (if ts.any bad then 0x0101 else 0) .chkt) ∧
    (∀ pre t rest, ts = pre ++ t :: rest → pre.any bad = false → bad t = true → s.rdb Reg.creelCsumValid = false →
      s.tablesWf = true → t < 2 ^ 24 →
      u.rd Reg.creelCsumTile = t ∧ u.rd Reg.creelCsumSource = 6 ∧ u.rdb Reg.creelCsumValid = true)

/-- A DRAIN enters the unit queue with its tiles in order: to a window (DEST 1) each tile goes out as a record, to the
function's own tiles (DEST 0) each tile combines into the matching one; the issue epoch of every source tile goes up (R65,
R68, R211).

DRAIN_READ takes the next tile of the oldest DRAIN once the folds and combines of the epoch it ends have retired: its bytes
and tag are read, its next epoch begins, and the record goes where DEST says: into its target tile (DEST 0) or to the window
(DEST 1); a tile that fails its checksum traps with 0x0101 (R65, R211).
Rests on the model's own readings of log entry 37. -/
def Obligations.Drains : Prop :=
  (∀ (s : State) (j w : Nat),
    let o := s.ops j w
    (∀ q, s.unitReady j w (1, 4, 1) s.eOf [(tQA w, [0])] = true → s.drainQp o.f (qTile o.qa) = some q →
      (qTiles o.qa).all (fun t => !s.sparseBusy o.f t) = true → s.allPresent (qTiles o.qa) = true →
      exec (.drain j) s = .next (s.drainIssue j o .drain
        ((List.range (qTiles o.qa).length).map (fun k => ((qTiles o.qa).getD k 0, k))) q)) ∧
    (s.unitReady j w (1, 4, 0) s.eOf [(tQD w, [0]), (tQA w, [0])] = true → qNt o.qd = qNt o.qa → qLast o.qd = qLast o.qa →
      (qTiles o.qa ++ qTiles o.qd).all (fun t => !s.sparseBusy o.f t) = true →
      s.allPresent (qTiles o.qa ++ qTiles o.qd) = true →
      exec (.drainCombine j) s = .next (s.drainIssue j o .drainCombine ((qTiles o.qa).zip (qTiles o.qd)) 0)) ∧
    (∀ (op : UOp) (ps : List (Nat × Nat)) (q t : Nat),
      (s.drainIssue j o op ps q).draining t = s.draining t + (ps.filter (fun p => p.1 == t)).length)) ∧
  (∀ (s : State) (j f : Nat) (e : UnitEntry) (p : DrainPart) (rest : List DrainPart),
    (s.spin j).uq.find? (fun e => e.op != .zero && !e.drains.isEmpty) = some e → s.owner? j = some f → e.drains = p :: rest →
    s.oldDone p.tile p.epoch = true → s.ready = true →
    let u := ((s.drainTile p.tile).2.2.2.updSpin j (fun y =>
      { y with
        active := s.time
        drainBuf := (s.drainTile p.tile).2.2.1
        uq := y.uq.map (fun z => if z.id = e.id then { z with drains := rest } else z) })).drainEnded p.tile p.epoch
    let record := toLe 32 (s.drainTile p.tile).2.1.toNat ++ (s.drainTile p.tile).2.2.1
    ((s.drainTile p.tile).1 = true → e.op = .drainCombine →
      exec (.drainRead j) s = .next
        (u.join f ((u.roundOf f p.target).map (·.cfg.round)) p.target p.join record).settleTiles) ∧
    ((s.drainTile p.tile).1 = true → e.op ≠ .drainCombine →
      exec (.drainRead j) s = .next ((u.settleTiles.post e.qpn (.drain j) record true e.handle
        (e.offset + 65568 * p.target)).updSpin j (fun y => { y with unacked := y.unacked + 1 }))) ∧
    ((s.drainTile p.tile).1 = false →
      exec (.drainRead j) s = .next
        (u.settleTiles.trapLate j 0x0101 e.id e.pc e.word e.stepc p.tile (tQA e.word.toNat)))) ∧
  (∀ (s : State) (t : Nat), s.csum t = (s.tag t).csum → s.upsets = [] → s.tagUpsets = [] →
    s.drainTile t = (true, s.tag t, s.tileBytes t 0 tileSize, s.newEpoch t))

/-- A tile's next epoch: all its bytes are zero, COUNT, checksum, OVERRANGE_POSSIBLE and SEALED clear, EPOCH goes up by one
modulo 2^16, TENANT stays, and no other near tile's tag or bytes change (R65, R66, R56). -/
def Obligations.NewEpoch : Prop :=
  ∀ (s : State) (t : Nat), s.tablesWf = true → s.stagedOf t = none → s.isFarNow t = false →
    let u := s.newEpoch t
    u.tag t = { s.tag t with count := 0, csum := 0, epoch := ((s.tag t).epoch + 1) % 2 ^ 16, ovr := false, sealed := false } ∧
    (∀ k, k ≠ t → u.tag k = s.tag k) ∧
    (∀ i, i < tileSize → Sparse.get 0 u.tiles (s.loc t * tileSize + i) = 0) ∧
    (∀ a, (a < s.loc t * tileSize ∨ (s.loc t + 1) * tileSize ≤ a) → Sparse.get 0 u.tiles a = Sparse.get 0 s.tiles a)

/-- OPEN of a sealed message that authenticates, with its elements in range and its rows in order, decrypts it in place and
reports 0x0000; one that fails reports its code and fails the message when it retires (R102, R103, R141, R218). CLIP of a
sealed message scales it and reports 0x0000, its failure taking effect when it retires; CLIP in mode 3 starts the exclusion
sequence and writes its handle; CLIP with PHASE 1 enters the unit queue with the handles it lists (R225).

FOLDR: with its rows resolved and cached, the rows that fit enter the scoreboard, and with the last of them the instruction
enters the unit queue; a row whose directory page is not cached makes it wait for the page, and pages are fetched ahead (R144,
R145). DIRECTORY_PAGE_FETCH brings the oldest page in, and the FOLDR goes on.
Rests on the model's own readings of log entries 4, 34, 40, 107, 108 and 119. -/
def Obligations.SealedAndSparseFolds : Prop :=
  (∀ (s : State) (j w : Nat) (x : Round) (m : Msg),
    let o := s.ops j w
    let s0 := s.eccSpan m.lz 0 (64 + m.len)
    s.unitReady j w (4, 0, 0) s.eOf [(tQA w, [1])] = true → s.liveMsg o.f o.qa = some (x, m) → x.cfg.mode = 2 →
    m.kind ≠ .recovery →
    (∀ k, m.opened = false → x.keys = some k →
      let iv := sealIv m.round m.slot
      let ct := s0.payload m.lz kxLen (m.len - kxLen)
      let s1 := { s0 with tiles := writeBytes s0.tiles (lzBase m.lz + 64 + kxLen) (gcmCrypt (s0.sealKey k m) iv
        (m.hdr.take 48 ++ s0.payload m.lz 0 kxLen) ct) }
      gcmMac (s0.sealKey k m) iv (m.hdr.take 48 ++ s0.payload m.lz 0 kxLen) ct = slice m.hdr 48 16 →
      (x.cfg.elemOffs m.len).all (fun i => x.cfg.inRange (s1.elemAt x.cfg m.lz i)) = true →
      (x.cfg.sparse = true → s1.rowsOk x.cfg m = true) →
      exec (.openMsg j) s = .next ((s1.updLive x.func m.round m.lz (fun m => { m with opened := true })).reportMsg j w 0
        .openMsg x m false)) ∧
    (m.opened = true → exec (.openMsg j) s = .next (s0.reportMsg j w 0 .openMsg x m false)) ∧
    ((s.sealed2 x m false).1 ≠ 0 →
      exec (.openMsg j) s = .next ((s.sealed2 x m false).2.reportMsg j w (s.sealed2 x m false).1 .openMsg x m true))) ∧
  (∀ (s : State) (j w : Nat) (x : Round) (m : Msg),
    let o := s.ops j w
    s.unitReady j w (7, 2, 0) s.eOf [(tQD w, [3]), (tQA w, [1])] = true → s.liveMsg o.f o.qa = some (x, m) →
    m.kind ≠ .recovery → (x.st = .open ∨ x.st = .guard ∨ x.st = .closed) →
    (x.cfg.mode = 2 → tMod w / 4 = 0 →
      (m.opened = true → m.clipped = false →
        exec (.clip j) s = .next (((s.eccSpan m.lz 0 (64 + m.len)).clipMsg x m).reportClip j w 0 x m)) ∧
      exec (.clip j) s = .next ((s.sealed2 x m true).2.reportClip j w (s.sealed2 x m true).1 x m)) ∧
    (∀ h s1, x.cfg.mode = 3 → 8 ≤ qLen o.qd → m.clipped = false → s.check3 x m = 0 →
      s.exclude x m (some (tMod w / 4)) (s.spin j).stepc = some (.ok h, s1) →
      exec (.clip j) s = .next (((s1.askLoads j 1 true).report j w 0 .clip [(qAddr o.qd, toLe 8 h)]).deadRound o.f m.round))) ∧
  (∀ (s : State) (j w : Nat),
    let o := s.ops j w
    let hs := (List.range (min 64 (qLen o.qa / 8))).map (fun i => readNat (s.spin j).scratch (qAddr o.qa + 8 * i) 8)
    s.unitReady j w (7, 2, 1) s.eOf [(tQA w, [3])] = true →
    ((s.queries.filter (fun q => q.func == o.f && hs.contains q.handle)).all (fun q =>
      (s.round? o.f q.round).all (fun r => r.st == .open || r.st == .guard || r.st == .closed))) = true →
    exec (.clipFinish j) s = .next (s.enqueue j w
      { id := 0, op := .clipFinish, word := 0, pc := 0, stepc := 0, reports := true, ops := hs })) ∧
  (∀ (s : State) (j w : Nat) (x : Round) (m : Msg) (key : Nat),
    let o := s.ops j w
    let rows := ((List.range (x.cfg.nRows m.len)).drop m.resolved).map (fun i => s.rowId x.cfg m.lz i)
    s.unitReady j w (1, 1, 0) s.eOf [(tQA w, [1])] = true → s.liveMsg o.f o.qa = some (x, m) → x.cfg.sparse = true →
    m.kind ≠ .recovery → s.streamOf o.f 1 0 (stepOf m.round dirStep) 0 = some key → m.prepared = true →
    (∀ x1 n y k, resolveRows key x m.resolved rows = (x1, n, none) →
      let u := (s.putResolved o.f m.round x1).updLive o.f m.round m.lz (fun m => { m with resolved := n })
      u.liveMsg o.f o.qa = some (y, k) →
      let plan := u.rowPlan y k (k.cursor / y.cfg.rw)
      let segs := u.rowSegs j (u.spin j).nextId y k plan
      plan.all (fun p => !u.fmtConflict p.tile (u.issueEpoch j p.tile) y.cfg.mode y.cfg.wsel 0 false) = true →
      u.roomFor y.cfg [] plan = plan →
      let v := ((((u.eccSpan k.lz (64 + y.cfg.rowOff (k.cursor / y.cfg.rw)) (plan.length * y.cfg.rowRec)).takeOff
        (plan.map (·.tile))).updLive o.f k.round k.lz (fun m =>
          { m with cursor := m.cursor + plan.length * y.cfg.rw, segs := m.segs + segs.length })).updSpin j
            (fun z => { z with segs := z.segs ++ segs, active := u.time }))
      exec (.foldr j) s = .next (v.reportMsg j w 0 .foldr y k false
        (((v.spin j).segs.filter (fun g => g.entry == (u.spin j).nextId)).length))) ∧
    (∀ x1 n, resolveRows key x m.resolved rows = (x1, n, some .miss) →
      let u := (s.putResolved o.f m.round x1).updLive o.f m.round m.lz (fun m => { m with resolved := n })
      exec (.foldr j) s = .next ((u.updRound o.f m.round (fun y =>
        let mine := (y.sparse.misses.filter (fun p => p.1 == j)).map (·.2)
        let want := ((x1.wantedPages key (rows.drop (n - m.resolved))).filter (fun p => !mine.contains p)).take (fetchAhead - mine.length)
        { y with sparse := { y.sparse with misses := y.sparse.misses ++ want.map (fun p => (j, p)) } })).updSpin j
          (fun y => { y with active := s.time })))) ∧
  (∀ (s : State) (j : Nat) (r : Round) (p : Nat × Nat),
    let u := (s.cachePage r.func r.cfg.round p.2).updRound r.func r.cfg.round (fun y =>
      { y with sparse := { y.sparse with misses := y.sparse.misses.erase p } })
    s.rounds.find? (fun r => s.owner? j == some r.func && r.sparse.misses.any (fun p => p.1 == j)) = some r →
    r.sparse.misses.find? (fun p => p.1 == j) = some p →
    exec (.directoryPageFetch j) s = .next (u.foldr j) ∧
    (u.issuing j = false → exec (.directoryPageFetch j) s = .next u) ∧
    ((r.cached p.2).isNone = true → s.round? r.func r.cfg.round = some r →
      ((u.round? r.func r.cfg.round).bind (fun y => y.cached p.2)).isSome = true))

/-- What enters the unit queue: one entry at its end, with the instruction's word, PC and step and a number of its own;
the spindle goes on at the next word and nothing else changes (R188, R189).

UNIT_INSTRUCTION_RETIRE: a unit instruction retires once its segments, its drain tiles and its random words are in: the entry
leaves the queue and its report is written; until then nothing happens (R188, R190). A CLIP with PHASE 1, and a FOLD of a
mode 3 message with a norm check, retire once their handles are decided, and each handle's contribution is folded or excluded
then (R225).
Rests on the model's own readings of log entries 3 and 4. -/
def Obligations.UnitQueue : Prop :=
  (∀ (s : State) (j w : Nat) (e : UnitEntry),
    s.enqueue j w e = s.goOn j (fun x =>
      { x with
        uq := x.uq ++ [{ e with id := x.nextId, word := BitVec.ofNat 64 w, pc := x.pc, stepc := x.stepc }]
        nextId := x.nextId + 1 })) ∧
  (∀ (s : State) (j i : Nat) (e : UnitEntry), s.ready = true → (s.spin j).recovering = false → (s.spin j).uq[i]? = some e →
    ((e.parts ≠ 0 ∨ e.drains ≠ [] ∨ s.awaitsWords j e.id = true) → exec (.unitInstructionRetire j i) s = .next s) ∧
    (e.parts = 0 → e.drains = [] → s.awaitsWords j e.id = false →
      (s.owner? j = none → exec (.unitInstructionRetire j i) s = .next (s.leave j e)) ∧
      (∀ f, s.owner? j = some f →
        exec (.unitInstructionRetire j i) s = .next (s.retireOf f j e) ∧
        (e.failCode = none → e.op ≠ .release → e.op ≠ .apply → (e.op = .fold → e.held = false) → e.op ≠ .clipFinish →
          e.op ≠ .noise → e.op ≠ .expand → e.op ≠ .copy →
          exec (.unitInstructionRetire j i) s = .next (s.updSpin j (fun x => x.retire e s.time))) ∧
        (e.op = .clipFinish →
          (s.clipReady f e.ops = true → exec (.unitInstructionRetire j i) s = .next
            ((e.ops.foldl (fun s h => s.finishQuery f h) s).updSpin j (fun x => x.retire e
              (e.ops.foldl (fun s h => s.finishQuery f h) s).time))) ∧
          (s.clipReady f e.ops = false → exec (.unitInstructionRetire j i) s = .next s)) ∧
        (∀ q, e.op = .fold → e.held = true →
          s.queries.find? (fun q => q.func == f && q.handle == e.handle && some q.round == e.round) = some q →
          (q.decided ≠ none → exec (.unitInstructionRetire j i) s = .next ((s.finishQuery f e.handle).leave j e)) ∧
          (q.decided = none → exec (.unitInstructionRetire j i) s = .next s)))) ∧
    (∀ x : Spindle,
      (x.retire e s.time).uq = x.uq.filter (fun u => u.id != e.id) ∧
      (e.reports = true → e.writes = [] → e.qdst = none →
        x.retire e s.time = { (x.setS (tSC e.word.toNat) (BitVec.ofNat 64 e.code)).setP (tPD e.word.toNat) (outcome e.code) with
          uq := x.uq.filter (fun u => u.id != e.id)
          active := s.time
          retLog := x.retLog ++ [{ entry := e.id, code := e.code, word := e.word, writes := [] }] })))

/-! ## The sync and system classes -/

/-- WAITC goes on at once when the counter has reached its threshold, reports 0x0A0E at once with timeout 1, and otherwise
waits; WAIT_TIMEOUT reports 0x0A0E once its timeout has passed, completions of the same cycle coming first (R105, R195).

SIGNAL posts its addition with the unit instructions it waits for and goes on; SIGNAL_APPLY adds it once they have all
retired (R195).

FENCE goes on once no unit instruction is in flight (with ACK, once every message is acknowledged); with WB it writes
the function's staged tiles and pool pages back first, and traps with 0x0101 where one fails its checksum; otherwise it waits
(R190, R195).
Rests on the model's own readings of log entry 48. -/
def Obligations.WaitsAndSignals : Prop :=
  (∀ (s : State) (j w : Nat), s.issues j w = true → wKey w = (8, 1, 0) →
    let o := s.ops j w
    let rep (code : Nat) : State := s.goOn j (fun x => (x.setS (tSC w) (BitVec.ofNat 64 code)).setP (tPD w) (outcome code))
    (o.sa ≤ s.ctrGet o.f (modCtr w) → exec (.waitc j) s = .next (rep 0)) ∧
    (s.ctrGet o.f (modCtr w) < o.sa → o.sb = 1 → exec (.waitc j) s = .next (rep 0x0A0E)) ∧
    (s.ctrGet o.f (modCtr w) < o.sa → o.sb ≠ 1 → (s.spin j).wait = .none →
      exec (.waitc j) s = .next (s.updSpin j (fun x => { x with wait := .waitc s.time, active := s.time })))) ∧
  (∀ (s0 : State) (j w since : Nat),
    let s := s0.postAll
    let o := s.ops j w
    let rep (code : Nat) : State := s.goOn j (fun x => (x.setS (tSC w) (BitVec.ofNat 64 code)).setP (tPD w) (outcome code))
    s.issues j w = true → wKey w = (8, 1, 0) → (s.spin j).wait = .waitc since →
    (o.sa ≤ s.ctrGet o.f (modCtr w) → exec (.waitTimeout j) s0 = .next (rep 0)) ∧
    (s.ctrGet o.f (modCtr w) < o.sa → o.sb ≠ 0 → since + o.sb - 1 ≤ s.time →
      exec (.waitTimeout j) s0 = .next (rep 0x0A0E))) ∧
  (∀ (s : State) (j w : Nat),
    (s.issues j w = true → wKey w = (8, 2, 0) → exec (.signal j) s = .next (s.goOn j (fun x =>
      { x with
        signals := x.signals ++ [{ id := x.nextId, entries := x.uq.map (·.id), ctr := tMod w % 2 ^ 16, addend := (s.ops j w).sa }]
        nextId := x.nextId + 1 }))) ∧
    (∀ g f, s.ready = true → s.owner? j = some f →
      (s.spin j).signals.find? (fun g => g.entries.all (fun i => (s.spin j).uq.all (fun e => e.id != i))) = some g →
      exec (.signalApply j) s = .next ((s.ctrAdd f g.ctr g.addend).updSpin j (fun x =>
        { x with signals := x.signals.filter (fun h => h.id != g.id) })))) ∧
  (∀ (s : State) (j w : Nat), s.issues j w = true → wKey w = (8, 3, 0) →
    let f := (s.ops j w).f
    let mine := (s.staged.filter (fun g => g.func == f && g.dirty)).map (·.tile)
    let pages := ((s.pages.filter (fun g => g.func == f && g.dirty)).map (·.tile)).dedup
    let back := pages.foldl (fun s t => s.pagesBack t) (mine.foldl (fun s t => s.writeBack t) s)
    ((s.spin j).uq ≠ [] → exec (.fence j) s = .next (s.updSpin j (fun x => { x with wait := .fence }))) ∧
    ((s.spin j).uq = [] → bit (tMod w) 1 = true → (s.spin j).unacked ≠ 0 →
      exec (.fence j) s = .next (s.updSpin j (fun x => { x with wait := .fence }))) ∧
    ((s.spin j).uq = [] → (bit (tMod w) 1 = true → (s.spin j).unacked = 0) → bit (tMod w) 0 = false →
      exec (.fence j) s = .next (s.goOn j id)) ∧
    ((s.spin j).uq = [] → (bit (tMod w) 1 = true → (s.spin j).unacked = 0) → bit (tMod w) 0 = true →
      s.quiet (mine ++ pages) = true → s.farTurn f = true →
      (mine.all (fun t => !(back.stagedOf t).any (fun g => g.dirty)) = true → exec (.fence j) s = .next (back.advance j)) ∧
      (∀ t, mine.find? (fun t => (back.stagedOf t).any (fun g => g.dirty)) = some t →
        exec (.fence j) s = .next (back.trap j 0x0101 false (s.spin j).pc (BitVec.ofNat 64 w) (s.spin j).stepc t))))

/-- A lock counter of the function's set takes an addition, saturating at 2^64 − 1, and no other counter changes; a counter
outside the set takes nothing (R260). -/
def Obligations.CounterAdd : Prop :=
  ∀ (s : State) (f c v : Nat), s.tablesWf = true →
    (c < s.rd Reg.fnCtrCount f →
      (s.ctrAdd f c v).ctrGet f c = min (s.ctrGet f c + v) (2 ^ 64 - 1) ∧
      ∀ d, d ≠ s.rd Reg.fnCtrBase f + c → Sparse.get 0 (s.ctrAdd f c v).ctrs d = Sparse.get 0 s.ctrs d) ∧
    (s.rd Reg.fnCtrCount f ≤ c → s.ctrAdd f c v = s)

/-- GATE arms on the first arrival and records later ones, a second timestamp being a conflict (0x0A11); GATE_RELEASE releases
every arrived spindle once its time has come and all bound spindles have arrived, late after T (0x0A10); GATE_TIMEOUT withdraws
the arrival of a spindle whose timeout has expired with 0x0A0E, a release of the same cycle coming first (R300).
Rests on the model's own readings of log entry 48. -/
def Obligations.Gates : Prop :=
  ∀ (s : State) (j w : Nat),
    let o := s.ops j w
    let n := tMod w
    let s0 := s.updSpin j (fun x => { x with wait := .gate s.time, active := s.time })
    (s.issues j w = true → wKey w = (8, 0, 0) → (s.spin j).uq = [] → (s.spin j).wait = .none → s.gate? o.f n = none →
      exec (.gate j) s = .next { s0 with
        gates := s0.gates ++ [{ func := o.f, num := n, time := o.sa, conflict := false, arrived := [j] }] }) ∧
    (∀ g, s.issues j w = true → wKey w = (8, 0, 0) → (s.spin j).uq = [] → (s.spin j).wait = .none → s.gate? o.f n = some g →
      g.arrived.contains j = false → g.time = o.sa →
      exec (.gate j) s = .next { s0 with
        gates := updIf s0.gates (fun x => x.func == o.f && x.num == n) (fun x => { x with arrived := x.arrived ++ [j] }) }) ∧
    (∀ g, s.issues j w = true → wKey w = (8, 0, 0) → (s.spin j).uq = [] → (s.spin j).wait = .none → s.gate? o.f n = some g →
      g.arrived.contains j = false → g.time ≠ o.sa → g.conflict = false →
      exec (.gate j) s = .next { s0.raiseOwn o.f 0x0A11 with
        gates := updIf (s0.raiseOwn o.f 0x0A11).gates (fun x => x.func == o.f && x.num == n)
          (fun x => { x with conflict := true, arrived := x.arrived ++ [j] }) }) ∧
    (∀ f m g, s.gate? f m = some g → s.ready = true → s.gateOpen g = true →
      let u := (sortBy id g.arrived).foldl (fun s j => s.leaveGate j 0)
        { s with gates := s.gates.filter (fun x => !(x.func == f && x.num == m)) }
      (g.time = s.time → exec (.gateRelease f m) s = .next u) ∧
      (g.time < s.time → exec (.gateRelease f m) s = .next ((u.raiseOwn f 0x0A10).bump Reg.gateLateCount))) ∧
    (∀ since g, (s.spin j).wait = .gate since → s.issues j w = true → wKey w = (8, 0, 0) → s.gate? o.f n = some g →
      s.gateOpen g = false → o.sb ≠ 0 → since + o.sb - 1 ≤ s.time →
      exec (.gateTimeout j) s = .next (State.syncDone
        { s with
          gates := updIf s.gates (fun x => x.func == o.f && x.num == n) (fun x => { x with arrived := x.arrived.erase j }) }
        j w 0x0A0E))

/-- A spindle's trap: the 64-byte record is written at 0x1F_F000 of scratch, or 64 bytes on when it was already in HANDLER;
a program with a handler enters HANDLER at its handler word, another one or a nested trap goes to TRAPPED, and so does one
under a STOP accepted in the same cycle; nothing waits any more, and an earlier STOP goes on in the handler (R191, R201).
Rests on the model's own readings of log entry 39. -/
def Obligations.TrapEntry : Prop :=
  ∀ (s : State) (j code pc step tile qreg : Nat) (precise : Bool) (insn : Word), j < s.spindles.length →
    let x := s.spin j
    let y := (s.trap j code precise pc insn step tile qreg).spin j
    let nested := x.st = .handler
    let stopped := x.stopping = true ∧ x.stopAt = s.time
    y.trap = trapRecord code j precise nested pc x.pc insn step s.time tile qreg 0 ∧
    y.s = x.s ∧ y.p = x.p ∧ y.q = x.q ∧ y.uq = x.uq ∧ y.wait = .none ∧
    (∀ h, x.handler = some h → ¬ nested → ¬ stopped → y.st = .handler ∧ y.pc = h ∧ y.stopping = x.stopping) ∧
    ((x.handler = none ∨ nested ∨ stopped) → y.st = .trapped ∧ y.pc = x.pc ∧ y.stopping = false) ∧
    (∀ a, (a < scratchTrap ∨ scratchTrap + 128 ≤ a) → Sparse.get 0 y.scratch a = Sparse.get 0 x.scratch a)

/-- The system class: TRAP traps with 0x0A0A; TRAP with RET returns from HANDLER to RUNNING at word sA and traps outside it;
HALT stops issue, and HALT_DONE ends the program; STEP moves the step counter, SETROUND loads a round, each taking a journal
point once the unit queue is empty, and a step or round out of range traps with 0x0A0F; the watchdog traps with 0x0A02 after a
millisecond without progress (R192, R196, R201, R230).
Rests on the model's own readings of log entries 39, 48 and 49. -/
def Obligations.SystemInstructions : Prop :=
  ∀ (s : State) (j w : Nat),
    let x := s.spin j
    let stepTo (n : Nat) : State := s.updSpin j (fun x =>
      { x with pc := x.pc + 1, active := s.time, wait := .none, stepc := n }.journalPoint s.time)
    (s.issues j w = true →
      (wKey w = (9, 0, 0) → exec (.trap j) s = .next (s.trapHere j 0x0A0A w)) ∧
      (wKey w = (9, 0, 1) → x.st = .handler → exec (.trapReturn j) s = .next (s.updSpin j (fun x =>
        { x with st := .running, pc := (s.ops j w).sa, active := s.time, wait := .none }))) ∧
      (wKey w = (9, 0, 1) → x.st ≠ .handler → exec (.trapReturn j) s = .next (s.trapHere j 0x0A0A w)) ∧
      (wKey w = (9, 1, 0) → exec (.halt j) s = .next (s.updSpin j (fun x => { x with wait := .halt }))) ∧
      (wKey w = (9, 2, 0) → x.uq ≠ [] → exec (.step j) s = .next (s.updSpin j (fun x => { x with wait := .step }))) ∧
      (wKey w = (9, 2, 0) → x.uq = [] → x.stepc % 2 ^ 24 + 1 < 0xFFFFFE → exec (.step j) s = .next (stepTo (x.stepc + 1))) ∧
      (wKey w = (9, 2, 0) → x.uq = [] → 0xFFFFFE ≤ x.stepc % 2 ^ 24 + 1 → exec (.step j) s = .next (s.trapHere j 0x0A0F w)) ∧
      (wKey w = (9, 2, 1) → x.uq = [] → x.stepc / 2 ^ 24 < (s.ops j w).sa % 2 ^ 40 →
        exec (.stepSetround j) s = .next (stepTo ((s.ops j w).sa % 2 ^ 40 * 2 ^ 24))) ∧
      (wKey w = (9, 2, 1) → x.uq = [] → (s.ops j w).sa % 2 ^ 40 ≤ x.stepc / 2 ^ 24 →
        exec (.stepSetround j) s = .next (s.trapHere j 0x0A0F w))) ∧
    (s.ready = true → x.wait = .halt → x.stopping = false → x.uq = [] → x.signals = [] →
      exec (.haltDone j) s = .next (s.updSpin j (fun x =>
        { x with pc := x.pc + 1, active := s.time, wait := .none, st := if x.st = .handler then .trapped else .done }))) ∧
    (s.watched j = true → x.active + 1350000 ≤ s.time → s.unwatched j = false →
      exec (.lockkeeperWatchdog j) s = .next (s.trap j 0x0A02 false x.pc (BitVec.ofNat 64 (x.fetch.getD 0)) x.stepc))

/-! ## The polynomial class -/

/-- NTT, INTT and AUTO: limb by limb over the slots of the range, with the transforms of R112 and the automorphism of R219;
the other limbs stay, and the result's COUNT is 1 and its NU_IN its NOISE (R120).

PMUL by a ciphertext, a plaintext polynomial or a scalar, and PADD and its subtraction (R219).
Rests on the model's own readings of log entries 4, 28, 29, 118 and 119. -/
def Obligations.PolynomialOperations : Prop :=
  (∀ (s : State) (j w : Nat),
    let o := s.ops j w
    let d := (s.spin j).ct o.qa
    let r := d.slotRange o
    let run (res : CtDesc) (g : Nat → Nat → List Nat) (op : UOp) : State :=
      s.polyLeaves j w o res (covers r d.slots) d.cols (mapSlots (List.range d.comps) r g) op
    (s.unitReady j w (5, 0, 0) s.eOf (regs2 w) = true → s.polyPass j o [o.qa] [d] 0 0 { d.fresh d.noise with ntt := true } = true →
      exec (.ntt j) s = .next (run { d.fresh d.noise with ntt := true }
        (fun k i => nttPoly d.pset.n d.pset.logN (d.pset.psi (d.primeIx i)) (d.q i) (s.limb d k i)) .ntt)) ∧
    (s.unitReady j w (5, 1, 0) s.eOf (regs2 w) = true → s.polyPass j o [o.qa] [d] 0 0 { d.fresh d.noise with ntt := false } = true →
      exec (.intt j) s = .next (run { d.fresh d.noise with ntt := false }
        (fun k i => inttPoly d.pset.n d.pset.logN (d.pset.psi (d.primeIx i)) (d.q i) (s.limb d k i)) .intt)) ∧
    (s.unitReady j w (5, 4, 0) s.eOf (regs2 w) = true → tMod w < 2 * d.pset.n →
      s.polyPass j o [o.qa] [d] 0 0 { d.fresh d.noise with autoK := tMod w } = true →
      exec (.auto j) s = .next (run { d.fresh d.noise with autoK := tMod w }
        (fun k i => d.toDomain i (autoPoly d.pset.n (tMod w) (d.q i) (s.coefs d k i))) .auto))) ∧
  (∀ (s : State) (j w : Nat),
    let o := s.ops j w
    let x := s.spin j
    let a := x.ct o.qa
    let b := x.ct o.qb
    let m := tMod w
    let put (q u v : Nat) : Nat := if m % 2 = 1 then (u + q - v % q) % q else (u + v) % q
    (m % 4 = 0 → s.unitReady j w (5, 2, 0) s.eOf (regs3 w) = true → a.level = b.level → a.ntt = b.ntt → a.ext = b.ext →
      a.three = false → b.three = false →
      let res : CtDesc := { a.fresh (a.pset.nuMul (wOf a.wsel) a.noise b.noise) with three := true }
      let limbs (d : CtDesc) : Ct := (List.range 2).map (fun k => (List.range d.slots).map (fun i => s.coefs d k i))
      let prod := ctMul a.pset.n (wOf a.wsel) ((List.range a.slots).map a.q) (limbs a) (limbs b)
      s.polyPass j o [o.qa, o.qb] [a, b] 0 0 res = true →
      exec (.pmul j) s = .next (s.polyLeaves j w o res (covers (a.colRange o) a.pset.tiles) (a.colRange o)
        (mapSlots [0, 1, 2] (List.range a.slots) (fun k i => res.toDomain i ((prod.getD k []).getD i []))) .pmul)) ∧
    (m % 4 = 1 → s.unitReady j w (5, 2, 0) s.eOf (regs3p w) = true → a.slots * a.pset.tiles ≤ qNt o.qb → a.ntt = true →
      let res := a.fresh (a.noise + bits m 2 7 * 256 + lg a.pset.n)
      s.polyPass j o [o.qa] [a] 0 0 res = true →
      exec (.pmul j) s = .next (s.polyLeaves j w o res (covers (a.slotRange o) a.slots) a.cols
        (mapSlots (List.range a.comps) (a.slotRange o) (fun k i =>
          pointwise (a.q i) (s.limb a k i) (s.plain o.qb a.pset.tiles i))) .pmul)) ∧
    (m % 4 = 2 → s.unitReady j w (5, 2, 0) s.eOf (regs2 w) = true →
      let c := lift 64 o.sc
      let res := a.fresh (a.noise + ceilLog2 (c.natAbs + 1) * 256)
      s.polyPass j o [o.qa] [a] 0 0 res = true →
      exec (.pmul j) s = .next (s.polyLeaves j w o res (covers (a.slotRange o) a.slots) a.cols
        (mapSlots (List.range a.comps) (a.slotRange o) (fun k i =>
          (s.limb a k i).map (fun (v : Nat) => ((v : Int) * c % (a.q i : Int)).toNat))) .pmul)) ∧
    (bit m 1 = false → s.unitReady j w (5, 3, 0) s.eOf (regs3 w) = true → a.level = b.level → a.ntt = b.ntt → a.ext = b.ext →
      let res : CtDesc := { a.add b.count b.nuIn with three := a.three || b.three }
      let part (d : CtDesc) (k i : Nat) : List Nat := if k < d.comps then s.limb d k i else List.replicate d.pset.n 0
      s.polyPass j o [o.qa, o.qb] [a, b] 0 0 res = true →
      exec (.padd j) s = .next (s.polyLeaves j w o res (covers (a.slotRange o) a.slots) a.cols
        (mapSlots (List.range (max a.comps b.comps)) (a.slotRange o) (fun k i =>
          ((part a k i).zip (part b k i)).map (fun p => put (a.q i) p.1 p.2))) .padd)) ∧
    (bit m 1 = true → s.unitReady j w (5, 3, 0) s.eOf (regs3p w) = true → a.slots * a.pset.tiles ≤ qNt o.qb → a.ntt = true →
      s.polyPass j o [o.qa] [a] 0 0 (a.add 1 0) = true →
      exec (.padd j) s = .next (s.polyLeaves j w o (a.add 1 0) (covers (a.slotRange o) a.slots) a.cols
        (mapSlots (List.range a.comps) (a.slotRange o) (fun k i =>
          if k = 0 then ((s.limb a k i).zip (s.plain o.qb a.pset.tiles i)).map (fun p => put (a.q i) p.1 (a.delta i * p.2))
          else s.limb a k i)) .padd)))

/-- MODUP, MODDN, RESC and KSW (R123, R219): the basis extended, divided by P, the top limb dropped with rounding, the last
component switched with the key's slice, the intermediates in the spindle's WORK tiles. MODUP's new limbs are free values below
each prime (log entry 26).
Rests on the model's own readings of log entries 4, 26, 28 and 118. -/
def Obligations.ModulusInstructions : Prop :=
  ∀ (s : State) (j w : Nat),
    let o := s.ops j w
    let d := (s.spin j).ct o.qa
    let r := d.colRange o
    let top := covers r d.pset.tiles
    let up : CtDesc := { d.fresh (d.noise + d.pset.logP) with ext := true, ntt := false }
    let dn : CtDesc := { d.fresh (d.pset.nuModdn d.noise) with ext := false }
    let lo : CtDesc := { d.fresh (d.pset.nuResc (wOf d.wsel) d.level d.noise) with level := d.level - 1 }
    let sw : CtDesc := { d.fresh (d.pset.nuKsw d.level d.noise) with three := false, autoK := 0 }
    let key := bits (tMod w) 0 8
    (s.unitReady j w (5, 5, 0) s.eOf (regs2 w) = true → d.ext = false → s.polyPass j o [o.qa] [d] 0 0 up = true →
      exec (.modup j) s = .next (s.polyLeaves j w o up top r (mapSlots (List.range d.comps) (List.range up.slots) (fun k i =>
        (List.range d.pset.n).map (fun c => Config.modupLimb (s.ctData d) k i c % up.q i))) .modup)) ∧
    (s.unitReady j w (5, 6, 0) s.eOf (regs2 w) = true → d.ext = true → s.polyPass j o [o.qa] [d] 0 0 dn = true →
      exec (.moddn j) s = .next (s.polyLeaves j w o dn top r ((List.range d.comps).flatMap (fun k =>
        (List.range (d.level + 1)).map (fun i => (k, i, dn.toDomain i
          ((s.lifted d k (List.range d.slots)).map (fun v => divRound v d.pset.bigP % dn.q i)))))) .moddn)) ∧
    (s.unitReady j w (5, 7, 0) s.eOf (regs2 w) = true → d.ext = false → d.level ≠ 0 → s.polyPass j o [o.qa] [d] 0 0 lo = true →
      exec (.resc j) s = .next (s.polyLeaves j w o lo top r ((List.range d.comps).flatMap (fun k =>
        (List.range d.level).map (fun i => (k, i, lo.toDomain i
          ((s.lifted d k (List.range (d.level + 1))).map (fun v => divRound v (d.q d.level) % lo.q i)))))) .resc)) ∧
    (∀ u, s.unitReady j w (5, 8, 0) s.eOf (regs2 w) = true → d.ext = false →
      s.polyPass j o [o.qa] [d] (s.evkCode o.f key d (if d.three then 0 else 1) d.autoK d.level) 0 sw = true →
      s.evkUse o.f key d.level = (true, u) →
      let limbs (s : State) (k : Nat) : List (List Nat) := (List.range (d.level + 1)).map (fun i => s.coefs d k i)
      let v := u.putWork o.f j d.pset d.level (limbs u (d.comps - 1))
      let c := Ct.ksw d.pset d.level (v.keyPoly o.f key d.level) ((List.range d.comps).map (limbs v))
      let out := sw.onto ((s.spin j).ct o.qd)
      exec (.ksw j) s = .next ((v.putAll out r (mapSlots [0, 1] (List.range (d.level + 1)) (fun k i =>
        sw.toDomain i ((c.getD k []).getD i [])))).silent j w .ksw (if top then [(qAddr o.qd, toLe 64 out.toNat)] else [])))

/-- A check that fails traps with its own code: budget and level exhaustion mark the source first, so that a later use traps
with 0x0203 (R121). RESC of a ciphertext at level 0 traps with 0x0202.
Rests on the model's own readings of log entry 28. -/
def Obligations.PolynomialTraps : Prop :=
  ∀ (s : State) (j w : Nat),
    let o := s.ops j w
    let x := s.spin j
    let d := x.ct o.qa
    s.unitReady j w (5, 7, 0) s.eOf (regs2 w) = true →
    let lo : CtDesc := { d.fresh (d.pset.nuResc (wOf d.wsel) d.level d.noise) with level := d.level - 1 }
    (s.ctWf o.f (x.ctRec o.qd) = true → s.ctWf o.f (x.ctRec o.qa) = true → (lo.onto (x.ct o.qd)).fits = true →
      (d.marked = true → exec (.resc j) s = .next (s.trapHere j 0x0203 w)) ∧
      (d.marked = false → d.ps ≠ (x.ct o.qd).ps → exec (.resc j) s = .next (s.trapHere j 0x0302 w)) ∧
      (d.marked = false → d.ps = (x.ct o.qd).ps → d.ext = false → d.level = 0 →
        exec (.resc j) s = .next ((s.mark j [o.qa]).trapHere j 0x0202 w)))

/-! ## LUTR, masks and the gate's instructions -/

/-- EXPAND of a mode 0 round cancels the mask of the next queued secret and reports 1 unit and what is left, one of mode 1
cancels the blocks of its spindle's parts and reports their number; with none queued, or before UNMASK, it reports and does
nothing. SEEDREC of a recovery message takes its records: each into the round, the message out of it, progress 5 once the
secrets are reconstructed, and the report says whether one was denied or disagreed. PRGH writes the sampled polynomial's limbs
(R215 to R217).

LUTR evaluates its table on a batch: its keys' slices are read, and each batch entry, at 64-byte intervals of descriptors,
takes a result with the noise and level R134 gives; the limbs are free values below each prime (log entry 26).
Rests on the model's own readings of log entries 26, 30 and 31. -/
def Obligations.MasksAndTables : Prop :=
  (∀ (s : State) (j w : Nat) (x : Round),
    let o := s.ops j w
    s.issues j w = true → wKey w = (3, 0, 0) → (s.spin j).spanOk o.qb 16 = true → s.round? o.f o.sa = some x →
    (∀ owner kind rest, x.st = .unmask → x.cfg.mode ≠ 1 → x.um.queue = (owner, kind) :: rest →
      let u := s.loadShareModulus 0
      u.quiet x.acc = true → u.allPresent x.acc = true →
      exec (.expand j) s = .next (((u.expand0 x owner kind
          (((x.um.secrets.find? (fun p => p.1 == owner && p.2.1 == kind)).map (·.2.2)).getD 0)).updRound o.f x.cfg.round
            (fun x => { x with um := { x.um with queue := rest } })).enqueue j w
        { id := 0, op := .expand, word := 0, pc := 0, stepc := 0, reports := true, round := some x.cfg.round
          msg := some (owner, kind), writes := [(qAddr o.qb, toLe 8 1 ++ toLe 8 rest.length)] })) ∧
    (∀ sigma, x.st = .unmask → x.cfg.mode = 1 → x.um.sigma = some sigma →
      let u := s.loadShareModulus 1
      let ps := u.partsLeft j x.um.ran
      let bs := ps.flatMap (partItems x.cfg.blocks u.lgrade)
      ps ≠ [] → u.quiet x.acc = true → u.allPresent x.acc = true →
      exec (.expand j) s = .next ((((((bs.foldl (fun v b => v.expandBlock x (u.tenantTag o.f) sigma b) u).updRound o.f x.cfg.round
          (fun x => { x with um := { x.um with ran := x.um.ran ++ ps } })).askLoads j bs.length).enqueue j w
        { id := 0, op := .expand, word := 0, pc := 0, stepc := 0, reports := true, round := some x.cfg.round, spread := ps
          writes := [(qAddr o.qb, toLe 8 bs.length ++ toLe 8 0)] }).deadRound o.f x.cfg.round))) ∧
    (x.st = .unmask → x.cfg.mode ≠ 1 → x.um.queue = [] →
      exec (.expand j) s = .next ((s.loadShareModulus 0).report j w 0 .expand [(qAddr o.qb, toLe 8 0 ++ toLe 8 0)])) ∧
    (x.st ≠ .unmask → x.st ≠ .abandoned →
      exec (.expand j) s = .next (s.report j w 0 .expand [(qAddr o.qb, toLe 8 0 ++ toLe 8 x.um.queue.length)]))) ∧
  (∀ (s : State) (j w : Nat) (x : Round) (m : Msg),
    let o := s.ops j w
    let u := s.loadShareModulus x.cfg.mode
    s.unitReady j w (3, 1, 0) s.eOf [(tQA w, [1])] = true → s.liveMsg o.f o.qa = some (x, m) → m.kind = .recovery →
    (∀ es x1, x.cfg.mode ≠ 1 → u.takeShares x (u.shareRecords m.lz m.len) = (es, x1) →
      es.all (fun e => e == .ok || e == .repeated) = true →
      let v := u.updRound x.func x.cfg.round (fun y =>
        { y with um := x1.um, counts := y.counts.shares es, live := y.live.filter (fun k => k.lz != m.lz) })
      (∀ y, v.round? x.func x.cfg.round = some y → y.st = .unmask → v.reconstructed y = true →
        exec (.seedrec j) s = .next ((v.progress x.func x.cfg.round 5).report j w 0 .seedrec)) ∧
      (∀ y, v.round? x.func x.cfg.round = some y → (y.st ≠ .unmask ∨ v.reconstructed y = false) →
        exec (.seedrec j) s = .next (v.report j w 0 .seedrec))) ∧
    exec (.seedrec j) s = .next ((u.seedRecords x m).2.report j w (u.seedRecords x m).1 .seedrec)) ∧
  (∀ (s : State) (j w : Nat),
    let o := s.ops j w
    let d := (s.spin j).ct o.qd
    let dist := tMod w % 4
    let src := tMod w / 4
    let js := if o.sc = 0 then List.range d.slots else ctRange o.sb o.sc d.slots
    let u := { s.putAll d d.cols (js.map (fun i => (o.sa, i, d.cols.flatMap (fun c => (List.range 8192).map (prghCoef dist (d.q i)
      (s.prghKey o src (s.spin j).stepc (prghTile d dist o.sa (js.headD 0) i c))))))) with fresh := s.fresh + 1 }
    let out := [(qAddr o.qd, toLe 64 ({ d.fresh 0 with marked := false } : CtDesc).toNat)]
    s.unitReady j w (3, 2, 0) s.eOf [(tQD w, [2])] = true → s.ctWf o.f ((s.spin j).ctRec o.qd) = true → o.sa < d.comps →
    d.fits = true → s.quiet d.reserved = true →
    (src = 1 → (s.fn o.f).noiseSeed.isSome = true → s.rngServes = true → exec (.prgh j) s = .next (u.report j w 0 .prgh out)) ∧
    (src ≠ 1 → exec (.prgh j) s = .next
      ((u.askLoads j (if dist = 1 then js.length * d.cols.length else d.cols.length) (dist != 1)).report j w 0 .prgh out))) ∧
  (∀ (s : State) (j w : Nat),
    let o := s.ops j w
    let x := s.spin j
    let sh := bits (tMod w) 0 6
    let lv := bits (tMod w) 6 6
    let d := x.ct o.qa
    let at_ (i : Nat) : Nat := qAddr o.qd + 64 * i
    let dsts := (List.range o.sb).map (fun i => readNat x.scratch (at_ i) 64)
    let outs := dsts.map (fun c => ({ d.fresh (d.pset.nuLutr lv) with
      level := lv, ntt := false, ext := false, three := false, autoK := 0 } : CtDesc).onto (CtDesc.ofNat c))
    let data := s.ctData d ++ (readBytes x.scratch (qAddr o.qb) 256).map (·.toNat) ++
      [sh, s.evkDigest o.f (bits o.sc 0 8), s.evkDigest o.f (bits o.sc 8 8), s.evkDigest o.f (bits o.sc 16 8)]
    ∀ u, s.unitReady j w (6, 0, 0) s.eOf [(tQD w, [2]), (tQA w, [2]), (tQB w, [3])] = true →
    256 ≤ qLen o.qb → 0 < o.sb → o.sb ≤ 64 → qAddr o.qd + 64 * o.sb ≤ dataEnd → sh ≤ wOf d.wsel - 8 → bits o.sc 24 40 = 0 →
    s.ctWf o.f (x.ctRec o.qa) = true → dsts.all (fun c => s.ctWf o.f c) = true → lv < d.pset.lq →
    outs.all (fun c => c.fits && c.ps == d.ps && c.inBudget) = true → dsts.all (fun c => (CtDesc.ofNat c).ps == d.ps) = true →
    d.marked = false → s.evkCode o.f (bits o.sc 0 8) d 2 0 d.level = 0 → s.evkCode o.f (bits o.sc 8 8) d 3 0 d.level = 0 →
    s.evkCode o.f (bits o.sc 16 8) d 4 0 lv = 0 → s.quiet (d.reserved ++ outs.flatMap (·.reserved)) = true →
    s.evkUses o.f [(bits o.sc 0 8, lv), (bits o.sc 8 8, lv), (bits o.sc 16 8, lv)] = (true, u) →
    exec (.lutr j) s = .next ((((List.range o.sb).zip outs).foldl (fun s p =>
        s.putAll p.2 p.2.cols (mapSlots [0, 1] (List.range p.2.slots) (fun k i =>
          (List.range p.2.pset.n).map (fun c => Config.lutrLimb ((o.sa + p.1) :: data) k i c % p.2.q i)))) u).silent j w .lutr
      (((List.range o.sb).zip outs).map (fun p => (at_ p.1, toLe 64 p.2.toNat)))))

/-- DECODE verifies and decodes each tile into its output tile and writes the status records, reporting a mismatch, which stops
the release, before an overrange (R41, R43, R170, R224). NOISE runs the parts of the pass its spindle has still to begin; a
mismatch abandons the round (R167, R223). APPLY takes its parts' partial sums and enters the unit queue (R227, R228). RELEASE
takes its place in the order and keeps the round's destination and its path, and a refused destination abandons the round (R169,
R226); out of state each traps with 0x090B (R222).

Their entries retire in the unit queue: a RELEASE sends when its turn has come, an APPLY updates its parts once every part has a
sum, a NOISE and an EXPAND count their parts as done (R169, R171, R204, R227).
Rests on the model's own readings of log entries 4, 32, 42, 43, 44 and 112. -/
def Obligations.GateInstructions : Prop :=
  (∀ (s : State) (j w : Nat) (x : Round),
    let o := s.ops j w
    s.unitReady j w (7, 0, 0) (fun _ => x.cfg.elems) [(tQD w, [0]), (tQA w, [0]), (tQB w, [3])] = true →
    s.gated? o.f o.sa 5 = some x → x.cipherForm = false → (qTiles o.qa).length ≤ (qTiles o.qd).length →
    (qTiles o.qa).all (fun t => !(qTiles o.qd).contains t) = true → 16 * (qTiles o.qa).length ≤ qLen o.qb →
    s.quiet (qTiles o.qa ++ qTiles o.qd) = true → s.allPresent (qTiles o.qa ++ qTiles o.qd) = true →
    let res := s.decodeTiles x ((qTiles o.qa).zip (qTiles o.qd))
    let out := [(qAddr o.qb, res.2.1.flatMap (toLe 16))]
    (res.1.contains 0x0101 = false →
      exec (.decode j) s = .next (res.2.2.report j w (if res.1.contains 0x0103 then 0x0103 else 0) .decode out)) ∧
    (res.1.contains 0x0101 = true →
      exec (.decode j) s = .next ((res.2.2.report j w 0x0101 .decode out).stopRelease o.f o.sa 0x0101))) ∧
  (∀ (s : State) (j w : Nat) (x : Round),
    let o := s.ops j w
    let ps := s.partsLeft j x.gate.noiseRan
    let ls := ps.flatMap (partItems x.gateTiles.length s.lgrade)
    let res := s.noiseTiles x (if x.policy.sigma = 0 then [] else noiseTable x.policy.sigma) ls
    let u := res.2.updRound o.f o.sa (fun x => { x with gate := { x.gate with noiseRan := x.gate.noiseRan ++ ps } })
    let v := (if x.policy.sigma = 0 then u else u.askLoads j ls.length).enqueue j w
      { id := 0, op := .noise, word := 0, pc := 0, stepc := 0, round := some o.sa, spread := ps }
    s.issues j w = true → wKey w = (7, 1, 0) → s.gated? o.f o.sa 4 = some x → x.gate.step = 4 →
    (x.policy.sigma = 0 ∨ (s.fn o.f).noiseSeed.isSome = true) →
    s.quiet (ls.map (fun l => x.acc.getD l 0)) = true → s.allPresent (ls.map (fun l => x.acc.getD l 0)) = true →
    (res.1 = true → exec (.noise j) s = .next (v.deadRound o.f o.sa)) ∧
    (res.1 = false → exec (.noise j) s = .next (v.abandon o.f o.sa 0x0101))) ∧
  (∀ (s : State) (j w : Nat) (x : Round),
    let o := s.ops j w
    let y := s.spin j
    s.gated? o.f o.sa 5 = some x → s.releaseCode x o (y.ctRec o.qa) = 0 →
    (let n := (qTiles o.qa).length
     let u := s.enqueue j w
       { id := 0, op := .release, word := 0, pc := 0, stepc := 0, round := some o.sa, ops := o.sc :: qTiles o.qa
         data := readBytes y.scratch (qAddr o.qb) (16 * n), last := o.sc + n == x.items, held := true }
     s.unitReady j w (7, 4, 0) s.eOf [(tQA w, [0, 2]), (tQB w, [3])] = true → qKind o.qa = 0 → x.cipherForm = false →
     16 * n ≤ qLen o.qb → s.allPresent (qTiles o.qa) = true →
     ((x.gate.dest.isSome = true ∨ s.resolveDest x o.sb ≠ .refused) →
       exec (.release j) s = .next (u.updRound o.f o.sa (fun z => { z with gate := { z.gate with
         dest := some o.sb
         path := if z.gate.dest.isNone then (s.resolveDest x o.sb).path else z.gate.path
         nextIdx := z.gate.nextIdx + n } }))) ∧
     (x.gate.dest = none → s.resolveDest x o.sb = .refused → exec (.release j) s = .next (u.abandon o.f o.sa 0x090A))) ∧
    (let u := s.enqueue j w
       { id := 0, op := .release, word := 0, pc := 0, stepc := 0, round := some o.sa, ops := [o.sc], data := []
         last := o.sc + 1 == x.items, held := true }
     s.unitReady j w (7, 4, 0) s.eOf [(tQA w, [0, 2]), (tQB w, [0, 1, 2, 3])] = true → qKind o.qa = 2 → x.cipherForm = true →
     s.allPresent (x.cts.getD o.sc {}).tiles = true → (x.gate.dest.isSome = true ∨ s.resolveDest x o.sb ≠ .refused) →
     exec (.release j) s = .next (u.updRound o.f o.sa (fun z => { z with gate := { z.gate with
       dest := some o.sb
       path := if z.gate.dest.isNone then (s.resolveDest x o.sb).path else z.gate.path
       nextIdx := z.gate.nextIdx + 1 } })))) ∧
  (∀ (s : State) (j w : Nat) (r : Round),
    let o := s.ops j w
    let m := tMod w
    let rec_ := readBytes (s.spin j).scratch (qAddr o.qb) 96
    let a := applyOf m o.sa o.qa o.qd rec_ (r.applyRows (qTiles o.qa))
    let ps := (s.partsOf j).filter (fun p => !((r.sums (s.spin j).stepc).map (·.1)).contains p)
    let used := (ps.flatMap (partItems a.agg.length s.lgrade)).flatMap (fun t => a.agg.getD t 0 :: a.touched t)
    let sums := ps.map (fun p => ((s.spin j).stepc, p, s.sumPart a s.lgrade p))
    s.unitReady j w (7, 3, 0) (fun _ => (applyFmt (bit m 0)).perTile) [(tQD w, [0]), (tQB w, [3])] = true →
    s.gated? o.f o.sa 5 = some r → s.regFault (s.spin j) o.f a.afmt.perTile (tQA w) [0] = none → 96 ≤ qLen o.qb →
    applyWf m rec_ = true → (a.param ++ a.m ++ a.v).all (fun t => s.tileOk o.f t) = true → a.total ≤ a.room →
    s.quiet used = true → s.allPresent used = true →
    exec (.apply j) s = .next ((s.updRound o.f o.sa (fun r =>
        { r with gate := { r.gate with applySums := r.gate.applySums ++ sums } })).enqueue j w
      { id := 0, op := .apply, word := 0, pc := 0, stepc := 0, round := some o.sa, spread := ps, held := !ps.isEmpty
        ops := [o.qa, o.qd, qAddr o.qb], data := rec_, later := [(qAddr o.qb + 80, 8)] })) ∧
  (∀ (s : State) (j w : Nat),
    let o := s.ops j w
    (s.unitReady j w (7, 0, 0) s.eOf [(tQD w, [0]), (tQA w, [0]), (tQB w, [3])] = true → s.round? o.f o.sa = none →
      exec (.decode j) s = .next (s.trapHere j 0x090B w)) ∧
    (s.issues j w = true → wKey w = (7, 1, 0) → s.gated? o.f o.sa 4 = none → exec (.noise j) s = .next (s.trapHere j 0x090B w)) ∧
    (s.unitReady j w (7, 4, 0) s.eOf [(tQA w, [0, 2]), (tQB w, [3])] = true → qKind o.qa = 0 → s.gated? o.f o.sa 5 = none →
      exec (.release j) s = .next (s.trapHere j 0x090B w))) ∧
  (∀ (s : State) (j i f : Nat) (e : UnitEntry) (x : Round), s.ready = true → (s.spin j).recovering = false →
    (s.spin j).uq[i]? = some e → e.parts = 0 → e.drains = [] → s.awaitsWords j e.id = false → s.owner? j = some f →
    s.entryRound f e = some x →
    (∀ d, e.op = .release → e.held = true → x.st = .gated → x.gate.stop = none → s.releaseReady x e = some d →
      exec (.unitInstructionRetire j i) s = .next ((s.releaseRun f x.cfg.round j e d).leave j e)) ∧
    (e.op = .release → e.held = true → x.st = .gated → x.gate.stop = none → s.releaseReady x e = none →
      exec (.unitInstructionRetire j i) s = .next s) ∧
    (e.op = .apply → e.held = true → s.applyReady x e = true →
      exec (.unitInstructionRetire j i) s = .next ((s.applyRun x e).2.leave j
        { e with writes := [(e.ops.getD 2 0 + 80, toLe 8 (s.applyRun x e).1)] })) ∧
    (e.op = .noise → x.st = .gated →
      exec (.unitInstructionRetire j i) s = .next ((s.leave j e).noiseDone f x.cfg.round e.spread)) ∧
    (e.op = .expand → x.st = .unmask → e.code = 0 →
      exec (.unitInstructionRetire j i) s = .next ((s.leave j e).expandDone f e)))

/-! ## Rounds -/

/-- TAKE: TAKE.d returns the next eligible descriptor and moves its message to the live ones, or the IDLE descriptor when
the service state is SERVICE or the round has ended, or waits; a wake that finds a descriptor returns it; TAKE.o opens a
round and puts the outcome word in the last 8 bytes of its span; TAKE.s writes the status record; TAKE.a abandons the round;
a round the device does not hold reports 0x0110 (R91, R213, R214). -/
def Obligations.TakeInstructions : Prop :=
  ∀ (s : State) (j w : Nat), s.issues j w = true →
    let o := s.ops j w
    let x := s.spin j
    let dst := some (tQD w, 0)
    (wKey w = (2, 0, 0) → x.spanOk o.qb 32 = true → s.round? o.f o.sa = none →
      exec (.takeD j) s = .next (s.report j w 0x0110 .takeD)) ∧
    (∀ r m, wKey w = (2, 0, 0) → x.spanOk o.qb 32 = true → s.round? o.f o.sa = some r → r.live_ = true → r.next? = some m →
      let t := (s.updRound o.f o.sa (fun r => { r with intake := r.intake.erase m, live := r.live ++ [m] })).report j w 0 .takeD
        [(qAddr o.qb, m.desc)] (some (tQD w, lzDesc m.lz m.len m.slot))
      exec (.takeD j) s = .next t ∧ (x.wait = .take → exec (.takeWake j) s = .next t)) ∧
    (∀ r, wKey w = (2, 0, 0) → x.spanOk o.qb 32 = true → s.round? o.f o.sa = some r → r.live_ = true → r.next? = none →
      (s.rd Reg.attSvc o.f = 1 → exec (.takeD j) s = .next (s.report j w 0 .takeD [(qAddr o.qb, r.idle s.time)] dst)) ∧
      (s.rd Reg.attSvc o.f ≠ 1 →
        exec (.takeD j) s = .next (s.updSpin j (fun x => { x with wait := .take, active := s.time })))) ∧
    (∀ r, wKey w = (2, 0, 0) → x.spanOk o.qb 32 = true → s.round? o.f o.sa = some r → r.live_ = false →
      exec (.takeD j) s = .next (s.report j w 0 .takeD [(qAddr o.qb, r.idle s.time)] dst)) ∧
    (wKey w = (2, 0, 1) → x.spanOk o.qb 136 = true →
      let rec_ := readBytes x.scratch (qAddr o.qb) (qLen o.qb - 8)
      let a := s.openRound o.f rec_ false (max 1 x.bound.length) (some (tMod w / 4))
      exec (.takeO j) s = .next (a.2.report j w 0 .takeO [(qAddr o.qb + qLen o.qb - 8, toLe 8 a.1)]) ∧
      (∀ c, parseOpen rec_ = some c → c.rangesOk = true →
        let k : RoundCfg := { c with m3 := c.m3.map (fun m => { m with workCount := m.workCount * max 1 x.bound.length }) }
        s.openCode o.f k false (sha256N rec_) = 0 →
        exec (.takeO j) s = .next
          ((s.openAccepted o.f k false (some (tMod w / 4)) 0 0 (k.tOpen + k.window) (sha256N rec_)).report j w 0 .takeO
            [(qAddr o.qb + qLen o.qb - 8, toLe 8 0)]))) ∧
    (∀ r, wKey w = (2, 0, 2) → s.round? o.f o.sa = some r →
      exec (.takeS j) s = .next ((s.putStatus o.f o.sa).report j w 0 .takeS)) ∧
    (wKey w = (2, 0, 2) → s.round? o.f o.sa = none → exec (.takeS j) s = .next (s.report j w 0x0110 .takeS)) ∧
    (∀ r, wKey w = (2, 0, 3) → s.round? o.f o.sa = some r → r.live_ = true →
      exec (.takeA j) s = .next ((s.abandonCmd o.f o.sa 0x090C).report j w 0 .takeA)) ∧
    (∀ r, wKey w = (2, 0, 3) → s.round? o.f o.sa = some r → r.live_ = true → r.gate.committed = false → r.gate.stop = none →
      r.gate.step ≠ 7 → exec (.takeA j) s = .next ((s.abandon o.f o.sa 0x090C).report j w 0 .takeA)) ∧
    (wKey w = (2, 0, 3) → s.round? o.f o.sa = none → exec (.takeA j) s = .next (s.report j w 0x0110 .takeA))

/-- A message that passes the checks of R84 on an empty slot is placed in its landing zone, its slot becomes PENDING and it
is appended to the intake queue, or to the guard hold in GUARD, or held and resolved when it completes in the round's last cycle
after the deadline was handled (R105); a recovery message is queued; a message for no live round is
counted in UNMATCHED with 0x0110, a late one with 0x0112, one of another shape with 0x0111, and a malformed one with 0x010F.

The dedup map: a contribution to a DONE slot is a duplicate (0x0113), one to a PENDING slot is held, and of two
contributions to one slot only one is ever appended (R87, R88).
Rests on the model's own readings of log entries 17 and 18. -/
def Obligations.Messages : Prop :=
  (∀ (s : State) (f lz : Nat) (qp : Option Nat) (msg : Bytes),
    s.ready = true → (s.fn f).resetAt = none → s.lzFree f lz msg.length = true →
    let h := hdrOf msg
    let m : Msg := { func := f, round := hRound h, slot := hSlot h, kind := .contribution, lz := lz, len := hLen h
                     time := s.time, hdr := msg.take 64, bound := s.boundTo qp (hRound h), window := false }
    (hdrOk msg = true → hClass h = 0 → s.round? f (hRound h) = none →
      exec (.contribution f qp lz msg) s = .next ((s.bump Reg.fnFUnmatched f).raise f 0x0110)) ∧
    (hdrOk msg = false → hClass h ≠ 1 → s.round? f (hRound h) = none →
      exec (.contribution f qp lz msg) s = .next (s.raise f 0x010F)) ∧
    (∀ x, hdrOk msg = true → hTag h = s.tenantTag f → s.round? f (hRound h) = some x → x.live_ = true →
      (hClass h = 0 → x.inTime h s.time = false → exec (.contribution f qp lz msg) s = .next
        (s.refuseMsg f x.cfg.round 0x0112 (fun c => { c with late := c.late + 1 }))) ∧
      (hClass h = 0 → x.inTime h s.time = true → x.cfg.formatOk h = false → exec (.contribution f qp lz msg) s = .next
        (s.refuseMsg f x.cfg.round 0x0111 (fun c => { c with mismatch := c.mismatch + 1 }))) ∧
      (hClass h = 0 → x.inTime h s.time = true → x.cfg.formatOk h = true → x.slotSt (hSlot h) = 0 → x.entries < intakeMax →
        x.ply.awaiting = [] →
        ((x.closedNow s.time = false ∨ x.inOpen m = true) →
          exec (.contribution f qp lz msg) s = .next ((s.place lz msg).updRound f (hRound h) (fun x =>
            { (x.setSlot (hSlot h) 1).take_ m with
              counts := { x.counts with accepted := x.counts.accepted + 1 }
              ply := { ((x.setSlot (hSlot h) 1).take_ m).ply with
                awaiting := ((x.setSlot (hSlot h) 1).take_ m).ply.awaiting.erase (hSlot h) } }))) ∧
        (x.closedNow s.time = true → x.inOpen m = false →
          exec (.contribution f qp lz msg) s = .next (((s.place lz msg).updRound f (hRound h) (fun x =>
            { x.setSlot (hSlot h) 1 with
              counts := { x.counts with accepted := x.counts.accepted + 1 }
              ply := { x.ply with awaiting := x.ply.awaiting.erase (hSlot h) } })).takeLate f (hRound h) m))) ∧
      (hClass h = 1 → s.mirroredHere x = false → x.inTime h s.time = true → x.cfg.formatOk h = true → x.entries < intakeMax →
        exec (.recoveryMessage f qp lz msg) s = .next (((s.place lz msg).updRound f (hRound h) (fun x =>
          { x with intake := x.intake ++ [{ m with kind := .recovery }] })).mirror x plyShare msg)))) ∧
  (∀ (s : State) (f r : Nat) (m : Msg) (x : Round), s.round? f r = some x →
    (x.slotSt m.slot = 2 → s.dedup f r m = s.refuseMsg f r 0x0113 (fun c => { c with duplicate := c.duplicate + 1 })) ∧
    (x.slotSt m.slot = 1 → x.dupHold.length < 4096 →
      s.dedup f r m = s.updRound f r (fun x => { x with dupHold := x.dupHold ++ [m] })) ∧
    (x.slotSt m.slot = 1 ∨ x.slotSt m.slot = 2 → ∀ y, (s.dedup f r m).round? f r = some y → y.intake = x.intake ∧ y.guardHold = x.guardHold))

/-- The committee's messages of a mode 3 round: COMMITTEE_RETURN for no outstanding query, or not on its COMMITTEE_QP, is
refused with 0x0906, an accepted one decides its handle; NL_TIMEOUT, with no return in time, excludes the contribution or takes
the sign chain; a partial decryption record is malformed, for another aggregate, or appended; with no records in time
PARTIAL_DECRYPT_TIMEOUT abandons the round with 0x0903 (R131, R132, R137). A completion of the same cycle comes before a timer
(R105).
Rests on the model's own readings of log entries 25, 41 and 119. -/
def Obligations.CommitteeMessages : Prop :=
  (∀ (s : State) (f qpn : Nat) (msg : Bytes) (q : Query) (x : Round) (qp : Qp), s.ready = true →
    s.qp? qpn = some qp → qp.func = f →
    (s.queries.find? (fun q => q.func == f && q.onWire && q.decided.isNone && q.qid == leAt msg 8 8) = none →
      exec (.committeeReturn f qpn msg) s = .next (s.raise f 0x0906)) ∧
    (s.queries.find? (fun q => q.func == f && q.onWire && q.decided.isNone && q.qid == leAt msg 8 8) = some q →
      s.round? f q.round = some x →
      ((returnOk x msg = false ∨ x.cfg.m3.map (·.committeeQp) ≠ some qpn) →
        exec (.committeeReturn f qpn msg) s = .next (s.raise f 0x0906 4 q.round)) ∧
      (returnOk x msg = true → x.cfg.m3.map (·.committeeQp) = some qpn → exec (.committeeReturn f qpn msg) s = .next
        ((s.mirror x plyReturn msg).decide_ f q.handle (.returned (returnCt x.cfg.pset (x.cfg.limbs - 1) msg))))) ∧
    (s.jointRound f qpn msg = some x → s.mirroredHere x = false → x.gate.kept = none →
      (x.pdBad msg = true → exec (.partialDecryption f qpn msg) s = .next
        (s.refuseMsg x.func x.cfg.round 0x010F (fun c => { c with malformed := c.malformed + 1 }))) ∧
      (x.pdBad msg = false → leAt msg 8 32 ≠ x.gate.ctDigest → exec (.partialDecryption f qpn msg) s = .next
        ((s.count x.func x.cfg.round (fun c => { c with sharesDenied := c.sharesDenied + 1 })).raise x.func 0x0902 4 x.cfg.round)) ∧
      (x.pdBad msg = false → leAt msg 8 32 = x.gate.ctDigest → x.gate.partials.any (fun p => p.x == leAt msg 4 2) = false →
        exec (.partialDecryption f qpn msg) s = .next
          ((((s.count x.func x.cfg.round (fun c => { c with sharesOk := c.sharesOk + 1 })).updRound x.func x.cfg.round (fun y =>
            { y with gate := { y.gate with
              partials := y.gate.partials ++ [{ x := leAt msg 4 2, smudge := leAt msg 6 2, polys := x.pdPolys msg }] } })).mirror
            x plyShare msg).jointDone x.func x.cfg.round)))) ∧
  (∀ (s0 : State) (f h r : Nat) (q : Query) (x : Round),
    let s := s0.postAll
    s.ready = true →
    (s.queries.find? (fun q => q.func == f && q.handle == h && q.decided.isNone) = some q → q.onWire = true →
      s.round? f q.round = some x → q.sentAt + (x.cfg.m3.map (·.nlTimeout)).getD 0 ≤ s.time →
      exec (.nlTimeout f h) s0 = .next (((s.raise f 0x0907 4 q.round).mirror x plyReturn (toLe 8 q.qid)).decide_ f h
        (if x.cfg.nlPath = 3 then .chain else .excluded))) ∧
    (s.round? f r = some x → x.st = .gated → x.joint = true → x.gate.kept = none →
      x.gate.since + x.cfg.unmaskTimeout ≤ s.time → exec (.partialDecryptTimeout f r) s0 = .next (s.abandon f r 0x0903)))

/-- What time does to a round: ROUND_ENTER_OPEN zeroes a round's tiles and, once it has drawn its seed, lets it enter OPEN; at
d − G it enters GUARD; at d a round in GUARD closes and its hold is resolved, one that could still open opens, and one that has
drawn no seed is abandoned with 0x0502; a tally still short abandons it with 0x0903; the next round of a series opens, or a
refusal ends the series; a round whose candidates are resolved leaves CLOSED for UNMASK or GATED (R80, R96, R105, R106, R108).
Completions of the same cycle come before these timers (R105).

A round's end: the canonical pass of a sparse round fixes its order and lets it leave CLOSED; the trailer goes out and the round
is RELEASED, or ABANDONED with the code of a stop; a destination that stays away past UNMASK_TIMEOUT abandons it with 0x090A
(R149, R169, R173, R174, R226).

Abandoning a live round leaves it ABANDONED with its reason; its seed, keys, dedup map, queues, and every message it
held are gone, and so are its queries (R81).
Rests on the model's own readings of log entries 3, 22 and 24. -/
def Obligations.RoundLife : Prop :=
  (∀ (s0 : State) (f r : Nat) (x : Round),
    let s := s0.postAll
    s.ready = true → s.round? f r = some x →
    (x.st = .open → x.deadline - x.cfg.guardBand ≤ s.time → (x.tLast < s.time ∨ x.tLast ≤ x.deadline - x.cfg.guardBand) →
      exec (.roundGuardTimer f r) s0 = .next (s.enter f r .guard)) ∧
    (x.st = .guard → x.deadline ≤ s.time → (x.cfg.nch = 0 ∨ (s.roundWindow? x).isSome = true) →
      exec (.roundDeadline f r) s0 = .next ((s.enter f r .closed).resolveHold f r)) ∧
    (x.st = .opening → s.time = x.deadline → x.drawn = true → x.zeroed = true →
      exec (.roundDeadline f r) s0 = .next (s.enter f r .open)) ∧
    (x.st = .opening → x.deadline ≤ s.time → x.drawn = false → s.mirroredHere x = false →
      exec (.roundDeadline f r) s0 = .next (s.abandon f r 0x0502)) ∧
    (x.st = .opening → x.deadline < s.time → x.drawn = true →
      exec (.roundDeadline f r) s0 = .next (s.abandon f r 0x011E)) ∧
    (x.st = .unmask → x.um.since + x.cfg.unmaskTimeout ≤ s.time → s.tallied x = false →
      exec (.unmaskTimeout f r) s0 = .next (s.abandon f r 0x0903))) ∧
  (∀ (s : State) (f r : Nat) (x : Round), s.ready = true → s.round? f r = some x →
    (x.st = .opening → x.zeroed = true → x.drawn = true → s.time ≤ x.deadline →
      exec (.roundEnterOpen f r) s = .next (s.enter f r .open)) ∧
    (∀ y, x.zeroed = false → s.quiet x.acc = true →
      let u := (x.acc.foldl (fun s t => s.newEpoch t) s).updRound f r (fun x => { x with zeroed := true })
      u.round? f r = some y → u.ready = true → y.st = .opening → y.drawn = true → u.time ≤ y.deadline →
      exec (.roundEnterOpen f r) s = .next (u.enter f r .open)) ∧
    (∀ y, x.st = .closed →
      let t := if x.cfg.isStair = true ∧ x.cfg.nch = 0 ∧ x.stair.settled = false then
        s.updRound f r (fun y => { y with stair := { y.stair with settled := true } }) else s
      let u := (t.settleIfFull f r).stairCheck f r
      u.round? f r = some y → y.mayLeave = true → y.top = true →
      ((y.cfg.mode = 0 ∨ y.cfg.mode = 1) →
        exec (.candidatesResolved f r) s = .next (((u.dropRoundKeys f r).toUnmask f r).masksCancelled f r)) ∧
      ((y.cfg.mode ≠ 0 ∧ y.cfg.mode ≠ 1) →
        exec (.candidatesResolved f r) s = .next ((u.dropRoundKeys f r).toGated f r))) ∧
    (x.st = .closed → x.resolved = true → x.cfg.isStair = false → x.cfg.nch = 0 → x.stair.settled = false →
      x.stair.passed = false → x.stair.combined = 0 → x.stair.children = [] → x.cfg.sparse = false → x.top = true →
      let s1 := ((s.updRound f r (fun y => { y with stair := { y.stair with settled := true } })).updRound f r (fun y =>
        { y with stair := { y.stair with
          passed := true, mergedCount := x.counts.cohort + x.stair.mergedCount } })).dropRoundKeys f r
      ((x.cfg.mode = 0 ∨ x.cfg.mode = 1) →
        exec (.candidatesResolved f r) s = .next ((s1.toUnmask f r).masksCancelled f r)) ∧
      ((x.cfg.mode = 2 ∨ x.cfg.mode = 3) → exec (.candidatesResolved f r) s = .next (s1.toGated f r))) ∧
    (let c := { x.cfg with round := r + 1 }
      let due := max x.nominalNext x.tLast
      let s1 := s.updRound f r (fun x => { x with followed := true })
      x.cfg.period ≠ 0 → x.followed = false → x.live_ = false → due ≤ s.time → r + 1 < 2 ^ 40 →
      (s1.openCode f c x.basic x.ply.openDigest = 0 → exec (.periodicRoundOpen f r) s = .next (s1.openAccepted f c x.basic
        x.progressCtr (x.series + 1) (x.tLast - x.nominalNext) (due + max c.floor (c.window - (x.tLast - x.nominalNext)))
        x.ply.openDigest)) ∧
      (s1.openCode f c x.basic x.ply.openDigest ≠ 0 →
        exec (.periodicRoundOpen f r) s = .next (s1.raise f (s1.openCode f c x.basic x.ply.openDigest) 4 (r + 1))))) ∧
  (∀ (s : State) (f r : Nat) (x : Round), s.ready = true → s.round? f r = some x →
    (x.st = .gated → x.gate.step = 8 → (s.fn f).resetAt = none →
      let b := s.plied && x.ply.plied && s.isB
      let s1 := if b then s else s.sendTo x (s.destOf x) none x.trailer
      (b = true ∨ s.destOf x ≠ .waits) →
      (x.gate.stop = none → exec (.releaseTrailerDone f r) s = .next ((s1.mirror x plyDone []).released f r)) ∧
      (∀ c, x.gate.stop = some c → exec (.releaseTrailerDone f r) s = .next (s1.abandon f r c))) ∧
    (x.st = .gated → x.gate.dest.isSome = true → x.gate.since + x.cfg.unmaskTimeout ≤ s.time → s.destOf x = .waits →
      (s.plied && x.ply.plied && s.isB) = false → exec (.releaseDestTimeout f r) s = .next (s.abandon f r 0x090A)) ∧
    (x.cfg.sparse = true → x.st = .closed → x.resolved = true → x.sparse.canonical = false →
      (x.cfg.isStair = true → x.stair.settled = true) →
      exec (.canonicalPassDone f r) s = .next (((s.canonical f r).stairCheck f r).leaveClosed f r))) ∧
  (∀ (s : State) (f r code : Nat) (x y : Round), s.round? f r = some x → x.live_ = true →
    (s.abandon f r code).round? f r = some y →
    y.st = .abandoned ∧ y.reason = code ∧ y.seed = 0 ∧ y.keys = none ∧ y.dedup = [] ∧ y.intake = [] ∧ y.live = [] ∧
    y.guardHold = [] ∧ y.dupHold = [] ∧ y.gate.outs = [] ∧ y.gate.partials = [] ∧ y.tLast = s.time ∧
    (∀ q ∈ (s.abandon f r code).queries, q.func = f → q.round ≠ r))

/-! ## Programs and command rings -/

/-- Program control: a command is dropped while one is in progress and refused with 0x0A1A until the driver has attached;
LOAD loads the selected spindles with an image that passes its checks and digests it, or ends with the first failed check's
code; START, RESUME and UNLOAD act on the selected spindles in the states they take, else 0x0A0C, RESUME at RESUME_PC after a
trap; STOP asks them to stop, and a spindle stops once its unit queue is empty; STOP and UNLOAD are done once every selected
spindle has stopped or is unloaded (R199 to R201, R401, R414).

A spindle loaded with an image holds its text and data at the bottom of scratch and zero above, every register zero, and
its entry point; one unloaded holds nothing (R175, R199, R201).
Rests on the model's own readings of log entries 39 and 47. -/
def Obligations.Programs : Prop :=
  (∀ (s : State) (f : Nat), s.funcUp f = true →
    (∀ c ∈ [Instr.load f none, Instr.start f, Instr.stop f, Instr.resume f, Instr.unload f],
      (s.rdb Reg.progBusy f = true → exec c s = .next (s.flag Reg.progDropped f)) ∧
      (s.rdb Reg.progBusy f = false → s.rdb Reg.attAttached f = false → exec c s = .next (s.progDone f 0x0A1A))) ∧
    (s.rdb Reg.progBusy f = false → s.rdb Reg.attAttached f = true →
      let sel := s.selected f
      let all (l : List SpState) : Bool := sel.all (fun j => s.owner? j == some f && l.contains (s.spin j).st)
      let stoppable : Bool := sel.all (fun j => s.owner? j == some f
        && ([SpState.running, .handler].contains (s.spin j).st || (s.spin j).trappedNow s.time))
      let each (g : Spindle → Spindle) : State := sel.foldl (fun s j => s.updSpin j g) s
      (∀ b, s.loadCode f b = 0 →
        exec (.load f (some b)) s = .next ((((s.loadOn b sel false).wr Reg.progDigest (sha384N b) f)).progDone f 0)) ∧
      (∀ b, s.loadCode f b ≠ 0 → exec (.load f (some b)) s = .next (s.progDone f (s.loadCode f b))) ∧
      exec (.load f none) s = .next (s.progDone f 0x0A15) ∧
      (all [.loaded] = true → exec (.start f) s = .next ((each (fun x =>
        { x with st := .running, active := s.time }.journalPoint s.time)).progDone f 0)) ∧
      (all [.loaded] = false → exec (.start f) s = .next (s.progDone f 0x0A0C)) ∧
      (stoppable = true → exec (.stop f) s = .next
        (((sel.foldl (fun s j => s.updSpin j (fun x => x.stopped s.time)) s).wr Reg.progBusy 1 f).settleBusy f)) ∧
      (stoppable = false → exec (.stop f) s = .next (s.progDone f 0x0A0C)) ∧
      (all [.stopped, .trapped] = true → exec (.resume f) s = .next
        ((each (fun x => { x with
          st := .running, active := s.time, pc := if x.st = .trapped then bits x.trap 64 18 else x.pc })).progDone f 0)) ∧
      (all [.stopped, .trapped] = false → exec (.resume f) s = .next (s.progDone f 0x0A0C)) ∧
      (all [.loaded, .trapped, .stopped, .done] = true → exec (.unload f) s = .next
        (((sel.foldl (fun s j => s.unloadSpin j) s).wr Reg.progBusy 1 f).settleBusy f)) ∧
      (all [.loaded, .trapped, .stopped, .done] = false → exec (.unload f) s = .next (s.progDone f 0x0A0C)))) ∧
  (∀ (s : State) (j : Nat), s.ready = true → (s.spin j).stopping = true → (s.spin j).uq = [] → (s.spin j).recovering = false →
    exec (.spindleStopped j) s = .next
      ((s.updSpin j (fun x => { x with st := .stopped, stopping := false, wait := .none })).settleBusy ((s.owner? j).getD 0))) ∧
  (∀ (s : State) (j now : Nat) (x : Spindle),
    (x.trappedNow now = false → x.stopped now = { x with stopping := true, stopAt := now }) ∧
    (s.substituting j = false → s.unloadSpin j = s.updSpin j Spindle.unloaded) ∧
    (s.substituting j = true → s.unloadSpin j = s.updSpin j (fun x => { x with unloading := true }))) ∧
  (∀ (b : Bytes) (sel : List Nat) (fw : Bool) (x : Spindle),
    let i := parseImage b
    let y := loaded b sel fw x
    y.st = .loaded ∧ y.pc = i.entry ∧ y.textLen = i.textLen ∧ y.bound = sel ∧ y.trap = x.trap ∧ y.uq = [] ∧ y.stepc = 0 ∧
    (∀ k, y.sreg k = 0) ∧ (∀ k, y.qreg k = 0) ∧ (∀ k, y.preg k = decide (k = 0)) ∧
    (∀ a, a < (i.text ++ i.data).length → Sparse.get 0 y.scratch a = (i.text ++ i.data).getD a 0) ∧
    (∀ a, (i.text ++ i.data).length ≤ a → Sparse.get 0 y.scratch a = 0) ∧
    x.unloaded.st = .idle ∧ x.unloaded.scratch = [] ∧ x.unloaded.trap = x.trap ∧ (∀ k, x.unloaded.sreg k = 0))

/-- A command ring: CREATE makes a ring of well-formed registers ACTIVE at the negotiated version with its indices at 0, else
fails with 0x0A13 or 0x0A05; DESTROY makes it NONE, once a descriptor under way has completed; a tail further than the ring is
long makes it ERROR; a head write lets held entries go (R380 to R382, R385, R386).

A completion entry: posted in order at the ring's completion index with the phase of its lap, vector CQ_VEC sent once
until the next head write; QUIET posts none on code 0; a full queue holds entries (R385, R386).
Rests on the model's own readings of log entry 20. -/
def Obligations.Rings : Prop :=
  (∀ (s : State) (f n : Nat) (v : BitVec 32), s.funcUp f = true → n < 4 →
    let get (r : Fld) : Nat := s.rd r f n
    let shape : Prop := get Reg.ringState = 0 ∧ get Reg.ringSqBase % 4096 = 0 ∧ get Reg.ringCqBase % 4096 = 0 ∧
      6 ≤ get Reg.ringSqLog2 ∧ get Reg.ringSqLog2 ≤ 16 ∧ 6 ≤ get Reg.ringCqLog2 ∧ get Reg.ringCqLog2 ≤ 16 ∧
      get Reg.ringVmin ≤ get Reg.ringVmax
    let ver := negotiate (get Reg.ringVmin) (get Reg.ringVmax) (s.rd Reg.devRingMin) (s.rd Reg.devRingMax)
    let t := s.wr Reg.ringSqTail v.toNat f n
    let h := (s.wr Reg.ringCqHead v.toNat f n).updRing f n (fun x => { x with sent := false })
    (get Reg.ringBusy ≠ 1 → s.rdb Reg.attAttached f = true →
      (shape → ∀ k, ver = some k → exec (.ringCreate f n) s = .next
        (((((((s.wr Reg.ringState ringActive f n).wr Reg.ringVer k f n).wr Reg.ringCode 0 f n).wr Reg.ringSqTail 0 f n).wr
          Reg.ringSqHead 0 f n).wr Reg.ringCqHead 0 f n).updRing f n (fun _ => {}))) ∧
      (shape → ver = none → exec (.ringCreate f n) s = .next (s.ringFail f n 0x0A05)) ∧
      (¬ shape → exec (.ringCreate f n) s = .next (s.ringFail f n 0x0A13)) ∧
      (get Reg.ringState ≠ 0 → s.ringWaits f n = false → exec (.ringDestroy f n) s = .next
        (((s.wr Reg.ringState 0 f n).wr Reg.ringBusy 0 f n).updRing f n (fun x => { x with held := [] }))) ∧
      (get Reg.ringState ≠ 0 → s.ringWaits f n = true → exec (.ringDestroy f n) s = .next (s.wr Reg.ringBusy 1 f n))) ∧
    (get Reg.ringBusy ≠ 1 → s.rdb Reg.attAttached f = false →
      exec (.ringCreate f n) s = .next (s.wr Reg.ringCode 0x0A1A f n)) ∧
    ((t.rd Reg.ringState f n = ringActive → t.sqUsed f n ≤ 2 ^ t.rd Reg.ringSqLog2 f n) → exec (.sqTail f n v) s = .next t) ∧
    (t.rd Reg.ringState f n = ringActive → 2 ^ t.rd Reg.ringSqLog2 f n < t.sqUsed f n →
      exec (.sqTail f n v) s = .next ((t.wr Reg.ringState ringError f n).ringFail f n 0x0A13)) ∧
    exec (.cqHead f n v) s = .next (h.postHeld f n (h.ring f n).held)) ∧
  (∀ (s : State) (f n d code result : Nat) (e : Bytes) (es : List Bytes),
    (jQuiet d = true → s.jobDone f n d 0 result = s) ∧
    (code ≠ 0 → s.jobDone f n d code result = s.postHeld f n ((s.ring f n).held ++ [cqEntry (jTag d) code n 0])) ∧
    (s.cqFull f n = true → s.postHeld f n (e :: es) = s.updRing f n (fun x => { x with held := e :: es })) ∧
    (s.cqFull f n = false → (s.ring f n).sent = true →
      let k := (s.ring f n).posted
      let size := 2 ^ s.rd Reg.ringCqLog2 f n
      f < s.funcs.length → n < (s.fn f).rings.length →
      s.postHeld f n [e] = (((s.hostPut f (s.rd Reg.ringCqBase f n + 16 * (k % size))
        (toLe 16 (leNat e + b2n (k / size % 2 == 0) * 2 ^ 55))).updRing f n (fun x => { x with posted := k + 1 })).updRing f n
          (fun x => { x with held := [] }))))

/-- Version negotiation: the highest version both ranges hold, none when they hold no version in common or a range is
malformed (R18 to R20). -/
def Obligations.Negotiation : Prop :=
  ∀ a b c d : Nat,
    (∀ v, negotiate a b c d = some v ↔
      (0 < a ∧ 0 < c ∧ a ≤ b ∧ c ≤ d ∧ a ≤ v ∧ v ≤ b ∧ c ≤ v ∧ v ≤ d ∧ ∀ u, a ≤ u → u ≤ b → c ≤ u → u ≤ d → u ≤ v))

/-- Descriptors of a command ring: NOP, OPEN_ROUND, ABANDON_ROUND, ROUND_STATUS, HOST_SUBMIT, APPLY_ROUND and SET_DEST. On a ring
whose next descriptor may start, SQ_HEAD moves on, the descriptor has its effect, and a completion entry is posted with its
code and RESULT. A malformed descriptor has no effect and completes with 0x0A14, a record the device could not read with
0x0A15 (R383 to R386, R109, R169, R228).
Rests on the model's own readings of log entries 19, 20, 21, 114 and 115. -/
def Obligations.RingDescriptors : Prop :=
  ∀ (s : State) (f n : Nat) (desc : Bytes), desc.length = 64 → s.ringTakes f n (leNat desc) = true →
    let d := leNat desc
    let s1 : State := { (s.wr Reg.ringSqHead (s.rd Reg.ringSqHead f n + 1) f n).updFn f (fun x => { x with ringTurn := n }) with fwTurn := f }
    let done (p : (Nat × Nat) × State) : State := p.2.jobDone f n d p.1.1 p.1.2
    let a := jArg0 d
    let g := s1.abandonOwner f a
    (jobOps.contains (jOp d) = false → exec (.nop f n desc) s = .next (done ((0x0A14, 0), s1))) ∧
    (∀ rec_, jOp d = 1 → jobWf d = false → rec_.length = jRecLen d →
      exec (.openRound f n desc (some rec_)) s = .next (done ((0x0A14, 0), s1))) ∧
    (jobWf d = true →
      (jRecLen d = 0 →
        (jOp d = 0 → exec (.nop f n desc) s = .next (done ((0, 0), s1))) ∧
        (jOp d = 3 → s1.round? f a = none → exec (.roundStatus f n desc) s = .next (done ((0x0110, 0), s1))) ∧
        (∀ x, jOp d = 3 → s1.round? f a = some x → exec (.roundStatus f n desc) s = .next (done ((0, 0), s1.putStatus f a))) ∧
        (∀ x, jOp d = 2 → s1.round? g a = some x → x.live_ = true →
          exec (.abandonRound f n desc) s = .next (done ((0, 0), s1.abandonCmd g a 0x090C))) ∧
        (jOp d = 2 → s1.round? g a = none → exec (.abandonRound f n desc) s = .next (done ((0x0110, 0), s1))) ∧
        (jOp d = 6 → 3 < a → exec (.setDest f n desc) s = .next (done ((0x0A14, 0), s1))) ∧
        (jOp d = 6 → a ≤ 3 → exec (.setDest f n desc) s = .next (done ((0, 0), s1.updFn f (fun x =>
          { x with dests := { index := a, addr := jRecAddr d, len := jArg1 d } :: x.dests.filter (fun b => b.index != a) }))))) ∧
      (jOp d = 1 → exec (.openRound f n desc none) s = .next (done ((0x0A15, 0), s1))) ∧
      (∀ b, b.length = jRecLen d →
        (∀ t, jOp d = 4 → s1.submitTile f b.length = some t →
          exec (.hostSubmit f n desc (some b)) s = .next (done ((0, 0), s1.message f false false false t b))) ∧
        (∀ x, jOp d = 4 → s1.submitTile f b.length = none → s1.round? f (hRound (hdrOf b)) = some x → x.live_ = true →
          exec (.hostSubmit f n desc (some b)) s = .next (done ((0x010A, 0), s1))) ∧
        (jOp d = 1 → parseOpen b = none → exec (.openRound f n desc (some b)) s = .next (done ((0x0A14, 0), s1))) ∧
        (∀ c, jOp d = 1 → parseOpen b = some c → s1.versionCode s1.firmwareImage = 0 →
          (s1.canBind f = false → exec (.openRound f n desc (some b)) s = .next (done ((0x0A0C, 0), s1))) ∧
          (s1.canBind f = true →
            let o := s1.openRound f b true (s1.spindlesOf f).length none
            (o.1 = 0 → exec (.openRound f n desc (some b)) s = .next (done ((0,
              ((o.2.round? f c.round).map Round.openResult).getD 0), o.2.bindFirmware f))) ∧
            (o.1 ≠ 0 → exec (.openRound f n desc (some b)) s = .next (done ((o.1, 0), o.2))))) ∧
        (∀ x, jOp d = 5 → jRecLen d = 104 → s1.round? f a = some x → zerosAt b [(67, 1), (71, 9), (88, 8), (99, 5)] = true →
          x.st = .gated → 5 ≤ x.gate.step → (x.applyAll b).agg ≠ [] → 2 ≤ x.policy.format →
          ((x.applyAll b).param ++ (x.applyAll b).m ++ (x.applyAll b).v).all (fun t => s1.tileOk f t) = true →
          let p := x.applyAll b
          let c := s1.applyTiles p (p.scale (normOf ((List.range s1.lgrade).map (fun k => s1.sumPart p s1.lgrade k))))
            (List.range p.agg.length)
          exec (.applyRound f n desc (some b)) s = .next (done ((0, 0), c.2.hostPut f (jRecAddr d + 80) (toLe 8 c.1))))))

/-! ## Queue pairs -/

/-- CREATE_QP: a record out of range completes with 0x0A14, one on a bundle the function does not hold with 0x060E, without an
identity key with 0x0601; else the lowest free QPN is allocated, an initiator asks for its random words and a listener listens
(R244, R320, R388).

The actions of QP_CTL: QP_CLOSE sends a CLOSE packet and drains; QP_DESTROY frees a closed QP; QP_PIN pins a context and fetches
it if it is not on chip; QP_UNPIN lets it go; QP_BIND binds it to a live round that can hold its messages; a QP of another
function, or one in a state the action does not take, completes with 0x0A14 (R244, R250, R253).
Rests on the model's own readings of log entries 55 and 56. -/
def Obligations.QueuePairs : Prop :=
  (∀ (s : State) (f n : Nat) (desc b : Bytes), desc.length = 64 → s.ringTakes f n (leNat desc) = true →
    jobWf (leNat desc) = true → jOp (leNat desc) = 7 → jRecLen (leNat desc) = 128 → b.length = 128 →
    let d := leNat desc
    let s1 := s.takeJob f n
    let done (code result : Nat) (t : State) : State := t.jobDone f n d code result
    let run := exec (.createQp f n desc (some b)) s
    let bundle := leAt b 2 1
    (qpRecordOk b = false → run = .next (done 0x0A14 0 s1)) ∧
    (qpRecordOk b = true → bit (s1.rd Reg.fnBundles f) bundle = false → run = .next (done 0x060E 0 s1)) ∧
    (qpRecordOk b = true → bit (s1.rd Reg.fnBundles f) bundle = true → (s1.plyBundle bundle = false ∨ bit (leAt b 1 1) 1 = true) →
      (s1.subUsable f .identity (fun k => k.sign) = false → run = .next (done 0x0601 0 s1)) ∧
      (∀ m, s1.subUsable f .identity (fun k => k.sign) = true → (bit (leAt b 1 1) 0 = false ∨ s1.pinRefused f = false) →
        s1.bindCode f (leAt b 104 5) (leAt b 8 8) = 0 →
        s1.freeQpn (s1.qps.length + s1.evictions.length + 1) 0 = some m →
        (s1.qps.filter (fun q => q.cached)).length < cacheMax →
        let q := { qpOf m f (s1.rd Reg.qpcBundle 0 bundle) b with lastUse := s1.time }
        (leAt b 0 1 = 0 → run = .next (done 0 m ({ s1 with qps := s1.qps ++ [q] }.ask 0 1 helloWords (.handshake m)))) ∧
        (leAt b 0 1 = 1 → run = .next (done 0 m { s1 with qps := s1.qps ++ [{ q with st := .listen }] }))))) ∧
  (∀ (s : State) (f n : Nat) (desc : Bytes) (q : Qp), desc.length = 64 → s.ringTakes f n (leNat desc) = true →
    jobWf (leNat desc) = true → jOp (leNat desc) = 8 → jRecLen (leNat desc) = 0 →
    let d := leNat desc
    let a := jArg1 d % 256
    let s1 := s.takeJob f n
    let done (code : Nat) (t : State) : State := t.jobDone f n d code 0
    s1.qp? (jArg0 d) = some q →
    (q.func ≠ f →
      (a = 1 → exec (.qpClose f n desc) s = .next (done 0x0A14 s1)) ∧
      (a = 2 → exec (.qpDestroy f n desc) s = .next (done 0x0A14 s1))) ∧
    (q.func = f →
      (a = 1 → q.st = .rts → exec (.qpClose f n desc) s = .next
        (done 0 (((s1.sendControl q.qpn .close).startDrain q.qpn).drainCheck q.qpn))) ∧
      (a = 1 → q.st ≠ .rts → exec (.qpClose f n desc) s = .next (done 0x0A14 s1)) ∧
      (a = 2 → (q.st = .closed ∨ q.st = .error) → exec (.qpDestroy f n desc) s = .next
        (done 0 { s1 with qps := s1.qps.filter (fun x => x.qpn != q.qpn) })) ∧
      (a = 2 → q.st ≠ .closed → q.st ≠ .error → exec (.qpDestroy f n desc) s = .next (done 0x0A14 s1)) ∧
      (a = 3 → q.pinned = true → exec (.qpPin f n desc) s = .next (done 0 s1)) ∧
      (a = 3 → q.pinned = false → s1.pinRefused f = false → exec (.qpPin f n desc) s = .next
        (done 0 ((s1.updQp q.qpn (fun q => { q with pinned := true })).startFetch q.qpn))) ∧
      (a = 3 → q.pinned = false → s1.pinRefused f = true → exec (.qpPin f n desc) s = .next
        (done 0x040A (s1.raise f 0x040A 1 q.qpn))) ∧
      (a = 4 → exec (.qpUnpin f n desc) s = .next (done 0 (s1.updQp q.qpn (fun q => { q with pinned := false })))) ∧
      (a = 5 → s1.bindCode f (bits (jArg1 d) 8 40) q.maxMsg = 0 → exec (.qpBind f n desc) s = .next
        (done 0 (s1.updQp q.qpn (fun q => { q with round := bits (jArg1 d) 8 40 })).creditAll)) ∧
      (a = 5 → s1.bindCode f (bits (jArg1 d) 8 40) q.maxMsg ≠ 0 → exec (.qpBind f n desc) s = .next
        (done (s1.bindCode f (bits (jArg1 d) 8 40) q.maxMsg) s1))))

/-- The handshake. A HELLO that verifies takes a listening QP to asking for its ACCEPT's words, one from a peer the filter
does not name or with no version in common is refused, and one that comes again in RTS gets its ACCEPT again; an ACCEPT that
verifies takes the initiator to RTS with both keys, and one that does not ends the QP; a REFUSE of the outstanding HELLO brings
its next attempt forward; HANDSHAKE_RETRY, 10 ms without an answer, sends HELLO again, three times at most, and then ends the QP
(R239 to R243).
Rests on the model's own readings of log entries 56 and 121. -/
def Obligations.Handshake : Prop :=
  (∀ (s : State) (p : Packet) (q : Qp), s.ready = true → p.fcsOk = true → packetWf p = true →
    p.dport = s.rd Reg.qpcKztUdpPort →
    let s1 := s.bump Reg.portRxFrames p.port
    s1.qp? p.dst = some q → q.cached = true →
    let s2 := s1.hit q.qpn
    let id := slice p.body 1705 97
    let bytes := packetBytes p
    let body := bytes.take (bytes.length - 96)
    let sig := bytes.drop (bytes.length - 96)
    let nonce := slice p.body 8 32
    (p.opcode = opHello → p.ver = 0 → q.st = .listen → q.accepting = false →
      exec (.hello p) s = .next (
        if ecdsaVerify id body sig = false then s2.dropAuth q
        else if q.filter ≠ 0 ∧ q.filter ≠ sha384N id then s2.shake q (.refuse (leAt p.body 4 4) 0x0407 nonce)
        else match negotiate (leAt p.body 0 2) (leAt p.body 2 2) (s2.rd Reg.devKztVerMin) (s2.rd Reg.devKztVerMax) with
          | none => s2.shake q (.refuse (leAt p.body 4 4) 0x0404 nonce)
          | some v => (s2.updQp q.qpn (fun q => { q with
              accepting := true, ver := v, peerId := sha384N id, peerQpn := leAt p.body 4 4, nonceI := nonce, hello := bytes })).ask
              0 1 acceptWords (.handshake q.qpn))) ∧
    (p.opcode = opHello → p.ver = 0 → q.st = .rts → ecdsaVerify id body sig = true → nonce = q.nonceI → q.initiate = false →
      s2.shaking q = false → exec (.hello p) s = .next (s2.shake q .acceptAgain)) ∧
    (p.opcode = opAccept → q.st = .handshake → s2.rd Reg.devKztVerMin ≤ p.ver → p.ver ≤ s2.rd Reg.devKztVerMax →
      exec (.accept p) s = .next (
        if ecdsaVerify id (q.hello ++ body) sig = false then
          ((s2.bump Reg.qpcDropAuth).bump Reg.fnFDropAuth q.func).qpEnd q.qpn .error 0x0403
        else if q.filter ≠ 0 ∧ q.filter ≠ sha384N id then s2.qpEnd q.qpn .error 0x0407
        else if leAt p.body 0 2 ≠ p.ver then s2.qpEnd q.qpn .error 0x0404
        else ((s2.updQp q.qpn (fun q => { q with ver := p.ver, peerId := sha384N id, peerQpn := leAt p.body 4 4 })).keyed q.qpn
          (ecdh q.ephScalar (slice p.body 40 97)) (mlkemDecap q.ephKem (slice p.body 137 1568)) q.hello bytes).creditAll)) ∧
    (p.opcode = opRefuse → p.ver = 0 → q.st = .handshake → nonce = q.nonceI →
      let s3 := s2.updQp q.qpn (fun q => { q with lastCode := leAt p.body 0 2 })
      exec (.refuse p) s = .next (if q.attempts < 3 ∧ s3.shaking q = false then s3.shake q .helloAgain else s3))) ∧
  (∀ (s : State) (k : Nat) (x : Qp), s.ready = true → s.qp? k = some x → x.st = .handshake → x.helloAt + 13500000 ≤ s.time →
    s.shaking x = false →
    (3 ≤ x.attempts → exec (.handshakeRetry k) s = .next (s.qpEnd k .error (if x.lastCode = 0 then 0x0408 else x.lastCode))) ∧
    (x.attempts < 3 → exec (.handshakeRetry k) s = .next (s.shake x .helloAgain)) ∧
    (∀ port path q1, x.attempts < 3 →
      let u : State := { s with shakes := s.shakes ++ [{ qpn := x.qpn, kind := .helloAgain }] }
      u.nextShake x.bundle = some ({ qpn := x.qpn, kind := .helloAgain }, port, path, q1) → Sparse.get 0 s.shakeNext x.bundle ≤ s.time →
      exec (.handshakeRetry k) s = .next (
        ({ u with shakes := u.shakes.erase { qpn := x.qpn, kind := .helloAgain }
                  shakeNext := Sparse.set 0 s.shakeNext x.bundle (s.time + shakeGap) } : State).outShake
          { q1 with attempts := q1.attempts + 1, helloAt := s.time } port opHello q1.hello)))

/-- SEND, WRITE, ACK, NAK and CLOSE packets in order of the checks of R239: a bad FCS, a malformed header or length, another UDP
port or an unknown QP is counted and dropped; a packet whose context is not on chip is parked; one that fails its tag is dropped
and counted; a data packet that passes is decrypted and added to its message, an ACK or NAK goes to the sender, and a CLOSE
drains the QP; a control packet whose sequence is not above the greatest so far is dropped.

A SEND message whose last packet has arrived is to be posted with its reservation's first tile and its bytes. A NAK ends the
message it names with its code, and the rest of that message goes as bytes of 0xFF.

The receive window of R245: a sequence beyond it or beyond the credit is dropped and counted, one already received is a
duplicate that is acknowledged again, and neither changes what the QP has received.
Rests on the model's own readings of log entries 50, 51 and 121. -/
def Obligations.Packets : Prop :=
  (∀ (s : State) (p : Packet) (c : Instr), s.ready = true →
    ((p.opcode = opSend ∧ c = .send p) ∨ (p.opcode = opWrite ∧ c = .write p) ∨ (p.opcode = opAck ∧ c = .ack p) ∨
      (p.opcode = opNak ∧ c = .nak p) ∨ (p.opcode = opClose ∧ c = .close p)) →
    let s1 := s.bump Reg.portRxFrames p.port
    (p.fcsOk = false → exec c s = .next (s.bump Reg.portFcsErrors p.port).dropMalformed) ∧
    (p.fcsOk = true → (packetWf p = false ∨ p.dport ≠ s.rd Reg.qpcKztUdpPort ∨ s1.qp? p.dst = none) →
      exec c s = .next s1.dropMalformed) ∧
    (∀ q, p.fcsOk = true → packetWf p = true → p.dport = s.rd Reg.qpcKztUdpPort → s1.qp? p.dst = some q →
      (q.mtu < p.plen → exec c s = .next s1.dropMalformed) ∧
      (p.plen ≤ q.mtu → q.cached = false → q.evictedAt ≠ some s1.time → exec c s = .next (s1.park q p)) ∧
      (∀ x, p.plen ≤ q.mtu → q.cached = true →
        let s2 := s1.hit q.qpn
        s2.qp? q.qpn = some x →
        let n := p.psn + p.epoch * 2 ^ 24
        let s3 := s2.updQp x.qpn (fun q => { q with rx := { q.rx with cseq := n } })
        ((p.ver ≠ x.ver ∨ x.ver = 0) → exec c s = .next s2.dropMalformed) ∧
        (p.ver = x.ver → x.ver ≠ 0 → ((x.st ≠ .rts ∧ x.st ≠ .draining) ∨ tagOk p x = false) → exec c s = .next (s2.dropAuth x)) ∧
        (p.ver = x.ver → x.ver ≠ 0 → (x.st = .rts ∨ x.st = .draining) → tagOk p x = true →
          (isData p = true → exec c s = .next (s2.dataIn x p)) ∧
          (isData p = true →
            let seq := seqOf p.epoch p.psn
            let m := (x.rx.msgs.find? (fun m => m.msn == p.msn)).getD (rxNew p)
            let aad := kztHeader p.ver p.opcode p.flags p.dst p.psn p.epoch p.msn p.path p.tstamp p.plen
              ++ kztExt (p.opcode == opWrite) p.off p.arg
            let m1 := m.add x.mtu p seq (gcmCrypt x.keyIn (dataIv (p.flags / 16) p.psn p.epoch) aad p.body)
            let held := bit p.flags 1 && !m1.whole && !m.failed
            let m2 := { m1 with held := (m1.held || held) && !m1.whole }
            let s4 := ((s2.updQp x.qpn (fun q => (q.mark seq).putMsg m2)).arrived x.qpn p)
            let s5 := (s4.packetPlaced x m2 p seq).creditAll
            (p.opcode = opWrite ∨ p.plen ≠ 0) → x.rx.cum ≤ seq → seq ≤ x.rx.cum + 4095 →
            (seq ≤ x.rx.cum + 64 ∨ x.rx.tracker = true ∨ s2.trackersUsed < trackerMax) → x.overCredit p.msn = false →
            x.rx.got.contains seq = false → x.st = .rts → x.packetFits m p seq = true →
            (held = false ∨ s2.reasmUsed < reasmMax) →
            exec c s = .next ((if x.ackAtOnce p seq then s5.ackNow x.qpn p else s5).drainCheck x.qpn) ∧
            (p.opcode = opSend → m.write = false → m.failed = false → m1.whole = false → s4.packetPlaced x m2 p seq = s4) ∧
            (p.opcode = opSend → m.write = false → m.failed = false → m1.whole = true →
              s4.packetPlaced x m2 p seq = { s4 with posts := s4.posts ++ [{
                qpn := x.qpn, msn := m2.msn, kind := .send (((x.rx.resv.find? (fun v => v.1 == m2.msn)).map (fun v => v.2.1)).getD 0)
                  (readBytes m2.data 0 m2.len) }] }) ∧
            (p.opcode = opWrite → m.write = true → m.failed = false → s4.packetPlaced x m2 p seq = s4.written x m2 p seq)) ∧
          (isData p = false → n ≤ x.rx.cseq → exec c s = .next (s2.dropWindow x)) ∧
          (p.opcode = opAck → x.rx.cseq < n → exec c s = .next (s3.ackIn x p)) ∧
          (p.opcode = opNak → x.rx.cseq < n → exec c s = .next (s3.nakIn x p)) ∧
          (∀ m, p.opcode = opNak → x.rx.cseq < n →
            let seq := seqOf (leAt p.body 4 4) (leAt p.body 0 3)
            x.tx.queue.find? (fun m => m.seq0.any (fun a => decide (a ≤ seq) && decide (seq < a + m.packets x.mtu))) = some m →
            m.naked = false →
            exec c s = .next (((s3.updQp x.qpn (fun q => { q with tx := { q.tx with
              queue := updIf q.tx.queue (fun v => v.msn == m.msn && v.seq0.isSome) (fun v => { v with naked := true, owner := .nobody }) } })).txFail
              (leAt p.body 8 2) m.owner).raise x.func (leAt p.body 8 2) 1 x.qpn seq)) ∧
          (p.opcode = opClose → x.st = .rts → x.rx.cseq < n →
            exec c s = .next ((s3.startDrain x.qpn).drainCheck x.qpn)))))) ∧
  (∀ (s : State) (q : Qp) (p : Packet),
    let seq := seqOf p.epoch p.psn
    (q.rx.cum + 4095 < seq → s.dataIn q p = s.dropWindow q) ∧
    (q.rx.cum + 64 < seq → q.rx.tracker = false → trackerMax ≤ s.trackersUsed → s.dataIn q p = s.dropWindow q) ∧
    (seq < q.rx.cum → s.dataIn q p = ((s.bump Reg.qpcDropDup).bump Reg.fnFDropDup q.func).ackNow q.qpn p) ∧
    (s.dropWindow q).qps = s.qps ∧
    (∀ k, k ∈ (q.mark seq).rx.got → q.rx.cum ≤ k → k ∈ q.rx.got ∨ k = seq) ∧
    q.rx.cum ≤ (q.mark seq).rx.cum ∧
    (∀ k, q.rx.cum ≤ k → k < (q.mark seq).rx.cum → k ∈ q.rx.got ∨ k = seq))

/-- KZT_PACKET_TRANSMIT: a QP whose turn it is sends the handshake packet of its bundle, else its control packets, else its lost
packet, else the next packet of its messages; one not on chip is fetched; one with nothing admitted notes that it is blocked;
CREDIT_PROBE, PROBE_T after that, sends an empty probe; a packet is not sent a seventeenth time (R243, R247, R250 to R252).
Rests on the model's own readings of log entries 52 and 98. -/
def Obligations.PacketsSent : Prop :=
  (∀ (s : State) (n : Nat) (q : Qp), s.ready = true → s.qp? n = some q → s.shakeDue q = true →
    exec (.kztPacketTransmit n) s = .next (s.serveShake q.bundle)) ∧
  (∀ (s : State) (n : Nat) (q : Qp), s.ready = true → s.qp? n = some q → (q.st = .rts ∨ q.st = .draining) → s.shakeDue q = false →
    (q.cached = false → s.fetches < fetchMax → exec (.kztPacketTransmit n) s = .next (s.startFetch n)) ∧
    (q.cached = true → q.ctl ≠ [] → exec (.kztPacketTransmit n) s = .next ((s.sendCtl n q.ctl).drainCheck n)) ∧
    (q.cached = true → q.ctl = [] → s.txNext q = none → exec (.kztPacketTransmit n) s = .next (s.noteBlocked q)) ∧
    (q.cached = true → q.ctl = [] → s.released? q = true → s.servedFirst q = true →
      (∀ k, q.lostPkt s.time = some k → exec (.kztPacketTransmit n) s = .next (s.sendAgain q k)) ∧
      (∀ k m port path q1, q.lostPkt s.time = some k → s.hop (q.suspect s.time k) = some (port, path, q1) →
        q.tx.queue.find? (fun m => m.seq0.isSome && m.msn == k.msn) = some m → k.retry < 15 →
        exec (.kztPacketTransmit n) s = .next (s.sendPart { q1 with tx := { q1.tx with
          unacked := updIf q1.tx.unacked (fun v => v.seq == k.seq) (fun v =>
            { v with retry := k.retry + 1, sends := k.sends + 1, path := path, sentAt := s.time, lost := false, lateAt := none }) } }
          port path m k.msn (k.retry + 1) k.seq k.off k.len)) ∧
      (∀ m, q.lostPkt s.time = none → q.nextMsg = some m → exec (.kztPacketTransmit n) s = .next (s.sendFresh q m)) ∧
      (∀ m port path q1, q.lostPkt s.time = none → q.nextMsg = some m → q.tx.seq / 2 ^ 24 ≤ 0xFFFFFFFE → q.tx.probes < 16 →
        s.hop q = some (port, path, q1) →
        let len := min q.mtu (m.data.length - m.sent)
        let block := if q.tx.seq % 64 = 0 ∨ q.tx.blockAt = 0 then s.time else q.tx.blockAt
        exec (.kztPacketTransmit n) s = .next (s.sendPart { q1 with tx := { q1.tx with
          seq := q.tx.seq + 1
          msn := if m.seq0.isSome then q1.tx.msn else (q1.tx.msn + 1) % 2 ^ 24
          queue := updAt q1.tx.queue (q1.tx.queue.findIdx (fun v => !v.allSent)) (fun v =>
            { v with msn := q.msnOf m, seq0 := some (v.seq0.getD q.tx.seq), sent := v.sent + len })
          unacked := q1.tx.unacked ++ [{ seq := q.tx.seq, msn := q.msnOf m, off := m.sent, len := len, retry := q1.tx.probes, sends := 1
                                         path := path, sentAt := s.time, blockAt := block, lost := false }]
          tracker := q1.tx.tracker || decide (64 < q1.tx.unacked.length + 1)
          probes := 0
          blockedSince := none
          blockAt := block } }
          port path m (q.msnOf m) q1.tx.probes q.tx.seq m.sent len))) ∧
    (∀ k m, s.hop (q.suspect s.time k) ≠ none → q.tx.queue.find? (fun m => m.seq0.isSome && m.msn == k.msn) = some m → 15 ≤ k.retry →
      s.sendAgain q k = s.qpEnd q.qpn .error 0x0409)) ∧
  (∀ (s : State) (n : Nat) (q : Qp), s.ready = true → s.qp? n = some q → (q.st = .rts ∨ q.st = .draining) →
    (∀ t m port path q1, q.cached = true → q.tx.blockedSince = some t → t + s.rd Reg.qpcProbeT ≤ s.time → q.nextMsg = some m →
      q.creditFor (q.msnOf m) = false → s.paced q (s.wireBytes q 0) = true → s.servedFirst q = true →
      q.tx.seq / 2 ^ 24 ≤ 0xFFFFFFFE → q.tx.probes < 16 → s.hop q = some (port, path, q1) →
      exec (.creditProbe n) s = .next (s.sendData
        { q1 with tx := { q1.tx with probes := q1.tx.probes + 1, blockedSince := some s.time } } port path 0 4 q.tx.probes q.tx.seq
        q.tx.msn 0 0 [])))

/-- The timers of a QP, its context and its ports. RTO_EXPIRY marks the packet lost, backs off and falls to RATE_MIN, or ends the
QP with 0x0409 at RETRY_LIMIT; PATH_SUSPECT_EXPIRY ends a suspicion; ACK_TIMER, 2 µs after an arrival, acknowledges it;
DRAINING_TIMEOUT ends DRAINING after 10 ms; CONTEXT_FETCH_DONE installs a fetched context and serves what was parked, or ends the
QP with 0x0406 when its tag or count is wrong; FETCH_TIMEOUT drops what was parked; PORT_DOWN and PORT_UP are recorded and PF0
told (R235, R243, R244, R246, R248, R254 to R256, R283).
Rests on the model's own readings of log entries 54 and 58. -/
def Obligations.QueuePairTimers : Prop :=
  ∀ (s : State) (n : Nat) (q : Qp), s.ready = true → s.qp? n = some q →
    let s1 := s.bump Reg.qpcRtoExpiries
    (∀ k, q.tx.unacked.find? (fun v => v.seq == k.seq) = some k → k.lost = false → k.sentAt + s.rto q ≤ s.time →
      (s.rd Reg.qpcRetryLimit ≤ k.sends → exec (.rtoExpiry n k.seq) s = .next (s1.qpEnd n .error 0x0409)) ∧
      (k.sends < s.rd Reg.qpcRetryLimit → exec (.rtoExpiry n k.seq) s = .next (s1.updQp n (fun x =>
        { x with tx := { x.tx with
          unacked := updIf x.tx.unacked (fun v => v.seq == k.seq) (fun v => { v with lost := true, lateAt := some s.time })
          backoff := x.tx.backoff + 1
          rate := rateMin } })))) ∧
    (∀ h, exec (.pathSuspectExpiry n h) s = .next (s.updQp n (fun q => { q with tx := { q.tx with
      suspects := q.tx.suspects.filter (fun p => p.1 != h || decide (s.time < p.2)) } }))) ∧
    (∀ t, q.rx.firstUnacked = some t → t + 2700 ≤ s.time → (q.st = .rts ∨ q.st = .draining) → q.ackWaits = false →
      exec (.ackTimer n) s = .next ((s.sendControl n (.ack q.rx.echo q.rx.echoAt)).updQp n (fun q =>
        { q with rx := { q.rx with sinceAck := 0, firstUnacked := none } }))) ∧
    (q.st = .draining → q.drainAt + 13500000 ≤ s.time → exec (.drainingTimeout n) s = .next (s.qpEnd n .closed 0)) ∧
    (∀ t ok c, q.fetchAt = some t → s.dmaOk 0 = true → (ok = false ∨ c ≠ Sparse.get 0 s.evictions n) →
      exec (.contextFetchDone n ok c) s = .next (s.qpEnd n .error 0x0406)) ∧
    (∀ t, q.fetchAt = some t → s.dmaOk 0 = true → (s.qps.filter (fun q => q.cached)).length < cacheMax →
      exec (.contextFetchDone n true (Sparse.get 0 s.evictions n)) s = .next (q.parked.foldl (fun s p => s.checked n p)
        (s.updQp n (fun q => { q with cached := true, fetchAt := none, parked := [], lastUse := s.time })))) ∧
    (∀ t, q.fetchAt = some t → t + s.rd Reg.qpcFetchTimeout < s.time →
      let s2 := s.updQp n (fun q => { q with fetchAt := none, parked := [] })
      exec (.fetchTimeout n) s = .next (if q.parked.isEmpty then s2 else s2.dropCtx q q.parked.length)) ∧
    (∀ port, s.portsRun = true → port < s.nports →
      (s.rdb Reg.portUp port = true → exec (.portDown port) s = .next
        (((List.range 64).filter (fun b => bit (s.rd Reg.qpcBundle 0 b) port)).foldl (fun s b => s.bundleDown b)
          (((((s.wr Reg.portUp 0 port).wr Reg.portAnDone 0 port).bump Reg.portLinkDowns port).relock port).raise 0 0x0410 2 port))) ∧
      (s.rdb Reg.portUp port = false → (s.linkUp port).ready = true →
        exec (.portUp port) s = .next ((s.linkUp port).raise 0 0x0411 2 port)))

/-! ## Windows, triggered work and the staircase -/

/-- Windows and triggered work, through XCMD or as descriptors: OPEN_WIN opens the lowest free entry under its next
generation or fails with 0x040D; REVOKE_WIN closes one; POST_TWR posts under the lowest free identifier or fails with 0x040E;
CANCEL_TWR removes a pending one; a write of CTR_VAL sets the selected counter; each completes in XCODE and XRESULT, or as its
descriptor (R260, R264, R270, R276, R285).

A triggered work request falls due when its counter has reached its threshold at the end of a cycle, and not before; TWR_FIRE
then fires it: COUNTER adds to its target and is gone, SEND posts its message, FORWARD sends its first tile (R277 to R280).
Rests on the model's own readings of log entries 59 and 60. -/
def Obligations.WindowsAndTriggeredWork : Prop :=
  (∀ (s : State) (f : Nat) (v : BitVec 64), s.funcUp f = true →
    let b := toLe 64 (s.rd Reg.fnXdesc f)
    let a := s.rd Reg.fnXarg f
    let fin (code result : Nat) (t : State) : State := (t.wr Reg.fnXcode code f).wr Reg.fnXresult result f
    exec (.ctrVal f v) s = .next (s.ctrWrite f (s.rd Reg.fnCtrSel f) v.toNat) ∧
    (∀ d, s.ctrDev f (s.rd Reg.fnCtrSel f) = some d → s.ctrCyc = [] →
      (s.ctrWrite f (s.rd Reg.fnCtrSel f) v.toNat).ctrs = Sparse.set 0 s.ctrs d v.toNat) ∧
    (s.rdb Reg.attAttached f = false →
      exec (.openWin f .reg) s = .next (s.wr Reg.fnXcode 0x0A1A f) ∧
      exec (.postTwr f .reg) s = .next (s.wr Reg.fnXcode 0x0A1A f)) ∧
    (s.rdb Reg.attAttached f = true →
      (∀ i, s.windowBad f b = false → s.freeWindow = some i →
        let w : Window := { index := i, gen := Sparse.get 0 s.winGens i + 1, func := f, tileKind := leAt b 0 1 == 1
                            qpn := leAt b 4 4, base := leAt b 8 3, nt := leAt b 12 3, ctr := leAt b 16 2
                            addend := leAt b 24 8, round := leAt b 32 5 }
        exec (.openWin f .reg) s = .next (fin 0 w.handle
          { s with windows := s.windows ++ [w], winGens := Sparse.set 0 s.winGens i w.gen })) ∧
      (s.windowBad f b = true → exec (.openWin f .reg) s = .next (fin 0x040D 0 (s.raise f 0x040D))) ∧
      (∀ w, s.windows.find? (fun w => w.func == f && w.handle == a) = some w →
        exec (.revokeWin f .reg) s = .next (fin 0 0 (s.closeWindow w))) ∧
      (s.windows.find? (fun w => w.func == f && w.handle == a) = none →
        exec (.revokeWin f .reg) s = .next (fin 0x0402 0 s)) ∧
      (∀ i, s.twrBad f b = false → (List.range twrMax).find? (fun i => !s.twrs.any (fun w => w.id == i)) = some i →
        let w : Twr := { id := i, func := f, order := s.twrOrder, op := leAt b 0 1, roundDone := bit (leAt b 1 1) 0
                         ctr := leAt b 2 2, qpn := leAt b 4 4, threshold := leAt b 8 8, tile := leAt b 16 3, nt := leAt b 20 3
                         stride := leAt b 24 2, doneCtr := leAt b 26 2, handle := leAt b 28 4, arg := leAt b 32 8
                         round := leAt b 40 5, len := leAt b 48 8 }
        exec (.postTwr f .reg) s = .next (fin 0 i { s with twrs := s.twrs ++ [w], twrOrder := s.twrOrder + 1 })) ∧
      (s.twrBad f b = true → exec (.postTwr f .reg) s = .next (fin 0x040E 0 (s.raise f 0x040E))) ∧
      (s.twrs.any (fun w => w.id == a && w.func == f && w.due.isNone) = true →
        exec (.cancelTwr f .reg) s = .next (fin 0 0 { s with twrs := s.twrs.filter (fun w => w.id != a) })) ∧
      (s.twrs.any (fun w => w.id == a && w.func == f && w.due.isNone) = false →
        exec (.cancelTwr f .reg) s = .next (fin 0x040E 0 (s.raise f 0x040E))))) ∧
  (∀ (s : State) (f n : Nat) (desc b : Bytes) (r : Option Bytes), desc.length = 64 → s.ringTakes f n (leNat desc) = true →
    jobWf (leNat desc) = true →
    let d := leNat desc
    let s1 := s.takeJob f n
    (jRecLen d = 64 → b.length = 64 →
      (jOp d = 9 → exec (.openWin f (.ring n desc (some b))) s = .next
        ((s1.openWindow f b).2.jobDone f n d (s1.openWindow f b).1.1 (s1.openWindow f b).1.2)) ∧
      (jOp d = 11 → exec (.postTwr f (.ring n desc (some b))) s = .next
        ((s1.postTwr f b).2.jobDone f n d (s1.postTwr f b).1.1 (s1.postTwr f b).1.2))) ∧
    (jRecLen d = 0 →
      (jOp d = 10 → exec (.revokeWin f (.ring n desc r)) s = .next
        ((s1.revokeWindow f (jArg0 d)).2.jobDone f n d (s1.revokeWindow f (jArg0 d)).1 0)) ∧
      (jOp d = 12 → exec (.cancelTwr f (.ring n desc r)) s = .next
        ((s1.cancelTwr f (jArg0 d)).2.jobDone f n d (s1.cancelTwr f (jArg0 d)).1 0)))) ∧
  (∀ (s : State) (w : Twr), s.twrs = [w] → w.due = none →
    (s.ctrGet w.func w.ctr < w.threshold → s.armTwrs = s) ∧
    (w.threshold ≤ s.ctrGet w.func w.ctr →
      s.armTwrs = { s with twrs := [{ w with due := some s.twrDue }], twrDue := s.twrDue + 1 })) ∧
  (∀ (s : State) (id : Nat) (w : Twr) (data : Option Bytes), s.ready = true → s.twrs.find? (fun w => w.id == id) = some w →
    (w.due = none → exec (.twrFire id data) s = .next s) ∧
    (∀ k, w.due = some k → s.twrsDue k = [w] →
      let w1 : Twr := { w with fired := true, left := if w.op = 1 then w.nt else 1 }
      let s1 := s.updTwr id (fun w => { w with fired := true, left := if w.op = 1 then w.nt else 1 })
      (w.op = 3 → exec (.twrFire id data) s = .next
        { s.ctrAdd w.func w.doneCtr w.arg with twrs := s.twrs.filter (fun v => v.id != w.id) }) ∧
      (∀ b, w.op = 2 → s1.twrBehind w1 = false → s1.dmaOk w.func = true → b.length = w.len →
        exec (.twrFire id (some b)) s = .next
          ((s1.post w.qpn (.twrSend id) b).updTwr id (fun w => { w with left := 0, unacked := 1 }))) ∧
      (w.op = 2 → s1.twrBehind w1 = false → s1.dmaOk w.func = true → 0 < w.len →
        exec (.twrFire id none) s = .next ((s1.twrFail id 0x0A15).post w.qpn .nobody (List.replicate w.len 0xFF))) ∧
      (∀ x g bytes s2, w.op = 1 → s1.twrBehind w1 = false → s1.round? w.func w.round = some x → s1.mirroredHere x = false →
        x.cfg.sparse = false → w.nt ≠ 0 → s1.fwdReady w1 w.tile = true → s1.drainTile w.tile = (true, g, bytes, s2) →
        exec (.twrFire id data) s = .next ((s2.settleTiles.post w.qpn (.fwd id) (toLe 32 g.toNat ++ bytes) true w.handle w.arg).updTwr
          id (fun w => { w with left := w.left - 1, unacked := w.unacked + 1 })))))

/-- The staircase at a parent. COHORT_MESSAGE, a child's cohort message: malformed or out of time 0x010F, a slot already merged
abandons the round with 0x011B, else the child and its slots are merged. CHILD_WAIT_EXPIRY, CHILD_WAIT past the deadline, settles
the round. PARTIAL_DIGEST_DONE: a settled round below the top of a ply verifies its tiles, keeps their leaves and sends the
digest of its partial (R61, R293, R294, R307).
Rests on the model's own readings of log entries 45 and 109. -/
def Obligations.StaircaseParent : Prop :=
  (∀ (s : State) (f n : Nat) (msg : Bytes) (q : Qp) (x : Round), s.ready = true → s.qp? n = some q → q.func = f →
    (s.round? f (leAt msg 16 5) = none → exec (.cohortMessage f n msg) s = .next (s.raise f 0x010F)) ∧
    (s.round? f (leAt msg 16 5) = some x →
      let taken : Prop := (x.st = .open ∨ x.st = .guard ∨ x.st = .closed) ∧ x.stair.settled = false ∧ x.cfg.nch ≠ 0 ∧
        s.stairQp f n = true ∧ cohortMsgOk x msg = true
      let slots := slotsOf x.cfg.slots (msg.drop 64)
      (¬ taken → exec (.cohortMessage f n msg) s = .next (s.raise f 0x010F 4 x.cfg.round)) ∧
      (taken → slots.any (fun k => x.stair.merged.contains k) = true →
        exec (.cohortMessage f n msg) s = .next (s.abandon f x.cfg.round 0x011B)) ∧
      (taken → slots.any (fun k => x.stair.merged.contains k) = false →
        exec (.cohortMessage f n msg) s = .next ((s.updRound f x.cfg.round (fun x => { x with stair := { x.stair with
          children := x.stair.children ++ [leAt msg 8 2]
          mergedCount := x.stair.mergedCount + slots.length
          merged := x.stair.merged ++ slots } })).settleIfFull f x.cfg.round)))) ∧
  (∀ (s0 : State) (f r : Nat) (x : Round),
    let s := s0.postAll
    s.ready = true → s.round? f r = some x → x.st = .closed → x.cfg.isStair = true → x.stair.settled = false →
    x.deadline + (x.cfg.stair.map (·.childWait)).getD 0 ≤ s.time →
    exec (.childWaitExpiry f r) s0 = .next
      ((s.updRound f r (fun x => { x with stair := { x.stair with settled := true } })).stairCheck f r)) ∧
  (∀ (s s1 : State) (f r : Nat) (x : Round), s.ready = true → s.round? f r = some x → x.st = .closed → s.plied = true →
    x.ply.plied = true → x.top = false → x.stair.passed = true → x.ply.digest = none →
    (x.cfg.sparse = false ∨ x.sparse.canonical = true) → s.verifyAll 4 x.acc = (true, s1) →
    let leaves := x.acc.mapIdx (fun i t => (i, s1.accLeaf i t))
    exec (.partialDigestDone f r) s = .next
      ((s1.updRound f r (fun x => { x with gate := { x.gate with accLeaves := leaves } })).plyFormed f r (rootOf (leaves ++ x.dirLeaf))))

/-! ## SYNC and the ply -/

/-- The SYNC input. SYNC_EPOCH stages an epoch for the next marker; SYNC_MARKER records its time, locks after a second one at the
period, and loads the staged epoch unless that would move the timebase back; with a valid epoch, a marker off the period or one
that does not come in time (SYNC_MARKER_TIMEOUT) loses lock and epoch and raises 0x0A12 (R296 to R299).
Rests on the model's own readings of log entry 61. -/
def Obligations.SyncInput : Prop :=
  ∀ (s : State) (r : Req) (m : Nat),
    (s.devAccess r = true → s.outside r = false → s.privileged r = true → exec (.syncEpoch r m) s = .next
      { s with sync := { s.sync with staged := some (m % 2 ^ 48) } }) ∧
    (s.portsRun = true →
      (s.sync.staged = none → s.rdb Reg.gateEpochValid = false → s.sync.lastMarker ≠ some (s.upTime - markerPeriod) →
        markerPeriod ≤ s.upTime →
        exec .syncMarker s = .next { (s.wr Reg.gateSyncPresent 1).wr Reg.gateMarkTime s.time with
          sync := { s.sync with lastMarker := some s.upTime } }) ∧
      (∀ e, s.sync.staged = some e → s.time ≤ e * markerPeriod → s.sync.lastMarker = some (s.upTime - markerPeriod) →
        markerPeriod ≤ s.upTime →
        let t := { s with sync := { s.sync with staged := none }, time := e * markerPeriod, ctl := {} }.wr Reg.gateEpochValid 1
        exec .syncMarker s = .next
          ({ (t.wr Reg.gateSyncPresent 1).wr Reg.gateMarkTime (e * markerPeriod) with
            sync := { t.sync with lastMarker := some s.upTime } }.wr Reg.gateSyncLock 1)) ∧
      (s.rdb Reg.gateEpochValid = true → s.sync.lastMarker.getD 0 + markerTimeout < s.upTime →
        exec .syncMarkerTimeout s = .next s.syncLost) ∧
      (s.tablesWf = true → s.syncLost.rdb Reg.gateEpochValid = false ∧ s.syncLost.rdb Reg.gateSyncLock = false))

/-- The ply's life: PLY_FORM leaves UNFORMED and tells the partner the device's range, PLY_RANGE_EXCHANGE forms the ply at the
highest common version or refuses with 0x0803, 0x0804 or 0x0806, PLY_DISSOLVE ends it and unplies its rounds, PLY_HEARTBEAT
goes out every 135,000 cycles, and after 13,500,000 cycles of silence PLY_PARTNER_LOST loses the partner (R302, R309).

The ply's messages PLY_ASSET, PLY_OPEN, PLY_COHORT, PLY_VERDICT, PLY_SHARE, PLY_RETURN, PLY_DIGEST and PLY_DONE: one with a
well-formed header on a ply QP is counted and has the effect of its type, at strand B alone for what A mirrors and at strand A
alone for a verdict; any other is dropped; PLY_LATE_SLOT_EXPIRY, a late slot, diverges (R303 to R308).
Rests on the model's own readings of log entries 62, 63, 64, 65 and 124. -/
def Obligations.PlyLifeAndMessages : Prop :=
  (∀ (s : State) (r : Req) (x : PlyRange) (q : Qp), s.ready = true →
    (s.devAccess r = true → s.outside r = false → s.privileged r = true → s.rd Reg.plyState = 0 →
      let t := s.wr Reg.plyState 1
      exec (.plyForm r) s = .next (if t.pf0PlyQp.isSome then t.emit (.plyRange t.plyOwn) else t)) ∧
    (s.devAccess r = true → s.outside r = false → s.privileged r = true → s.rd Reg.plyState ≠ 0 → exec (.plyForm r) s = .next s) ∧
    (s.devAccess r = true → s.outside r = false → s.privileged r = true → exec (.plyDissolve r) s = .next
      { ((s.unply (fun r => r.ply.plied)).wr Reg.plyState 0).wr Reg.plyVer 0 with ply := {} }) ∧
    (s.rd Reg.plyState = 1 → s.pf0PlyQp = some q →
      let t := { s with ply := { s.ply with partner := some x } }
      let ver := negotiate x.verMin x.verMax (s.rd Reg.devPlyVerMin) (s.rd Reg.devPlyVerMax)
      let same : Prop := x.grade = s.rd Reg.devGrade ∧ x.stepping = s.rd Reg.devStepping
      let pair : Prop := x.role + s.rd Reg.plyRole = 3 ∧ x.role ≠ 0 ∧ s.rd Reg.plyRole ≠ 0 ∧ x.epochValid = true ∧
        s.rdb Reg.gateEpochValid = true
      (ver = none → exec (.plyRangeExchange x) s = .next (t.plyRefuse 0x0803)) ∧
      (∀ v, ver = some v → ¬ same → exec (.plyRangeExchange x) s = .next (t.plyRefuse 0x0804)) ∧
      (∀ v, ver = some v → same → ¬ pair → exec (.plyRangeExchange x) s = .next (t.plyRefuse 0x0806)) ∧
      (∀ v, ver = some v → same → pair → exec (.plyRangeExchange x) s = .next
        { ((t.wr Reg.plyState 2).wr Reg.plyVer v).wr Reg.plyCode 0 with
          ply := { s.ply with partner := some x, heard := s.time, lastBeat := s.time, opens := [] } })) ∧
    (s.plied = true → s.ply.lastBeat + 135000 ≤ s.time → s.pf0PlyQp = some q →
      exec .plyHeartbeat s = .next ({ s with ply := { s.ply with lastBeat := s.time } }.plySend 0 0 0 0 []))) ∧
  (∀ (s : State) (f n : Nat) (msg : Bytes), s.ready = true → s.plied = true →
    let t := s.plyHeard f n msg
    let r := leAt msg 8 5
    let body := msg.drop 64
    (s.isPlyQp f n = true → plyHdrOk s msg = true →
      (s.isB = true → s.isA = false →
        (leAt msg 5 1 = 1 → exec (.plyAsset f n msg) s = .next (t.plyAssetMsg f body)) ∧
        (leAt msg 5 1 = 2 → exec (.plyOpen f n msg) s = .next (t.plyOpenMsg f r body)) ∧
        (leAt msg 5 1 = 3 → exec (.plyCohort f n msg) s = .next (t.plyCohortMsg f r body)) ∧
        (leAt msg 5 1 = 4 → exec (.plyVerdict f n msg) s = .next t) ∧
        (leAt msg 5 1 = 5 → exec (.plyShare f n msg) s = .next (t.plyShareMsg f r body)) ∧
        (leAt msg 5 1 = 6 → exec (.plyReturn f n msg) s = .next (t.plyReturnMsg f r body)) ∧
        (leAt msg 5 1 = 7 → exec (.plyDigest f n msg) s = .next (t.plyDigestMsg f r body)) ∧
        (leAt msg 5 1 = 8 → exec (.plyDone f n msg) s = .next (t.plyDoneMsg f r))) ∧
      (s.isA = true → s.isB = false →
        (leAt msg 5 1 = 4 → exec (.plyVerdict f n msg) s = .next (t.plyVerdictMsg f r (leAt msg 6 2))) ∧
        (leAt msg 5 1 = 8 → exec (.plyDone f n msg) s = .next t))) ∧
    ((s.isPlyQp f n = false ∨ plyHdrOk s msg = false) → exec (.plyDone f n msg) s = .next s)) ∧
  (∀ (s0 : State) (f k : Nat) (x : Round),
    let s := s0.postAll
    s.ready = true →
    (s.round? f k = some x → s.mirroredHere x = true → x.live_ = true → x.ply.awaiting ≠ [] → x.deadline + 1350000 ≤ s.time →
      exec (.plyLateSlotExpiry f k) s0 = .next ((s.verdict f k 0x0801).abandon f k 0x0801)) ∧
    (s.plied = true → s.ply.heard + 13500000 ≤ s.time → exec .plyPartnerLost s0 = .next s.partnerLost))

/-! ## Random numbers, keys and assets -/

/-- Entropy and the DRBG. RNG_SOURCE_SETTLED: a source settles after 500 µs; RNG_STARTUP_TEST_DONE: it passes its start-up test
after 1,024 bits; RNG_HEALTH_FAIL: a failure of a running source drains a SEEDED generator and starts the source again, and a
third failed start-up in a row disables it; RNG_COLLECTION_DONE: a collection that is over seeds or reseeds the DRBG;
RESEED_TIMER starts one; GENERATE_REQUEST puts 64 words of the DRBG in the queue (R312 to R318, R325).

RNG_WORD_SERVE: the queue's first word goes to the next request, and a request that has all its words has its effect;
RNG_DATA, a software read, is a class 4 request, or the idle word with 0x0502 in HALTED and DEAD (R320, R321, R325).
Rests on the model's own readings of log entries 10 and 97. -/
def Obligations.RandomNumbers : Prop :=
  (∀ (s : State) (k : Nat) (test : RngTest), s.busUp = true →
    let x := s.source k
    let s1 (startup : Bool) : State := (s.failLog k test startup).updRng (fun g => { g with collecting := false })
    (x.phase = 1 → x.since + 675000 ≤ s.upTime → exec (.rngSourceSettled k) s = .next
      (s.updSource k (fun x => { x with phase := 2, since := s.upTime }))) ∧
    (x.phase = 2 → x.since + 1024 * x.decim * 80 ≤ s.upTime → exec (.rngStartupTestDone k) s = .next
      (s.updSource k (fun x => { x with ok := true, phase := 3, fails := 0 })).collectIfOk) ∧
    (x.phase = 3 → x.disabled = false → (s1 false).rd Reg.rngState = rngSeeded → exec (.rngHealthFail k test) s = .next
      ((((((s1 false).raise 0 0x0501).wr Reg.rngState rngDraining).updRng (fun g => { g with raised := [] })).startSource k).haltIfDry)) ∧
    (x.phase = 2 → x.disabled = false → x.fails + 1 < 3 → exec (.rngHealthFail k test) s = .next
      (((s1 true).updSource k (fun x => { x with fails := x.fails + 1 })).startSource k)) ∧
    (x.phase = 2 → x.disabled = false → 3 ≤ x.fails + 1 →
      let t := (s1 true).updSource k (fun x => { x with disabled := true, ok := false, phase := 0, fails := 3 })
      exec (.rngHealthFail k test) s = .next (if t.enabled.length < 4 then t.goDead else t.collectIfOk)) ∧
    (s.rng.collecting = true → s.rng.collectAt + s.collectT ≤ s.upTime → exec .rngCollectionDone s = .next
      (((if s.rng.seeded then s.bump Reg.rngReseedCount else s).wr Reg.rngState rngSeeded).updRng (fun x =>
        { x with
          collecting := false
          seeded := true
          requestsSinceSeed := 0
          seededAt := s.upTime
          raised := []
          drbg := s.seedDrbg
          collections := x.collections + 1 }))) ∧
    (s.rd Reg.rngState = rngSeeded → s.rng.collecting = false → s.sourcesOk = true →
      s.rng.seededAt + s.rd Reg.rngReseedMs * 1350000 ≤ s.upTime → exec .reseedTimer s = .next s.collect) ∧
    (s.rd Reg.rngState = rngSeeded → s.rng.queue.length < 448 → exec .generateRequest s = .next (s.updRng (fun x =>
      { x with
        queue := x.queue ++ (blocksOf 8 64 (x.drbg.generate 32).1).map (fun b => BitVec.ofNat 64 (leNat b))
        drbg := (x.drbg.generate 32).2
        index := x.index + 64
        requestsSinceSeed := x.requestsSinceSeed + 1 }))) ∧
    (s.rd Reg.rngState = rngSeeded → 448 ≤ s.rng.queue.length → exec .generateRequest s = .next s)) ∧
  (∀ (s : State) (r : Req) (i : Nat) (w : Word) (ws : List Word) (q : RngReq), s.busUp = true →
    (s.rngServes = true → s.rng.next? = some i → s.rng.queue = w :: ws → s.rng.reqs[i]? = some q →
      let q1 := { q with got := q.got ++ [w] }
      (q1.words ≤ q1.got.length → exec .rngWordServe s = .next
        ((s.updRng (fun x => { x with queue := ws, reqs := x.reqs.eraseIdx i })).rngDone q1).haltIfDry) ∧
      (q1.got.length < q1.words → exec .rngWordServe s = .next
        (s.updRng (fun x => { x with queue := ws, reqs := updAt x.reqs i (fun _ => q1) })).haltIfDry)) ∧
    (s.rng.queue = [] → exec .rngWordServe s = .next s) ∧
    ((r = .nalam ∨ r = .cc ∨ (s.devAccess r = true ∧ s.outside r = false ∧ s.privileged r = true)) →
      (s.rd Reg.rngState ≠ rngHalted → s.rd Reg.rngState ≠ rngDead →
        exec (.rngData r 0xB00040) s = .next (s.ask 4 (reqOrder r) 1 (.software r))) ∧
      ((s.rd Reg.rngState = rngHalted ∨ s.rd Reg.rngState = rngDead) →
        exec (.rngData r 0xB00040) s = .next (s.idleWord r))))

/-- Key slots and the life cycle. ASSIGN takes an unassigned slot of 4 to 63 for a function without one, or for the control
cores; KEY_RELEASE and KEY_ZERO act on an assigned one and keep KEY_BUSY set while it is overwritten; 0x0602 otherwise; LC_VOID
and a LIFECYCLE_TRANSITION whose token is accepted burn the life-cycle fuses; FKEY_ZERO zeroises a function's own key;
ROLLBACK_COMMIT raises the fuses to the running version; REMASK asks for 64 words a millisecond (R329, R337 to R339, R342, R351).

A life-cycle transition never clears a fuse, zeroises every key slot, abandons every round and holds the device; the
patterns a token may burn are those of SORT to FIELD and FIELD to RETURN (R328, R329).
Rests on the model's own readings of log entries 14 and 68. -/
def Obligations.Keys : Prop :=
  (∀ (s : State) (r : Req) (slot f : Nat) (t : Bytes),
    let done (code : Nat) (u : State) : State := u.wr Reg.nalamKeyCode code
    let held : Prop := 4 ≤ slot ∧ (s.slot slot).attr.ownerKind ≠ 3
    (s.devAccess r = true → s.outside r = false → s.privileged r = true →
      (s.keyBusy = false →
        (4 ≤ slot → slot < 64 → (s.slot slot).attr.ownerKind = 3 → s.fkeySlot f = none →
          exec (.assign r slot f false) s = .next (done 0
            ((((((s.clearAssets f).updSlot slot (fun _ => { attr := { ownerKind := 2, func := f } })).wr Reg.fnFkeySlot slot f).ask 0 0 8
              (.slotMask slot)).ask 0 0 6 (.identity f))))) ∧
        (4 ≤ slot → slot < 64 → (s.slot slot).attr.ownerKind = 3 →
          exec (.assign r slot f true) s = .next (done 0 (s.updSlot slot (fun _ => { attr := { ownerKind := 1 } })))) ∧
        ((slot < 4 ∨ 64 ≤ slot) → exec (.assign r slot f false) s = .next (done 0x0602 s)) ∧
        (held → exec (.keyRelease r slot) s = .next (done 0 (s.releaseSlot slot 0x0604).keyWork) ∧
          exec (.keyZero r slot) s = .next (done 0 (s.zeroSlot slot 0x0604).keyWork)) ∧
        (¬ held → exec (.keyRelease r slot) s = .next (done 0x0602 s) ∧ exec (.keyZero r slot) s = .next (done 0x0602 s)) ∧
        exec (.lcVoid r) s = .next (done 0 (s.transition 0xFFFF))) ∧
      (s.keyBusy = true → exec (.assign r slot f false) s = .next s ∧ exec (.keyRelease r slot) s = .next s ∧
        exec (.keyZero r slot) s = .next s ∧ exec (.lcVoid r) s = .next s) ∧
      exec (.rollbackCommit r) s = .next (({ s with otp := { s.otp with svn := max s.otp.svn (s.rd Reg.nalamFwSvn) } }).wr
        Reg.nalamOtpSvn (max s.otp.svn (s.rd Reg.nalamFwSvn)))) ∧
    (s.devAccess r = true → s.outside r = false → s.privileged r = false →
      exec (.lcVoid r) s = .next (s.accErr r 0x0702 offKeyCmd) ∧
      exec (.rollbackCommit r) s = .next (s.accErr r 0x0702 0xC01010)) ∧
    (∀ i, s.funcUp f = true → s.rdb Reg.attAttached f = true → s.fkeySlot f = some i →
      exec (.fkeyZero f) s = .next (s.zeroSlot i 0x0604)) ∧
    (s.ready = true →
      exec (.lifecycleTransition t) s = .next (
        match nextPattern s.lc (tokTarget t), s.tokenFresh t && s.tokenSigned t with
        | some p, true => (s.ask 0 0 4 .lcNonce).transition p
        | _, _ => (s.ask 0 0 4 .lcNonce).raise 0 0x0609)) ∧
    (s.ready = true → s.nalam.remaskAt + 1350000 ≤ s.time → s.rngServes = true →
      exec .remask s = .next ({ s with nalam := { s.nalam with remaskAt := s.time } }.ask 0 0 64 .remask)) ∧
    (s.ready = true → s.nalam.remaskAt + 1350000 ≤ s.time → s.rngServes = false →
      exec .remask s = .next ({ s with nalam := { s.nalam with remaskAt := s.time } }.bump Reg.nalamRemaskMissed))) ∧
  (∀ (s : State) (p lc target : Nat),
    (s.transition p).otp.lc = Nat.lor s.otp.lc p ∧ (s.transition p).otp.svn = s.otp.svn ∧
    (s.transition p).otp.boots = s.otp.boots ∧ (s.transition p).pins.stopped = true ∧ (s.transition p).nalam.held = true ∧
    (nextPattern lc target = some p ↔ (lc = 1 ∧ target = 2 ∧ p = 0x00FF) ∨ (lc = 2 ∧ target = 3 ∧ p = 0x0FFF)))

/-- SPDM on a function's mailbox: GET_VERSION, GET_CAPABILITIES, NEGOTIATE_ALGORITHMS, GET_DIGESTS, GET_CERTIFICATE, CHALLENGE,
GET_MEASUREMENTS, KEY_EXCHANGE, FINISH, HEARTBEAT, KEY_UPDATE and END_SESSION. A request that is malformed, of another version,
or that needs a session and has none is answered ERROR with 0x060B; every other is answered as its kind is; signed evidence takes
a leaf and its nonce, and is refused at the boot limit and when no leaf is left; KEY_EXCHANGE opens a session and END_SESSION ends
it; MCTP_CONTROL sets and gets the endpoint ID (R344, R345, R347, R348, R350, R373).
Rests on the model's own readings of log entries 9 and 14. -/
def Obligations.SpdmRequests : Prop :=
  ∀ (s : State) (f : Nat) (q : SpdmReq),
    (s.doeUp f = true →
      let open_ : Prop := (s.session f).isOpen = true ∧ q.inSession = true
      (q.ok = false → ∀ c ∈ [Instr.getVersion f q, Instr.getCapabilities f q, Instr.challenge f q, Instr.finish f q],
        exec c s = .next (s.spdmError f 0x060B)) ∧
      (q.ok = true →
        exec (.getVersion f q) s = .next (s.spdmAnswer f rspVersion)) ∧
      (q.ok = true → q.ver = 0x13 →
        exec (.getCapabilities f q) s = .next (s.spdmAnswer f rspCapabilities) ∧
        exec (.negotiateAlgorithms f q) s = .next (s.spdmAnswer f rspAlgorithms) ∧
        exec (.getDigests f q) s = .next (s.spdmAnswer f rspDigests) ∧
        (q.flag = true → exec (.getCertificate f q) s = .next (s.spdmAnswer f rspCertificate)) ∧
        (q.flag = false → exec (.getCertificate f q) s = .next (s.spdmError f 0x060B)) ∧
        exec (.challenge f q) s = .next (s.spdmNonce f rspChallenge 4 []) ∧
        (q.flag = false → exec (.getMeasurements f q) s = .next (s.spdmAnswer f rspMeasurements)) ∧
        (q.flag = true → s.rdb Reg.nalamBootLimit = true → exec (.getMeasurements f q) s = .next (s.spdmError f 0x0608)) ∧
        (q.flag = true → s.rdb Reg.nalamBootLimit = false → s.rd Reg.nalamLeavesLeft = 0 →
          exec (.getMeasurements f q) s = .next (s.spdmError f 0x060A)) ∧
        (q.flag = true → s.rdb Reg.nalamBootLimit = false → s.rd Reg.nalamLeavesLeft ≠ 0 →
          let t := (s.wr Reg.nalamLeavesLeft (s.rd Reg.nalamLeavesLeft - 1)).bump Reg.nalamEvidenceCount
          let u := if q.inSession && (t.session f).isOpen then t.updSession f (fun x => { x with measured := true }) else t
          exec (.getMeasurements f q) s = .next
            (u.spdmNonce f rspMeasurements 4 (s.evidence f ++ s.evidenceSig (s.evidence f) q.nonce))) ∧
        (¬ open_ → ∀ c ∈ [Instr.finish f q, Instr.heartbeat f q, Instr.keyUpdate f q, Instr.endSession f q, Instr.ideKm f q],
          exec c s = .next (s.spdmError f 0x060B)) ∧
        (open_ →
          exec (.heartbeat f q) s = .next (s.spdmAnswer f rspHeartbeat) ∧
          exec (.keyUpdate f q) s = .next (s.spdmAnswer f rspKeyUpdate) ∧
          exec (.endSession f q) s = .next ((s.updSession f (fun _ => {})).spdmAnswer f rspEndSession) ∧
          ((s.session f).finished = false → ((s.session f).mutAuth = true → q.mutAuth = true) →
            exec (.finish f q) s = .next ((s.updSession f (fun x => { x with finished := true, key := q.key })).spdmAnswer f rspFinish)) ∧
          ((s.session f).finished = true →
            exec (.finish f q) s = .next ((s.updSession f (fun _ => {})).spdmError f 0x060B))) ∧
        (∃ t, exec (.keyExchange f q) s = .next t ∧ t.rng.reqs.any (fun u => u.use == .nonce f rspKeyExchange [] && u.words == 18) = true ∧
          (f < s.funcs.length →
            (t.session f).isOpen = true ∧ (t.session f).mutAuth = q.mutAuth ∧ (t.session f).finished = false)))) ∧
    (s.ready = true →
      (∀ m, leAt m 0 1 % 128 = 0 → leAt m 2 1 = 1 → exec (.mctpControl m) s = .next
        ({ s with nalam := { s.nalam with mctpEid := leAt m 4 1 } }.emit
          (.mctp (toLe 4 (leAt m 1 1 % 128 * 2 ^ 8 + 1 * 2 ^ 16) ++ toLe 3 (leAt m 4 1 * 2 ^ 8))))) ∧
      (∀ m, leAt m 0 1 % 128 = 0 → leAt m 2 1 = 2 → exec (.mctpControl m) s = .next
        (s.emit (.mctp (toLe 4 (leAt m 1 1 % 128 * 2 ^ 8 + 2 * 2 ^ 16) ++ toLe 3 s.nalam.mctpEid)))) ∧
      (∀ m, leAt m 0 1 % 128 ≠ 0 → leAt m 0 1 % 128 ≠ 5 → exec (.mctpControl m) s = .next
        { s with nalam := { s.nalam with mctpDropped := s.nalam.mctpDropped + 1 } }))

/-- Tenant assets: KEM, BIND, POLICY, JOIN_LIST, EVK, COMMITTEE_KEY, NOISE_SEED, MEM_KEY and CHECKPOINT_KEY. A request that fails
a check of R349 is counted and answered with its code; one that passes is installed by its kind, counted in ASSET_SEQ, mirrored by
strand A and answered, and one whose installing is refused is answered with that code; a policy that R158 refuses gives 0x0908.
MEM_KEY_INIT_DONE zeroises the far range, and MEM_ROTATION_SWEEP converts the next old page (R157, R158, R288, R304, R348, R349,
R357, R358, R362).
Rests on the model's own readings of log entries 9, 14, 65 and 102. -/
def Obligations.TenantAssets : Prop :=
  (∀ (s : State) (f k : Nat) (m : Bytes) (host : Option Bytes) (cmd : Instr) (p : Nat × Bytes × State),
    s.doeUp f = true → assetWf m = true → aKind m = k →
    let plain := gcmCrypt (s.session f).assetKey (assetIv m) (m.take 32) (aBody m)
    ((k = 0 ∧ cmd = .kem f m ∧ p = plain2 (aBody m) (s.installKem f (aBody m))) ∨
      (k = 1 ∧ cmd = .bind f m ∧ p = plain2 plain (s.installBind f plain)) ∨
      (k = 2 ∧ cmd = .policy f m ∧ p = plain2 plain (s.installPolicy f plain)) ∨
      (k = 3 ∧ cmd = .joinList f m ∧ p = plain2 plain (s.installJoin f plain)) ∨
      (k = 4 ∧ cmd = .evk f m host ∧ p = s.installEvk f plain true host) ∨
      (k = 5 ∧ cmd = .committeeKey f m host ∧ p = s.installCommittee f plain true host) ∨
      (k = 6 ∧ cmd = .noiseSeed f m ∧ p = plain2 plain (s.installNoise f plain)) ∨
      (k = 7 ∧ cmd = .memKey f m ∧ p = plain2 plain (s.installMem f plain)) ∨
      (k = 8 ∧ cmd = .checkpointKey f m ∧ p = plain2 plain (s.installCkpt f plain))) →
    let c := s.assetCode f m
    (c ≠ 0 → exec cmd s = .next ((s.bump Reg.nalamAssetRefusedCount).assetAnswer f c)) ∧
    (c = 0 → p.1 ≠ 0 → exec cmd s = .next
      (((p.2.2.bump Reg.nalamAssetRefusedCount).digestRaise f p.1).assetAnswer f p.1)) ∧
    (c = 0 → p.1 = 0 →
      let t := ((p.2.2.keepAssets s f).wr Reg.fnAssetSeq (aSeq m) f).updFn f (fun x => { x with assetFlags := Nat.lor x.assetFlags (2 ^ k) })
      exec cmd s = .next
        ((if t.plied && t.isA && decide (2 ≤ k) then t.plySend f plyAsset 0 0 (m.take 48 ++ p.2.1) else t).assetAnswer f 0)) ∧
    ((s.session f).attested = false → c ≠ 0)) ∧
  (∀ (s : State) (f : Nat) (b : Bytes),
    (s.policyBad f b = true → s.installPolicy f b = (0x0908, s)) ∧
    (s.policyBad f b = false → s.installPolicy f b = (0, s.updFn f (fun x =>
      { x with policy := some (parsePolicy b), lastPolicy := (parsePolicy b).id }))) ∧
    (b.length = 32 → s.installNoise f b = (0, s.updFn f (fun x => { x with noiseSeed := some (leNat b) })) ∧
      s.installCkpt f b = (0, s.updFn f (fun x => { x with ckptKey := some (leNat b) }))) ∧
    (b.length = 4 → s.installBind f b =
      (0, ((s.updFn f (fun x => { x with tenantKey := sha384N x.session.key })).wr Reg.fnTenantTag (leNat b) f).wr Reg.fnBound 1 f))) ∧
  (∀ (s : State) (f : Nat), s.ready = true → s.farTurn f = true →
    (s.rd Reg.fnRotState f = 1 → exec (.memKeyInitDone f) s = .next (((s.farTiles f).foldl (fun s t =>
      (s.setTag t { tenant := f, far := true }).zeroTile t) s).wr Reg.fnRotState 0 f)) ∧
    (s.rd Reg.fnRotState f = 2 →
      let gen := if s.rd Reg.fnCurgen f = 1 then 0xFFFF else 0
      let l := (s.farTiles f).filter (fun t => (s.tag t).keygen != gen && (s.stagedOf t).isNone)
      (∀ t, l.find? (fun t => decide ((s.fn f).sweep ≤ t)) = some t →
        exec (.memRotationSweep f) s = .next ((s.updFn f (fun x => { x with sweep := t + 1 })).farWritten t)) ∧
      (∀ t, l.find? (fun t => decide ((s.fn f).sweep ≤ t)) = none → l.head? = some t →
        exec (.memRotationSweep f) s = .next ((s.updFn f (fun x => { x with sweep := t + 1 })).farWritten t)) ∧
      (l = [] → exec (.memRotationSweep f) s = .next s)))

/-! ## Partitions, checkpoints, and the host's side -/

/-- PART_CMD refuses with 0x060E a partition that R354 rules out, and otherwise applies it; PARTITION_REVOCATION_DONE ends the
revocation it began once nothing issued before is in flight, with what left zeroised (R354, R355, R360).

CHECKPOINT is refused with 0x0A25 while a program runs, a round is past CLOSED or in GUARD, or no key is held, and
otherwise asks for its identifier; CHECKPOINT_RESUME restores a checkpoint that its checks pass, else 0x0A26; LEAF_DIGESTS writes
kept leaves, else 0x0A14 (R427 to R430).
Rests on the model's own readings of log entries 16, 66, 67, 78, 79 and 127. -/
def Obligations.PartitionsAndCheckpoints : Prop :=
  (∀ (s : State) (r : Req),
    (s.devAccess r = true → s.outside r = false → s.privileged r = true →
      let f := s.rd Reg.partFunc
      (s.rdb Reg.partBusy = true → exec (.partCmd r) s = .next s) ∧
      (s.rdb Reg.partBusy = false → s.partBad f s.stagedPartition = true →
        exec (.partCmd r) s = .next (s.wr Reg.partCode 0x060E)) ∧
      (s.rdb Reg.partBusy = false → s.partBad f s.stagedPartition = false →
        exec (.partCmd r) s = .next ((s.applyPartition f s.stagedPartition).wr Reg.partCode 0))) ∧
    (∀ v, s.ready = true → s.partRev = some v → v.spindles.all (fun j => (s.spin j).uq.isEmpty) = true →
      let gone (t : Nat) : Bool := v.tiles.contains t
      let held := (s.staged.filter (fun g => g.func == v.func && (gone g.tile || gone g.slot))).map (·.tile)
        ++ (s.pages.filter (fun g => g.func == v.func && (gone g.tile || gone g.slot))).map (·.tile)
      s.quiet (v.tiles ++ held) = true →
      let s1 := v.spindles.foldl (fun s j => s.updSpin j (fun x => { nextId := x.nextId })) (s.unstageGone v.func gone)
      let s2 := v.tiles.foldl (fun s t => s.wipeTile t) s1
      let s3 := v.ctrs.foldl (fun s d => s.ctrForce d 0) (s2.dropLeaves v.func gone)
      exec (.partitionRevocationDone v.func) s = .next ({ s3 with partRev := none }.wr Reg.partBusy 0))) ∧
  (∀ (s : State) (f n : Nat) (desc b : Bytes), desc.length = 64 → s.ringTakes f n (leNat desc) = true → jobWf (leNat desc) = true →
    let d := leNat desc
    let s1 := s.takeJob f n
    let kc := ckptKc ((s1.fn f).ckptKey.getD 0) (leAt b 16 32)
    let first := jArg1 d % 2 ^ 32
    let count := jArg1 d / 2 ^ 32
    (jOp d = 0x10 → s1.ckptOk f = true → (s1.fn f).ckptJob = none →
      exec (.checkpoint f n desc) s = .next ((s1.updFn f (fun x => { x with ckptJob := some (n, d) })).ask 1 f 4 (.checkpoint f))) ∧
    (jOp d = 0x10 → s1.ckptOk f = false → exec (.checkpoint f n desc) s = .next (s1.jobDone f n d 0x0A25 0)) ∧
    (jOp d = 0x11 → b.length = jRecLen d →
      (s1.resumeBad f kc b = true → exec (.checkpointResume f n desc (some b)) s = .next (s1.jobDone f n d 0x0A26 0)) ∧
      (s1.resumeBad f kc b = false → exec (.checkpointResume f n desc (some b)) s = .next
        ((s1.restore f ((s1.ckpts.find? (fun c => c.id == leAt b 16 32)).getD (checkpointOf (ckptPlain kc b)))).jobDone f n d 0 0))) ∧
    (∀ x, jOp d = 0x12 → s1.round? f (jArg0 d) = some x → x.gate.accLeaves ≠ [] → first + count ≤ x.gate.accLeaves.length →
      32 * count ≤ jRecLen d →
      exec (.leafDigests f n desc) s = .next ((s1.hostPut f (jRecAddr d)
        (((((sortBy (·.1) x.gate.accLeaves).drop first).take count).map (fun p => toLe 32 p.2)).flatten)).jobDone f n d 0 count)) ∧
    (jOp d = 0x12 → s1.round? f (jArg0 d) = none → exec (.leafDigests f n desc) s = .next (s1.jobDone f n d 0x0A14 0)))

/-- The host's side: FLR and FR_GO reset a function, which FUNCTION_RESET_DONE ends in START with its near tiles zeroised;
SNAP_CMD and FSNAP_CMD copy the counters as they were at the start of the CLK_CTL cycle; IDE_REQ, IDE_KM, IDE_STREAM_FAILED,
PCIE_LINK_DOWN and PCIE_LINK_UP hold DMA back until it resumes; VF_ENABLE brings virtual functions into being; EVT_TAIL arms the
vector again; HOST_ACCESS_FAIL, a failed host read, has the effect of R372 (R281, R368 to R370, R372, R378, R389, R390, R402,
R422).

A function reset ends the function's windows and gates, forgets its last round, its destination buffers, its session and its
IDE stream, and holds the time it began; its policy, join list, keys and seeds stay, and so do the fuses and pins (R389).
Rests on the model's own readings of log entries 69, 70, 76, 77 and 126. -/
def Obligations.HostSide : Prop :=
  (∀ (s : State) (r : Req) (f : Nat) (v : BitVec 32), s.ready = true →
    ((s.fn f).exists_ = true → f ≠ 0 → exec (.flr f) s = .next (s.startReset f 0x0A16 false)) ∧
    ((s.fn 0).exists_ = true → exec (.flr 0) s = .next (((List.range 64).filter (fun g => g != 0 && (s.fn g).exists_)).foldl
      (fun s g => (s.startReset g 0x0A16 false).updFn g (fun x => { x with exists_ := false })) (s.startReset 0 0x0A16 false))) ∧
    (s.devAccess r = true → s.outside r = false → s.privileged r = true →
      ((s.fn (s.rd Reg.rstFrFunc)).exists_ = true → exec (.frGo r) s = .next
        (((s.wr Reg.rstFrCode 0).wr Reg.rstFrBusy 1).startReset (s.rd Reg.rstFrFunc) 0x0A16 true)) ∧
      ((s.fn (s.rd Reg.rstFrFunc)).exists_ = false → exec (.frGo r) s = .next (s.wr Reg.rstFrCode 0x0A17)) ∧
      exec (.snapCmd r) s = .next ((List.range 64).foldl (fun s f => s.countSnap f)
        ({ s with holding := s.cycleCounters }.bump Reg.snapSeq))) ∧
    ((s.fn f).resetAt ≠ none → (s.spindlesOf f).any s.substituting = false →
      let near := (List.range (s.rd Reg.fnNearCount f)).map (s.rd Reg.fnNearBase f + ·)
      let s1 := near.foldl (fun s t => s.wipeTile t) (s.dropLeaves f near.contains)
      let s2 := s1.wr Reg.rstResetMask (putBits (s1.rd Reg.rstResetMask) f 1 0)
      exec (.functionResetDone f) s = .next (((if (s.fn f).resetByGo then s2.wr Reg.rstFrBusy 0 else s2).updFn f (fun x =>
        { x with resetAt := none, resetByGo := false })).wr Reg.attSvc 0 f)) ∧
    (s.funcUp f = true →
      (let kept := s.holding.filter (fun p => !inFuncPage f p.1) ++ s.cycleCounters.filter (fun p => inFuncPage f p.1)
       exec (.fsnapCmd f) s = .next (({ s with holding := sortBy (fun (p : Nat × Nat) => p.1) kept } : State).countSnap f)) ∧
      ((s.fn f).ideKeyed = true → s.wot.contains (Reg.fnIdeReq.key f 0) = false →
        exec (.ideReq f) s = .next { s.wr Reg.fnIdeReq 1 f with wot := Reg.fnIdeReq.key f 0 :: s.wot }) ∧
      (s.wot.contains (Reg.fnIdeReq.key f 0) = true →
        exec (.ideReq f) s = .next (s.accErr (selfReq f) 0x0701 (ownOff f Reg.fnIdeReq))) ∧
      exec (.evtTail f v) s = .next ((s.wr Reg.fnEvtTail v.toNat f).updFn f (fun x => { x with evtSent := false })) ∧
      (∀ n, n < 4 → s.rd Reg.ringState f n = ringActive → s.sqUsed f n ≠ 0 →
        exec (.hostAccessFail (.sq f n)) s = .next ((s.wr Reg.ringState ringError f n).ringFail f n 0x0A13)) ∧
      exec (.hostAccessFail (.progImage f)) s = exec (.load f none) s) ∧
    ((s.fn f).ideKeyed = true → s.rdb Reg.fnIdeReq f = true → exec (.ideStreamFailed f) s = .next
      (((s.updFn f (fun x => { x with ideKeyed := false, ideSecure := false })).updFn f (fun x => { x with ideFailed := true })).raise f 0x0611)) ∧
    (∀ q : SpdmReq, s.doeUp f = true → q.ok = true → q.ver = 0x13 → (s.session f).isOpen = true → q.inSession = true →
      (s.session f).finished = true → exec (.ideKm f q) s = .next (((s.updFn f (fun x => { x with
        ideKeyed := true
        ideSecure := f == 0 && (s.session f).mutAuth && sha384N (s.session f).key == (s.fn 0).tenantKey && (s.fn 0).tenantKey != 0
        ideFailed := false })).dmaResume f).spdmAnswer f rspVendor)) ∧
    (s.pins.pcieUp = true → exec .pcieLinkDown s = .next
      (({ s with pins := { s.pins with pcieUp := false } }.bump Reg.evPcieDowns).raise 0 0x0A24)) ∧
    (s.pins.pcieUp = false → exec .pcieLinkUp s = .next
      ((List.range 64).foldl (fun s f => s.dmaResume f) { s with pins := { s.pins with pcieUp := true } })) ∧
    (∀ n, n ≤ 63 → (List.range 64).all (fun g => decide (g ≤ n) == (s.fn g).exists_) = true → exec (.vfEnable n) s = .next s) ∧
    (∀ n, n < 63 → (List.range 64).all (fun g => decide (g ≤ n) == (s.fn g).exists_) = true → exec (.vfEnable (n + 1)) s = .next
      ((s.updFn (n + 1) (fun x => { x with exists_ := true })).wr Reg.attSvc 0 (n + 1)))) ∧
  (∀ (s0 : State) (f code : Nat) (go : Bool),
    let s := s0.postAll
    (s.fn f).resetAt = none → f < s.funcs.length →
    let t := s0.startReset f code go
    (t.fn f).ideKeyed = false ∧ (t.fn f).ideSecure = false ∧
    (t.fn f).resetAt = some s.time ∧ (t.fn f).lastRound = none ∧ (t.fn f).dests = [] ∧ (t.fn f).session = {} ∧
    (t.fn f).policy = (s.fn f).policy ∧ (t.fn f).joinList = (s.fn f).joinList ∧ (t.fn f).noiseSeed = (s.fn f).noiseSeed ∧
    (t.fn f).memKey0 = (s.fn f).memKey0 ∧ (t.fn f).memKey1 = (s.fn f).memKey1 ∧ (t.fn f).ckptKey = (s.fn f).ckptKey ∧
    (t.fn f).idKey = (s.fn f).idKey ∧ (t.fn f).tenantKey = (s.fn f).tenantKey ∧ t.otp = s.otp ∧ t.pins = s.pins ∧
    t.windows.all (fun w => w.func != f) = true ∧ t.gates.all (fun g => g.func != f) = true)

/-! ## Boot, faults, tests and the register file -/

/-- The power-up sequence. PERST_N_ASSERT resets everything but the fuses, and PERST_N_RELEASE starts step 1; the PLL locks or
fails (ROOT_PLL_LOCK, ROOT_PLL_FAIL), the image is asked for and checked (FW_DOORBELL, FW_IMAGE_ARRIVAL), the DRBG's first seed
starts step 6 (DRBG_SEEDED_AT_BOOT), each part of it sets its done bit (CREEL_DONE, FAR_DONE, ATTEST_DONE, PORTS_DONE,
FWINIT_DONE), and READY follows when all are set; FW_IMAGE_TIMEOUT and BOOT_TIMEOUT fail the boot with their codes (R55, R343,
R392 to R398).

A full reset returns every part of the device to its reset state but the fuses and the DRBG's position, and a failed boot
is STAGE FAILED with its code, BOOTFAIL_N low, no key and the clocks held (R392, R398, R406).
Rests on the model's own readings of log entries 6, 11, 13, 80, 81, 83 and 84. -/
def Obligations.BootAndReset : Prop :=
  (∀ (s : State) (r : Req),
    exec .perstNAssert s = .next s.fullReset ∧
    (s.pins.perst = true → exec .perstNRelease s = .next
      { s with upTime := 0, pins := { s.pins with perst := false, stopped := false } }.fromOtp) ∧
    (s.busUp = true →
      (s.rd Reg.bootStage = 0 → s.rdb Reg.clkRootLock = false →
        let s1 := (((s.wr Reg.clkRootLock 1).wr Reg.clkSysrefOk 1).wr Reg.clkPcierefOk 1).holdSlot 3 attrAnchor s.otp.anchor
        (lcCode s.otp.lc ≠ 4 → exec .rootPllLock s = .next (s1.wr Reg.bootStage 1)) ∧
        (lcCode s.otp.lc = 4 → exec .rootPllLock s = .next (s1.bootFail 0x0612 0)) ∧
        (1350000 ≤ s.upTime → exec .rootPllFail s = .next (s.bootFail 0x0A1C 0))) ∧
      (s.rd Reg.bootStage = 1 →
        ((∃ b, r = .pf0 b) → s.rdb Reg.bootImgBusy = false →
          (2368 ≤ s.rd Reg.bootFwLen → s.rd Reg.bootFwLen ≤ 6293760 → exec (.fwDoorbell r) s = .next (s.wr Reg.bootImgBusy 1)) ∧
          ((s.rd Reg.bootFwLen < 2368 ∨ 6293760 < s.rd Reg.bootFwLen) → exec (.fwDoorbell r) s = .next (s.wr Reg.bootImgCode 0x0A1D))) ∧
        (∀ b, s.rdb Reg.bootImgBusy = true → b.length = s.rd Reg.bootFwLen → s.upTime ≤ 13500000000 →
          let s1 := { ((s.wr Reg.bootImgBusy 0).wr Reg.bootImgCode 0).wr Reg.bootTImage s.micros with
            nalam := { s.nalam with imageAt := s.upTime } }
          exec (.fwImageArrival b) s = .next (
            if s1.imageCode b ≠ 0 then s1.bootFail (s1.imageCode b) 0
            else if Config.pufOk s1.fresh = false then s1.draw.2.bootFail 0x0607 0
            else ((s1.draw.2.holdImage b).deriveKeys.wr Reg.bootStage 4).startEntropy)) ∧
        (13500000000 ≤ s.upTime → exec .fwImageTimeout s = .next (s.bootFail 0x0A18 0))) ∧
      (∀ c, s.rd Reg.bootStage = 4 → s.rd Reg.rngState = rngSeeded →
        let s1 := { (s.wr Reg.bootStage 5).fwRanges with
          pins := { s.pins with dataPath := true }
          weir := { s.weir with vidGoal := vidFor 0, vidAt := s.upTime }
          nalam := { s.nalam with initAt := s.upTime, ccRunning := true } }
        let s2 := (s1.wr Reg.weirRamping 1).bootCheck c
        exec (.drbgSeededAtBoot c) s = .next (if s2.anyWorks then s2.bootKey.ask 0 0 4 .ctxSeal else s2.bootFail 0x0A1E 2)) ∧
      (s.rd Reg.bootStage = 5 →
        (s.rdb Reg.bootCreelDone = false →
          exec (.creelDone true true) s = .next (({ s with
            tiles := s.tiles.filter (fun p => isFar (p.1 / tileSize))
            tags := s.tags.filter (fun p => isFar p.1)
            upsets := s.upsets.filter (fun p => isFar (p.1 * 8 / tileSize)) }.wr Reg.creelZeroiseBusy 0).wr Reg.bootCreelDone 1) ∧
          (∀ t, exec (.creelDone false t) s = .next ((s.wr Reg.creelTier0Ok 0).bootFail 0x0A1E 1))) ∧
        (∀ a b, s.rdb Reg.bootFarDone = false →
          let full := a % 65536 == 65535
          exec (.farDone a b) s = .next (((List.range 4).foldl (fun s q =>
            ((s.wr Reg.farPkgOk (bits (if full then a else b) (4 * q) 4) q).wr Reg.farRateFallback (b2n (!full)) q).wr
              Reg.farTrained 1 q) s).wr Reg.bootFarDone 1)) ∧
        (s.rdb Reg.bootAttestDone = false → s.rdb Reg.nalamBootLimit = false → (s.slot 2).attr.valid = true →
          let pub := lmsPublic 10 (s.slot 2).value
          let seed := derivedScalar "CLTH-FLT-1" (s.slot 0).value (2 ^ 32) 0
          exec .attestDone s = .next ((({ s with nalam := { s.nalam with
            bootLmsPub := leNat pub
            factorySig := leNat (lmsSign 15 seed (s.rd Reg.nalamBootIndex) pub) } }.wr Reg.nalamAttestReady 1).wr
            Reg.nalamLeavesLeft 1024).wr Reg.bootAttestDone 1)) ∧
        (s.rdb Reg.bootAttestDone = false → s.rdb Reg.nalamBootLimit = true →
          exec .attestDone s = .next (s.wr Reg.bootAttestDone 1)) ∧
        (∀ up, s.rdb Reg.bootPortsDone = false → s.nalam.initAt + 2700000000 ≤ s.upTime → exec (.portsDone up) s = .next
          (((List.range s.nports).foldl (fun s p => if bit up p && !s.rdb Reg.portUp p then s.linkUp p else s) s).wr Reg.bootPortsDone 1)) ∧
        (s.rdb Reg.bootFwinitDone = false → s.nalam.ccRunning = true →
          exec .fwinitDone s = .next (s.wr Reg.bootFwinitDone 1)) ∧
        (doneBits.all (fun d => s.rdb d) = true → s.rd Reg.rngState = rngSeeded → s.nalam.held = false →
          (s.rdb Reg.nalamAttestReady = true ∨ s.rdb Reg.nalamBootLimit = true) →
          let s1 := ((s.wr Reg.bootStage 6).wr Reg.bootTReady s.micros).wr Reg.bootWarm (b2n s.nalam.warm)
          let s2 := { (s1.wr Reg.warmBusy 0).wr Reg.rstFrBusy 0 with nalam := { s1.nalam with warm := false } }
          exec .ready s = .next (((List.range 64).filter (fun f => (s2.fn f).exists_)).foldl (fun s f => s.startFunction f) s2)) ∧
        (s.nalam.warm = false → s.nalam.imageAt + 4050000000 ≤ s.upTime → exec .bootTimeout s = .next
          (s.bootFail 0x0A1B (doneBits.mapIdx (fun i d => if s.rdb d then 0 else 2 ^ i)).sum))))) ∧
  (∀ (s : State) (code detail : Nat),
    s.fullReset.otp = s.otp ∧ s.fullReset.regs = [] ∧ s.fullReset.tiles = [] ∧ s.fullReset.funcs = State.reset.funcs ∧
    s.fullReset.spindles = State.reset.spindles ∧ s.fullReset.nalam = State.reset.nalam ∧ s.fullReset.pins = State.reset.pins ∧
    s.fullReset.rounds = [] ∧ s.fullReset.qps = [] ∧ s.fullReset.time = 0 ∧ s.fullReset.rng.queue = [] ∧
    (s.bootFail code detail).pins.bootfail = true ∧ (s.bootFail code detail).pins.stopped = true ∧
    (s.bootFail code detail).pins.dataPath = false ∧
    (∀ k ∈ (s.bootFail code detail).nalam.slots, k.value = 0 ∧ k.attr.valid = false) ∧
    (∀ f, f < 64 → (s.bootFail code detail).subslots f = []) ∧ (s.bootFail code detail).rng.queue = [] ∧
    (s.bootFail code detail).ready = false)

/-- Attaching and warm reset: ATTACH negotiates the ABI version or is refused with 0x0A04, GO_SERVICE takes an attached
function to SERVICE; WARM_GO checks an image, and WARM_IMAGE_VERIFIED resets the functions, takes the image and goes back to
step 6 (R400 to R402, R404).
Rests on the model's own readings of log entries 77 and 82. -/
def Obligations.AttachAndWarmReset : Prop :=
  ∀ (s : State) (r : Req) (f : Nat) (b : Bytes),
    (s.funcUp f = true →
      let ver := negotiate (s.rd Reg.attDrvAbiMin f) (s.rd Reg.attDrvAbiMax f) (s.rd Reg.devFwAbiMin) (s.rd Reg.devFwAbiMax)
      (∀ v, s.rdb Reg.attAttached f = false → s.rdb Reg.attAttachBusy f = false → ver = some v →
        exec (.attach f) s = .next (((s.wr Reg.attAttached 1 f).wr Reg.attAbiVer v f).wr Reg.attAttachCode 0 f)) ∧
      (s.rdb Reg.attAttached f = false → s.rdb Reg.attAttachBusy f = false → ver = none →
        exec (.attach f) s = .next ((s.wr Reg.attAttachCode 0x0A04 f).raiseOwn f 0x0A04)) ∧
      (s.rdb Reg.attAttached f = false → exec (.goService f) s = .next (s.wr Reg.attAttachCode 0x0A1A f)) ∧
      (s.rdb Reg.attAttached f = true → s.rd Reg.attSvc f = 0 → exec (.goService f) s = .next (s.wr Reg.attSvc 1 f))) ∧
    (s.devAccess r = true → s.outside r = false → s.privileged r = true → s.rdb Reg.warmBusy = false →
      exec (.warmGo r none) s = .next (s.wr Reg.warmCode 0x0A15) ∧
      exec (.warmGo r (some b)) s = .next (
        if b.length ≠ s.rd Reg.bootFwLen then s.wr Reg.warmCode 0x0605
        else if s.imageCode b ≠ 0 then s.wr Reg.warmCode (s.imageCode b)
        else { (s.wr Reg.warmCode 0).wr Reg.warmBusy 1 with nalam := { s.nalam with warmDigest := some (fwDigestOf b) } })) ∧
    (∀ d, s.ready = true → s.nalam.warmDigest = some d →
      let s1 := ((List.range 64).filter (fun f => (s.fn f).exists_)).foldl (fun s f => s.startReset f 0x0A19 false) s
      let s2 := (List.range 60).foldl (fun s i => s.releaseSlot (i + 4) 0x0A19) s1
      let s3 := { s2 with nalam := { s2.nalam with warmDigest := none, warm := true, ccRunning := true } }
      exec (.warmImageVerified b) s = .next (
        if fwDigestOf b ≠ d then s3.bootFail 0x0605 0
        else ((((s3.holdImage b).fwRanges.wr Reg.bootStage 5).wr Reg.bootCreelDone 0).wr Reg.bootFwinitDone 0).wr Reg.creelZeroiseBusy 1))

/-- Faults and repair. RESIDUE_CHECK_FAIL: a residue mismatch is counted, and a third in a second, a failed re-execution or a
control-state error fails the physical spindle; SPARE_SUBSTITUTED: a substituted spindle issues again, or is unloaded where an
UNLOAD waited; JOURNAL_POINT moves the journal; CC_WATCHDOG restarts a control core, and its rounds at the basic level end;
NALAM_WATCHDOG, and a CLOCK_LOSS of a clock the device cannot do without, are fatal; CREEL_TIER_LOST, FAR_PACKAGE_LOST and
BOOK_AUDIT as R418, R419 and R424 say (R411 to R414, R420, R421, R451).

A fatal event writes its records first, stops the device, zeroises every key and is captured once: a second one changes
nothing (R408).
Rests on the model's own readings of log entries 84, 85, 86, 87, 91 and 127. -/
def Obligations.FaultsAndFatalEvents : Prop :=
  (∀ (s : State) (j p core : Nat), s.ready = true →
    (s.physOf j = some p → (s.spin j).recovering = false →
      exec (.residueCheckFail j .controlEcc) s = .next ((s.raise 0 0x0A2E 8 j).failSpindle p 0x0A2E) ∧
      ((s.spin j).uq ≠ [] →
        let recent := (s.phy p).mismatches.filter (fun t => decide (s.upTime < t + mismatchT))
        let t := (s.mismatch p).updPhys p (fun x => { x with mismatches := s.upTime :: recent })
        (recent.length < 2 → exec (.residueCheckFail j .mismatch) s = .next t) ∧
        (2 ≤ recent.length → exec (.residueCheckFail j .mismatch) s = .next (t.failSpindle p 0x0A01)) ∧
        exec (.residueCheckFail j .reexecution) s = .next ((s.mismatch p).failSpindle p 0x0A01)) ∧
      ((s.spin j).uq = [] → exec (.residueCheckFail j .mismatch) s = .next s)) ∧
    (s.physOf j = some p → (s.spin j).recovering = true →
      let t := ((s.updSpin j (fun x => { x with recovering := false, active := s.time })).bump Reg.evSpareSubs).raise 0 0x0A03 8 j
      let u := t.forOwner j (fun f s => s.leaveRecovery f)
      ((s.spin j).unloading = false → exec (.spareSubstituted j) s = .next u) ∧
      ((s.spin j).unloading = true → exec (.spareSubstituted j) s = .next
        ((u.updSpin j Spindle.unloaded).forOwner j (fun f s => s.settleBusy f)))) ∧
    (s.issuing j = true → exec (.journalPoint j) s = .next (s.updSpin j (fun x => x.journalPoint s.time))) ∧
    exec .nalamWatchdog s = .next (s.fatal 0x0A21) ∧
    exec (.clockLoss .sysRefclk) s = .next (((s.bump Reg.clkLossCount).wr Reg.clkSysrefOk 0).fatal 0x0A20 false) ∧
    exec (.clockLoss .rootPll) s = .next (((s.bump Reg.clkLossCount).wr Reg.clkRootLock 0).fatal 0x0A20 false) ∧
    (s.rdb Reg.evFatal = false →
      exec (.clockLoss .pcieRefclk) s = .next ((s.bump Reg.clkLossCount).wr Reg.clkPcierefOk 0).linkLost ∧
      exec (.clockLoss .sync) s = .next (
        let t := (s.bump Reg.clkLossCount).wr Reg.gateSyncPresent 0
        if t.rdb Reg.gateEpochValid then t.syncLost else t) ∧
      exec (.clockLoss (.portLine p)) s = .next ((s.bump Reg.clkLossCount).portDown p)) ∧
    exec .creelTierLost s = .next s.tierLost ∧
    exec (.farPackageLost p) s = .next (s.packageLost p) ∧
    (s.nalam.ccRunning = true → s.nalam.ccOut.contains core = false →
      (List.range 64).all (fun f => (List.range 4).all (fun n => s.rd Reg.ringState f n == 0)) = true →
      s.nalam.ccRestarts.any (fun p => p.1 == core && decide (s.upTime < p.2 + mismatchT)) = false →
      fwDigestOf s.nalam.fwImage = s.nalam.fwDigest →
      let t : State := { s.bump Reg.evCcWdog with nalam := { s.nalam with
        ccRestarts := (core, s.upTime) :: s.nalam.ccRestarts.filter (fun p => p.1 != core) } }
      exec (.ccWatchdog core) s = .next
        ((List.range 64).foldl (fun s f => s.abandonAll f 0x0A1F (fun r => r.basic)) (t.raise 0 0x0A1F))) ∧
    exec .bookAudit s = .next
      (let s1 := (List.range 64).foldl (fun s f => s.bookFails 4 f (overlaps (s.lzRuns f)) true) s
       (s1.bookFails 5 0 (decide (trackerMax < s1.trackersUsed)) false).bookFails 6 0 (decide (basinMax < s1.basinUsed)) false)) ∧
  (∀ (s : State) (code : Nat) (clk : Bool),
    (s.rdb Reg.evFatal = true → s.fatal code clk = s) ∧
    (s.rdb Reg.evFatal = false → s.tablesWf = true →
      (s.fatal code clk).rdb Reg.evFatal = true ∧ (s.fatal code clk).rd Reg.evFatalCode = code % 2 ^ Reg.evFatalCode.w ∧
      (s.fatal code clk).pins.stopped = true ∧ (s.fatal code clk).ready = false ∧
      (∀ k ∈ (s.fatal code clk).nalam.slots, k.value = 0)))

/-- Scrubbing and staging. CREEL_SCRUB: a tile with no folds in flight is read and verified and lets new folds in again;
SCRUB_FOLD_HOLD: one that folds for a millisecond takes no new ones; FAR_SCRUB: a far tile is verified as a lockage read verifies
it; STAGING_DONE moves a verified far tile into a pool tile (R69 to R72, R362).

The weir and the rails. VID_STEP moves VID one code at a time, and the divider changes at the end of a step up; THERMAL_TRIP, at
or above 110 °C, fails the boot with 0x0A2D; WEIR_SAMPLE steps down or up, or only records what it measured; RAIL_FAULT, a rail
out of tolerance with PERST_N released, leaves the device outside what is specified (R453 to R455, R457).
Rests on the model's own readings of log entries 89, 90, 94 and 107. -/
def Obligations.Upkeep : Prop :=
  (∀ (s : State) (f t slot : Nat) (s1 : State), s.ready = true →
    (s.rdb Reg.creelScrubEn = true →
      (isFar t = false → t < 65536 → s.isFarNow t = false → s.staged = [] → s.inflight t = 0 →
        exec (.creelScrub t) s = .next
          { (if s.untagged t then s.eccRead t else (s.verify t 5).2) with scrubHold := s.scrubHold.filter (fun x => x != t) }) ∧
      (isFar t = false → t < 65536 → s.isFarNow t = false → s.staged = [] → s.inflight t ≠ 0 → exec (.creelScrub t) s = .next s) ∧
      (s.flying t 1350000 = true → s.scrubHold.contains t = false →
        exec (.scrubFoldHold t) s = .next (({ s with scrubHold := t :: s.scrubHold } : State).land t))) ∧
    (s.isFarNow t = true → s.aloft t = false → f < 64 → (s.partition f).hasTile t = true → s.rdb Reg.fnMemkey f = true →
      s.rd Reg.fnRotState f ≠ 1 →
      let far : State := { s.setTag t (s.farTagOf t) with staged := s.staged.filter (fun g => g.tile != t) }
      let u := (far.verify t 5).2
      exec (.farScrub t) s = .next
        { u.setTag t (s.tag t) with staged := s.staged, scrubHold := u.scrubHold.filter (fun x => x != t) }) ∧
    ((s.partition f).hasTile t = true → s.isFarNow t = true → s.stagedOf t = none → s.farTurn f = true →
      s.wantedPagesOf f t = [] → s.pages.any (fun g => g.tile == t) = false → (s.dropPages t).stageSlot f t = (some slot, s1) →
      let v := s1.verify t 3
      (v.1 = false → exec (.stagingDone f t) s = .next (v.2.stageFails f t t)) ∧
      (v.1 = true → exec (.stagingDone f t) s = .next
        (({ v.2.lockBytes with staged := v.2.staged ++ [
            { func := f, tile := t, slot := slot, dirty := false, lastUse := s.time, farTag := v.2.tag t }] } : State).putTile t 0
          (v.2.tileBytes t 0 tileSize))))) ∧
  (∀ (s : State) (temp : Nat) (rail : Rail),
    (s.busUp = true → s.rdb Reg.weirRamping = true → s.weir.vidAt + 13500 ≤ s.upTime →
      let v := s.rd Reg.weirVid
      let g := s.weir.vidGoal
      let v1 := if v < g then v + 1 else v - 1
      (v ≠ g → exec .vidStep s = .next
        { (s.wr Reg.weirVid v1).wr Reg.weirRamping (b2n (v1 != g || s.weir.stepUp.isSome)) with
          weir := { s.weir with vidAt := s.upTime } }) ∧
      (∀ k, v = g → s.weir.stepUp = some k → exec .vidStep s = .next ((s.wr Reg.weirRamping 0).setStep k)) ∧
      (v = g → s.weir.stepUp = none → exec .vidStep s = .next (s.wr Reg.weirRamping 0))) ∧
    (s.busUp = true → 110 ≤ temp → exec (.thermalTrip temp) s = .next ((s.raise 0 0x0A2D).bootFail 0x0A2D 0)) ∧
    (∀ (temps : List Nat) (power : Nat), s.busUp = true → 5 ≤ s.rd Reg.bootStage → temps.foldl max 0 ≤ testTemp →
      s.weir.stepUp = none →
      let tj := temps.foldl max 0
      let powers := (power :: s.weir.powers).take 100
      let pavg := powers.sum / powers.length
      let cool := if tj ≤ s.rd Reg.weirTCool then s.weir.cool + 1 else 0
      let want := s.wanted tj powers cool
      let t := { (((s.wr Reg.weirTjMax tj).wr Reg.weirPowerW pavg).wr Reg.weirTarget want).countStep with
        weir := { s.countStep.weir with powers := powers, cool := cool } }
      (want = s.rd Reg.weirStep → exec (.weirSample temps power) s = .next t) ∧
      (s.rd Reg.weirStep < want → s.weir.lastChange = none →
        exec (.weirSample temps power) s = .next ((t.setStep want).moveVid (vidFor want) none)) ∧
      (want < s.rd Reg.weirStep → s.weir.lastChange = none →
        exec (.weirSample temps power) s = .next (t.moveVid (vidFor want) (some want)))) ∧
    (s.pins.perst = false → exec (.railFault rail) s = .fault .railOutOfTolerance) ∧
    (s.pins.perst = true → exec (.railFault rail) s = .next s))

/-- Built-in self-test: FULL and FUSE_REPAIR act in SORT and RETURN alone, FIELD_NOW on a spindle that can be tested, else
0x0A2A; FIELD_SELF_TEST, the rotation, tests the next spindle when its interval is up; BIST_DONE ends a run, and one that R446
makes invalid says so (R440, R443, R444, R446).

Freeze and the TAP: FRZ_N_ASSERT stops the clocks at once in SORT and RETURN, and FREEZE_ZEROISE_DONE after zeroisation
otherwise; each TAP instruction (BYPASS, IDCODE, SAMPLE_PRELOAD, EXTEST, DBG_TOKEN, FRZ_ADDR, FRZ_DATA) loads its code and shows
its value; FRZ_DATA reads only while frozen, and in FIELD only within an accepted token's scope (R330, R431 to R433).
Rests on the model's own readings of log entries 92, 93, 95 and 96. -/
def Obligations.TestAndFreeze : Prop :=
  (∀ (s : State) (r : Req) (p : Nat) (b : BistResult),
    (s.devAccess r = true → s.outside r = false → s.privileged r = true → s.rd Reg.bistState ≠ bistRunning →
      let s1 := (s.bistStart 1 0).wipeAll
      let new := s.bist.soft.filter (fun x => !s.otp.repairs.contains x)
      (s.inFactory = true → s.testable = true → exec (.full r) s = .next
        { s1 with nalam := { s1.nalam with held := true }, pins := { s1.pins with stopped := true } }) ∧
      ((s.inFactory = false ∨ s.testable = false) → exec (.full r) s = .next (s.wr Reg.bistCode 0x0A2A)) ∧
      (s.testable = true → s.nalam.held = false → p < s.phys.length → p ≠ 0x3F → s.fieldOk p = true →
        exec (.fieldNow r p) s = .next (s.fieldTest p)) ∧
      ((s.testable = false ∨ s.nalam.held = true) → exec (.fieldNow r p) s = .next (s.wr Reg.bistCode 0x0A2A)) ∧
      (s.inFactory = true → s.otp.repairs.length + new.length ≤ 4096 → exec (.fuseRepair r) s = .next
        ({ s with otp := { s.otp with repairs := s.otp.repairs ++ new } }.wr Reg.bistCode 0)) ∧
      (s.inFactory = true → 4096 < s.otp.repairs.length + new.length → exec (.fuseRepair r) s = .next (s.wr Reg.bistCode 0x0A2C)) ∧
      (s.inFactory = false → exec (.fuseRepair r) s = .next (s.wr Reg.bistCode 0x0A2A))) ∧
    (s.devAccess r = true → s.outside r = false → s.privileged r = true → s.rd Reg.bistState = bistRunning → exec (.full r) s = .next s) ∧
    (∀ q, s.ready = true → s.lc = lcField → s.rd Reg.bistFsInterval ≠ 0 → s.rd Reg.bistState ≠ bistRunning →
      s.bist.lastAt + s.rd Reg.bistFsInterval * oneSecond ≤ s.upTime → s.testable = true → s.fieldNext = some q →
      exec .fieldSelfTest s = .next (s.fieldTest q)) ∧
    (s.busUp = true → s.rd Reg.bistState = bistRunning →
      (b.valid = true → s.bist.broken = false → s.testable = true → s.bist.kind = 2 →
        exec (.bistDone b) s = .next (s.fieldDone b)) ∧
      (b.valid = true → s.bist.broken = false → s.testable = true → s.bist.kind ≠ 2 →
        exec (.bistDone b) s = .next (s.fullDone b)) ∧
      ((b.valid = false ∨ s.bist.broken = true ∨ s.testable = false) → s.bist.kind = 2 →
        exec (.bistDone b) s = .next s.testInvalid))) ∧
  (∀ (s : State) (t : Bytes) (a : BitVec 64),
    let lc := lcCode s.otp.lc
    (s.pins.perst = false → s.pins.frz = false →
      let s1 := { s with pins := { s.pins with frz := true } }
      ((lc = lcSort ∨ lc = lcReturn) → exec .frzNAssert s = .next (s1.wr Reg.evFrozen 1)) ∧
      (lc ≠ lcSort → lc ≠ lcReturn → exec .frzNAssert s = .next s1)) ∧
    (s.pins.frz = true → s.pins.perst = false → s.rdb Reg.evFrozen = false →
      ∃ u, exec .freezeZeroiseDone s = .next u ∧ u.rng.queue = [] ∧ (∀ x ∈ u.rounds, x.seed = 0 ∧ x.keys = none ∧ x.intake = []) ∧
        (∀ k ∈ u.nalam.slots, k.value = 0)) ∧
    exec .bypass s = .next (s.tapShow 0xFF 0) ∧
    exec .idcode s = .next (s.tapShow 0x01 idcodeWord) ∧
    exec .samplePreload s = .next { s with
      fresh := s.fresh + 1
      tap := { s.tap with ir := 0x02, tdo := Config.free s.fresh, samples := s.tap.samples + 1 } } ∧
    ((s.pins.perst = true ∨ s.frozen = true) → exec .extest s = .next (s.tapShow 0x03 0)) ∧
    (s.pins.perst = false → s.frozen = false → exec .extest s = .next s) ∧
    (s.mapped = true →
      let s1 := { s with tap := { s.tap with ir := 0x20 } }.ask 0 0 4 .lcNonce
      exec (.dbgToken t) s = .next (
        if tokTarget t = debugTarget && s.tokenFresh t && s.tokenSigned t then
          { s1 with tap := { s1.tap with tokenOk := true, scope := tokScope t } }
        else s1.raise 0 0x060D)) ∧
    exec (.frzAddr a) s = .next { s with tap := { s.tap with ir := 0x21, addr := a.toNat } } ∧
    (s.frozen = false → exec .frzData s = .next { s with tap := { s.tap with ir := 0x22 } }) ∧
    (s.frozen = true → lc ≠ lcSort → lc ≠ lcReturn → (s.tap.tokenOk && bit s.tap.scope (s.tap.addr / 2 ^ 56)) = false →
      exec .frzData s = .next { s with tap := { s.tap with ir := 0x22, tdo := 0, addr := (s.tap.addr + 8) % 2 ^ 64 } }) ∧
    (s.frozen = true → (lc = lcSort ∨ lc = lcReturn ∨ (s.tap.tokenOk && bit s.tap.scope (s.tap.addr / 2 ^ 56)) = true) →
      let p := { s with tap := { s.tap with ir := 0x22 } }.tapRead s.tap.addr
      exec .frzData s = .next { p.2 with tap := { p.2.tap with tdo := p.1, addr := (s.tap.addr + 8) % 2 ^ 64 } }))

/-- REGISTER_WRITE and COUNTER_READ_CLEAR: an access of another size or off its alignment, or that names no register, is refused
with 0x0703; an instance the grade lacks ignores writes and reads 0; a write to privileged fields from an ordinary requester
leaves them alone and is logged with 0x0702; each field takes a write as its access code says; an 8-byte read of counters in the
normal view clears them (R10, R11, R375 to R377).

A field by its access code: RO and RC ignore writes, W1C clears the bit written 1, a locked RWL keeps its value and
logs 0x0701, a WOT takes its first write and logs every later one, RW takes the value its range allows, and an alias sets, clears
or toggles the bits written 1 (R10, R11, R376).

A register field reads as what was last written, and no other field changes (R10).
Rests on the model's own readings of log entries 66, 71, 73 and 75. -/
def Obligations.RegisterPages : Prop :=
  (∀ (s : State) (r : Req) (a n : Nat) (v : BitVec 64), s.onBus r = true → s.outside r = false → s.inReset r = false →
    s.mappedAt r a = true →
    ((n ≠ 4 → n ≠ 8 → exec (.registerWrite r a n v) s = .next (s.accErr r 0x0703 a)) ∧
      ((n = 4 ∨ n = 8) → a % n ≠ 0 → exec (.registerWrite r a n v) s = .next (s.accErr r 0x0703 a)) ∧
      ((n = 4 ∨ n = 8) → a % n = 0 → reqPage r a = none → exec (.registerWrite r a n v) s = .next (s.accErr r 0x0703 a))) ∧
    (∀ p i, reqPage r a = some (p, i) →
      let o := a % 0x4000
      let view := a % 0x10000 / 0x4000
      ((n = 4 ∨ n = 8) → a % n = 0 → s.enabledPage p i = false → exec (.registerWrite r a n v) s = .next s) ∧
      (a % 8 = 0 → s.enabledPage p i = false → exec (.counterReadClear r a) s = .next (s.readDead r a)) ∧
      ((n = 4 ∨ n = 8) → a % n = 0 → s.enabledPage p i = true →
        (foreign r p i o = true → exec (.registerWrite r a n v) s = .next (s.accErr r 0x0702 a)) ∧
        (foreign r p i o = false → isReg p i o = false → exec (.registerWrite r a n v) s = .next (s.accErr r 0x0703 a)) ∧
        (foreign r p i o = false → isReg p i o = true → (s.privileged r = true ∨ (fieldsAt p i o n).all (fun x => !x.1.priv) = true) →
          exec (.registerWrite r a n v) s = .next (((fieldsAt p i o n).filter (fun x => !ownRow.contains x.1)).foldl (fun s x =>
            s.writeField r a view x.1 i x.2 (x.1.part x.2 o n v.toNat).1 (x.1.part x.2 o n v.toNat).2) s)) ∧
        (foreign r p i o = false → isReg p i o = true → s.privileged r = false → (fieldsAt p i o n).any (fun x => x.1.priv) = true →
          exec (.registerWrite r a n v) s = .next ((((fieldsAt p i o n).filter (fun x => !ownRow.contains x.1 && !x.1.priv)).foldl
            (fun s x => s.writeField r a view x.1 i x.2 (x.1.part x.2 o n v.toNat).1 (x.1.part x.2 o n v.toNat).2) s).accErr
              r 0x0702 a))) ∧
      (a % 8 = 0 → s.enabledPage p i = true → foreign r p i o = false → isReg p i o = true → p ≠ .rng →
        let s1 := s.emit (.read a (s.readWord p i o (s.privileged r) + s.secureBit r p o))
        ((s.privileged r = true ∨ (fieldsAt p i o 8).all (fun x => !x.1.priv) = true) →
          exec (.counterReadClear r a) s = .next (
            if view = 0 then ((fieldsAt p i o 8).filter (fun x => x.1.acc == .rc)).foldl (fun s x => s.takeCount x.1 i x.2) s1 else s1)) ∧
        (s.privileged r = false → (fieldsAt p i o 8).any (fun x => x.1.priv) = true →
          exec (.counterReadClear r a) s = .next ((
            if view = 0 then ((fieldsAt p i o 8).filter (fun x => x.1.acc == .rc && !x.1.priv)).foldl
              (fun s x => s.takeCount x.1 i x.2) s1 else s1).accErr r 0x0702 a))))) ∧
  (∀ (s : State) (r : Req) (a view i j m v : Nat) (f : Fld),
    let cur := s.rd f i j
    let put (x : Nat) : State := (s.wr f (s.fixed f x) i j).afterWrite f i
    (f.acc = .ro ∨ f.acc = .rc → s.writeField r a view f i j m v = s) ∧
    (f.acc = .w1c → v ≠ 0 → s.ctl.set.contains (f.key i 0) = false → s.ctl.next.find? (fun p => p.1 == f.key i 0) = none →
      s.writeField r a 0 f i j m v = s.wr f 0 i) ∧
    (f.acc = .w1c → v = 0 → s.writeField r a 0 f i j m v = s) ∧
    (f.acc = .rwl → s.locked f = true → s.writeField r a view f i j m v = s.accErr r 0x0701 a) ∧
    (f.acc = .rwl → s.locked f = false → s.writeField r a view f i j m v = put (aliasValue view cur m v)) ∧
    (f.acc = .wot → s.wot.contains (f.key i j) = true → s.writeField r a 0 f i j m v = s.accErr r 0x0701 a) ∧
    (f.acc = .wot → s.wot.contains (f.key i j) = false →
      s.writeField r a 0 f i j m v = { put (aliasValue 0 cur m v) with wot := f.key i j :: s.wot }) ∧
    (f.acc = .rw → s.writeField r a view f i j m v = put (aliasValue view cur m v)) ∧
    (f.acc = .wo → view ≠ 0 → s.writeField r a view f i j m v = s) ∧
    (s.ctl.was.lookup (f.key i j) = none → s.takeCount f i j = s.wr f 0 i j) ∧
    (∀ b, bit v b = true → bit (aliasValue 1 cur m v) b = true ∧ bit (aliasValue 2 cur m v) b = false ∧
      bit (aliasValue 3 cur m v) b = !bit cur b) ∧
    (∀ b, bit v b = false → bit (aliasValue 1 cur m v) b = bit cur b ∧ bit (aliasValue 2 cur m v) b = bit cur b ∧
      bit (aliasValue 3 cur m v) b = bit cur b)) ∧
  (∀ (s : State) (f : Fld) (v i j : Nat), s.tablesWf = true →
    (s.wr f v i j).rd f i j = v % 2 ^ f.w ∧ (s.wr f v i j).tablesWf = true ∧
    (∀ (g : Fld) (k l : Nat), g.key k l ≠ f.key i j → (s.wr f v i j).rd g k l = s.rd g k l))

/-! ## Invariants -/

/-- The device right after reset: PERST_N asserted, STAGE 0, PF0 alone, no register away from its reset value, every spindle
IDLE and zero, memory and tables empty, and no command waiting; the canonical forms hold (R391, R392, R406).
Rests on the model's own readings of log entries 5, 6 and 7. -/
def Obligations.ResetState : Prop :=
  State.reset.pins.perst = true ∧ State.reset.regs = [] ∧ State.reset.rd Reg.bootStage = 0 ∧ State.reset.pending = [] ∧
  State.reset.time = 0 ∧ State.reset.tiles = [] ∧ State.reset.tags = [] ∧ State.reset.rounds = [] ∧ State.reset.qps = [] ∧
  State.reset.windows = [] ∧ State.reset.twrs = [] ∧ State.reset.ctrs = [] ∧ State.reset.spindles = List.replicate 32 {} ∧
  ({} : Spindle).s.all (· == 0) = true ∧ ({} : Spindle).uq = [] ∧
  (List.range 64).all (fun f => (State.reset.fn f).exists_ == (f == 0)) = true ∧
  State.reset.memWf = true ∧ State.reset.tablesWf = true

/-- Every step keeps the byte memories (tiles, host memory, scratch) in canonical form. -/
def Obligations.StepKeepsMemories : Prop := ∀ s t : State, s.memWf = true → step s = .next t → t.memWf = true

/-- Every step keeps the tables (register fields, tags, lock counters, drain counts, window generations, eviction counts) in
canonical form. -/
def Obligations.StepKeepsTables : Prop := ∀ s t : State, s.tablesWf = true → step s = .next t → t.tablesWf = true

/-- No command clears a fuse: life-cycle bits stay set, and the versions, boots and repairs burned never go back (R328, R342,
R343, R440). -/
def Obligations.FusesOnlyBurn : Prop :=
  ∀ s t : State, step s = .next t →
    (∀ b, bit s.otp.lc b = true → bit t.otp.lc b = true) ∧ s.otp.svn ≤ t.otp.svn ∧ s.otp.boots ≤ t.otp.boots ∧
    (∃ l, t.otp.repairs = s.otp.repairs ++ l) ∧ t.otp.dieId = s.otp.dieId ∧ t.otp.gradeE = s.otp.gradeE ∧
    t.otp.anchor = s.otp.anchor
end

