-- ==== Sys2Proof/Laws/Sparse.lean ====
section
/-! SUPPORT. Laws of the sparse memories: the canonical form is kept by every operation, a read after a write to the same key
gives the value written, and a write leaves every other key alone. -/
namespace Sys2Proof.Machine
open Sys2Proof
variable {α : Type}

/-- A key below every listed key reads as unlisted. -/
theorem Sparse.get_of_below (d : α) (m : List (Nat × α)) (k : Nat) (h : ∀ p ∈ m, k < p.1) : Sparse.get d m k = d := by
  induction m with
  | nil => rfl
  | cons p m ih =>
    obtain ⟨k', v⟩ := p
    have h1 : k < k' := h (k', v) (by simp)
    simp only [Sparse.get, if_neg (Nat.ne_of_gt h1)]
    exact ih (fun q hq => h q (by simp [hq]))

/-- Keys of a map after a write: the old ones and the one written. -/
theorem Sparse.mem_set [DecidableEq α] (d : α) (m : List (Nat × α)) (k : Nat) (v : α) (p : Nat × α)
    (h : p ∈ Sparse.set d m k v) : p ∈ m ∨ (p = (k, v) ∧ v ≠ d) := by
  induction m with
  | nil =>
    by_cases hv : v = d <;> simp_all [Sparse.set]
  | cons q m ih =>
    obtain ⟨k', v'⟩ := q
    simp only [Sparse.set] at h
    split at h
    · split at h
      · exact .inl h
      · rename_i hv
        rcases List.mem_cons.mp h with h | h
        · exact .inr ⟨h, hv⟩
        · exact .inl h
    · split at h
      · split at h
        · exact .inl (List.mem_cons_of_mem _ h)
        · rename_i hv
          rcases List.mem_cons.mp h with h | h
          · exact .inr ⟨h, hv⟩
          · exact .inl (List.mem_cons_of_mem _ h)
      · rcases List.mem_cons.mp h with h | h
        · exact .inl (by simp [h])
        · rcases ih h with h | h
          · exact .inl (List.mem_cons_of_mem _ h)
          · exact .inr h

/-- A write keeps the canonical form. -/
theorem Sparse.set_wf [DecidableEq α] (d : α) (m : List (Nat × α)) (k : Nat) (v : α) (h : Sparse.wf d m = true) :
    Sparse.wf d (Sparse.set d m k v) = true := by
  induction m with
  | nil => by_cases hv : v = d <;> simp [Sparse.set, Sparse.wf, hv]
  | cons q m ih =>
    obtain ⟨k', v'⟩ := q
    have hm : Sparse.wf d m = true := by simp only [Sparse.wf, Bool.and_eq_true] at h; exact h.2
    have hv' : v' ≠ d := by simp only [Sparse.wf, Bool.and_eq_true, decide_eq_true_eq] at h; exact h.1.1
    have hall : ∀ p ∈ m, k' < p.1 := by
      simp only [Sparse.wf, Bool.and_eq_true, List.all_eq_true, decide_eq_true_eq] at h; exact h.1.2
    simp only [Sparse.set]
    split
    · rename_i hk
      split
      · exact h
      · rename_i hv
        simp only [Sparse.wf, Bool.and_eq_true, List.all_eq_true, decide_eq_true_eq]
        refine ⟨⟨hv, fun p hp => ?_⟩, ⟨hv', hall⟩, hm⟩
        rcases List.mem_cons.mp hp with hp | hp
        · simpa [hp] using hk
        · exact Nat.lt_trans hk (hall p hp)
    · split
      · rename_i hk
        split
        · exact hm
        · rename_i hv
          simp only [Sparse.wf, Bool.and_eq_true, List.all_eq_true, decide_eq_true_eq]
          exact ⟨⟨hv, fun p hp => hk ▸ hall p hp⟩, hm⟩
      · rename_i h1 h2
        simp only [Sparse.wf, Bool.and_eq_true, List.all_eq_true, decide_eq_true_eq]
        refine ⟨⟨hv', fun p hp => ?_⟩, ih hm⟩
        rcases Sparse.mem_set d m k v p hp with hp | hp
        · exact hall p hp
        · rw [hp.1]; exact Nat.lt_of_le_of_ne (Nat.le_of_not_lt h1) (Ne.symm h2)

/-- Forgetting keys keeps the canonical form. -/
theorem Sparse.filter_wf [DecidableEq α] (d : α) (m : List (Nat × α)) (c : Nat × α → Bool) (h : Sparse.wf d m = true) :
    Sparse.wf d (m.filter c) = true := by
  induction m with
  | nil => exact h
  | cons q m ih =>
    obtain ⟨k', v'⟩ := q
    simp only [Sparse.wf, Bool.and_eq_true, List.all_eq_true, decide_eq_true_eq] at h
    simp only [List.filter]
    split
    · simp only [Sparse.wf, Bool.and_eq_true, List.all_eq_true, decide_eq_true_eq]
      exact ⟨⟨h.1.1, fun p hp => h.1.2 p (List.mem_filter.mp hp).1⟩, ih h.2⟩
    · exact ih h.2

/-- Clearing a range keeps the canonical form. -/
theorem Sparse.clear_wf [DecidableEq α] (d : α) (m : List (Nat × α)) (lo hi : Nat) (h : Sparse.wf d m = true) :
    Sparse.wf d (Sparse.clear m lo hi) = true := Sparse.filter_wf d m _ h

/-- A read of another key gives what it gave before the write, whatever an unlisted key is read as. -/
theorem Sparse.get_set_ne [DecidableEq α] (e d : α) (m : List (Nat × α)) (k i : Nat) (v : α) (h : i ≠ k) :
    Sparse.get e (Sparse.set d m k v) i = Sparse.get e m i := by
  induction m with
  | nil => by_cases hv : v = d <;> simp [Sparse.set, Sparse.get, hv, Ne.symm h]
  | cons q m ih =>
    obtain ⟨k', v'⟩ := q
    simp only [Sparse.set]
    split
    · split
      · rfl
      · simp [Sparse.get, Ne.symm h]
    · split
      · rename_i hk
        subst hk
        split <;> simp [Sparse.get, Ne.symm h]
      · simp only [Sparse.get, ih]

/-- A read of the key written gives the value written, in a map of rising keys. -/
theorem Sparse.get_set_self [DecidableEq α] (d : α) (m : List (Nat × α)) (k : Nat) (v : α) (h : Sparse.wf d m = true) :
    Sparse.get d (Sparse.set d m k v) k = v := by
  induction m with
  | nil => by_cases hv : v = d <;> simp [Sparse.set, Sparse.get, hv]
  | cons q m ih =>
    obtain ⟨k', v'⟩ := q
    have hm : Sparse.wf d m = true := by simp only [Sparse.wf, Bool.and_eq_true] at h; exact h.2
    have hall : ∀ p ∈ m, k' < p.1 := by
      simp only [Sparse.wf, Bool.and_eq_true, List.all_eq_true, decide_eq_true_eq] at h; exact h.1.2
    simp only [Sparse.set]
    split
    · rename_i hk
      split
      · rename_i hv
        rw [Sparse.get_of_below d _ k ?_, hv]
        intro p hp
        rcases List.mem_cons.mp hp with hp | hp
        · simpa [hp] using hk
        · exact Nat.lt_trans hk (hall p hp)
      · simp [Sparse.get]
    · split
      · rename_i hk
        split
        · rename_i hv
          rw [Sparse.get_of_below d _ k (fun p hp => hk ▸ hall p hp), hv]
        · simp [Sparse.get]
      · rename_i h2
        simp only [Sparse.get, if_neg (Ne.symm h2)]
        exact ih hm

/-- A run of writes keeps the canonical form. -/
theorem writeBytes_wf (m : List (Nat × Byte)) (a : Nat) (bs : Bytes) (h : Sparse.wf 0 m = true) :
    Sparse.wf 0 (writeBytes m a bs) = true := by
  induction bs generalizing m a with
  | nil => exact h
  | cons b bs ih => exact ih _ _ (Sparse.set_wf 0 m a b h)

/-- A run of writes leaves every byte outside it alone. -/
theorem writeBytes_frame (m : List (Nat × Byte)) (a : Nat) (bs : Bytes) (k : Nat) (h : k < a ∨ a + bs.length ≤ k) :
    Sparse.get 0 (writeBytes m a bs) k = Sparse.get 0 m k := by
  induction bs generalizing m a with
  | nil => rfl
  | cons b bs ih =>
    simp only [List.length_cons] at h
    rw [writeBytes, ih _ _ (by omega), Sparse.get_set_ne 0 0 m a k b (by omega)]

/-- A run of writes reads back. -/
theorem writeBytes_get (m : List (Nat × Byte)) (a : Nat) (bs : Bytes) (i : Nat) (h : Sparse.wf 0 m = true)
    (hi : i < bs.length) : Sparse.get 0 (writeBytes m a bs) (a + i) = bs.getD i 0 := by
  induction bs generalizing m a i with
  | nil => simp at hi
  | cons b bs ih =>
    cases i with
    | zero =>
      rw [writeBytes, writeBytes_frame _ _ _ _ (by omega)]
      simpa using Sparse.get_set_self 0 m a b h
    | succ i =>
      have := ih (Sparse.set 0 m a b) (a + 1) i (Sparse.set_wf 0 m a b h) (by simpa using hi)
      rw [show a + (i + 1) = a + 1 + i by omega]
      simpa [writeBytes] using this

/-- A change at one place reads back there. -/
theorem updAt_get (l : List α) (i : Nat) (g : α → α) (d : α) (h : i < l.length) : (updAt l i g).getD i d = g (l.getD i d) := by
  induction l generalizing i with
  | nil => simp at h
  | cons a l ih =>
    cases i with
    | zero => simp [updAt]
    | succ i => simpa [updAt] using ih i (by simpa using h)

/-- A change at one place leaves every other place alone. -/
theorem updAt_ne (l : List α) (i k : Nat) (g : α → α) (d : α) (h : k ≠ i) : (updAt l i g).getD k d = l.getD k d := by
  induction l generalizing i k with
  | nil => rfl
  | cons a l ih =>
    cases i with
    | zero =>
      cases k with
      | zero => exact absurd rfl h
      | succ k => simp [updAt]
    | succ i =>
      cases k with
      | zero => simp [updAt]
      | succ k => simpa [updAt] using ih i k (by omega)

/-- A change keeps the number of items. -/
@[simp] theorem updAt_length (l : List α) (i : Nat) (g : α → α) : (updAt l i g).length = l.length := by
  induction l generalizing i with
  | nil => rfl
  | cons a l ih => cases i <;> simp [updAt, ih]

/-- Two changes at one place are one. -/
theorem updAt_updAt (l : List α) (i : Nat) (g h : α → α) : updAt (updAt l i g) i h = updAt l i (fun x => h (g x)) := by
  induction l generalizing i with
  | nil => rfl
  | cons a l ih => cases i <;> simp [updAt, ih]

/-- The first item that satisfies `p` after a change that keeps `p`. -/
theorem find?_updIf (l : List α) (p : α → Bool) (g : α → α) (hg : ∀ x, p x = true → p (g x) = true) :
    (updIf l p g).find? p = (l.find? p).map g := by
  induction l with
  | nil => rfl
  | cons a l ih =>
    simp only [updIf, List.map_cons] at *
    cases h : p a
    · simp [h, ih]
    · simp [h, hg]

end Sys2Proof.Machine
end

