-- ==== Sys2Proof/Laws/State.lean ====
section
/-! SUPPORT. What each update of State changes and what it leaves alone: one lemma for each field and each reader. -/
namespace Sys2Proof.Machine
open Sys2Proof

/-! ## wr changes regs alone -/

@[simp] theorem State.wr_time (s : State) (f : Fld) (v i j : Nat) : (s.wr f v i j).time = s.time := rfl
@[simp] theorem State.wr_upTime (s : State) (f : Fld) (v i j : Nat) : (s.wr f v i j).upTime = s.upTime := rfl
@[simp] theorem State.wr_holding (s : State) (f : Fld) (v i j : Nat) : (s.wr f v i j).holding = s.holding := rfl
@[simp] theorem State.wr_pins (s : State) (f : Fld) (v i j : Nat) : (s.wr f v i j).pins = s.pins := rfl
@[simp] theorem State.wr_otp (s : State) (f : Fld) (v i j : Nat) : (s.wr f v i j).otp = s.otp := rfl
@[simp] theorem State.wr_funcs (s : State) (f : Fld) (v i j : Nat) : (s.wr f v i j).funcs = s.funcs := rfl
@[simp] theorem State.wr_spindles (s : State) (f : Fld) (v i j : Nat) : (s.wr f v i j).spindles = s.spindles := rfl
@[simp] theorem State.wr_phys (s : State) (f : Fld) (v i j : Nat) : (s.wr f v i j).phys = s.phys := rfl
@[simp] theorem State.wr_tiles (s : State) (f : Fld) (v i j : Nat) : (s.wr f v i j).tiles = s.tiles := rfl
@[simp] theorem State.wr_tags (s : State) (f : Fld) (v i j : Nat) : (s.wr f v i j).tags = s.tags := rfl
@[simp] theorem State.wr_drainsOut (s : State) (f : Fld) (v i j : Nat) : (s.wr f v i j).drainsOut = s.drainsOut := rfl
@[simp] theorem State.wr_staged (s : State) (f : Fld) (v i j : Nat) : (s.wr f v i j).staged = s.staged := rfl
@[simp] theorem State.wr_remap (s : State) (f : Fld) (v i j : Nat) : (s.wr f v i j).remap = s.remap := rfl
@[simp] theorem State.wr_upsets (s : State) (f : Fld) (v i j : Nat) : (s.wr f v i j).upsets = s.upsets := rfl
@[simp] theorem State.wr_scrubHold (s : State) (f : Fld) (v i j : Nat) : (s.wr f v i j).scrubHold = s.scrubHold := rfl
@[simp] theorem State.wr_rounds (s : State) (f : Fld) (v i j : Nat) : (s.wr f v i j).rounds = s.rounds := rfl
@[simp] theorem State.wr_queries (s : State) (f : Fld) (v i j : Nat) : (s.wr f v i j).queries = s.queries := rfl
@[simp] theorem State.wr_ctrs (s : State) (f : Fld) (v i j : Nat) : (s.wr f v i j).ctrs = s.ctrs := rfl
@[simp] theorem State.wr_windows (s : State) (f : Fld) (v i j : Nat) : (s.wr f v i j).windows = s.windows := rfl
@[simp] theorem State.wr_winGens (s : State) (f : Fld) (v i j : Nat) : (s.wr f v i j).winGens = s.winGens := rfl
@[simp] theorem State.wr_twrs (s : State) (f : Fld) (v i j : Nat) : (s.wr f v i j).twrs = s.twrs := rfl
@[simp] theorem State.wr_twrOrder (s : State) (f : Fld) (v i j : Nat) : (s.wr f v i j).twrOrder = s.twrOrder := rfl
@[simp] theorem State.wr_qps (s : State) (f : Fld) (v i j : Nat) : (s.wr f v i j).qps = s.qps := rfl
@[simp] theorem State.wr_evictions (s : State) (f : Fld) (v i j : Nat) : (s.wr f v i j).evictions = s.evictions := rfl
@[simp] theorem State.wr_gates (s : State) (f : Fld) (v i j : Nat) : (s.wr f v i j).gates = s.gates := rfl
@[simp] theorem State.wr_rng (s : State) (f : Fld) (v i j : Nat) : (s.wr f v i j).rng = s.rng := rfl
@[simp] theorem State.wr_nalam (s : State) (f : Fld) (v i j : Nat) : (s.wr f v i j).nalam = s.nalam := rfl
@[simp] theorem State.wr_ply (s : State) (f : Fld) (v i j : Nat) : (s.wr f v i j).ply = s.ply := rfl
@[simp] theorem State.wr_sync (s : State) (f : Fld) (v i j : Nat) : (s.wr f v i j).sync = s.sync := rfl
@[simp] theorem State.wr_weir (s : State) (f : Fld) (v i j : Nat) : (s.wr f v i j).weir = s.weir := rfl
@[simp] theorem State.wr_bist (s : State) (f : Fld) (v i j : Nat) : (s.wr f v i j).bist = s.bist := rfl
@[simp] theorem State.wr_tap (s : State) (f : Fld) (v i j : Nat) : (s.wr f v i j).tap = s.tap := rfl
@[simp] theorem State.wr_books (s : State) (f : Fld) (v i j : Nat) : (s.wr f v i j).books = s.books := rfl
@[simp] theorem State.wr_host (s : State) (f : Fld) (v i j : Nat) : (s.wr f v i j).host = s.host := rfl
@[simp] theorem State.wr_ckpts (s : State) (f : Fld) (v i j : Nat) : (s.wr f v i j).ckpts = s.ckpts := rfl
@[simp] theorem State.wr_out (s : State) (f : Fld) (v i j : Nat) : (s.wr f v i j).out = s.out := rfl
@[simp] theorem State.wr_fresh (s : State) (f : Fld) (v i j : Nat) : (s.wr f v i j).fresh = s.fresh := rfl
@[simp] theorem State.wr_wot (s : State) (f : Fld) (v i j : Nat) : (s.wr f v i j).wot = s.wot := rfl
@[simp] theorem State.wr_combines (s : State) (f : Fld) (v i j : Nat) : (s.wr f v i j).combines = s.combines := rfl
@[simp] theorem State.wr_flights (s : State) (f : Fld) (v i j : Nat) : (s.wr f v i j).flights = s.flights := rfl
@[simp] theorem State.wr_pages (s : State) (f : Fld) (v i j : Nat) : (s.wr f v i j).pages = s.pages := rfl
@[simp] theorem State.wr_tagUpsets (s : State) (f : Fld) (v i j : Nat) : (s.wr f v i j).tagUpsets = s.tagUpsets := rfl
@[simp] theorem State.wr_ctrCyc (s : State) (f : Fld) (v i j : Nat) : (s.wr f v i j).ctrCyc = s.ctrCyc := rfl
@[simp] theorem State.wr_twrDue (s : State) (f : Fld) (v i j : Nat) : (s.wr f v i j).twrDue = s.twrDue := rfl
@[simp] theorem State.wr_posts (s : State) (f : Fld) (v i j : Nat) : (s.wr f v i j).posts = s.posts := rfl
@[simp] theorem State.wr_shakes (s : State) (f : Fld) (v i j : Nat) : (s.wr f v i j).shakes = s.shakes := rfl
@[simp] theorem State.wr_shakeNext (s : State) (f : Fld) (v i j : Nat) : (s.wr f v i j).shakeNext = s.shakeNext := rfl
@[simp] theorem State.wr_ctl (s : State) (f : Fld) (v i j : Nat) : (s.wr f v i j).ctl = s.ctl := rfl
@[simp] theorem State.wr_fwTurn (s : State) (f : Fld) (v i j : Nat) : (s.wr f v i j).fwTurn = s.fwTurn := rfl
@[simp] theorem State.wr_modulus (s : State) (f : Fld) (v i j : Nat) : (s.wr f v i j).modulus = s.modulus := rfl
@[simp] theorem State.wr_rots (s : State) (f : Fld) (v i j : Nat) : (s.wr f v i j).rots = s.rots := rfl
@[simp] theorem State.wr_partRev (s : State) (f : Fld) (v i j : Nat) : (s.wr f v i j).partRev = s.partRev := rfl
@[simp] theorem State.wr_pending (s : State) (f : Fld) (v i j : Nat) : (s.wr f v i j).pending = s.pending := rfl
@[simp] theorem State.wr_fn (s : State) (f : Fld) (v i j : Nat) (k0 : Nat) : (s.wr f v i j).fn k0 = s.fn k0 := rfl
@[simp] theorem State.wr_spin (s : State) (f : Fld) (v i j : Nat) (k0 : Nat) : (s.wr f v i j).spin k0 = s.spin k0 := rfl
@[simp] theorem State.wr_round (s : State) (f : Fld) (v i j : Nat) (a0 b0 : Nat) : (s.wr f v i j).round? a0 b0 = s.round? a0 b0 := rfl
@[simp] theorem State.wr_qp (s : State) (f : Fld) (v i j : Nat) (k0 : Nat) : (s.wr f v i j).qp? k0 = s.qp? k0 := rfl
@[simp] theorem State.wr_tag (s : State) (f : Fld) (v i j : Nat) (k0 : Nat) : (s.wr f v i j).tag k0 = s.tag k0 := rfl

/-! ## updFn changes funcs alone -/

@[simp] theorem State.updFn_time (s : State) (f : Nat) (g : Func → Func) : (s.updFn f g).time = s.time := rfl
@[simp] theorem State.updFn_upTime (s : State) (f : Nat) (g : Func → Func) : (s.updFn f g).upTime = s.upTime := rfl
@[simp] theorem State.updFn_regs (s : State) (f : Nat) (g : Func → Func) : (s.updFn f g).regs = s.regs := rfl
@[simp] theorem State.updFn_holding (s : State) (f : Nat) (g : Func → Func) : (s.updFn f g).holding = s.holding := rfl
@[simp] theorem State.updFn_pins (s : State) (f : Nat) (g : Func → Func) : (s.updFn f g).pins = s.pins := rfl
@[simp] theorem State.updFn_otp (s : State) (f : Nat) (g : Func → Func) : (s.updFn f g).otp = s.otp := rfl
@[simp] theorem State.updFn_spindles (s : State) (f : Nat) (g : Func → Func) : (s.updFn f g).spindles = s.spindles := rfl
@[simp] theorem State.updFn_phys (s : State) (f : Nat) (g : Func → Func) : (s.updFn f g).phys = s.phys := rfl
@[simp] theorem State.updFn_tiles (s : State) (f : Nat) (g : Func → Func) : (s.updFn f g).tiles = s.tiles := rfl
@[simp] theorem State.updFn_tags (s : State) (f : Nat) (g : Func → Func) : (s.updFn f g).tags = s.tags := rfl
@[simp] theorem State.updFn_drainsOut (s : State) (f : Nat) (g : Func → Func) : (s.updFn f g).drainsOut = s.drainsOut := rfl
@[simp] theorem State.updFn_staged (s : State) (f : Nat) (g : Func → Func) : (s.updFn f g).staged = s.staged := rfl
@[simp] theorem State.updFn_remap (s : State) (f : Nat) (g : Func → Func) : (s.updFn f g).remap = s.remap := rfl
@[simp] theorem State.updFn_upsets (s : State) (f : Nat) (g : Func → Func) : (s.updFn f g).upsets = s.upsets := rfl
@[simp] theorem State.updFn_scrubHold (s : State) (f : Nat) (g : Func → Func) : (s.updFn f g).scrubHold = s.scrubHold := rfl
@[simp] theorem State.updFn_rounds (s : State) (f : Nat) (g : Func → Func) : (s.updFn f g).rounds = s.rounds := rfl
@[simp] theorem State.updFn_queries (s : State) (f : Nat) (g : Func → Func) : (s.updFn f g).queries = s.queries := rfl
@[simp] theorem State.updFn_ctrs (s : State) (f : Nat) (g : Func → Func) : (s.updFn f g).ctrs = s.ctrs := rfl
@[simp] theorem State.updFn_windows (s : State) (f : Nat) (g : Func → Func) : (s.updFn f g).windows = s.windows := rfl
@[simp] theorem State.updFn_winGens (s : State) (f : Nat) (g : Func → Func) : (s.updFn f g).winGens = s.winGens := rfl
@[simp] theorem State.updFn_twrs (s : State) (f : Nat) (g : Func → Func) : (s.updFn f g).twrs = s.twrs := rfl
@[simp] theorem State.updFn_twrOrder (s : State) (f : Nat) (g : Func → Func) : (s.updFn f g).twrOrder = s.twrOrder := rfl
@[simp] theorem State.updFn_qps (s : State) (f : Nat) (g : Func → Func) : (s.updFn f g).qps = s.qps := rfl
@[simp] theorem State.updFn_evictions (s : State) (f : Nat) (g : Func → Func) : (s.updFn f g).evictions = s.evictions := rfl
@[simp] theorem State.updFn_gates (s : State) (f : Nat) (g : Func → Func) : (s.updFn f g).gates = s.gates := rfl
@[simp] theorem State.updFn_rng (s : State) (f : Nat) (g : Func → Func) : (s.updFn f g).rng = s.rng := rfl
@[simp] theorem State.updFn_nalam (s : State) (f : Nat) (g : Func → Func) : (s.updFn f g).nalam = s.nalam := rfl
@[simp] theorem State.updFn_ply (s : State) (f : Nat) (g : Func → Func) : (s.updFn f g).ply = s.ply := rfl
@[simp] theorem State.updFn_sync (s : State) (f : Nat) (g : Func → Func) : (s.updFn f g).sync = s.sync := rfl
@[simp] theorem State.updFn_weir (s : State) (f : Nat) (g : Func → Func) : (s.updFn f g).weir = s.weir := rfl
@[simp] theorem State.updFn_bist (s : State) (f : Nat) (g : Func → Func) : (s.updFn f g).bist = s.bist := rfl
@[simp] theorem State.updFn_tap (s : State) (f : Nat) (g : Func → Func) : (s.updFn f g).tap = s.tap := rfl
@[simp] theorem State.updFn_books (s : State) (f : Nat) (g : Func → Func) : (s.updFn f g).books = s.books := rfl
@[simp] theorem State.updFn_host (s : State) (f : Nat) (g : Func → Func) : (s.updFn f g).host = s.host := rfl
@[simp] theorem State.updFn_ckpts (s : State) (f : Nat) (g : Func → Func) : (s.updFn f g).ckpts = s.ckpts := rfl
@[simp] theorem State.updFn_out (s : State) (f : Nat) (g : Func → Func) : (s.updFn f g).out = s.out := rfl
@[simp] theorem State.updFn_fresh (s : State) (f : Nat) (g : Func → Func) : (s.updFn f g).fresh = s.fresh := rfl
@[simp] theorem State.updFn_wot (s : State) (f : Nat) (g : Func → Func) : (s.updFn f g).wot = s.wot := rfl
@[simp] theorem State.updFn_combines (s : State) (f : Nat) (g : Func → Func) : (s.updFn f g).combines = s.combines := rfl
@[simp] theorem State.updFn_flights (s : State) (f : Nat) (g : Func → Func) : (s.updFn f g).flights = s.flights := rfl
@[simp] theorem State.updFn_pages (s : State) (f : Nat) (g : Func → Func) : (s.updFn f g).pages = s.pages := rfl
@[simp] theorem State.updFn_tagUpsets (s : State) (f : Nat) (g : Func → Func) : (s.updFn f g).tagUpsets = s.tagUpsets := rfl
@[simp] theorem State.updFn_ctrCyc (s : State) (f : Nat) (g : Func → Func) : (s.updFn f g).ctrCyc = s.ctrCyc := rfl
@[simp] theorem State.updFn_twrDue (s : State) (f : Nat) (g : Func → Func) : (s.updFn f g).twrDue = s.twrDue := rfl
@[simp] theorem State.updFn_posts (s : State) (f : Nat) (g : Func → Func) : (s.updFn f g).posts = s.posts := rfl
@[simp] theorem State.updFn_shakes (s : State) (f : Nat) (g : Func → Func) : (s.updFn f g).shakes = s.shakes := rfl
@[simp] theorem State.updFn_shakeNext (s : State) (f : Nat) (g : Func → Func) : (s.updFn f g).shakeNext = s.shakeNext := rfl
@[simp] theorem State.updFn_ctl (s : State) (f : Nat) (g : Func → Func) : (s.updFn f g).ctl = s.ctl := rfl
@[simp] theorem State.updFn_fwTurn (s : State) (f : Nat) (g : Func → Func) : (s.updFn f g).fwTurn = s.fwTurn := rfl
@[simp] theorem State.updFn_modulus (s : State) (f : Nat) (g : Func → Func) : (s.updFn f g).modulus = s.modulus := rfl
@[simp] theorem State.updFn_rots (s : State) (f : Nat) (g : Func → Func) : (s.updFn f g).rots = s.rots := rfl
@[simp] theorem State.updFn_partRev (s : State) (f : Nat) (g : Func → Func) : (s.updFn f g).partRev = s.partRev := rfl
@[simp] theorem State.updFn_pending (s : State) (f : Nat) (g : Func → Func) : (s.updFn f g).pending = s.pending := rfl
@[simp] theorem State.updFn_rd (s : State) (f : Nat) (g : Func → Func) (f0 : Fld) (i0 j0 : Nat) : (s.updFn f g).rd f0 i0 j0 = s.rd f0 i0 j0 := rfl
@[simp] theorem State.updFn_rdb (s : State) (f : Nat) (g : Func → Func) (f0 : Fld) (i0 : Nat) : (s.updFn f g).rdb f0 i0 = s.rdb f0 i0 := rfl
@[simp] theorem State.updFn_spin (s : State) (f : Nat) (g : Func → Func) (k0 : Nat) : (s.updFn f g).spin k0 = s.spin k0 := rfl
@[simp] theorem State.updFn_round (s : State) (f : Nat) (g : Func → Func) (a0 b0 : Nat) : (s.updFn f g).round? a0 b0 = s.round? a0 b0 := rfl
@[simp] theorem State.updFn_qp (s : State) (f : Nat) (g : Func → Func) (k0 : Nat) : (s.updFn f g).qp? k0 = s.qp? k0 := rfl
@[simp] theorem State.updFn_tag (s : State) (f : Nat) (g : Func → Func) (k0 : Nat) : (s.updFn f g).tag k0 = s.tag k0 := rfl

/-! ## updSpin changes spindles alone -/

@[simp] theorem State.updSpin_time (s : State) (j : Nat) (g : Spindle → Spindle) : (s.updSpin j g).time = s.time := rfl
@[simp] theorem State.updSpin_upTime (s : State) (j : Nat) (g : Spindle → Spindle) : (s.updSpin j g).upTime = s.upTime := rfl
@[simp] theorem State.updSpin_regs (s : State) (j : Nat) (g : Spindle → Spindle) : (s.updSpin j g).regs = s.regs := rfl
@[simp] theorem State.updSpin_holding (s : State) (j : Nat) (g : Spindle → Spindle) : (s.updSpin j g).holding = s.holding := rfl
@[simp] theorem State.updSpin_pins (s : State) (j : Nat) (g : Spindle → Spindle) : (s.updSpin j g).pins = s.pins := rfl
@[simp] theorem State.updSpin_otp (s : State) (j : Nat) (g : Spindle → Spindle) : (s.updSpin j g).otp = s.otp := rfl
@[simp] theorem State.updSpin_funcs (s : State) (j : Nat) (g : Spindle → Spindle) : (s.updSpin j g).funcs = s.funcs := rfl
@[simp] theorem State.updSpin_phys (s : State) (j : Nat) (g : Spindle → Spindle) : (s.updSpin j g).phys = s.phys := rfl
@[simp] theorem State.updSpin_tiles (s : State) (j : Nat) (g : Spindle → Spindle) : (s.updSpin j g).tiles = s.tiles := rfl
@[simp] theorem State.updSpin_tags (s : State) (j : Nat) (g : Spindle → Spindle) : (s.updSpin j g).tags = s.tags := rfl
@[simp] theorem State.updSpin_drainsOut (s : State) (j : Nat) (g : Spindle → Spindle) : (s.updSpin j g).drainsOut = s.drainsOut := rfl
@[simp] theorem State.updSpin_staged (s : State) (j : Nat) (g : Spindle → Spindle) : (s.updSpin j g).staged = s.staged := rfl
@[simp] theorem State.updSpin_remap (s : State) (j : Nat) (g : Spindle → Spindle) : (s.updSpin j g).remap = s.remap := rfl
@[simp] theorem State.updSpin_upsets (s : State) (j : Nat) (g : Spindle → Spindle) : (s.updSpin j g).upsets = s.upsets := rfl
@[simp] theorem State.updSpin_scrubHold (s : State) (j : Nat) (g : Spindle → Spindle) : (s.updSpin j g).scrubHold = s.scrubHold := rfl
@[simp] theorem State.updSpin_rounds (s : State) (j : Nat) (g : Spindle → Spindle) : (s.updSpin j g).rounds = s.rounds := rfl
@[simp] theorem State.updSpin_queries (s : State) (j : Nat) (g : Spindle → Spindle) : (s.updSpin j g).queries = s.queries := rfl
@[simp] theorem State.updSpin_ctrs (s : State) (j : Nat) (g : Spindle → Spindle) : (s.updSpin j g).ctrs = s.ctrs := rfl
@[simp] theorem State.updSpin_windows (s : State) (j : Nat) (g : Spindle → Spindle) : (s.updSpin j g).windows = s.windows := rfl
@[simp] theorem State.updSpin_winGens (s : State) (j : Nat) (g : Spindle → Spindle) : (s.updSpin j g).winGens = s.winGens := rfl
@[simp] theorem State.updSpin_twrs (s : State) (j : Nat) (g : Spindle → Spindle) : (s.updSpin j g).twrs = s.twrs := rfl
@[simp] theorem State.updSpin_twrOrder (s : State) (j : Nat) (g : Spindle → Spindle) : (s.updSpin j g).twrOrder = s.twrOrder := rfl
@[simp] theorem State.updSpin_qps (s : State) (j : Nat) (g : Spindle → Spindle) : (s.updSpin j g).qps = s.qps := rfl
@[simp] theorem State.updSpin_evictions (s : State) (j : Nat) (g : Spindle → Spindle) : (s.updSpin j g).evictions = s.evictions := rfl
@[simp] theorem State.updSpin_gates (s : State) (j : Nat) (g : Spindle → Spindle) : (s.updSpin j g).gates = s.gates := rfl
@[simp] theorem State.updSpin_rng (s : State) (j : Nat) (g : Spindle → Spindle) : (s.updSpin j g).rng = s.rng := rfl
@[simp] theorem State.updSpin_nalam (s : State) (j : Nat) (g : Spindle → Spindle) : (s.updSpin j g).nalam = s.nalam := rfl
@[simp] theorem State.updSpin_ply (s : State) (j : Nat) (g : Spindle → Spindle) : (s.updSpin j g).ply = s.ply := rfl
@[simp] theorem State.updSpin_sync (s : State) (j : Nat) (g : Spindle → Spindle) : (s.updSpin j g).sync = s.sync := rfl
@[simp] theorem State.updSpin_weir (s : State) (j : Nat) (g : Spindle → Spindle) : (s.updSpin j g).weir = s.weir := rfl
@[simp] theorem State.updSpin_bist (s : State) (j : Nat) (g : Spindle → Spindle) : (s.updSpin j g).bist = s.bist := rfl
@[simp] theorem State.updSpin_tap (s : State) (j : Nat) (g : Spindle → Spindle) : (s.updSpin j g).tap = s.tap := rfl
@[simp] theorem State.updSpin_books (s : State) (j : Nat) (g : Spindle → Spindle) : (s.updSpin j g).books = s.books := rfl
@[simp] theorem State.updSpin_host (s : State) (j : Nat) (g : Spindle → Spindle) : (s.updSpin j g).host = s.host := rfl
@[simp] theorem State.updSpin_ckpts (s : State) (j : Nat) (g : Spindle → Spindle) : (s.updSpin j g).ckpts = s.ckpts := rfl
@[simp] theorem State.updSpin_out (s : State) (j : Nat) (g : Spindle → Spindle) : (s.updSpin j g).out = s.out := rfl
@[simp] theorem State.updSpin_fresh (s : State) (j : Nat) (g : Spindle → Spindle) : (s.updSpin j g).fresh = s.fresh := rfl
@[simp] theorem State.updSpin_wot (s : State) (j : Nat) (g : Spindle → Spindle) : (s.updSpin j g).wot = s.wot := rfl
@[simp] theorem State.updSpin_combines (s : State) (j : Nat) (g : Spindle → Spindle) : (s.updSpin j g).combines = s.combines := rfl
@[simp] theorem State.updSpin_flights (s : State) (j : Nat) (g : Spindle → Spindle) : (s.updSpin j g).flights = s.flights := rfl
@[simp] theorem State.updSpin_pages (s : State) (j : Nat) (g : Spindle → Spindle) : (s.updSpin j g).pages = s.pages := rfl
@[simp] theorem State.updSpin_tagUpsets (s : State) (j : Nat) (g : Spindle → Spindle) : (s.updSpin j g).tagUpsets = s.tagUpsets := rfl
@[simp] theorem State.updSpin_ctrCyc (s : State) (j : Nat) (g : Spindle → Spindle) : (s.updSpin j g).ctrCyc = s.ctrCyc := rfl
@[simp] theorem State.updSpin_twrDue (s : State) (j : Nat) (g : Spindle → Spindle) : (s.updSpin j g).twrDue = s.twrDue := rfl
@[simp] theorem State.updSpin_posts (s : State) (j : Nat) (g : Spindle → Spindle) : (s.updSpin j g).posts = s.posts := rfl
@[simp] theorem State.updSpin_shakes (s : State) (j : Nat) (g : Spindle → Spindle) : (s.updSpin j g).shakes = s.shakes := rfl
@[simp] theorem State.updSpin_shakeNext (s : State) (j : Nat) (g : Spindle → Spindle) : (s.updSpin j g).shakeNext = s.shakeNext := rfl
@[simp] theorem State.updSpin_ctl (s : State) (j : Nat) (g : Spindle → Spindle) : (s.updSpin j g).ctl = s.ctl := rfl
@[simp] theorem State.updSpin_fwTurn (s : State) (j : Nat) (g : Spindle → Spindle) : (s.updSpin j g).fwTurn = s.fwTurn := rfl
@[simp] theorem State.updSpin_modulus (s : State) (j : Nat) (g : Spindle → Spindle) : (s.updSpin j g).modulus = s.modulus := rfl
@[simp] theorem State.updSpin_rots (s : State) (j : Nat) (g : Spindle → Spindle) : (s.updSpin j g).rots = s.rots := rfl
@[simp] theorem State.updSpin_partRev (s : State) (j : Nat) (g : Spindle → Spindle) : (s.updSpin j g).partRev = s.partRev := rfl
@[simp] theorem State.updSpin_pending (s : State) (j : Nat) (g : Spindle → Spindle) : (s.updSpin j g).pending = s.pending := rfl
@[simp] theorem State.updSpin_rd (s : State) (j : Nat) (g : Spindle → Spindle) (f0 : Fld) (i0 j0 : Nat) : (s.updSpin j g).rd f0 i0 j0 = s.rd f0 i0 j0 := rfl
@[simp] theorem State.updSpin_rdb (s : State) (j : Nat) (g : Spindle → Spindle) (f0 : Fld) (i0 : Nat) : (s.updSpin j g).rdb f0 i0 = s.rdb f0 i0 := rfl
@[simp] theorem State.updSpin_fn (s : State) (j : Nat) (g : Spindle → Spindle) (k0 : Nat) : (s.updSpin j g).fn k0 = s.fn k0 := rfl
@[simp] theorem State.updSpin_round (s : State) (j : Nat) (g : Spindle → Spindle) (a0 b0 : Nat) : (s.updSpin j g).round? a0 b0 = s.round? a0 b0 := rfl
@[simp] theorem State.updSpin_qp (s : State) (j : Nat) (g : Spindle → Spindle) (k0 : Nat) : (s.updSpin j g).qp? k0 = s.qp? k0 := rfl
@[simp] theorem State.updSpin_tag (s : State) (j : Nat) (g : Spindle → Spindle) (k0 : Nat) : (s.updSpin j g).tag k0 = s.tag k0 := rfl

/-! ## updRound changes rounds alone -/

@[simp] theorem State.updRound_time (s : State) (f r : Nat) (g : Round → Round) : (s.updRound f r g).time = s.time := rfl
@[simp] theorem State.updRound_upTime (s : State) (f r : Nat) (g : Round → Round) : (s.updRound f r g).upTime = s.upTime := rfl
@[simp] theorem State.updRound_regs (s : State) (f r : Nat) (g : Round → Round) : (s.updRound f r g).regs = s.regs := rfl
@[simp] theorem State.updRound_holding (s : State) (f r : Nat) (g : Round → Round) : (s.updRound f r g).holding = s.holding := rfl
@[simp] theorem State.updRound_pins (s : State) (f r : Nat) (g : Round → Round) : (s.updRound f r g).pins = s.pins := rfl
@[simp] theorem State.updRound_otp (s : State) (f r : Nat) (g : Round → Round) : (s.updRound f r g).otp = s.otp := rfl
@[simp] theorem State.updRound_funcs (s : State) (f r : Nat) (g : Round → Round) : (s.updRound f r g).funcs = s.funcs := rfl
@[simp] theorem State.updRound_spindles (s : State) (f r : Nat) (g : Round → Round) : (s.updRound f r g).spindles = s.spindles := rfl
@[simp] theorem State.updRound_phys (s : State) (f r : Nat) (g : Round → Round) : (s.updRound f r g).phys = s.phys := rfl
@[simp] theorem State.updRound_tiles (s : State) (f r : Nat) (g : Round → Round) : (s.updRound f r g).tiles = s.tiles := rfl
@[simp] theorem State.updRound_tags (s : State) (f r : Nat) (g : Round → Round) : (s.updRound f r g).tags = s.tags := rfl
@[simp] theorem State.updRound_drainsOut (s : State) (f r : Nat) (g : Round → Round) : (s.updRound f r g).drainsOut = s.drainsOut := rfl
@[simp] theorem State.updRound_staged (s : State) (f r : Nat) (g : Round → Round) : (s.updRound f r g).staged = s.staged := rfl
@[simp] theorem State.updRound_remap (s : State) (f r : Nat) (g : Round → Round) : (s.updRound f r g).remap = s.remap := rfl
@[simp] theorem State.updRound_upsets (s : State) (f r : Nat) (g : Round → Round) : (s.updRound f r g).upsets = s.upsets := rfl
@[simp] theorem State.updRound_scrubHold (s : State) (f r : Nat) (g : Round → Round) : (s.updRound f r g).scrubHold = s.scrubHold := rfl
@[simp] theorem State.updRound_queries (s : State) (f r : Nat) (g : Round → Round) : (s.updRound f r g).queries = s.queries := rfl
@[simp] theorem State.updRound_ctrs (s : State) (f r : Nat) (g : Round → Round) : (s.updRound f r g).ctrs = s.ctrs := rfl
@[simp] theorem State.updRound_windows (s : State) (f r : Nat) (g : Round → Round) : (s.updRound f r g).windows = s.windows := rfl
@[simp] theorem State.updRound_winGens (s : State) (f r : Nat) (g : Round → Round) : (s.updRound f r g).winGens = s.winGens := rfl
@[simp] theorem State.updRound_twrs (s : State) (f r : Nat) (g : Round → Round) : (s.updRound f r g).twrs = s.twrs := rfl
@[simp] theorem State.updRound_twrOrder (s : State) (f r : Nat) (g : Round → Round) : (s.updRound f r g).twrOrder = s.twrOrder := rfl
@[simp] theorem State.updRound_qps (s : State) (f r : Nat) (g : Round → Round) : (s.updRound f r g).qps = s.qps := rfl
@[simp] theorem State.updRound_evictions (s : State) (f r : Nat) (g : Round → Round) : (s.updRound f r g).evictions = s.evictions := rfl
@[simp] theorem State.updRound_gates (s : State) (f r : Nat) (g : Round → Round) : (s.updRound f r g).gates = s.gates := rfl
@[simp] theorem State.updRound_rng (s : State) (f r : Nat) (g : Round → Round) : (s.updRound f r g).rng = s.rng := rfl
@[simp] theorem State.updRound_nalam (s : State) (f r : Nat) (g : Round → Round) : (s.updRound f r g).nalam = s.nalam := rfl
@[simp] theorem State.updRound_ply (s : State) (f r : Nat) (g : Round → Round) : (s.updRound f r g).ply = s.ply := rfl
@[simp] theorem State.updRound_sync (s : State) (f r : Nat) (g : Round → Round) : (s.updRound f r g).sync = s.sync := rfl
@[simp] theorem State.updRound_weir (s : State) (f r : Nat) (g : Round → Round) : (s.updRound f r g).weir = s.weir := rfl
@[simp] theorem State.updRound_bist (s : State) (f r : Nat) (g : Round → Round) : (s.updRound f r g).bist = s.bist := rfl
@[simp] theorem State.updRound_tap (s : State) (f r : Nat) (g : Round → Round) : (s.updRound f r g).tap = s.tap := rfl
@[simp] theorem State.updRound_books (s : State) (f r : Nat) (g : Round → Round) : (s.updRound f r g).books = s.books := rfl
@[simp] theorem State.updRound_host (s : State) (f r : Nat) (g : Round → Round) : (s.updRound f r g).host = s.host := rfl
@[simp] theorem State.updRound_ckpts (s : State) (f r : Nat) (g : Round → Round) : (s.updRound f r g).ckpts = s.ckpts := rfl
@[simp] theorem State.updRound_out (s : State) (f r : Nat) (g : Round → Round) : (s.updRound f r g).out = s.out := rfl
@[simp] theorem State.updRound_fresh (s : State) (f r : Nat) (g : Round → Round) : (s.updRound f r g).fresh = s.fresh := rfl
@[simp] theorem State.updRound_wot (s : State) (f r : Nat) (g : Round → Round) : (s.updRound f r g).wot = s.wot := rfl
@[simp] theorem State.updRound_combines (s : State) (f r : Nat) (g : Round → Round) : (s.updRound f r g).combines = s.combines := rfl
@[simp] theorem State.updRound_flights (s : State) (f r : Nat) (g : Round → Round) : (s.updRound f r g).flights = s.flights := rfl
@[simp] theorem State.updRound_pages (s : State) (f r : Nat) (g : Round → Round) : (s.updRound f r g).pages = s.pages := rfl
@[simp] theorem State.updRound_tagUpsets (s : State) (f r : Nat) (g : Round → Round) : (s.updRound f r g).tagUpsets = s.tagUpsets := rfl
@[simp] theorem State.updRound_ctrCyc (s : State) (f r : Nat) (g : Round → Round) : (s.updRound f r g).ctrCyc = s.ctrCyc := rfl
@[simp] theorem State.updRound_twrDue (s : State) (f r : Nat) (g : Round → Round) : (s.updRound f r g).twrDue = s.twrDue := rfl
@[simp] theorem State.updRound_posts (s : State) (f r : Nat) (g : Round → Round) : (s.updRound f r g).posts = s.posts := rfl
@[simp] theorem State.updRound_shakes (s : State) (f r : Nat) (g : Round → Round) : (s.updRound f r g).shakes = s.shakes := rfl
@[simp] theorem State.updRound_shakeNext (s : State) (f r : Nat) (g : Round → Round) : (s.updRound f r g).shakeNext = s.shakeNext := rfl
@[simp] theorem State.updRound_ctl (s : State) (f r : Nat) (g : Round → Round) : (s.updRound f r g).ctl = s.ctl := rfl
@[simp] theorem State.updRound_fwTurn (s : State) (f r : Nat) (g : Round → Round) : (s.updRound f r g).fwTurn = s.fwTurn := rfl
@[simp] theorem State.updRound_modulus (s : State) (f r : Nat) (g : Round → Round) : (s.updRound f r g).modulus = s.modulus := rfl
@[simp] theorem State.updRound_rots (s : State) (f r : Nat) (g : Round → Round) : (s.updRound f r g).rots = s.rots := rfl
@[simp] theorem State.updRound_partRev (s : State) (f r : Nat) (g : Round → Round) : (s.updRound f r g).partRev = s.partRev := rfl
@[simp] theorem State.updRound_pending (s : State) (f r : Nat) (g : Round → Round) : (s.updRound f r g).pending = s.pending := rfl
@[simp] theorem State.updRound_rd (s : State) (f r : Nat) (g : Round → Round) (f0 : Fld) (i0 j0 : Nat) : (s.updRound f r g).rd f0 i0 j0 = s.rd f0 i0 j0 := rfl
@[simp] theorem State.updRound_rdb (s : State) (f r : Nat) (g : Round → Round) (f0 : Fld) (i0 : Nat) : (s.updRound f r g).rdb f0 i0 = s.rdb f0 i0 := rfl
@[simp] theorem State.updRound_fn (s : State) (f r : Nat) (g : Round → Round) (k0 : Nat) : (s.updRound f r g).fn k0 = s.fn k0 := rfl
@[simp] theorem State.updRound_spin (s : State) (f r : Nat) (g : Round → Round) (k0 : Nat) : (s.updRound f r g).spin k0 = s.spin k0 := rfl
@[simp] theorem State.updRound_qp (s : State) (f r : Nat) (g : Round → Round) (k0 : Nat) : (s.updRound f r g).qp? k0 = s.qp? k0 := rfl
@[simp] theorem State.updRound_tag (s : State) (f r : Nat) (g : Round → Round) (k0 : Nat) : (s.updRound f r g).tag k0 = s.tag k0 := rfl

/-! ## updQp changes qps alone -/

@[simp] theorem State.updQp_time (s : State) (n : Nat) (g : Qp → Qp) : (s.updQp n g).time = s.time := rfl
@[simp] theorem State.updQp_upTime (s : State) (n : Nat) (g : Qp → Qp) : (s.updQp n g).upTime = s.upTime := rfl
@[simp] theorem State.updQp_regs (s : State) (n : Nat) (g : Qp → Qp) : (s.updQp n g).regs = s.regs := rfl
@[simp] theorem State.updQp_holding (s : State) (n : Nat) (g : Qp → Qp) : (s.updQp n g).holding = s.holding := rfl
@[simp] theorem State.updQp_pins (s : State) (n : Nat) (g : Qp → Qp) : (s.updQp n g).pins = s.pins := rfl
@[simp] theorem State.updQp_otp (s : State) (n : Nat) (g : Qp → Qp) : (s.updQp n g).otp = s.otp := rfl
@[simp] theorem State.updQp_funcs (s : State) (n : Nat) (g : Qp → Qp) : (s.updQp n g).funcs = s.funcs := rfl
@[simp] theorem State.updQp_spindles (s : State) (n : Nat) (g : Qp → Qp) : (s.updQp n g).spindles = s.spindles := rfl
@[simp] theorem State.updQp_phys (s : State) (n : Nat) (g : Qp → Qp) : (s.updQp n g).phys = s.phys := rfl
@[simp] theorem State.updQp_tiles (s : State) (n : Nat) (g : Qp → Qp) : (s.updQp n g).tiles = s.tiles := rfl
@[simp] theorem State.updQp_tags (s : State) (n : Nat) (g : Qp → Qp) : (s.updQp n g).tags = s.tags := rfl
@[simp] theorem State.updQp_drainsOut (s : State) (n : Nat) (g : Qp → Qp) : (s.updQp n g).drainsOut = s.drainsOut := rfl
@[simp] theorem State.updQp_staged (s : State) (n : Nat) (g : Qp → Qp) : (s.updQp n g).staged = s.staged := rfl
@[simp] theorem State.updQp_remap (s : State) (n : Nat) (g : Qp → Qp) : (s.updQp n g).remap = s.remap := rfl
@[simp] theorem State.updQp_upsets (s : State) (n : Nat) (g : Qp → Qp) : (s.updQp n g).upsets = s.upsets := rfl
@[simp] theorem State.updQp_scrubHold (s : State) (n : Nat) (g : Qp → Qp) : (s.updQp n g).scrubHold = s.scrubHold := rfl
@[simp] theorem State.updQp_rounds (s : State) (n : Nat) (g : Qp → Qp) : (s.updQp n g).rounds = s.rounds := rfl
@[simp] theorem State.updQp_queries (s : State) (n : Nat) (g : Qp → Qp) : (s.updQp n g).queries = s.queries := rfl
@[simp] theorem State.updQp_ctrs (s : State) (n : Nat) (g : Qp → Qp) : (s.updQp n g).ctrs = s.ctrs := rfl
@[simp] theorem State.updQp_windows (s : State) (n : Nat) (g : Qp → Qp) : (s.updQp n g).windows = s.windows := rfl
@[simp] theorem State.updQp_winGens (s : State) (n : Nat) (g : Qp → Qp) : (s.updQp n g).winGens = s.winGens := rfl
@[simp] theorem State.updQp_twrs (s : State) (n : Nat) (g : Qp → Qp) : (s.updQp n g).twrs = s.twrs := rfl
@[simp] theorem State.updQp_twrOrder (s : State) (n : Nat) (g : Qp → Qp) : (s.updQp n g).twrOrder = s.twrOrder := rfl
@[simp] theorem State.updQp_evictions (s : State) (n : Nat) (g : Qp → Qp) : (s.updQp n g).evictions = s.evictions := rfl
@[simp] theorem State.updQp_gates (s : State) (n : Nat) (g : Qp → Qp) : (s.updQp n g).gates = s.gates := rfl
@[simp] theorem State.updQp_rng (s : State) (n : Nat) (g : Qp → Qp) : (s.updQp n g).rng = s.rng := rfl
@[simp] theorem State.updQp_nalam (s : State) (n : Nat) (g : Qp → Qp) : (s.updQp n g).nalam = s.nalam := rfl
@[simp] theorem State.updQp_ply (s : State) (n : Nat) (g : Qp → Qp) : (s.updQp n g).ply = s.ply := rfl
@[simp] theorem State.updQp_sync (s : State) (n : Nat) (g : Qp → Qp) : (s.updQp n g).sync = s.sync := rfl
@[simp] theorem State.updQp_weir (s : State) (n : Nat) (g : Qp → Qp) : (s.updQp n g).weir = s.weir := rfl
@[simp] theorem State.updQp_bist (s : State) (n : Nat) (g : Qp → Qp) : (s.updQp n g).bist = s.bist := rfl
@[simp] theorem State.updQp_tap (s : State) (n : Nat) (g : Qp → Qp) : (s.updQp n g).tap = s.tap := rfl
@[simp] theorem State.updQp_books (s : State) (n : Nat) (g : Qp → Qp) : (s.updQp n g).books = s.books := rfl
@[simp] theorem State.updQp_host (s : State) (n : Nat) (g : Qp → Qp) : (s.updQp n g).host = s.host := rfl
@[simp] theorem State.updQp_ckpts (s : State) (n : Nat) (g : Qp → Qp) : (s.updQp n g).ckpts = s.ckpts := rfl
@[simp] theorem State.updQp_out (s : State) (n : Nat) (g : Qp → Qp) : (s.updQp n g).out = s.out := rfl
@[simp] theorem State.updQp_fresh (s : State) (n : Nat) (g : Qp → Qp) : (s.updQp n g).fresh = s.fresh := rfl
@[simp] theorem State.updQp_wot (s : State) (n : Nat) (g : Qp → Qp) : (s.updQp n g).wot = s.wot := rfl
@[simp] theorem State.updQp_combines (s : State) (n : Nat) (g : Qp → Qp) : (s.updQp n g).combines = s.combines := rfl
@[simp] theorem State.updQp_flights (s : State) (n : Nat) (g : Qp → Qp) : (s.updQp n g).flights = s.flights := rfl
@[simp] theorem State.updQp_pages (s : State) (n : Nat) (g : Qp → Qp) : (s.updQp n g).pages = s.pages := rfl
@[simp] theorem State.updQp_tagUpsets (s : State) (n : Nat) (g : Qp → Qp) : (s.updQp n g).tagUpsets = s.tagUpsets := rfl
@[simp] theorem State.updQp_ctrCyc (s : State) (n : Nat) (g : Qp → Qp) : (s.updQp n g).ctrCyc = s.ctrCyc := rfl
@[simp] theorem State.updQp_twrDue (s : State) (n : Nat) (g : Qp → Qp) : (s.updQp n g).twrDue = s.twrDue := rfl
@[simp] theorem State.updQp_posts (s : State) (n : Nat) (g : Qp → Qp) : (s.updQp n g).posts = s.posts := rfl
@[simp] theorem State.updQp_shakes (s : State) (n : Nat) (g : Qp → Qp) : (s.updQp n g).shakes = s.shakes := rfl
@[simp] theorem State.updQp_shakeNext (s : State) (n : Nat) (g : Qp → Qp) : (s.updQp n g).shakeNext = s.shakeNext := rfl
@[simp] theorem State.updQp_ctl (s : State) (n : Nat) (g : Qp → Qp) : (s.updQp n g).ctl = s.ctl := rfl
@[simp] theorem State.updQp_fwTurn (s : State) (n : Nat) (g : Qp → Qp) : (s.updQp n g).fwTurn = s.fwTurn := rfl
@[simp] theorem State.updQp_modulus (s : State) (n : Nat) (g : Qp → Qp) : (s.updQp n g).modulus = s.modulus := rfl
@[simp] theorem State.updQp_rots (s : State) (n : Nat) (g : Qp → Qp) : (s.updQp n g).rots = s.rots := rfl
@[simp] theorem State.updQp_partRev (s : State) (n : Nat) (g : Qp → Qp) : (s.updQp n g).partRev = s.partRev := rfl
@[simp] theorem State.updQp_pending (s : State) (n : Nat) (g : Qp → Qp) : (s.updQp n g).pending = s.pending := rfl
@[simp] theorem State.updQp_rd (s : State) (n : Nat) (g : Qp → Qp) (f0 : Fld) (i0 j0 : Nat) : (s.updQp n g).rd f0 i0 j0 = s.rd f0 i0 j0 := rfl
@[simp] theorem State.updQp_rdb (s : State) (n : Nat) (g : Qp → Qp) (f0 : Fld) (i0 : Nat) : (s.updQp n g).rdb f0 i0 = s.rdb f0 i0 := rfl
@[simp] theorem State.updQp_fn (s : State) (n : Nat) (g : Qp → Qp) (k0 : Nat) : (s.updQp n g).fn k0 = s.fn k0 := rfl
@[simp] theorem State.updQp_spin (s : State) (n : Nat) (g : Qp → Qp) (k0 : Nat) : (s.updQp n g).spin k0 = s.spin k0 := rfl
@[simp] theorem State.updQp_round (s : State) (n : Nat) (g : Qp → Qp) (a0 b0 : Nat) : (s.updQp n g).round? a0 b0 = s.round? a0 b0 := rfl
@[simp] theorem State.updQp_tag (s : State) (n : Nat) (g : Qp → Qp) (k0 : Nat) : (s.updQp n g).tag k0 = s.tag k0 := rfl

/-! ## emit changes out alone -/

@[simp] theorem State.emit_time (s : State) (o : Out) : (s.emit o).time = s.time := rfl
@[simp] theorem State.emit_upTime (s : State) (o : Out) : (s.emit o).upTime = s.upTime := rfl
@[simp] theorem State.emit_regs (s : State) (o : Out) : (s.emit o).regs = s.regs := rfl
@[simp] theorem State.emit_holding (s : State) (o : Out) : (s.emit o).holding = s.holding := rfl
@[simp] theorem State.emit_pins (s : State) (o : Out) : (s.emit o).pins = s.pins := rfl
@[simp] theorem State.emit_otp (s : State) (o : Out) : (s.emit o).otp = s.otp := rfl
@[simp] theorem State.emit_funcs (s : State) (o : Out) : (s.emit o).funcs = s.funcs := rfl
@[simp] theorem State.emit_spindles (s : State) (o : Out) : (s.emit o).spindles = s.spindles := rfl
@[simp] theorem State.emit_phys (s : State) (o : Out) : (s.emit o).phys = s.phys := rfl
@[simp] theorem State.emit_tiles (s : State) (o : Out) : (s.emit o).tiles = s.tiles := rfl
@[simp] theorem State.emit_tags (s : State) (o : Out) : (s.emit o).tags = s.tags := rfl
@[simp] theorem State.emit_drainsOut (s : State) (o : Out) : (s.emit o).drainsOut = s.drainsOut := rfl
@[simp] theorem State.emit_staged (s : State) (o : Out) : (s.emit o).staged = s.staged := rfl
@[simp] theorem State.emit_remap (s : State) (o : Out) : (s.emit o).remap = s.remap := rfl
@[simp] theorem State.emit_upsets (s : State) (o : Out) : (s.emit o).upsets = s.upsets := rfl
@[simp] theorem State.emit_scrubHold (s : State) (o : Out) : (s.emit o).scrubHold = s.scrubHold := rfl
@[simp] theorem State.emit_rounds (s : State) (o : Out) : (s.emit o).rounds = s.rounds := rfl
@[simp] theorem State.emit_queries (s : State) (o : Out) : (s.emit o).queries = s.queries := rfl
@[simp] theorem State.emit_ctrs (s : State) (o : Out) : (s.emit o).ctrs = s.ctrs := rfl
@[simp] theorem State.emit_windows (s : State) (o : Out) : (s.emit o).windows = s.windows := rfl
@[simp] theorem State.emit_winGens (s : State) (o : Out) : (s.emit o).winGens = s.winGens := rfl
@[simp] theorem State.emit_twrs (s : State) (o : Out) : (s.emit o).twrs = s.twrs := rfl
@[simp] theorem State.emit_twrOrder (s : State) (o : Out) : (s.emit o).twrOrder = s.twrOrder := rfl
@[simp] theorem State.emit_qps (s : State) (o : Out) : (s.emit o).qps = s.qps := rfl
@[simp] theorem State.emit_evictions (s : State) (o : Out) : (s.emit o).evictions = s.evictions := rfl
@[simp] theorem State.emit_gates (s : State) (o : Out) : (s.emit o).gates = s.gates := rfl
@[simp] theorem State.emit_rng (s : State) (o : Out) : (s.emit o).rng = s.rng := rfl
@[simp] theorem State.emit_nalam (s : State) (o : Out) : (s.emit o).nalam = s.nalam := rfl
@[simp] theorem State.emit_ply (s : State) (o : Out) : (s.emit o).ply = s.ply := rfl
@[simp] theorem State.emit_sync (s : State) (o : Out) : (s.emit o).sync = s.sync := rfl
@[simp] theorem State.emit_weir (s : State) (o : Out) : (s.emit o).weir = s.weir := rfl
@[simp] theorem State.emit_bist (s : State) (o : Out) : (s.emit o).bist = s.bist := rfl
@[simp] theorem State.emit_tap (s : State) (o : Out) : (s.emit o).tap = s.tap := rfl
@[simp] theorem State.emit_books (s : State) (o : Out) : (s.emit o).books = s.books := rfl
@[simp] theorem State.emit_host (s : State) (o : Out) : (s.emit o).host = s.host := rfl
@[simp] theorem State.emit_ckpts (s : State) (o : Out) : (s.emit o).ckpts = s.ckpts := rfl
@[simp] theorem State.emit_fresh (s : State) (o : Out) : (s.emit o).fresh = s.fresh := rfl
@[simp] theorem State.emit_wot (s : State) (o : Out) : (s.emit o).wot = s.wot := rfl
@[simp] theorem State.emit_combines (s : State) (o : Out) : (s.emit o).combines = s.combines := rfl
@[simp] theorem State.emit_flights (s : State) (o : Out) : (s.emit o).flights = s.flights := rfl
@[simp] theorem State.emit_pages (s : State) (o : Out) : (s.emit o).pages = s.pages := rfl
@[simp] theorem State.emit_tagUpsets (s : State) (o : Out) : (s.emit o).tagUpsets = s.tagUpsets := rfl
@[simp] theorem State.emit_ctrCyc (s : State) (o : Out) : (s.emit o).ctrCyc = s.ctrCyc := rfl
@[simp] theorem State.emit_twrDue (s : State) (o : Out) : (s.emit o).twrDue = s.twrDue := rfl
@[simp] theorem State.emit_posts (s : State) (o : Out) : (s.emit o).posts = s.posts := rfl
@[simp] theorem State.emit_shakes (s : State) (o : Out) : (s.emit o).shakes = s.shakes := rfl
@[simp] theorem State.emit_shakeNext (s : State) (o : Out) : (s.emit o).shakeNext = s.shakeNext := rfl
@[simp] theorem State.emit_ctl (s : State) (o : Out) : (s.emit o).ctl = s.ctl := rfl
@[simp] theorem State.emit_fwTurn (s : State) (o : Out) : (s.emit o).fwTurn = s.fwTurn := rfl
@[simp] theorem State.emit_modulus (s : State) (o : Out) : (s.emit o).modulus = s.modulus := rfl
@[simp] theorem State.emit_rots (s : State) (o : Out) : (s.emit o).rots = s.rots := rfl
@[simp] theorem State.emit_partRev (s : State) (o : Out) : (s.emit o).partRev = s.partRev := rfl
@[simp] theorem State.emit_pending (s : State) (o : Out) : (s.emit o).pending = s.pending := rfl
@[simp] theorem State.emit_rd (s : State) (o : Out) (f0 : Fld) (i0 j0 : Nat) : (s.emit o).rd f0 i0 j0 = s.rd f0 i0 j0 := rfl
@[simp] theorem State.emit_rdb (s : State) (o : Out) (f0 : Fld) (i0 : Nat) : (s.emit o).rdb f0 i0 = s.rdb f0 i0 := rfl
@[simp] theorem State.emit_fn (s : State) (o : Out) (k0 : Nat) : (s.emit o).fn k0 = s.fn k0 := rfl
@[simp] theorem State.emit_spin (s : State) (o : Out) (k0 : Nat) : (s.emit o).spin k0 = s.spin k0 := rfl
@[simp] theorem State.emit_round (s : State) (o : Out) (a0 b0 : Nat) : (s.emit o).round? a0 b0 = s.round? a0 b0 := rfl
@[simp] theorem State.emit_qp (s : State) (o : Out) (k0 : Nat) : (s.emit o).qp? k0 = s.qp? k0 := rfl
@[simp] theorem State.emit_tag (s : State) (o : Out) (k0 : Nat) : (s.emit o).tag k0 = s.tag k0 := rfl

/-! ## setTag changes tags alone -/

@[simp] theorem State.setTag_time (s : State) (t : Nat) (g : TileTag) : (s.setTag t g).time = s.time := rfl
@[simp] theorem State.setTag_upTime (s : State) (t : Nat) (g : TileTag) : (s.setTag t g).upTime = s.upTime := rfl
@[simp] theorem State.setTag_regs (s : State) (t : Nat) (g : TileTag) : (s.setTag t g).regs = s.regs := rfl
@[simp] theorem State.setTag_holding (s : State) (t : Nat) (g : TileTag) : (s.setTag t g).holding = s.holding := rfl
@[simp] theorem State.setTag_pins (s : State) (t : Nat) (g : TileTag) : (s.setTag t g).pins = s.pins := rfl
@[simp] theorem State.setTag_otp (s : State) (t : Nat) (g : TileTag) : (s.setTag t g).otp = s.otp := rfl
@[simp] theorem State.setTag_funcs (s : State) (t : Nat) (g : TileTag) : (s.setTag t g).funcs = s.funcs := rfl
@[simp] theorem State.setTag_spindles (s : State) (t : Nat) (g : TileTag) : (s.setTag t g).spindles = s.spindles := rfl
@[simp] theorem State.setTag_phys (s : State) (t : Nat) (g : TileTag) : (s.setTag t g).phys = s.phys := rfl
@[simp] theorem State.setTag_tiles (s : State) (t : Nat) (g : TileTag) : (s.setTag t g).tiles = s.tiles := rfl
@[simp] theorem State.setTag_drainsOut (s : State) (t : Nat) (g : TileTag) : (s.setTag t g).drainsOut = s.drainsOut := rfl
@[simp] theorem State.setTag_staged (s : State) (t : Nat) (g : TileTag) : (s.setTag t g).staged = s.staged := rfl
@[simp] theorem State.setTag_remap (s : State) (t : Nat) (g : TileTag) : (s.setTag t g).remap = s.remap := rfl
@[simp] theorem State.setTag_upsets (s : State) (t : Nat) (g : TileTag) : (s.setTag t g).upsets = s.upsets := rfl
@[simp] theorem State.setTag_scrubHold (s : State) (t : Nat) (g : TileTag) : (s.setTag t g).scrubHold = s.scrubHold := rfl
@[simp] theorem State.setTag_rounds (s : State) (t : Nat) (g : TileTag) : (s.setTag t g).rounds = s.rounds := rfl
@[simp] theorem State.setTag_queries (s : State) (t : Nat) (g : TileTag) : (s.setTag t g).queries = s.queries := rfl
@[simp] theorem State.setTag_ctrs (s : State) (t : Nat) (g : TileTag) : (s.setTag t g).ctrs = s.ctrs := rfl
@[simp] theorem State.setTag_windows (s : State) (t : Nat) (g : TileTag) : (s.setTag t g).windows = s.windows := rfl
@[simp] theorem State.setTag_winGens (s : State) (t : Nat) (g : TileTag) : (s.setTag t g).winGens = s.winGens := rfl
@[simp] theorem State.setTag_twrs (s : State) (t : Nat) (g : TileTag) : (s.setTag t g).twrs = s.twrs := rfl
@[simp] theorem State.setTag_twrOrder (s : State) (t : Nat) (g : TileTag) : (s.setTag t g).twrOrder = s.twrOrder := rfl
@[simp] theorem State.setTag_qps (s : State) (t : Nat) (g : TileTag) : (s.setTag t g).qps = s.qps := rfl
@[simp] theorem State.setTag_evictions (s : State) (t : Nat) (g : TileTag) : (s.setTag t g).evictions = s.evictions := rfl
@[simp] theorem State.setTag_gates (s : State) (t : Nat) (g : TileTag) : (s.setTag t g).gates = s.gates := rfl
@[simp] theorem State.setTag_rng (s : State) (t : Nat) (g : TileTag) : (s.setTag t g).rng = s.rng := rfl
@[simp] theorem State.setTag_nalam (s : State) (t : Nat) (g : TileTag) : (s.setTag t g).nalam = s.nalam := rfl
@[simp] theorem State.setTag_ply (s : State) (t : Nat) (g : TileTag) : (s.setTag t g).ply = s.ply := rfl
@[simp] theorem State.setTag_sync (s : State) (t : Nat) (g : TileTag) : (s.setTag t g).sync = s.sync := rfl
@[simp] theorem State.setTag_weir (s : State) (t : Nat) (g : TileTag) : (s.setTag t g).weir = s.weir := rfl
@[simp] theorem State.setTag_bist (s : State) (t : Nat) (g : TileTag) : (s.setTag t g).bist = s.bist := rfl
@[simp] theorem State.setTag_tap (s : State) (t : Nat) (g : TileTag) : (s.setTag t g).tap = s.tap := rfl
@[simp] theorem State.setTag_books (s : State) (t : Nat) (g : TileTag) : (s.setTag t g).books = s.books := rfl
@[simp] theorem State.setTag_host (s : State) (t : Nat) (g : TileTag) : (s.setTag t g).host = s.host := rfl
@[simp] theorem State.setTag_ckpts (s : State) (t : Nat) (g : TileTag) : (s.setTag t g).ckpts = s.ckpts := rfl
@[simp] theorem State.setTag_out (s : State) (t : Nat) (g : TileTag) : (s.setTag t g).out = s.out := rfl
@[simp] theorem State.setTag_fresh (s : State) (t : Nat) (g : TileTag) : (s.setTag t g).fresh = s.fresh := rfl
@[simp] theorem State.setTag_wot (s : State) (t : Nat) (g : TileTag) : (s.setTag t g).wot = s.wot := rfl
@[simp] theorem State.setTag_combines (s : State) (t : Nat) (g : TileTag) : (s.setTag t g).combines = s.combines := rfl
@[simp] theorem State.setTag_flights (s : State) (t : Nat) (g : TileTag) : (s.setTag t g).flights = s.flights := rfl
@[simp] theorem State.setTag_pages (s : State) (t : Nat) (g : TileTag) : (s.setTag t g).pages = s.pages := rfl
@[simp] theorem State.setTag_tagUpsets (s : State) (t : Nat) (g : TileTag) : (s.setTag t g).tagUpsets = s.tagUpsets := rfl
@[simp] theorem State.setTag_ctrCyc (s : State) (t : Nat) (g : TileTag) : (s.setTag t g).ctrCyc = s.ctrCyc := rfl
@[simp] theorem State.setTag_twrDue (s : State) (t : Nat) (g : TileTag) : (s.setTag t g).twrDue = s.twrDue := rfl
@[simp] theorem State.setTag_posts (s : State) (t : Nat) (g : TileTag) : (s.setTag t g).posts = s.posts := rfl
@[simp] theorem State.setTag_shakes (s : State) (t : Nat) (g : TileTag) : (s.setTag t g).shakes = s.shakes := rfl
@[simp] theorem State.setTag_shakeNext (s : State) (t : Nat) (g : TileTag) : (s.setTag t g).shakeNext = s.shakeNext := rfl
@[simp] theorem State.setTag_ctl (s : State) (t : Nat) (g : TileTag) : (s.setTag t g).ctl = s.ctl := rfl
@[simp] theorem State.setTag_fwTurn (s : State) (t : Nat) (g : TileTag) : (s.setTag t g).fwTurn = s.fwTurn := rfl
@[simp] theorem State.setTag_modulus (s : State) (t : Nat) (g : TileTag) : (s.setTag t g).modulus = s.modulus := rfl
@[simp] theorem State.setTag_rots (s : State) (t : Nat) (g : TileTag) : (s.setTag t g).rots = s.rots := rfl
@[simp] theorem State.setTag_partRev (s : State) (t : Nat) (g : TileTag) : (s.setTag t g).partRev = s.partRev := rfl
@[simp] theorem State.setTag_pending (s : State) (t : Nat) (g : TileTag) : (s.setTag t g).pending = s.pending := rfl
@[simp] theorem State.setTag_rd (s : State) (t : Nat) (g : TileTag) (f0 : Fld) (i0 j0 : Nat) : (s.setTag t g).rd f0 i0 j0 = s.rd f0 i0 j0 := rfl
@[simp] theorem State.setTag_rdb (s : State) (t : Nat) (g : TileTag) (f0 : Fld) (i0 : Nat) : (s.setTag t g).rdb f0 i0 = s.rdb f0 i0 := rfl
@[simp] theorem State.setTag_fn (s : State) (t : Nat) (g : TileTag) (k0 : Nat) : (s.setTag t g).fn k0 = s.fn k0 := rfl
@[simp] theorem State.setTag_spin (s : State) (t : Nat) (g : TileTag) (k0 : Nat) : (s.setTag t g).spin k0 = s.spin k0 := rfl
@[simp] theorem State.setTag_round (s : State) (t : Nat) (g : TileTag) (a0 b0 : Nat) : (s.setTag t g).round? a0 b0 = s.round? a0 b0 := rfl
@[simp] theorem State.setTag_qp (s : State) (t : Nat) (g : TileTag) (k0 : Nat) : (s.setTag t g).qp? k0 = s.qp? k0 := rfl

/-! ## noteWas changes ctl alone, and bump regs and ctl -/

@[simp] theorem State.noteWas_time (s : State) (f : Fld) (i j : Nat) : (s.noteWas f i j).time = s.time := by
  unfold State.noteWas; split <;> rfl
@[simp] theorem State.noteWas_upTime (s : State) (f : Fld) (i j : Nat) : (s.noteWas f i j).upTime = s.upTime := by
  unfold State.noteWas; split <;> rfl
@[simp] theorem State.noteWas_regs (s : State) (f : Fld) (i j : Nat) : (s.noteWas f i j).regs = s.regs := by
  unfold State.noteWas; split <;> rfl
@[simp] theorem State.noteWas_holding (s : State) (f : Fld) (i j : Nat) : (s.noteWas f i j).holding = s.holding := by
  unfold State.noteWas; split <;> rfl
@[simp] theorem State.noteWas_wot (s : State) (f : Fld) (i j : Nat) : (s.noteWas f i j).wot = s.wot := by
  unfold State.noteWas; split <;> rfl
@[simp] theorem State.noteWas_pins (s : State) (f : Fld) (i j : Nat) : (s.noteWas f i j).pins = s.pins := by
  unfold State.noteWas; split <;> rfl
@[simp] theorem State.noteWas_otp (s : State) (f : Fld) (i j : Nat) : (s.noteWas f i j).otp = s.otp := by
  unfold State.noteWas; split <;> rfl
@[simp] theorem State.noteWas_funcs (s : State) (f : Fld) (i j : Nat) : (s.noteWas f i j).funcs = s.funcs := by
  unfold State.noteWas; split <;> rfl
@[simp] theorem State.noteWas_spindles (s : State) (f : Fld) (i j : Nat) : (s.noteWas f i j).spindles = s.spindles := by
  unfold State.noteWas; split <;> rfl
@[simp] theorem State.noteWas_phys (s : State) (f : Fld) (i j : Nat) : (s.noteWas f i j).phys = s.phys := by
  unfold State.noteWas; split <;> rfl
@[simp] theorem State.noteWas_tiles (s : State) (f : Fld) (i j : Nat) : (s.noteWas f i j).tiles = s.tiles := by
  unfold State.noteWas; split <;> rfl
@[simp] theorem State.noteWas_tags (s : State) (f : Fld) (i j : Nat) : (s.noteWas f i j).tags = s.tags := by
  unfold State.noteWas; split <;> rfl
@[simp] theorem State.noteWas_drainsOut (s : State) (f : Fld) (i j : Nat) : (s.noteWas f i j).drainsOut = s.drainsOut := by
  unfold State.noteWas; split <;> rfl
@[simp] theorem State.noteWas_combines (s : State) (f : Fld) (i j : Nat) : (s.noteWas f i j).combines = s.combines := by
  unfold State.noteWas; split <;> rfl
@[simp] theorem State.noteWas_flights (s : State) (f : Fld) (i j : Nat) : (s.noteWas f i j).flights = s.flights := by
  unfold State.noteWas; split <;> rfl
@[simp] theorem State.noteWas_staged (s : State) (f : Fld) (i j : Nat) : (s.noteWas f i j).staged = s.staged := by
  unfold State.noteWas; split <;> rfl
@[simp] theorem State.noteWas_pages (s : State) (f : Fld) (i j : Nat) : (s.noteWas f i j).pages = s.pages := by
  unfold State.noteWas; split <;> rfl
@[simp] theorem State.noteWas_remap (s : State) (f : Fld) (i j : Nat) : (s.noteWas f i j).remap = s.remap := by
  unfold State.noteWas; split <;> rfl
@[simp] theorem State.noteWas_upsets (s : State) (f : Fld) (i j : Nat) : (s.noteWas f i j).upsets = s.upsets := by
  unfold State.noteWas; split <;> rfl
@[simp] theorem State.noteWas_tagUpsets (s : State) (f : Fld) (i j : Nat) : (s.noteWas f i j).tagUpsets = s.tagUpsets := by
  unfold State.noteWas; split <;> rfl
@[simp] theorem State.noteWas_scrubHold (s : State) (f : Fld) (i j : Nat) : (s.noteWas f i j).scrubHold = s.scrubHold := by
  unfold State.noteWas; split <;> rfl
@[simp] theorem State.noteWas_rounds (s : State) (f : Fld) (i j : Nat) : (s.noteWas f i j).rounds = s.rounds := by
  unfold State.noteWas; split <;> rfl
@[simp] theorem State.noteWas_queries (s : State) (f : Fld) (i j : Nat) : (s.noteWas f i j).queries = s.queries := by
  unfold State.noteWas; split <;> rfl
@[simp] theorem State.noteWas_ctrs (s : State) (f : Fld) (i j : Nat) : (s.noteWas f i j).ctrs = s.ctrs := by
  unfold State.noteWas; split <;> rfl
@[simp] theorem State.noteWas_ctrCyc (s : State) (f : Fld) (i j : Nat) : (s.noteWas f i j).ctrCyc = s.ctrCyc := by
  unfold State.noteWas; split <;> rfl
@[simp] theorem State.noteWas_windows (s : State) (f : Fld) (i j : Nat) : (s.noteWas f i j).windows = s.windows := by
  unfold State.noteWas; split <;> rfl
@[simp] theorem State.noteWas_winGens (s : State) (f : Fld) (i j : Nat) : (s.noteWas f i j).winGens = s.winGens := by
  unfold State.noteWas; split <;> rfl
@[simp] theorem State.noteWas_twrs (s : State) (f : Fld) (i j : Nat) : (s.noteWas f i j).twrs = s.twrs := by
  unfold State.noteWas; split <;> rfl
@[simp] theorem State.noteWas_twrOrder (s : State) (f : Fld) (i j : Nat) : (s.noteWas f i j).twrOrder = s.twrOrder := by
  unfold State.noteWas; split <;> rfl
@[simp] theorem State.noteWas_twrDue (s : State) (f : Fld) (i j : Nat) : (s.noteWas f i j).twrDue = s.twrDue := by
  unfold State.noteWas; split <;> rfl
@[simp] theorem State.noteWas_qps (s : State) (f : Fld) (i j : Nat) : (s.noteWas f i j).qps = s.qps := by
  unfold State.noteWas; split <;> rfl
@[simp] theorem State.noteWas_evictions (s : State) (f : Fld) (i j : Nat) : (s.noteWas f i j).evictions = s.evictions := by
  unfold State.noteWas; split <;> rfl
@[simp] theorem State.noteWas_posts (s : State) (f : Fld) (i j : Nat) : (s.noteWas f i j).posts = s.posts := by
  unfold State.noteWas; split <;> rfl
@[simp] theorem State.noteWas_shakes (s : State) (f : Fld) (i j : Nat) : (s.noteWas f i j).shakes = s.shakes := by
  unfold State.noteWas; split <;> rfl
@[simp] theorem State.noteWas_shakeNext (s : State) (f : Fld) (i j : Nat) : (s.noteWas f i j).shakeNext = s.shakeNext := by
  unfold State.noteWas; split <;> rfl
@[simp] theorem State.noteWas_gates (s : State) (f : Fld) (i j : Nat) : (s.noteWas f i j).gates = s.gates := by
  unfold State.noteWas; split <;> rfl
@[simp] theorem State.noteWas_rng (s : State) (f : Fld) (i j : Nat) : (s.noteWas f i j).rng = s.rng := by
  unfold State.noteWas; split <;> rfl
@[simp] theorem State.noteWas_nalam (s : State) (f : Fld) (i j : Nat) : (s.noteWas f i j).nalam = s.nalam := by
  unfold State.noteWas; split <;> rfl
@[simp] theorem State.noteWas_ply (s : State) (f : Fld) (i j : Nat) : (s.noteWas f i j).ply = s.ply := by
  unfold State.noteWas; split <;> rfl
@[simp] theorem State.noteWas_sync (s : State) (f : Fld) (i j : Nat) : (s.noteWas f i j).sync = s.sync := by
  unfold State.noteWas; split <;> rfl
@[simp] theorem State.noteWas_weir (s : State) (f : Fld) (i j : Nat) : (s.noteWas f i j).weir = s.weir := by
  unfold State.noteWas; split <;> rfl
@[simp] theorem State.noteWas_bist (s : State) (f : Fld) (i j : Nat) : (s.noteWas f i j).bist = s.bist := by
  unfold State.noteWas; split <;> rfl
@[simp] theorem State.noteWas_tap (s : State) (f : Fld) (i j : Nat) : (s.noteWas f i j).tap = s.tap := by
  unfold State.noteWas; split <;> rfl
@[simp] theorem State.noteWas_fwTurn (s : State) (f : Fld) (i j : Nat) : (s.noteWas f i j).fwTurn = s.fwTurn := by
  unfold State.noteWas; split <;> rfl
@[simp] theorem State.noteWas_books (s : State) (f : Fld) (i j : Nat) : (s.noteWas f i j).books = s.books := by
  unfold State.noteWas; split <;> rfl
@[simp] theorem State.noteWas_host (s : State) (f : Fld) (i j : Nat) : (s.noteWas f i j).host = s.host := by
  unfold State.noteWas; split <;> rfl
@[simp] theorem State.noteWas_ckpts (s : State) (f : Fld) (i j : Nat) : (s.noteWas f i j).ckpts = s.ckpts := by
  unfold State.noteWas; split <;> rfl
@[simp] theorem State.noteWas_out (s : State) (f : Fld) (i j : Nat) : (s.noteWas f i j).out = s.out := by
  unfold State.noteWas; split <;> rfl
@[simp] theorem State.noteWas_fresh (s : State) (f : Fld) (i j : Nat) : (s.noteWas f i j).fresh = s.fresh := by
  unfold State.noteWas; split <;> rfl
@[simp] theorem State.noteWas_modulus (s : State) (f : Fld) (i j : Nat) : (s.noteWas f i j).modulus = s.modulus := by
  unfold State.noteWas; split <;> rfl
@[simp] theorem State.noteWas_rots (s : State) (f : Fld) (i j : Nat) : (s.noteWas f i j).rots = s.rots := by
  unfold State.noteWas; split <;> rfl
@[simp] theorem State.noteWas_partRev (s : State) (f : Fld) (i j : Nat) : (s.noteWas f i j).partRev = s.partRev := by
  unfold State.noteWas; split <;> rfl
@[simp] theorem State.noteWas_pending (s : State) (f : Fld) (i j : Nat) : (s.noteWas f i j).pending = s.pending := by
  unfold State.noteWas; split <;> rfl
@[simp] theorem State.noteWas_rd (s : State) (f : Fld) (i j : Nat) (f0 : Fld) (i0 j0 : Nat) : (s.noteWas f i j).rd f0 i0 j0 = s.rd f0 i0 j0 := by
  simp [State.rd]
@[simp] theorem State.bump_regs (s : State) (f : Fld) (i n j : Nat) : (s.bump f i n j).regs = (s.wr f (s.rd f i j + n) i j).regs := by
  simp [State.bump, State.wr]
@[simp] theorem State.bump_time (s : State) (f : Fld) (i n j : Nat) : (s.bump f i n j).time = s.time := by simp [State.bump]
@[simp] theorem State.bump_upTime (s : State) (f : Fld) (i n j : Nat) : (s.bump f i n j).upTime = s.upTime := by simp [State.bump]
@[simp] theorem State.bump_holding (s : State) (f : Fld) (i n j : Nat) : (s.bump f i n j).holding = s.holding := by simp [State.bump]
@[simp] theorem State.bump_wot (s : State) (f : Fld) (i n j : Nat) : (s.bump f i n j).wot = s.wot := by simp [State.bump]
@[simp] theorem State.bump_pins (s : State) (f : Fld) (i n j : Nat) : (s.bump f i n j).pins = s.pins := by simp [State.bump]
@[simp] theorem State.bump_otp (s : State) (f : Fld) (i n j : Nat) : (s.bump f i n j).otp = s.otp := by simp [State.bump]
@[simp] theorem State.bump_funcs (s : State) (f : Fld) (i n j : Nat) : (s.bump f i n j).funcs = s.funcs := by simp [State.bump]
@[simp] theorem State.bump_spindles (s : State) (f : Fld) (i n j : Nat) : (s.bump f i n j).spindles = s.spindles := by simp [State.bump]
@[simp] theorem State.bump_phys (s : State) (f : Fld) (i n j : Nat) : (s.bump f i n j).phys = s.phys := by simp [State.bump]
@[simp] theorem State.bump_tiles (s : State) (f : Fld) (i n j : Nat) : (s.bump f i n j).tiles = s.tiles := by simp [State.bump]
@[simp] theorem State.bump_tags (s : State) (f : Fld) (i n j : Nat) : (s.bump f i n j).tags = s.tags := by simp [State.bump]
@[simp] theorem State.bump_drainsOut (s : State) (f : Fld) (i n j : Nat) : (s.bump f i n j).drainsOut = s.drainsOut := by simp [State.bump]
@[simp] theorem State.bump_combines (s : State) (f : Fld) (i n j : Nat) : (s.bump f i n j).combines = s.combines := by simp [State.bump]
@[simp] theorem State.bump_flights (s : State) (f : Fld) (i n j : Nat) : (s.bump f i n j).flights = s.flights := by simp [State.bump]
@[simp] theorem State.bump_staged (s : State) (f : Fld) (i n j : Nat) : (s.bump f i n j).staged = s.staged := by simp [State.bump]
@[simp] theorem State.bump_pages (s : State) (f : Fld) (i n j : Nat) : (s.bump f i n j).pages = s.pages := by simp [State.bump]
@[simp] theorem State.bump_remap (s : State) (f : Fld) (i n j : Nat) : (s.bump f i n j).remap = s.remap := by simp [State.bump]
@[simp] theorem State.bump_upsets (s : State) (f : Fld) (i n j : Nat) : (s.bump f i n j).upsets = s.upsets := by simp [State.bump]
@[simp] theorem State.bump_tagUpsets (s : State) (f : Fld) (i n j : Nat) : (s.bump f i n j).tagUpsets = s.tagUpsets := by simp [State.bump]
@[simp] theorem State.bump_scrubHold (s : State) (f : Fld) (i n j : Nat) : (s.bump f i n j).scrubHold = s.scrubHold := by simp [State.bump]
@[simp] theorem State.bump_rounds (s : State) (f : Fld) (i n j : Nat) : (s.bump f i n j).rounds = s.rounds := by simp [State.bump]
@[simp] theorem State.bump_queries (s : State) (f : Fld) (i n j : Nat) : (s.bump f i n j).queries = s.queries := by simp [State.bump]
@[simp] theorem State.bump_ctrs (s : State) (f : Fld) (i n j : Nat) : (s.bump f i n j).ctrs = s.ctrs := by simp [State.bump]
@[simp] theorem State.bump_ctrCyc (s : State) (f : Fld) (i n j : Nat) : (s.bump f i n j).ctrCyc = s.ctrCyc := by simp [State.bump]
@[simp] theorem State.bump_windows (s : State) (f : Fld) (i n j : Nat) : (s.bump f i n j).windows = s.windows := by simp [State.bump]
@[simp] theorem State.bump_winGens (s : State) (f : Fld) (i n j : Nat) : (s.bump f i n j).winGens = s.winGens := by simp [State.bump]
@[simp] theorem State.bump_twrs (s : State) (f : Fld) (i n j : Nat) : (s.bump f i n j).twrs = s.twrs := by simp [State.bump]
@[simp] theorem State.bump_twrOrder (s : State) (f : Fld) (i n j : Nat) : (s.bump f i n j).twrOrder = s.twrOrder := by simp [State.bump]
@[simp] theorem State.bump_twrDue (s : State) (f : Fld) (i n j : Nat) : (s.bump f i n j).twrDue = s.twrDue := by simp [State.bump]
@[simp] theorem State.bump_qps (s : State) (f : Fld) (i n j : Nat) : (s.bump f i n j).qps = s.qps := by simp [State.bump]
@[simp] theorem State.bump_evictions (s : State) (f : Fld) (i n j : Nat) : (s.bump f i n j).evictions = s.evictions := by simp [State.bump]
@[simp] theorem State.bump_posts (s : State) (f : Fld) (i n j : Nat) : (s.bump f i n j).posts = s.posts := by simp [State.bump]
@[simp] theorem State.bump_shakes (s : State) (f : Fld) (i n j : Nat) : (s.bump f i n j).shakes = s.shakes := by simp [State.bump]
@[simp] theorem State.bump_shakeNext (s : State) (f : Fld) (i n j : Nat) : (s.bump f i n j).shakeNext = s.shakeNext := by simp [State.bump]
@[simp] theorem State.bump_gates (s : State) (f : Fld) (i n j : Nat) : (s.bump f i n j).gates = s.gates := by simp [State.bump]
@[simp] theorem State.bump_rng (s : State) (f : Fld) (i n j : Nat) : (s.bump f i n j).rng = s.rng := by simp [State.bump]
@[simp] theorem State.bump_nalam (s : State) (f : Fld) (i n j : Nat) : (s.bump f i n j).nalam = s.nalam := by simp [State.bump]
@[simp] theorem State.bump_ply (s : State) (f : Fld) (i n j : Nat) : (s.bump f i n j).ply = s.ply := by simp [State.bump]
@[simp] theorem State.bump_sync (s : State) (f : Fld) (i n j : Nat) : (s.bump f i n j).sync = s.sync := by simp [State.bump]
@[simp] theorem State.bump_weir (s : State) (f : Fld) (i n j : Nat) : (s.bump f i n j).weir = s.weir := by simp [State.bump]
@[simp] theorem State.bump_bist (s : State) (f : Fld) (i n j : Nat) : (s.bump f i n j).bist = s.bist := by simp [State.bump]
@[simp] theorem State.bump_tap (s : State) (f : Fld) (i n j : Nat) : (s.bump f i n j).tap = s.tap := by simp [State.bump]
@[simp] theorem State.bump_fwTurn (s : State) (f : Fld) (i n j : Nat) : (s.bump f i n j).fwTurn = s.fwTurn := by simp [State.bump]
@[simp] theorem State.bump_books (s : State) (f : Fld) (i n j : Nat) : (s.bump f i n j).books = s.books := by simp [State.bump]
@[simp] theorem State.bump_host (s : State) (f : Fld) (i n j : Nat) : (s.bump f i n j).host = s.host := by simp [State.bump]
@[simp] theorem State.bump_ckpts (s : State) (f : Fld) (i n j : Nat) : (s.bump f i n j).ckpts = s.ckpts := by simp [State.bump]
@[simp] theorem State.bump_out (s : State) (f : Fld) (i n j : Nat) : (s.bump f i n j).out = s.out := by simp [State.bump]
@[simp] theorem State.bump_fresh (s : State) (f : Fld) (i n j : Nat) : (s.bump f i n j).fresh = s.fresh := by simp [State.bump]
@[simp] theorem State.bump_modulus (s : State) (f : Fld) (i n j : Nat) : (s.bump f i n j).modulus = s.modulus := by simp [State.bump]
@[simp] theorem State.bump_rots (s : State) (f : Fld) (i n j : Nat) : (s.bump f i n j).rots = s.rots := by simp [State.bump]
@[simp] theorem State.bump_partRev (s : State) (f : Fld) (i n j : Nat) : (s.bump f i n j).partRev = s.partRev := by simp [State.bump]
@[simp] theorem State.bump_pending (s : State) (f : Fld) (i n j : Nat) : (s.bump f i n j).pending = s.pending := by simp [State.bump]

/-! ## Reading what was changed -/

/-- A change of a spindle, read at that spindle. -/
theorem State.updSpin_spin_self (s : State) (j : Nat) (g : Spindle → Spindle) (h : j < s.spindles.length) :
    (s.updSpin j g).spin j = g (s.spin j) := updAt_get _ _ _ _ h

/-- A change of a spindle, read at another. -/
theorem State.updSpin_spin_ne (s : State) (j k : Nat) (g : Spindle → Spindle) (h : k ≠ j) :
    (s.updSpin j g).spin k = s.spin k := updAt_ne _ _ _ _ _ h

/-- Two changes of one spindle are one. -/
theorem State.updSpin_updSpin (s : State) (j : Nat) (g h : Spindle → Spindle) :
    (s.updSpin j g).updSpin j h = s.updSpin j (fun x => h (g x)) := by simp [State.updSpin, updAt_updAt]

/-- A change of a function, read at that function. -/
theorem State.updFn_fn_self (s : State) (f : Nat) (g : Func → Func) (h : f < s.funcs.length) :
    (s.updFn f g).fn f = g (s.fn f) := updAt_get _ _ _ _ h

/-- A change of a function, read at another. -/
theorem State.updFn_fn_ne (s : State) (f k : Nat) (g : Func → Func) (h : k ≠ f) : (s.updFn f g).fn k = s.fn k :=
  updAt_ne _ _ _ _ _ h

/-- A change of a round that keeps its name, read at that round. -/
theorem State.updRound_round_self (s : State) (f r : Nat) (g : Round → Round)
    (hg : ∀ x, (g x).func = x.func ∧ (g x).cfg = x.cfg) : (s.updRound f r g).round? f r = (s.round? f r).map g := by
  simp only [State.round?, State.updRound]
  exact find?_updIf _ _ _ (fun x hx => by simpa [(hg x).1, (hg x).2] using hx)

/-- A change of a queue pair that keeps its number, read at that queue pair. -/
theorem State.updQp_qp_self (s : State) (n : Nat) (g : Qp → Qp) (hg : ∀ q, (g q).qpn = q.qpn) :
    (s.updQp n g).qp? n = (s.qp? n).map g := by
  simp only [State.qp?, State.updQp]
  exact find?_updIf _ _ _ (fun q hq => by simpa [hg q] using hq)

/-- A register field written leaves every field with another key alone. -/
theorem State.wr_rd_ne (s : State) (f g : Fld) (v i j k l : Nat) (h : g.key k l ≠ f.key i j) :
    (s.wr f v i j).rd g k l = s.rd g k l :=
  Sparse.get_set_ne _ _ _ _ _ _ h

/-- A write keeps keys strictly rising. -/
theorem rising_set {α : Type} [DecidableEq α] (d : α) (m : List (Nat × α)) (k : Nat) (v : α) (h : rising m = true) :
    rising (Sparse.set d m k v) = true := by
  induction m with
  | nil => by_cases hv : v = d <;> simp [Sparse.set, rising, hv]
  | cons q m ih =>
    obtain ⟨k', v'⟩ := q
    simp only [rising, Bool.and_eq_true, List.all_eq_true, decide_eq_true_eq] at h
    simp only [Sparse.set]
    split
    · rename_i hk
      split
      · simpa [rising] using h
      · simp only [rising, Bool.and_eq_true, List.all_eq_true, decide_eq_true_eq]
        refine ⟨fun p hp => ?_, h⟩
        rcases List.mem_cons.mp hp with hp | hp
        · simpa [hp] using hk
        · exact Nat.lt_trans hk (h.1 p hp)
    · split
      · rename_i hk
        split
        · exact h.2
        · simp only [rising, Bool.and_eq_true, List.all_eq_true, decide_eq_true_eq]
          exact ⟨fun p hp => hk ▸ h.1 p hp, h.2⟩
      · rename_i h1 h2
        simp only [rising, Bool.and_eq_true, List.all_eq_true, decide_eq_true_eq]
        refine ⟨fun p hp => ?_, ih h.2⟩
        rcases Sparse.mem_set d m k v p hp with hp | hp
        · exact h.1 p hp
        · rw [hp.1]; exact Nat.lt_of_le_of_ne (Nat.le_of_not_lt h1) (Ne.symm h2)

/-- A read of a key written, in a map of rising keys, whatever its entries. -/
theorem rising_get_set {α : Type} [DecidableEq α] (d : α) (m : List (Nat × α)) (k : Nat) (v : α) (h : rising m = true) :
    Sparse.get d (Sparse.set d m k v) k = v := by
  induction m with
  | nil => by_cases hv : v = d <;> simp [Sparse.set, Sparse.get, hv]
  | cons q m ih =>
    obtain ⟨k', v'⟩ := q
    simp only [rising, Bool.and_eq_true, List.all_eq_true, decide_eq_true_eq] at h
    simp only [Sparse.set]
    split
    · rename_i hk
      split
      · rename_i hv
        rw [Sparse.get_of_below d _ k ?_, hv]
        intro p hp
        rcases List.mem_cons.mp hp with hp | hp
        · simpa [hp] using hk
        · exact Nat.lt_trans hk (h.1 p hp)
      · simp [Sparse.get]
    · split
      · rename_i hk
        split
        · rename_i hv
          rw [Sparse.get_of_below d _ k (fun p hp => hk ▸ h.1 p hp), hv]
        · simp [Sparse.get]
      · rename_i h2
        simp only [Sparse.get, if_neg (Ne.symm h2)]
        exact ih h.2

/-- A register field reads as it was last written. -/
theorem State.wr_rd_self (s : State) (f : Fld) (v i j : Nat) (h : rising s.regs = true) :
    (s.wr f v i j).rd f i j = v % 2 ^ f.w := rising_get_set _ _ _ _ h

/-- A write of a register field keeps the register table in canonical form. -/
theorem State.wr_rising (s : State) (f : Fld) (v i j : Nat) (h : rising s.regs = true) : rising (s.wr f v i j).regs = true :=
  rising_set _ _ _ _ h

/-- A store to scratch keeps its canonical form. -/
theorem Spindle.poke_wf (x : Spindle) (a : Nat) (bs : Bytes) (h : Sparse.wf 0 x.scratch = true) :
    Sparse.wf 0 (x.poke a bs).scratch = true := by
  simpa [Spindle.poke] using writeBytes_wf _ _ _ h

/-- A fold of steps that each keep a property keeps it. -/
theorem State.foldl_keeps {α : Type} (p : State → Prop) (g : State → α → State) (h : ∀ s a, p s → p (g s a)) (l : List α)
    (s : State) (hs : p s) : p (l.foldl g s) := by
  induction l generalizing s with
  | nil => exact hs
  | cons a l ih => exact ih _ (h s a hs)

/-- A write of a page keeps the canonical form. -/
theorem State.setPage_wf (s : State) (t p : Nat) (bs : Bytes) (h : Sparse.wf 0 s.tiles = true) :
    Sparse.wf 0 (s.setPage t p bs).tiles = true := by
  simp only [State.setPage]
  split
  · exact writeBytes_wf _ _ _ h
  · exact writeBytes_wf _ _ _ h

/-- A write of tile bytes keeps the canonical form. -/
theorem State.putTile_wf (s : State) (t off : Nat) (bs : Bytes) (h : Sparse.wf 0 s.tiles = true) :
    Sparse.wf 0 (s.putTile t off bs).tiles = true := by
  simp only [State.putTile]
  split
  · exact State.foldl_keeps (fun s => Sparse.wf 0 s.tiles = true) _ (fun s p hs => s.setPage_wf t p _ hs) _ s h
  · exact writeBytes_wf _ _ _ h

/-- A write of one tile element keeps the canonical form. -/
theorem State.setElem_wf (s : State) (t eb i v : Nat) (h : Sparse.wf 0 s.tiles = true) :
    Sparse.wf 0 (s.setElem t eb i v).tiles = true := s.putTile_wf t _ _ h

/-- Zeroing a tile keeps the canonical form. -/
theorem State.zeroTile_wf (s : State) (t : Nat) (h : Sparse.wf 0 s.tiles = true) : Sparse.wf 0 (s.zeroTile t).tiles = true := by
  simp only [State.zeroTile]
  split
  · exact State.foldl_keeps (fun s => Sparse.wf 0 s.tiles = true) _ (fun s p hs => s.setPage_wf t p _ hs) _ s h
  · exact Sparse.clear_wf _ _ _ _ h

/-- A write to host memory keeps the canonical form. -/
theorem State.hostPut_wf (s : State) (f a : Nat) (bs : Bytes) (h : Sparse.wf 0 s.host = true) :
    Sparse.wf 0 (s.hostPut f a bs).host = true := by
  simp only [State.hostPut]
  split
  · exact writeBytes_wf _ _ _ h
  · split <;> exact h

/-- The memories and tables of State.reset are in canonical form. -/
theorem reset_memWf : State.reset.memWf = true ∧ State.reset.tablesWf = true := by decide

end Sys2Proof.Machine
end

