-- ==== Sys2Proof/Laws/Commands.lean ====
section
/-! SUPPORT. What the shared shapes of a command can do, said once: program commands, ring commands, privileged registers,
descriptors of a ring, the command register of a function. -/
namespace Sys2Proof.Machine
open Sys2Proof

/-- A register command of a function is ignored, refused with 0x0703, or acts (R370, R389). -/
theorem State.funcCmd_cases (s : State) (f : Nat) (g : Fld) (j : Nat) (body : State → State) :
    (s.funcUp f = false ∧ s.funcCmd f g j body = s) ∨
    (s.funcUp f = false ∧ s.funcCmd f g j body = s.accErr (selfReq f) 0x0703 (ownOff f g j)) ∨
    (s.funcUp f = true ∧ s.funcCmd f g j body = body s) := by
  unfold State.funcCmd
  cases s.funcUp f
  · simp only [Bool.false_eq_true, if_false, true_and, false_and, or_false]
    split
    · exact .inr rfl
    · exact .inl rfl
  · simp

/-- A register command of a function that can reach its page acts. -/
theorem State.funcCmd_up {s : State} {f : Nat} (h : s.funcUp f = true) (g : Fld) (j : Nat) (body : State → State) :
    s.funcCmd f g j body = body s := by simp [State.funcCmd, h]

/-- A program command is ignored, refused, dropped, or runs (R200, R370, R401). -/
theorem State.progCmd_cases (s : State) (f : Nat) (body : State → State) :
    (s.funcUp f = false ∧ (s.progCmd f body = s ∨ s.progCmd f body = s.accErr (selfReq f) 0x0703 (ownOff f Reg.progCmd))) ∨
    (s.rdb Reg.progBusy f = true ∧ s.progCmd f body = s.flag Reg.progDropped f) ∨
    (s.rdb Reg.attAttached f = false ∧ s.progCmd f body = s.progDone f 0x0A1A) ∨
    (s.funcUp f = true ∧ s.rdb Reg.progBusy f = false ∧ s.rdb Reg.attAttached f = true ∧ s.progCmd f body = body s) := by
  unfold State.progCmd
  rcases s.funcCmd_cases f Reg.progCmd 0 (fun s =>
    if s.rdb Reg.progBusy f then s.flag Reg.progDropped f
    else if !s.rdb Reg.attAttached f then s.progDone f 0x0A1A
    else body s) with ⟨h, e⟩ | ⟨h, e⟩ | ⟨h, e⟩
  · exact .inl ⟨h, .inl e⟩
  · exact .inl ⟨h, .inr e⟩
  · rw [e]
    cases s.rdb Reg.progBusy f <;> cases s.rdb Reg.attAttached f <;> simp [h]

/-- A ring command is ignored, refused, or runs (R370, R380, R401). -/
theorem State.ringCmd_cases (s : State) (f n : Nat) (body : State → State) :
    ((s.funcUp f = false ∨ 4 ≤ n ∨ s.rd Reg.ringBusy f n = 1) ∧
      (s.ringCmd f n body = s ∨ s.ringCmd f n body = s.accErr (selfReq f) 0x0703 (ownOff f Reg.ringCmd n))) ∨
    (s.rdb Reg.attAttached f = false ∧ s.ringCmd f n body = s.wr Reg.ringCode 0x0A1A f n) ∨
    (s.funcUp f = true ∧ n < 4 ∧ s.rd Reg.ringBusy f n ≠ 1 ∧ s.rdb Reg.attAttached f = true ∧ s.ringCmd f n body = body s) := by
  unfold State.ringCmd
  by_cases hn : 4 ≤ n
  · simp [hn]
  · rw [if_neg hn]
    rcases s.funcCmd_cases f Reg.ringCmd n (fun s =>
      if s.rd Reg.ringBusy f n = 1 then s
      else if !s.rdb Reg.attAttached f then s.wr Reg.ringCode 0x0A1A f n
      else body s) with ⟨h, e⟩ | ⟨h, e⟩ | ⟨h, e⟩
    · exact .inl ⟨.inl h, .inl e⟩
    · exact .inl ⟨.inl h, .inr e⟩
    · rw [e]
      by_cases hb : s.rd Reg.ringBusy f n = 1
      · simp [hb]
      · cases ha : s.rdb Reg.attAttached f
        · simp [hb]
        · simp only [hb, if_false, Bool.not_true, Bool.false_eq_true, if_false]
          exact .inr (.inr ⟨h, by omega, by simpa using hb, trivial, trivial⟩)

/-- A privileged register is out of reach, refused with 0x0703 outside the stream or with 0x0702, or acts (R10, R11, R370). -/
theorem State.privCmd_cases (s : State) (r : Req) (off : Nat) (body : State → State) :
    (s.devAccess r = false ∧ s.privCmd r off body = s) ∨
    (s.devAccess r = true ∧ s.outside r = true ∧ s.privCmd r off body = s.accErr r 0x0703 off) ∨
    (s.devAccess r = true ∧ s.outside r = false ∧ s.privileged r = false ∧ s.privCmd r off body = s.accErr r 0x0702 off) ∨
    (s.devAccess r = true ∧ s.outside r = false ∧ s.privileged r = true ∧ s.privCmd r off body = body s) := by
  unfold State.privCmd
  cases s.devAccess r <;> cases s.outside r <;> cases s.privileged r <;> simp

/-- A descriptor of another kind, or one the ring does not take now, changes nothing (R382). -/
theorem State.job_ignored (s : State) (f n op : Nat) (desc : Bytes) (want : Option Nat) (rec_ : Option Bytes)
    (body : Nat → Bytes → State → (Nat × Nat) × State)
    (h : desc.length ≠ 64 ∨ jOp (leNat desc) ≠ op ∨ s.ringTakes f n (leNat desc) = false) : s.job f n desc op want rec_ body = s := by
  unfold State.job
  rcases h with h | h | h <;> simp [h]

/-- A well-formed descriptor with its record: SQ_HEAD moves on, the body runs, and the completion is posted (R383). -/
theorem State.job_runs (s : State) (f n op : Nat) (desc b : Bytes) (want : Option Nat)
    (body : Nat → Bytes → State → (Nat × Nat) × State) (h1 : desc.length = 64) (h2 : jOp (leNat desc) = op)
    (h3 : s.ringTakes f n (leNat desc) = true) (h4 : jobWf (leNat desc) = true) (h5 : b.length = jRecLen (leNat desc))
    (h6 : want.any (fun w => w != jRecLen (leNat desc)) = false) :
    s.job f n desc op want (some b) body =
      (let p := body (leNat desc) b (s.takeJob f n)
       p.2.jobDone f n (leNat desc) p.1.1 p.1.2) := by
  unfold State.job
  simp [h1, h2, h3, h4, h5, h6]

/-- A malformed descriptor has no effect and completes with 0x0A14 (R383). -/
theorem State.job_malformed (s : State) (f n op : Nat) (desc : Bytes) (want : Option Nat) (rec_ : Option Bytes)
    (body : Nat → Bytes → State → (Nat × Nat) × State) (h1 : desc.length = 64) (h2 : jOp (leNat desc) = op)
    (h3 : s.ringTakes f n (leNat desc) = true)
    (h4 : jobWf (leNat desc) = false ∨ want.any (fun w => w != jRecLen (leNat desc)) = true) :
    s.job f n desc op want rec_ body =
      (s.takeJob f n).jobDone f n (leNat desc) 0x0A14 0 := by
  unfold State.job
  rcases h4 with h4 | h4 <;> simp [h1, h2, h3, h4]

/-- A command of a function's command register that runs (R285). -/
theorem State.xrecord_reg (s : State) (f op : Nat) (body : Bytes → State → (Nat × Nat) × State) (h1 : s.funcUp f = true)
    (h2 : s.rdb Reg.attAttached f = true) :
    s.xrecord f .reg op body =
      (let p := body (toLe 64 (s.rd Reg.fnXdesc f)) s
       (p.2.wr Reg.fnXcode p.1.1 f).wr Reg.fnXresult p.1.2 f) := by
  simp [State.xrecord, State.funcCmd_up h1, h2]

/-- What an event, a host write or a register field leaves alone: rounds, spindles, tiles, queue pairs, counters, fuses and the
time. -/
def State.Same (s t : State) : Prop :=
  t.rounds = s.rounds ∧ t.spindles = s.spindles ∧ t.tiles = s.tiles ∧ t.tags = s.tags ∧ t.qps = s.qps ∧ t.ctrs = s.ctrs ∧
  t.otp = s.otp ∧ t.time = s.time

theorem State.Same.refl (s : State) : s.Same s := ⟨rfl, rfl, rfl, rfl, rfl, rfl, rfl, rfl⟩

theorem State.Same.trans {s t u : State} (h : s.Same t) (k : t.Same u) : s.Same u := by
  unfold State.Same at *
  obtain ⟨a, b, c, d, e, f, g, i⟩ := h
  obtain ⟨a', b', c', d', e', f', g', i'⟩ := k
  exact ⟨a'.trans a, b'.trans b, c'.trans c, d'.trans d, e'.trans e, f'.trans f, g'.trans g, i'.trans i⟩

/-- Steps that each leave these alone leave them alone together. -/
theorem State.Same.foldl {α : Type} (g : State → α → State) (h : ∀ (s : State) a, s.Same (g s a)) (l : List α) (s : State) :
    s.Same (l.foldl g s) := by
  induction l generalizing s with
  | nil => exact .refl s
  | cons a l ih => exact (h s a).trans (ih _)

theorem State.wr_same (s : State) (f : Fld) (v i j : Nat) : s.Same (s.wr f v i j) := ⟨rfl, rfl, rfl, rfl, rfl, rfl, rfl, rfl⟩
theorem State.updFn_same (s : State) (f : Nat) (g : Func → Func) : s.Same (s.updFn f g) := ⟨rfl, rfl, rfl, rfl, rfl, rfl, rfl, rfl⟩
theorem State.emit_same (s : State) (o : Out) : s.Same (s.emit o) := ⟨rfl, rfl, rfl, rfl, rfl, rfl, rfl, rfl⟩
theorem State.noteWas_same (s : State) (f : Fld) (i j : Nat) : s.Same (s.noteWas f i j) := by
  unfold State.noteWas; split <;> exact ⟨rfl, rfl, rfl, rfl, rfl, rfl, rfl, rfl⟩
theorem State.bump_same (s : State) (f : Fld) (i n j : Nat) : s.Same (s.bump f i n j) := (s.noteWas_same f i j).trans (State.wr_same _ _ _ _ _)
theorem State.flag_same (s : State) (f : Fld) (i : Nat) : s.Same (s.flag f i) := ⟨rfl, rfl, rfl, rfl, rfl, rfl, rfl, rfl⟩

/-- A capture log changes register fields alone (R377). -/
theorem State.capture_same (s : State) (f : Fld) (vs : List (Fld × Nat)) (i : Nat) : s.Same (s.capture f vs i) := by
  unfold State.capture
  split
  · exact ⟨rfl, rfl, rfl, rfl, rfl, rfl, rfl, rfl⟩
  · exact (State.Same.foldl _ (fun s (p : Fld × Nat) => s.wr_same p.1 p.2 i 0) vs s).trans (State.flag_same _ _ _)

/-- Host memory written by DMA, or held back (R372). -/
theorem State.hostPut_same (s : State) (f a : Nat) (bs : Bytes) : s.Same (s.hostPut f a bs) := by
  unfold State.hostPut
  split
  · exact ⟨rfl, rfl, rfl, rfl, rfl, rfl, rfl, rfl⟩
  · split
    · exact .refl s
    · exact s.updFn_same f _

/-- A vector is sent or held pending (R371). -/
theorem State.sendVec_same (s : State) (f v : Nat) : s.Same (s.sendVec f v) := by
  unfold State.sendVec
  split
  · exact .refl s
  · split
    · exact s.wr_same _ _ _ _
    · exact s.emit_same _

/-- Records that move up change host memory alone (R281). -/
theorem State.evtShift_same (s : State) (f h k : Nat) : s.Same (s.evtShift f h k) :=
  State.Same.foldl _ (fun u _ => u.hostPut_same f _ _) _ s

/-- The window of a pair and the ring's vector (R281, R284). -/
theorem State.evtNotify_same (s : State) (f code obj now : Nat) : s.Same ((s.evtWindow f code obj now).evtNotify f) := by
  refine State.Same.trans (t := s.evtWindow f code obj now) (State.updFn_same s f _) ?_
  unfold State.evtNotify
  split
  · exact .refl _
  · exact (State.updFn_same _ f _).trans (State.sendVec_same _ _ _)

/-- A record written to the event ring (R281). -/
theorem State.evtWrite_same (s : State) (f code kind obj aux reps : Nat) (fatal : Bool) (now : Nat) :
    s.Same (s.evtWrite f code kind obj aux reps fatal now) :=
  (s.evtShift_same f _ _).trans ((State.hostPut_same _ f _ _).trans ((State.wr_same _ _ _ _ _).trans (State.evtNotify_same _ _ _ _ _)))

/-- A record lost (R284). -/
theorem State.evtLose_same (s : State) (f code obj : Nat) : s.Same (s.evtLose f code obj) :=
  (s.bump_same _ _ _ _).trans (State.updFn_same _ f _)

/-- The newest record overwritten (R284). -/
theorem State.evtOverwrite_same (s : State) (f code kind obj aux reps now : Nat) :
    s.Same (s.evtOverwrite f code kind obj aux reps now) :=
  (s.hostPut_same f _ _).trans ((State.bump_same _ _ _ _ _).trans (State.evtNotify_same _ _ _ _ _))

/-- An event changes no round, spindle, tile, queue pair, counter or fuse, and not the time (R281, R284). -/
theorem State.raiseAt_same (s : State) (now f code kind obj aux : Nat) (fatal : Bool) :
    s.Same (s.raiseAt now f code kind obj aux fatal) := by
  simp only [State.raiseAt]
  split
  · exact .refl s
  · split
    · exact s.updFn_same f _
    · split
      · exact s.updFn_same f _
      · split
        · exact s.evtLose_same f _ _
        · split
          · split
            · exact s.evtOverwrite_same f _ _ _ _ _ _
            · exact s.evtLose_same f _ _
          · exact s.evtWrite_same f _ _ _ _ _ _ _

theorem State.raise_same (s : State) (f code kind obj aux : Nat) (fatal : Bool) : s.Same (s.raise f code kind obj aux fatal) :=
  s.raiseAt_same s.time f code kind obj aux fatal

theorem State.raiseAll_same (s : State) (fs : List Nat) (code kind obj : Nat) (fatal : Bool) :
    s.Same (s.raiseAll fs code kind obj fatal) := State.Same.foldl _ (fun s f => s.raise_same f code kind obj 0 fatal) fs s

/-- An event that is not enabled, or of a function in reset, changes nothing (R281). -/
theorem State.raise_masked (s : State) (f code kind obj aux : Nat) (fatal : Bool)
    (h : s.evtEnabled f code = false ∨ (s.fn f).resetAt.isSome = true) : s.raise f code kind obj aux fatal = s := by
  unfold State.raise State.raiseAt
  rcases h with h | h <;> simp [h]

/-- A refused access is logged, and nothing else (R11, R379). -/
theorem State.accErr_same (s : State) (r : Req) (code off : Nat) : s.Same (s.accErr r code off) :=
  (s.flag_same _ _).trans ((State.capture_same _ _ _ _).trans (State.raise_same _ _ _ _ _ _ _))

end Sys2Proof.Machine
end

