-- ==== Sys2Proof/Laws/Issue.lean ====
section
/-! SUPPORT. What issuing an instruction can do, said once: a word that issues runs its body; every other way an issue ends. -/
namespace Sys2Proof.Machine
open Sys2Proof

/-- An instruction word that issues runs its body. -/
theorem State.issue_eq {s : State} {j w : Nat} (h : s.issues j w = true) {key : Nat × Nat × Nat} (hk : wKey w = key)
    (body : Nat → Nat → State → State) : s.issue j key body = body ((s.owner? j).getD 0) w s := by
  unfold State.issues at h
  simp only [Bool.and_eq_true, beq_iff_eq] at h
  obtain ⟨⟨h1, h2⟩, h3⟩ := h
  unfold State.issue
  split at h3
  · rename_i u hu
    simp at h3
    simp [h1, h2, hu, hk, h3]
  · cases h3

/-- An issue that is not the spindle's turn, or not this instruction, changes nothing. -/
theorem State.issue_idle {s : State} {j : Nat} (h : s.issuing j = false) (key : Nat × Nat × Nat)
    (body : Nat → Nat → State → State) : s.issue j key body = s := by simp [State.issue, h]

/-- A PC outside the text traps (R178). -/
theorem State.issue_outside {s : State} {j : Nat} (h : s.issuing j = true) (hf : (s.spin j).fetch = none)
    (key : Nat × Nat × Nat) (body : Nat → Nat → State → State) : s.issue j key body = s.trapHere j 0x0A08 0 := by
  simp [State.issue, h, hf]

/-- A word that is not well formed traps whatever its guard (R187). -/
theorem State.issue_illegal {s : State} {j w : Nat} (h : s.issuing j = true) (hf : (s.spin j).fetch = some w)
    (hu : usesOf w (s.nctr j) = none) (key : Nat × Nat × Nat) (body : Nat → Nat → State → State) :
    s.issue j key body = s.trapHere j 0x0A07 w := by simp [State.issue, h, hf, hu]

/-- Advancing a spindle is going on with no other change. -/
theorem State.advance_eq (s : State) (j : Nat) : s.advance j = s.goOn j id := rfl

/-- The registers of a unit instruction pass their checks. -/
theorem State.regs_eq {s : State} {j : Nat} {e : Nat → Nat} {regs : List (Nat × List Nat)} (h : s.regsOk j e regs = true) :
    firstSome (fun (p : Nat × List Nat) =>
      s.regFault (s.spin j) ((s.owner? j).getD 0) (e ((s.spin j).qreg p.1).toNat) p.1 p.2) regs = none := by
  simpa [State.regsOk] using h

/-- A unit instruction that is ready runs its body on its captured operands. -/
theorem State.unitOp_eq {s : State} {j w : Nat} {key : Nat × Nat × Nat} {r : List (Nat × List Nat)}
    (h : s.unitReady j w key s.eOf r = true) {regs : Nat → List (Nat × List Nat)} (hr : regs w = r)
    (body : TOps → State → State) : s.unitOp j key regs body = body (s.ops j w) s := by
  subst hr
  unfold State.unitReady at h
  simp only [Bool.and_eq_true, beq_iff_eq] at h
  obtain ⟨⟨h1, h2⟩, h3⟩ := h
  simp only [State.unitOp, State.unitOpE, State.issue_eq h1 h2]
  rw [State.regs_eq h3]; rfl

/-- The same for an instruction that takes its elements per tile from elsewhere. -/
theorem State.unitOpE_eq {s : State} {j w : Nat} {key : Nat × Nat × Nat} {ef : State → TOps → Nat → Nat} {e : Nat → Nat}
    {r : List (Nat × List Nat)} (h : s.unitReady j w key e r = true) {regs : Nat → List (Nat × List Nat)} (hr : regs w = r)
    (he : ∀ q, ef s (s.ops j w) q = e q) (body : TOps → State → State) :
    s.unitOpE j key ef regs body = body (s.ops j w) s := by
  subst hr
  unfold State.unitReady at h
  simp only [Bool.and_eq_true, beq_iff_eq] at h
  obtain ⟨⟨h1, h2⟩, h3⟩ := h
  have h4 := State.regs_eq h3
  simp only [State.ops] at he
  simp only [State.unitOpE, State.issue_eq h1 h2, he, h4]
  rfl

@[simp] theorem Spindle.capture_f (x : Spindle) (f w : Nat) : (x.capture f w).f = f := rfl
@[simp] theorem State.ops_f (s : State) (j w : Nat) : (s.ops j w).f = (s.owner? j).getD 0 := rfl
@[simp] theorem State.ops_w (s : State) (j w : Nat) : (s.ops j w).w = w := rfl

end Sys2Proof.Machine
end

