-- ==== Sys2Proof/Laws/PerInstr.lean ====
section
/-! SUPPORT. What well-formedness says of each command: the units it names (spindle, function, ring, queue pair, round, slot,
port, tile) are among those the device has. -/
namespace Sys2Proof.Laws.Wf
open Sys2Proof

/-- The units a command names, each with the number of them the device has. -/
def units (i : Instr) : List (Nat × Nat) :=
  match i with
  | .registerWrite _ _ _ _ =>
    []
  | .counterReadClear _ addr | .rngData _ addr =>
    [(addr, 2 ^ 26)]
  | .add sp | .sub sp | .and sp | .or sp | .xor sp | .sll sp | .srl sp | .sra sp | .mul sp | .mulhu sp | .cmpeq sp
  | .cmplt sp | .cmpltu sp | .sel sp | .pand sp | .por sp | .pxor sp | .movp sp | .addi sp | .andi sp | .ori sp
  | .xori sp | .slli sp | .srli sp | .srai sp | .cmpeqi sp | .cmplti sp | .cmpltui sp | .lih sp | .ld1 sp | .ld2 sp
  | .ld4 sp | .ld8 sp | .ld16 sp | .st1 sp | .st2 sp | .st4 sp | .st8 sp | .st16 sp | .sysr sp | .br sp | .fold sp
  | .foldr sp | .directoryPageFetch sp | .zero sp | .copy sp | .drain sp | .drainCombine sp | .drainRead sp | .chkt sp
  | .takeD sp | .takeWake sp | .takeO sp | .takeS sp | .takeA sp | .expand sp | .seedrec sp | .prgh sp | .openMsg sp
  | .ntt sp | .intt sp | .pmul sp | .padd sp | .auto sp | .modup sp | .moddn sp | .resc sp | .ksw sp | .lutr sp
  | .decode sp | .noise sp | .clip sp | .clipFinish sp | .apply sp | .release sp | .gate sp | .gateTimeout sp
  | .waitc sp | .waitTimeout sp | .signal sp | .signalApply sp | .fence sp | .trap sp | .trapReturn sp | .halt sp
  | .haltDone sp | .step sp | .stepSetround sp | .lockkeeperWatchdog sp | .spindleStopped sp | .spareSubstituted sp
  | .journalPoint sp =>
    [(sp, 32)]
  | .foldSegmentRetire sp _ | .residueCheckFail sp _ | .unitInstructionRetire sp _ =>
    [(sp, 32)]
  | .releaseTrailerDone f r | .roundEnterOpen f r | .periodicRoundOpen f r | .roundGuardTimer f r | .roundDeadline f r
  | .candidatesResolved f r | .unmaskTimeout f r | .releaseDestTimeout f r | .partialDecryptTimeout f r
  | .canonicalPassDone f r | .childWaitExpiry f r | .partialDigestDone f r | .plyLateSlotExpiry f r =>
    [(f, 64), (r, 2 ^ 40)]
  | .gateRelease f _ | .load f _ | .nlTimeout f _ | .ctrVal f _ | .kem f _ | .bind f _ | .policy f _ | .joinList f _
  | .noiseSeed f _ | .memKey f _ | .checkpointKey f _ | .evtTail f _ =>
    [(f, 64)]
  | .start f | .stop f | .resume f | .unload f | .fkeyZero f | .memKeyInitDone f | .memRotationSweep f | .flr f
  | .functionResetDone f | .fsnapCmd f | .ideReq f | .ideStreamFailed f | .attach f | .goService f
  | .partitionRevocationDone f =>
    [(f, 64)]
  | .openRound f n _ _ | .hostSubmit f n _ _ | .applyRound f n _ _ | .createQp f n _ _
  | .checkpointResume f n _ _ =>
    [(f, 64), (n, 4)]
  | .abandonRound f n _ | .roundStatus f n _ | .setDest f n _ | .nop f n _ | .qpClose f n _
  | .qpDestroy f n _ | .qpPin f n _ | .qpUnpin f n _ | .qpBind f n _ | .checkpoint f n _
  | .leafDigests f n _ =>
    [(f, 64), (n, 4)]
  | .contribution f _ lz _ | .recoveryMessage f _ lz _ =>
    [(f, 64), (lz, 2 ^ 24)]
  | .committeeReturn f qpn _ | .partialDecryption f qpn _ | .cohortMessage f qpn _ | .plyAsset f qpn _
  | .plyOpen f qpn _ | .plyCohort f qpn _ | .plyVerdict f qpn _ | .plyShare f qpn _ | .plyReturn f qpn _
  | .plyDigest f qpn _ | .plyDone f qpn _ =>
    [(f, 64), (qpn, 2 ^ 20)]
  | .hello _ | .accept _ | .refuse _ | .send _ | .write _ | .ack _ | .nak _ | .close _ =>
    []
  | .handshakeRetry qpn | .kztPacketTransmit qpn | .ackTimer qpn | .creditProbe qpn | .drainingTimeout qpn
  | .fetchTimeout qpn =>
    [(qpn, 2 ^ 20)]
  | .rtoExpiry qpn _ =>
    [(qpn, 2 ^ 20)]
  | .pathSuspectExpiry qpn h =>
    [(qpn, 2 ^ 20), (h, 256)]
  | .contextFetchDone qpn _ _ =>
    [(qpn, 2 ^ 20)]
  | .portDown port | .portUp port =>
    [(port, 64)]
  | .openWin f _ | .revokeWin f _ | .postTwr f _ | .cancelTwr f _ =>
    [(f, 64)]
  | .twrFire _ _ | .creelDone _ _ =>
    []
  | .syncEpoch _ m =>
    [(m, 2 ^ 64)]
  | .syncMarker | .syncMarkerTimeout | .plyHeartbeat | .plyPartnerLost | .rngCollectionDone | .reseedTimer
  | .generateRequest | .rngWordServe | .remask | .pcieLinkDown | .pcieLinkUp | .perstNAssert | .perstNRelease
  | .fwImageTimeout | .attestDone | .fwinitDone | .ready | .bootTimeout | .nalamWatchdog
  | .creelTierLost | .bookAudit | .frzNAssert | .freezeZeroiseDone | .bypass | .idcode | .samplePreload | .extest
  | .frzData | .fieldSelfTest | .vidStep | .rootPllLock | .rootPllFail =>
    []
  | .plyForm _ | .plyDissolve _ | .lcVoid _ | .rollbackCommit _ | .partCmd _ | .frGo _ | .snapCmd _ | .fwDoorbell _
  | .full _ | .fuseRepair _ =>
    []
  | .rngSourceSettled k | .rngStartupTestDone k =>
    [(k, 8)]
  | .rngHealthFail k _ =>
    [(k, 8)]
  | .assign _ slot func _ =>
    [(slot, 64), (func, 64)]
  | .keyRelease _ slot | .keyZero _ slot =>
    [(slot, 64)]
  | .lifecycleTransition _ | .mctpControl _ | .fwImageArrival _ | .warmImageVerified _ | .dbgToken _ | .frzAddr _
  | .thermalTrip _ | .railFault _ | .plyRangeExchange _ =>
    []
  | .getVersion f _ | .getCapabilities f _ | .negotiateAlgorithms f _ | .getDigests f _ | .getCertificate f _
  | .challenge f _ | .getMeasurements f _ | .keyExchange f _ | .finish f _ | .heartbeat f _ | .keyUpdate f _
  | .endSession f _ | .ideKm f _ =>
    [(f, 64)]
  | .evk f _ _ | .committeeKey f _ _ =>
    [(f, 64)]
  | .ringCreate f n | .ringDestroy f n =>
    [(f, 64), (n, 4)]
  | .sqTail f n _ | .cqHead f n _ =>
    [(f, 64), (n, 4)]
  | .farDone fast slow =>
    [(fast, 2 ^ 16), (slow, 2 ^ 16)]
  | .portsDone up =>
    [(up, 2 ^ 64)]
  | .warmGo _ _ =>
    []
  | .ccWatchdog core =>
    [(core, 4)]
  | .clockLoss _ =>
    []
  | .farPackageLost p =>
    [(p, 16)]
  | .creelScrub t | .scrubFoldHold t | .farScrub t =>
    [(t, 2 ^ 24)]
  | .stagingDone f t =>
    [(f, 64), (t, 2 ^ 24)]
  | .fieldNow _ _ =>
    []
  | .bistDone _ | .drbgSeededAtBoot _ =>
    []
  | .weirSample _ _ =>
    []
  | .vfEnable num =>
    [(num, 64)]
  | .hostAccessFail _ =>
    []

/-- A well-formed command names only units the device has. -/
def Statement (i : Instr) : Prop := i.wf = true → (units i).all (fun p => decide (p.1 < p.2)) = true

theorem one {a : Bool} (h : a = true) : (a && true) = true := by simp [h]

theorem two {a b : Bool} (h : (a && b) = true) : (a && (b && true)) = true := by simpa using h

theorem registerWrite (r : Req) (addr size : Nat) (v : BitVec 64) : Statement (.registerWrite r addr size v) := fun _ => rfl
theorem counterReadClear (r : Req) (addr : Nat) : Statement (.counterReadClear r addr) := by
  show (r.wf && decide (addr < 2 ^ 26)) = true → ([(addr, 2 ^ 26)] : List (Nat × Nat)).all (fun p => decide (p.1 < p.2)) = true
  simp +contextual
theorem add (sp : Nat) : Statement (.add sp) := fun hw => one (a := decide (sp < 32)) hw
theorem sub (sp : Nat) : Statement (.sub sp) := fun hw => one (a := decide (sp < 32)) hw
theorem and (sp : Nat) : Statement (.and sp) := fun hw => one (a := decide (sp < 32)) hw
theorem or (sp : Nat) : Statement (.or sp) := fun hw => one (a := decide (sp < 32)) hw
theorem xor (sp : Nat) : Statement (.xor sp) := fun hw => one (a := decide (sp < 32)) hw
theorem sll (sp : Nat) : Statement (.sll sp) := fun hw => one (a := decide (sp < 32)) hw
theorem srl (sp : Nat) : Statement (.srl sp) := fun hw => one (a := decide (sp < 32)) hw
theorem sra (sp : Nat) : Statement (.sra sp) := fun hw => one (a := decide (sp < 32)) hw
theorem mul (sp : Nat) : Statement (.mul sp) := fun hw => one (a := decide (sp < 32)) hw
theorem mulhu (sp : Nat) : Statement (.mulhu sp) := fun hw => one (a := decide (sp < 32)) hw
theorem cmpeq (sp : Nat) : Statement (.cmpeq sp) := fun hw => one (a := decide (sp < 32)) hw
theorem cmplt (sp : Nat) : Statement (.cmplt sp) := fun hw => one (a := decide (sp < 32)) hw
theorem cmpltu (sp : Nat) : Statement (.cmpltu sp) := fun hw => one (a := decide (sp < 32)) hw
theorem sel (sp : Nat) : Statement (.sel sp) := fun hw => one (a := decide (sp < 32)) hw
theorem pand (sp : Nat) : Statement (.pand sp) := fun hw => one (a := decide (sp < 32)) hw
theorem por (sp : Nat) : Statement (.por sp) := fun hw => one (a := decide (sp < 32)) hw
theorem pxor (sp : Nat) : Statement (.pxor sp) := fun hw => one (a := decide (sp < 32)) hw
theorem movp (sp : Nat) : Statement (.movp sp) := fun hw => one (a := decide (sp < 32)) hw
theorem addi (sp : Nat) : Statement (.addi sp) := fun hw => one (a := decide (sp < 32)) hw
theorem andi (sp : Nat) : Statement (.andi sp) := fun hw => one (a := decide (sp < 32)) hw
theorem ori (sp : Nat) : Statement (.ori sp) := fun hw => one (a := decide (sp < 32)) hw
theorem xori (sp : Nat) : Statement (.xori sp) := fun hw => one (a := decide (sp < 32)) hw
theorem slli (sp : Nat) : Statement (.slli sp) := fun hw => one (a := decide (sp < 32)) hw
theorem srli (sp : Nat) : Statement (.srli sp) := fun hw => one (a := decide (sp < 32)) hw
theorem srai (sp : Nat) : Statement (.srai sp) := fun hw => one (a := decide (sp < 32)) hw
theorem cmpeqi (sp : Nat) : Statement (.cmpeqi sp) := fun hw => one (a := decide (sp < 32)) hw
theorem cmplti (sp : Nat) : Statement (.cmplti sp) := fun hw => one (a := decide (sp < 32)) hw
theorem cmpltui (sp : Nat) : Statement (.cmpltui sp) := fun hw => one (a := decide (sp < 32)) hw
theorem lih (sp : Nat) : Statement (.lih sp) := fun hw => one (a := decide (sp < 32)) hw
theorem ld1 (sp : Nat) : Statement (.ld1 sp) := fun hw => one (a := decide (sp < 32)) hw
theorem ld2 (sp : Nat) : Statement (.ld2 sp) := fun hw => one (a := decide (sp < 32)) hw
theorem ld4 (sp : Nat) : Statement (.ld4 sp) := fun hw => one (a := decide (sp < 32)) hw
theorem ld8 (sp : Nat) : Statement (.ld8 sp) := fun hw => one (a := decide (sp < 32)) hw
theorem ld16 (sp : Nat) : Statement (.ld16 sp) := fun hw => one (a := decide (sp < 32)) hw
theorem st1 (sp : Nat) : Statement (.st1 sp) := fun hw => one (a := decide (sp < 32)) hw
theorem st2 (sp : Nat) : Statement (.st2 sp) := fun hw => one (a := decide (sp < 32)) hw
theorem st4 (sp : Nat) : Statement (.st4 sp) := fun hw => one (a := decide (sp < 32)) hw
theorem st8 (sp : Nat) : Statement (.st8 sp) := fun hw => one (a := decide (sp < 32)) hw
theorem st16 (sp : Nat) : Statement (.st16 sp) := fun hw => one (a := decide (sp < 32)) hw
theorem sysr (sp : Nat) : Statement (.sysr sp) := fun hw => one (a := decide (sp < 32)) hw
theorem br (sp : Nat) : Statement (.br sp) := fun hw => one (a := decide (sp < 32)) hw
theorem fold (sp : Nat) : Statement (.fold sp) := fun hw => one (a := decide (sp < 32)) hw
theorem foldSegmentRetire (sp i : Nat) : Statement (.foldSegmentRetire sp i) := fun hw => one (a := decide (sp < 32)) hw
theorem foldr (sp : Nat) : Statement (.foldr sp) := fun hw => one (a := decide (sp < 32)) hw
theorem directoryPageFetch (sp : Nat) : Statement (.directoryPageFetch sp) := fun hw => one (a := decide (sp < 32)) hw
theorem zero (sp : Nat) : Statement (.zero sp) := fun hw => one (a := decide (sp < 32)) hw
theorem copy (sp : Nat) : Statement (.copy sp) := fun hw => one (a := decide (sp < 32)) hw
theorem drain (sp : Nat) : Statement (.drain sp) := fun hw => one (a := decide (sp < 32)) hw
theorem drainCombine (sp : Nat) : Statement (.drainCombine sp) := fun hw => one (a := decide (sp < 32)) hw
theorem drainRead (sp : Nat) : Statement (.drainRead sp) := fun hw => one (a := decide (sp < 32)) hw
theorem chkt (sp : Nat) : Statement (.chkt sp) := fun hw => one (a := decide (sp < 32)) hw
theorem takeD (sp : Nat) : Statement (.takeD sp) := fun hw => one (a := decide (sp < 32)) hw
theorem takeWake (sp : Nat) : Statement (.takeWake sp) := fun hw => one (a := decide (sp < 32)) hw
theorem takeO (sp : Nat) : Statement (.takeO sp) := fun hw => one (a := decide (sp < 32)) hw
theorem takeS (sp : Nat) : Statement (.takeS sp) := fun hw => one (a := decide (sp < 32)) hw
theorem takeA (sp : Nat) : Statement (.takeA sp) := fun hw => one (a := decide (sp < 32)) hw
theorem expand (sp : Nat) : Statement (.expand sp) := fun hw => one (a := decide (sp < 32)) hw
theorem seedrec (sp : Nat) : Statement (.seedrec sp) := fun hw => one (a := decide (sp < 32)) hw
theorem prgh (sp : Nat) : Statement (.prgh sp) := fun hw => one (a := decide (sp < 32)) hw
theorem openMsg (sp : Nat) : Statement (.openMsg sp) := fun hw => one (a := decide (sp < 32)) hw
theorem ntt (sp : Nat) : Statement (.ntt sp) := fun hw => one (a := decide (sp < 32)) hw
theorem intt (sp : Nat) : Statement (.intt sp) := fun hw => one (a := decide (sp < 32)) hw
theorem pmul (sp : Nat) : Statement (.pmul sp) := fun hw => one (a := decide (sp < 32)) hw
theorem padd (sp : Nat) : Statement (.padd sp) := fun hw => one (a := decide (sp < 32)) hw
theorem auto (sp : Nat) : Statement (.auto sp) := fun hw => one (a := decide (sp < 32)) hw
theorem modup (sp : Nat) : Statement (.modup sp) := fun hw => one (a := decide (sp < 32)) hw
theorem moddn (sp : Nat) : Statement (.moddn sp) := fun hw => one (a := decide (sp < 32)) hw
theorem resc (sp : Nat) : Statement (.resc sp) := fun hw => one (a := decide (sp < 32)) hw
theorem ksw (sp : Nat) : Statement (.ksw sp) := fun hw => one (a := decide (sp < 32)) hw
theorem lutr (sp : Nat) : Statement (.lutr sp) := fun hw => one (a := decide (sp < 32)) hw
theorem decode (sp : Nat) : Statement (.decode sp) := fun hw => one (a := decide (sp < 32)) hw
theorem noise (sp : Nat) : Statement (.noise sp) := fun hw => one (a := decide (sp < 32)) hw
theorem clip (sp : Nat) : Statement (.clip sp) := fun hw => one (a := decide (sp < 32)) hw
theorem clipFinish (sp : Nat) : Statement (.clipFinish sp) := fun hw => one (a := decide (sp < 32)) hw
theorem apply (sp : Nat) : Statement (.apply sp) := fun hw => one (a := decide (sp < 32)) hw
theorem release (sp : Nat) : Statement (.release sp) := fun hw => one (a := decide (sp < 32)) hw
theorem releaseTrailerDone (f r : Nat) : Statement (.releaseTrailerDone f r) := fun hw => two (a := decide (f < 64)) (b := decide (r < 2 ^ 40)) hw
theorem gate (sp : Nat) : Statement (.gate sp) := fun hw => one (a := decide (sp < 32)) hw
theorem gateRelease (f g : Nat) : Statement (.gateRelease f g) := fun hw => one (a := decide (f < 64)) hw
theorem gateTimeout (sp : Nat) : Statement (.gateTimeout sp) := fun hw => one (a := decide (sp < 32)) hw
theorem waitc (sp : Nat) : Statement (.waitc sp) := fun hw => one (a := decide (sp < 32)) hw
theorem waitTimeout (sp : Nat) : Statement (.waitTimeout sp) := fun hw => one (a := decide (sp < 32)) hw
theorem signal (sp : Nat) : Statement (.signal sp) := fun hw => one (a := decide (sp < 32)) hw
theorem signalApply (sp : Nat) : Statement (.signalApply sp) := fun hw => one (a := decide (sp < 32)) hw
theorem fence (sp : Nat) : Statement (.fence sp) := fun hw => one (a := decide (sp < 32)) hw
theorem trap (sp : Nat) : Statement (.trap sp) := fun hw => one (a := decide (sp < 32)) hw
theorem trapReturn (sp : Nat) : Statement (.trapReturn sp) := fun hw => one (a := decide (sp < 32)) hw
theorem halt (sp : Nat) : Statement (.halt sp) := fun hw => one (a := decide (sp < 32)) hw
theorem haltDone (sp : Nat) : Statement (.haltDone sp) := fun hw => one (a := decide (sp < 32)) hw
theorem step (sp : Nat) : Statement (.step sp) := fun hw => one (a := decide (sp < 32)) hw
theorem stepSetround (sp : Nat) : Statement (.stepSetround sp) := fun hw => one (a := decide (sp < 32)) hw
theorem lockkeeperWatchdog (sp : Nat) : Statement (.lockkeeperWatchdog sp) := fun hw => one (a := decide (sp < 32)) hw
theorem load (f : Nat) (img : Option Bytes) : Statement (.load f img) := fun hw => one (a := decide (f < 64)) hw
theorem start (f : Nat) : Statement (.start f) := fun hw => one (a := decide (f < 64)) hw
theorem stop (f : Nat) : Statement (.stop f) := fun hw => one (a := decide (f < 64)) hw
theorem spindleStopped (sp : Nat) : Statement (.spindleStopped sp) := fun hw => one (a := decide (sp < 32)) hw
theorem resume (f : Nat) : Statement (.resume f) := fun hw => one (a := decide (f < 64)) hw
theorem unload (f : Nat) : Statement (.unload f) := fun hw => one (a := decide (f < 64)) hw
theorem openRound (f n : Nat) (desc : Bytes) (rec : Option Bytes) : Statement (.openRound f n desc rec) := by
  show (decide (f < 64) && decide (n < 4) && decide (desc.length = 64)) = true → ([(f, 64), (n, 4)] : List (Nat × Nat)).all (fun p => decide (p.1 < p.2)) = true
  simp +contextual
theorem roundEnterOpen (f r : Nat) : Statement (.roundEnterOpen f r) := fun hw => two (a := decide (f < 64)) (b := decide (r < 2 ^ 40)) hw
theorem periodicRoundOpen (f r : Nat) : Statement (.periodicRoundOpen f r) := fun hw => two (a := decide (f < 64)) (b := decide (r < 2 ^ 40)) hw
theorem roundGuardTimer (f r : Nat) : Statement (.roundGuardTimer f r) := fun hw => two (a := decide (f < 64)) (b := decide (r < 2 ^ 40)) hw
theorem roundDeadline (f r : Nat) : Statement (.roundDeadline f r) := fun hw => two (a := decide (f < 64)) (b := decide (r < 2 ^ 40)) hw
theorem candidatesResolved (f r : Nat) : Statement (.candidatesResolved f r) := fun hw => two (a := decide (f < 64)) (b := decide (r < 2 ^ 40)) hw
theorem unmaskTimeout (f r : Nat) : Statement (.unmaskTimeout f r) := fun hw => two (a := decide (f < 64)) (b := decide (r < 2 ^ 40)) hw
theorem abandonRound (f n : Nat) (desc : Bytes) : Statement (.abandonRound f n desc) := by
  show (decide (f < 64) && decide (n < 4) && decide (desc.length = 64)) = true → ([(f, 64), (n, 4)] : List (Nat × Nat)).all (fun p => decide (p.1 < p.2)) = true
  simp +contextual
theorem roundStatus (f n : Nat) (desc : Bytes) : Statement (.roundStatus f n desc) := by
  show (decide (f < 64) && decide (n < 4) && decide (desc.length = 64)) = true → ([(f, 64), (n, 4)] : List (Nat × Nat)).all (fun p => decide (p.1 < p.2)) = true
  simp +contextual
theorem hostSubmit (f n : Nat) (desc : Bytes) (rec : Option Bytes) : Statement (.hostSubmit f n desc rec) := by
  show (decide (f < 64) && decide (n < 4) && decide (desc.length = 64)) = true → ([(f, 64), (n, 4)] : List (Nat × Nat)).all (fun p => decide (p.1 < p.2)) = true
  simp +contextual
theorem applyRound (f n : Nat) (desc : Bytes) (rec : Option Bytes) : Statement (.applyRound f n desc rec) := by
  show (decide (f < 64) && decide (n < 4) && decide (desc.length = 64)) = true → ([(f, 64), (n, 4)] : List (Nat × Nat)).all (fun p => decide (p.1 < p.2)) = true
  simp +contextual
theorem setDest (f n : Nat) (desc : Bytes) : Statement (.setDest f n desc) := by
  show (decide (f < 64) && decide (n < 4) && decide (desc.length = 64)) = true → ([(f, 64), (n, 4)] : List (Nat × Nat)).all (fun p => decide (p.1 < p.2)) = true
  simp +contextual
theorem releaseDestTimeout (f r : Nat) : Statement (.releaseDestTimeout f r) := fun hw => two (a := decide (f < 64)) (b := decide (r < 2 ^ 40)) hw
theorem nop (f n : Nat) (desc : Bytes) : Statement (.nop f n desc) := by
  show (decide (f < 64) && decide (n < 4) && decide (desc.length = 64)) = true → ([(f, 64), (n, 4)] : List (Nat × Nat)).all (fun p => decide (p.1 < p.2)) = true
  simp +contextual
theorem createQp (f n : Nat) (desc : Bytes) (rec : Option Bytes) : Statement (.createQp f n desc rec) := by
  show (decide (f < 64) && decide (n < 4) && decide (desc.length = 64)) = true → ([(f, 64), (n, 4)] : List (Nat × Nat)).all (fun p => decide (p.1 < p.2)) = true
  simp +contextual
theorem qpClose (f n : Nat) (desc : Bytes) : Statement (.qpClose f n desc) := by
  show (decide (f < 64) && decide (n < 4) && decide (desc.length = 64)) = true → ([(f, 64), (n, 4)] : List (Nat × Nat)).all (fun p => decide (p.1 < p.2)) = true
  simp +contextual
theorem qpDestroy (f n : Nat) (desc : Bytes) : Statement (.qpDestroy f n desc) := by
  show (decide (f < 64) && decide (n < 4) && decide (desc.length = 64)) = true → ([(f, 64), (n, 4)] : List (Nat × Nat)).all (fun p => decide (p.1 < p.2)) = true
  simp +contextual
theorem qpPin (f n : Nat) (desc : Bytes) : Statement (.qpPin f n desc) := by
  show (decide (f < 64) && decide (n < 4) && decide (desc.length = 64)) = true → ([(f, 64), (n, 4)] : List (Nat × Nat)).all (fun p => decide (p.1 < p.2)) = true
  simp +contextual
theorem qpUnpin (f n : Nat) (desc : Bytes) : Statement (.qpUnpin f n desc) := by
  show (decide (f < 64) && decide (n < 4) && decide (desc.length = 64)) = true → ([(f, 64), (n, 4)] : List (Nat × Nat)).all (fun p => decide (p.1 < p.2)) = true
  simp +contextual
theorem qpBind (f n : Nat) (desc : Bytes) : Statement (.qpBind f n desc) := by
  show (decide (f < 64) && decide (n < 4) && decide (desc.length = 64)) = true → ([(f, 64), (n, 4)] : List (Nat × Nat)).all (fun p => decide (p.1 < p.2)) = true
  simp +contextual
theorem checkpoint (f n : Nat) (desc : Bytes) : Statement (.checkpoint f n desc) := by
  show (decide (f < 64) && decide (n < 4) && decide (desc.length = 64)) = true → ([(f, 64), (n, 4)] : List (Nat × Nat)).all (fun p => decide (p.1 < p.2)) = true
  simp +contextual
theorem checkpointResume (f n : Nat) (desc : Bytes) (rec : Option Bytes) : Statement (.checkpointResume f n desc rec) := by
  show (decide (f < 64) && decide (n < 4) && decide (desc.length = 64)) = true → ([(f, 64), (n, 4)] : List (Nat × Nat)).all (fun p => decide (p.1 < p.2)) = true
  simp +contextual
theorem leafDigests (f n : Nat) (desc : Bytes) : Statement (.leafDigests f n desc) := by
  show (decide (f < 64) && decide (n < 4) && decide (desc.length = 64)) = true → ([(f, 64), (n, 4)] : List (Nat × Nat)).all (fun p => decide (p.1 < p.2)) = true
  simp +contextual
theorem contribution (f : Nat) (qp : Option Nat) (lz : Nat) (msg : Bytes) : Statement (.contribution f qp lz msg) := by
  show (decide (f < 64) && qp.all (fun n => decide (n < 2 ^ 20)) && decide (lz < 2 ^ 24)) = true → ([(f, 64), (lz, 2 ^ 24)] : List (Nat × Nat)).all (fun p => decide (p.1 < p.2)) = true
  simp +contextual
theorem recoveryMessage (f : Nat) (qp : Option Nat) (lz : Nat) (msg : Bytes) : Statement (.recoveryMessage f qp lz msg) := by
  show (decide (f < 64) && qp.all (fun n => decide (n < 2 ^ 20)) && decide (lz < 2 ^ 24)) = true → ([(f, 64), (lz, 2 ^ 24)] : List (Nat × Nat)).all (fun p => decide (p.1 < p.2)) = true
  simp +contextual
theorem committeeReturn (f qpn : Nat) (msg : Bytes) : Statement (.committeeReturn f qpn msg) := fun hw => two (a := decide (f < 64)) (b := decide (qpn < 2 ^ 20)) hw
theorem nlTimeout (f handle : Nat) : Statement (.nlTimeout f handle) := fun hw => one (a := decide (f < 64)) hw
theorem partialDecryption (f qpn : Nat) (msg : Bytes) : Statement (.partialDecryption f qpn msg) := fun hw => two (a := decide (f < 64)) (b := decide (qpn < 2 ^ 20)) hw
theorem partialDecryptTimeout (f r : Nat) : Statement (.partialDecryptTimeout f r) := fun hw => two (a := decide (f < 64)) (b := decide (r < 2 ^ 40)) hw
theorem canonicalPassDone (f r : Nat) : Statement (.canonicalPassDone f r) := fun hw => two (a := decide (f < 64)) (b := decide (r < 2 ^ 40)) hw
theorem cohortMessage (f qpn : Nat) (msg : Bytes) : Statement (.cohortMessage f qpn msg) := fun hw => two (a := decide (f < 64)) (b := decide (qpn < 2 ^ 20)) hw
theorem childWaitExpiry (f r : Nat) : Statement (.childWaitExpiry f r) := fun hw => two (a := decide (f < 64)) (b := decide (r < 2 ^ 40)) hw
theorem partialDigestDone (f r : Nat) : Statement (.partialDigestDone f r) := fun hw => two (a := decide (f < 64)) (b := decide (r < 2 ^ 40)) hw
theorem hello (p : Packet) : Statement (.hello p) := fun _ => rfl
theorem accept (p : Packet) : Statement (.accept p) := fun _ => rfl
theorem refuse (p : Packet) : Statement (.refuse p) := fun _ => rfl
theorem handshakeRetry (qpn : Nat) : Statement (.handshakeRetry qpn) := fun hw => one (a := decide (qpn < 2 ^ 20)) hw
theorem send (p : Packet) : Statement (.send p) := fun _ => rfl
theorem write (p : Packet) : Statement (.write p) := fun _ => rfl
theorem ack (p : Packet) : Statement (.ack p) := fun _ => rfl
theorem nak (p : Packet) : Statement (.nak p) := fun _ => rfl
theorem close (p : Packet) : Statement (.close p) := fun _ => rfl
theorem kztPacketTransmit (qpn : Nat) : Statement (.kztPacketTransmit qpn) := fun hw => one (a := decide (qpn < 2 ^ 20)) hw
theorem ackTimer (qpn : Nat) : Statement (.ackTimer qpn) := fun hw => one (a := decide (qpn < 2 ^ 20)) hw
theorem rtoExpiry (qpn seq : Nat) : Statement (.rtoExpiry qpn seq) := fun hw => one (a := decide (qpn < 2 ^ 20)) hw
theorem pathSuspectExpiry (qpn h : Nat) : Statement (.pathSuspectExpiry qpn h) := fun hw => two (a := decide (qpn < 2 ^ 20)) (b := decide (h < 256)) hw
theorem creditProbe (qpn : Nat) : Statement (.creditProbe qpn) := fun hw => one (a := decide (qpn < 2 ^ 20)) hw
theorem drainingTimeout (qpn : Nat) : Statement (.drainingTimeout qpn) := fun hw => one (a := decide (qpn < 2 ^ 20)) hw
theorem contextFetchDone (qpn : Nat) (tagOk : Bool) (count : Nat) : Statement (.contextFetchDone qpn tagOk count) := fun hw => one (a := decide (qpn < 2 ^ 20)) hw
theorem fetchTimeout (qpn : Nat) : Statement (.fetchTimeout qpn) := fun hw => one (a := decide (qpn < 2 ^ 20)) hw
theorem portDown (port : Nat) : Statement (.portDown port) := fun hw => one (a := decide (port < 64)) hw
theorem portUp (port : Nat) : Statement (.portUp port) := fun hw => one (a := decide (port < 64)) hw
theorem openWin (f : Nat) (path : CmdPath) : Statement (.openWin f path) := by
  show (decide (f < 64) && path.wf) = true → ([(f, 64)] : List (Nat × Nat)).all (fun p => decide (p.1 < p.2)) = true
  simp +contextual
theorem revokeWin (f : Nat) (path : CmdPath) : Statement (.revokeWin f path) := by
  show (decide (f < 64) && path.wf) = true → ([(f, 64)] : List (Nat × Nat)).all (fun p => decide (p.1 < p.2)) = true
  simp +contextual
theorem postTwr (f : Nat) (path : CmdPath) : Statement (.postTwr f path) := by
  show (decide (f < 64) && path.wf) = true → ([(f, 64)] : List (Nat × Nat)).all (fun p => decide (p.1 < p.2)) = true
  simp +contextual
theorem cancelTwr (f : Nat) (path : CmdPath) : Statement (.cancelTwr f path) := by
  show (decide (f < 64) && path.wf) = true → ([(f, 64)] : List (Nat × Nat)).all (fun p => decide (p.1 < p.2)) = true
  simp +contextual
theorem twrFire (id : Nat) (data : Option Bytes) : Statement (.twrFire id data) := fun _ => rfl
theorem ctrVal (f : Nat) (v : BitVec 64) : Statement (.ctrVal f v) := fun hw => one (a := decide (f < 64)) hw
theorem syncEpoch (r : Req) (m : Nat) : Statement (.syncEpoch r m) := by
  show (r.wf && decide (m < 2 ^ 64)) = true → ([(m, 2 ^ 64)] : List (Nat × Nat)).all (fun p => decide (p.1 < p.2)) = true
  simp +contextual
theorem syncMarker : Statement .syncMarker := fun _ => rfl
theorem syncMarkerTimeout : Statement .syncMarkerTimeout := fun _ => rfl
theorem plyForm (r : Req) : Statement (.plyForm r) := fun _ => rfl
theorem plyDissolve (r : Req) : Statement (.plyDissolve r) := fun _ => rfl
theorem plyAsset (f qpn : Nat) (msg : Bytes) : Statement (.plyAsset f qpn msg) := fun hw => two (a := decide (f < 64)) (b := decide (qpn < 2 ^ 20)) hw
theorem plyOpen (f qpn : Nat) (msg : Bytes) : Statement (.plyOpen f qpn msg) := fun hw => two (a := decide (f < 64)) (b := decide (qpn < 2 ^ 20)) hw
theorem plyCohort (f qpn : Nat) (msg : Bytes) : Statement (.plyCohort f qpn msg) := fun hw => two (a := decide (f < 64)) (b := decide (qpn < 2 ^ 20)) hw
theorem plyLateSlotExpiry (f r : Nat) : Statement (.plyLateSlotExpiry f r) := fun hw => two (a := decide (f < 64)) (b := decide (r < 2 ^ 40)) hw
theorem plyVerdict (f qpn : Nat) (msg : Bytes) : Statement (.plyVerdict f qpn msg) := fun hw => two (a := decide (f < 64)) (b := decide (qpn < 2 ^ 20)) hw
theorem plyShare (f qpn : Nat) (msg : Bytes) : Statement (.plyShare f qpn msg) := fun hw => two (a := decide (f < 64)) (b := decide (qpn < 2 ^ 20)) hw
theorem plyReturn (f qpn : Nat) (msg : Bytes) : Statement (.plyReturn f qpn msg) := fun hw => two (a := decide (f < 64)) (b := decide (qpn < 2 ^ 20)) hw
theorem plyDigest (f qpn : Nat) (msg : Bytes) : Statement (.plyDigest f qpn msg) := fun hw => two (a := decide (f < 64)) (b := decide (qpn < 2 ^ 20)) hw
theorem plyDone (f qpn : Nat) (msg : Bytes) : Statement (.plyDone f qpn msg) := fun hw => two (a := decide (f < 64)) (b := decide (qpn < 2 ^ 20)) hw
theorem plyHeartbeat : Statement .plyHeartbeat := fun _ => rfl
theorem plyPartnerLost : Statement .plyPartnerLost := fun _ => rfl
theorem rngSourceSettled (k : Nat) : Statement (.rngSourceSettled k) := fun hw => one (a := decide (k < 8)) hw
theorem rngStartupTestDone (k : Nat) : Statement (.rngStartupTestDone k) := fun hw => one (a := decide (k < 8)) hw
theorem rngHealthFail (k : Nat) (test : RngTest) : Statement (.rngHealthFail k test) := fun hw => one (a := decide (k < 8)) hw
theorem rngCollectionDone : Statement .rngCollectionDone := fun _ => rfl
theorem reseedTimer : Statement .reseedTimer := fun _ => rfl
theorem generateRequest : Statement .generateRequest := fun _ => rfl
theorem rngWordServe : Statement .rngWordServe := fun _ => rfl
theorem rngData (r : Req) (addr : Nat) : Statement (.rngData r addr) := by
  show (r.wf && decide (addr < 2 ^ 26)) = true → ([(addr, 2 ^ 26)] : List (Nat × Nat)).all (fun p => decide (p.1 < p.2)) = true
  simp +contextual
theorem assign (r : Req) (slot func : Nat) (toCC : Bool) : Statement (.assign r slot func toCC) := by
  show (r.wf && decide (slot < 64) && decide (func < 64)) = true → ([(slot, 64), (func, 64)] : List (Nat × Nat)).all (fun p => decide (p.1 < p.2)) = true
  simp +contextual
theorem keyRelease (r : Req) (slot : Nat) : Statement (.keyRelease r slot) := by
  show (r.wf && decide (slot < 64)) = true → ([(slot, 64)] : List (Nat × Nat)).all (fun p => decide (p.1 < p.2)) = true
  simp +contextual
theorem keyZero (r : Req) (slot : Nat) : Statement (.keyZero r slot) := by
  show (r.wf && decide (slot < 64)) = true → ([(slot, 64)] : List (Nat × Nat)).all (fun p => decide (p.1 < p.2)) = true
  simp +contextual
theorem lcVoid (r : Req) : Statement (.lcVoid r) := fun _ => rfl
theorem fkeyZero (f : Nat) : Statement (.fkeyZero f) := fun hw => one (a := decide (f < 64)) hw
theorem rollbackCommit (r : Req) : Statement (.rollbackCommit r) := fun _ => rfl
theorem lifecycleTransition (token : Bytes) : Statement (.lifecycleTransition token) := fun _ => rfl
theorem remask : Statement .remask := fun _ => rfl
theorem getVersion (f : Nat) (q : SpdmReq) : Statement (.getVersion f q) := by
  show (decide (f < 64) && q.wf) = true → ([(f, 64)] : List (Nat × Nat)).all (fun p => decide (p.1 < p.2)) = true
  simp +contextual
theorem getCapabilities (f : Nat) (q : SpdmReq) : Statement (.getCapabilities f q) := by
  show (decide (f < 64) && q.wf) = true → ([(f, 64)] : List (Nat × Nat)).all (fun p => decide (p.1 < p.2)) = true
  simp +contextual
theorem negotiateAlgorithms (f : Nat) (q : SpdmReq) : Statement (.negotiateAlgorithms f q) := by
  show (decide (f < 64) && q.wf) = true → ([(f, 64)] : List (Nat × Nat)).all (fun p => decide (p.1 < p.2)) = true
  simp +contextual
theorem getDigests (f : Nat) (q : SpdmReq) : Statement (.getDigests f q) := by
  show (decide (f < 64) && q.wf) = true → ([(f, 64)] : List (Nat × Nat)).all (fun p => decide (p.1 < p.2)) = true
  simp +contextual
theorem getCertificate (f : Nat) (q : SpdmReq) : Statement (.getCertificate f q) := by
  show (decide (f < 64) && q.wf) = true → ([(f, 64)] : List (Nat × Nat)).all (fun p => decide (p.1 < p.2)) = true
  simp +contextual
theorem challenge (f : Nat) (q : SpdmReq) : Statement (.challenge f q) := by
  show (decide (f < 64) && q.wf) = true → ([(f, 64)] : List (Nat × Nat)).all (fun p => decide (p.1 < p.2)) = true
  simp +contextual
theorem getMeasurements (f : Nat) (q : SpdmReq) : Statement (.getMeasurements f q) := by
  show (decide (f < 64) && q.wf) = true → ([(f, 64)] : List (Nat × Nat)).all (fun p => decide (p.1 < p.2)) = true
  simp +contextual
theorem keyExchange (f : Nat) (q : SpdmReq) : Statement (.keyExchange f q) := by
  show (decide (f < 64) && q.wf) = true → ([(f, 64)] : List (Nat × Nat)).all (fun p => decide (p.1 < p.2)) = true
  simp +contextual
theorem finish (f : Nat) (q : SpdmReq) : Statement (.finish f q) := by
  show (decide (f < 64) && q.wf) = true → ([(f, 64)] : List (Nat × Nat)).all (fun p => decide (p.1 < p.2)) = true
  simp +contextual
theorem heartbeat (f : Nat) (q : SpdmReq) : Statement (.heartbeat f q) := by
  show (decide (f < 64) && q.wf) = true → ([(f, 64)] : List (Nat × Nat)).all (fun p => decide (p.1 < p.2)) = true
  simp +contextual
theorem keyUpdate (f : Nat) (q : SpdmReq) : Statement (.keyUpdate f q) := by
  show (decide (f < 64) && q.wf) = true → ([(f, 64)] : List (Nat × Nat)).all (fun p => decide (p.1 < p.2)) = true
  simp +contextual
theorem endSession (f : Nat) (q : SpdmReq) : Statement (.endSession f q) := by
  show (decide (f < 64) && q.wf) = true → ([(f, 64)] : List (Nat × Nat)).all (fun p => decide (p.1 < p.2)) = true
  simp +contextual
theorem kem (f : Nat) (msg : Bytes) : Statement (.kem f msg) := fun hw => one (a := decide (f < 64)) hw
theorem bind (f : Nat) (msg : Bytes) : Statement (.bind f msg) := fun hw => one (a := decide (f < 64)) hw
theorem policy (f : Nat) (msg : Bytes) : Statement (.policy f msg) := fun hw => one (a := decide (f < 64)) hw
theorem joinList (f : Nat) (msg : Bytes) : Statement (.joinList f msg) := fun hw => one (a := decide (f < 64)) hw
theorem evk (f : Nat) (msg : Bytes) (host : Option Bytes) : Statement (.evk f msg host) := fun hw => one (a := decide (f < 64)) hw
theorem committeeKey (f : Nat) (msg : Bytes) (host : Option Bytes) : Statement (.committeeKey f msg host) := fun hw => one (a := decide (f < 64)) hw
theorem noiseSeed (f : Nat) (msg : Bytes) : Statement (.noiseSeed f msg) := fun hw => one (a := decide (f < 64)) hw
theorem memKey (f : Nat) (msg : Bytes) : Statement (.memKey f msg) := fun hw => one (a := decide (f < 64)) hw
theorem checkpointKey (f : Nat) (msg : Bytes) : Statement (.checkpointKey f msg) := fun hw => one (a := decide (f < 64)) hw
theorem mctpControl (msg : Bytes) : Statement (.mctpControl msg) := fun _ => rfl
theorem partCmd (r : Req) : Statement (.partCmd r) := fun _ => rfl
theorem memKeyInitDone (f : Nat) : Statement (.memKeyInitDone f) := fun hw => one (a := decide (f < 64)) hw
theorem memRotationSweep (f : Nat) : Statement (.memRotationSweep f) := fun hw => one (a := decide (f < 64)) hw
theorem ringCreate (f n : Nat) : Statement (.ringCreate f n) := fun hw => two (a := decide (f < 64)) (b := decide (n < 4)) hw
theorem ringDestroy (f n : Nat) : Statement (.ringDestroy f n) := fun hw => two (a := decide (f < 64)) (b := decide (n < 4)) hw
theorem sqTail (f n : Nat) (v : BitVec 32) : Statement (.sqTail f n v) := fun hw => two (a := decide (f < 64)) (b := decide (n < 4)) hw
theorem cqHead (f n : Nat) (v : BitVec 32) : Statement (.cqHead f n v) := fun hw => two (a := decide (f < 64)) (b := decide (n < 4)) hw
theorem flr (f : Nat) : Statement (.flr f) := fun hw => one (a := decide (f < 64)) hw
theorem frGo (r : Req) : Statement (.frGo r) := fun _ => rfl
theorem functionResetDone (f : Nat) : Statement (.functionResetDone f) := fun hw => one (a := decide (f < 64)) hw
theorem snapCmd (r : Req) : Statement (.snapCmd r) := fun _ => rfl
theorem fsnapCmd (f : Nat) : Statement (.fsnapCmd f) := fun hw => one (a := decide (f < 64)) hw
theorem ideReq (f : Nat) : Statement (.ideReq f) := fun hw => one (a := decide (f < 64)) hw
theorem ideStreamFailed (f : Nat) : Statement (.ideStreamFailed f) := fun hw => one (a := decide (f < 64)) hw
theorem pcieLinkDown : Statement .pcieLinkDown := fun _ => rfl
theorem pcieLinkUp : Statement .pcieLinkUp := fun _ => rfl
theorem perstNAssert : Statement .perstNAssert := fun _ => rfl
theorem perstNRelease : Statement .perstNRelease := fun _ => rfl
theorem fwDoorbell (r : Req) : Statement (.fwDoorbell r) := fun _ => rfl
theorem fwImageArrival (img : Bytes) : Statement (.fwImageArrival img) := fun _ => rfl
theorem fwImageTimeout : Statement .fwImageTimeout := fun _ => rfl
theorem drbgSeededAtBoot (check : BistResult) : Statement (.drbgSeededAtBoot check) := fun _ => rfl
theorem creelDone (tier0 tier1 : Bool) : Statement (.creelDone tier0 tier1) := fun _ => rfl
theorem farDone (fast slow : Nat) : Statement (.farDone fast slow) := fun hw => two (a := decide (fast < 2 ^ 16)) (b := decide (slow < 2 ^ 16)) hw
theorem attestDone : Statement .attestDone := fun _ => rfl
theorem portsDone (up : Nat) : Statement (.portsDone up) := fun hw => one (a := decide (up < 2 ^ 64)) hw
theorem fwinitDone : Statement .fwinitDone := fun _ => rfl
theorem ready : Statement .ready := fun _ => rfl
theorem bootTimeout : Statement .bootTimeout := fun _ => rfl
theorem attach (f : Nat) : Statement (.attach f) := fun hw => one (a := decide (f < 64)) hw
theorem goService (f : Nat) : Statement (.goService f) := fun hw => one (a := decide (f < 64)) hw
theorem warmGo (r : Req) (img : Option Bytes) : Statement (.warmGo r img) := fun _ => rfl
theorem warmImageVerified (img : Bytes) : Statement (.warmImageVerified img) := fun _ => rfl
theorem residueCheckFail (sp : Nat) (cause : ResidueCause) : Statement (.residueCheckFail sp cause) := fun hw => one (a := decide (sp < 32)) hw
theorem spareSubstituted (sp : Nat) : Statement (.spareSubstituted sp) := fun hw => one (a := decide (sp < 32)) hw
theorem journalPoint (sp : Nat) : Statement (.journalPoint sp) := fun hw => one (a := decide (sp < 32)) hw
theorem ccWatchdog (core : Nat) : Statement (.ccWatchdog core) := fun hw => one (a := decide (core < 4)) hw
theorem nalamWatchdog : Statement .nalamWatchdog := fun _ => rfl
theorem clockLoss (ref : ClockRef) : Statement (.clockLoss ref) := fun _ => rfl
theorem creelTierLost : Statement .creelTierLost := fun _ => rfl
theorem farPackageLost (p : Nat) : Statement (.farPackageLost p) := fun hw => one (a := decide (p < 16)) hw
theorem bookAudit : Statement .bookAudit := fun _ => rfl
theorem creelScrub (t : Nat) : Statement (.creelScrub t) := fun hw => one (a := decide (t < 2 ^ 24)) hw
theorem scrubFoldHold (t : Nat) : Statement (.scrubFoldHold t) := fun hw => one (a := decide (t < 2 ^ 24)) hw
theorem farScrub (t : Nat) : Statement (.farScrub t) := fun hw => one (a := decide (t < 2 ^ 24)) hw
theorem stagingDone (f t : Nat) : Statement (.stagingDone f t) := fun hw => two (a := decide (f < 64)) (b := decide (t < 2 ^ 24)) hw
theorem frzNAssert : Statement .frzNAssert := fun _ => rfl
theorem freezeZeroiseDone : Statement .freezeZeroiseDone := fun _ => rfl
theorem bypass : Statement .bypass := fun _ => rfl
theorem idcode : Statement .idcode := fun _ => rfl
theorem samplePreload : Statement .samplePreload := fun _ => rfl
theorem extest : Statement .extest := fun _ => rfl
theorem dbgToken (token : Bytes) : Statement (.dbgToken token) := fun _ => rfl
theorem frzAddr (v : BitVec 64) : Statement (.frzAddr v) := fun _ => rfl
theorem frzData : Statement .frzData := fun _ => rfl
theorem full (r : Req) : Statement (.full r) := fun _ => rfl
theorem fieldNow (r : Req) (pspin : Nat) : Statement (.fieldNow r pspin) := fun _ => rfl
theorem fuseRepair (r : Req) : Statement (.fuseRepair r) := fun _ => rfl
theorem fieldSelfTest : Statement .fieldSelfTest := fun _ => rfl
theorem bistDone (res : BistResult) : Statement (.bistDone res) := fun _ => rfl
theorem weirSample (temps : List Nat) (power : Nat) : Statement (.weirSample temps power) := fun _ => rfl
theorem vidStep : Statement .vidStep := fun _ => rfl
theorem thermalTrip (temp : Nat) : Statement (.thermalTrip temp) := fun _ => rfl
theorem railFault (rail : Rail) : Statement (.railFault rail) := fun _ => rfl
theorem unitInstructionRetire (sp i : Nat) : Statement (.unitInstructionRetire sp i) := fun hw => one (a := decide (sp < 32)) hw
theorem rootPllLock : Statement .rootPllLock := fun _ => rfl
theorem rootPllFail : Statement .rootPllFail := fun _ => rfl
theorem vfEnable (num : Nat) : Statement (.vfEnable num) := fun hw => one (a := decide (num < 64)) hw
theorem ideKm (f : Nat) (q : SpdmReq) : Statement (.ideKm f q) := by
  show (decide (f < 64) && q.wf) = true → ([(f, 64)] : List (Nat × Nat)).all (fun p => decide (p.1 < p.2)) = true
  simp +contextual
theorem evtTail (f : Nat) (v : BitVec 32) : Statement (.evtTail f v) := fun hw => one (a := decide (f < 64)) hw
theorem hostAccessFail (what : HostOp) : Statement (.hostAccessFail what) := fun _ => rfl
theorem partitionRevocationDone (f : Nat) : Statement (.partitionRevocationDone f) := fun hw => one (a := decide (f < 64)) hw
theorem plyRangeExchange (x : PlyRange) : Statement (.plyRangeExchange x) := fun _ => rfl

end Sys2Proof.Laws.Wf
end

