-- ==== Sys2Proof/Tests/Slice0.lean ====
section
/-! SUPPORT. Tests: ill-formed commands are refused; for every statement, a concrete state and operands that meet its
hypotheses, clause by clause; and small results of single commands worked out by hand from the rules. -/
namespace Sys2Proof.Tests
open Sys2Proof Sys2Proof.Machine


set_option Elab.async false

/-! ## Helpers: the instruction formats of R182 to R186, stream registers (R176), a device in service -/

/-- Format R: OP, SD, SA, SB, PD. -/
def fR (op : Nat) (sd sa sb pd : Nat := 0) : Nat := op + sd * 2 ^ 16 + sa * 2 ^ 21 + sb * 2 ^ 26 + pd * 2 ^ 36
/-- Format I: OP, SD, SA, PD, IMM. -/
def fI (op : Nat) (sd sa imm pd : Nat := 0) : Nat := op + 2 ^ 14 + sd * 2 ^ 16 + sa * 2 ^ 21 + pd * 2 ^ 26 + imm * 2 ^ 30
/-- Format B: OP, SL, SA, OFFSET. -/
def fB (op : Nat) (sl sa off : Nat := 0) : Nat := op + 2 * 2 ^ 14 + sl * 2 ^ 16 + sa * 2 ^ 21 + off * 2 ^ 26
/-- Format T: CLASS, OP, MOD and the operand fields. -/
def fT (cls op : Nat) (m qd qa qb sa sb sc pd : Nat := 0) : Nat :=
  op + cls * 2 ^ 6 + 3 * 2 ^ 14 + qd * 2 ^ 16 + qa * 2 ^ 20 + qb * 2 ^ 24 + sa * 2 ^ 28 + sb * 2 ^ 33 + sc * 2 ^ 38
    + pd * 2 ^ 43 + m * 2 ^ 46

/-- KIND 0: NT tiles from TILE, STRIDE apart, LAST elements of the last. -/
def kTiles (tile nt : Nat) (stride : Nat := 1) (last : Nat := 0) : QWord :=
  BitVec.ofNat 128 (tile * 2 ^ 8 + nt * 2 ^ 64 + stride * 2 ^ 88 + last * 2 ^ 104)
/-- KIND 1: a message of LEN bytes at landing-zone tile TILE, of slot SLOT. -/
def kMsg (tile len : Nat) (slot : Nat := 0) : QWord := BitVec.ofNat 128 (1 + tile * 2 ^ 8 + len * 2 ^ 64 + slot * 2 ^ 104)
/-- KIND 2: a ciphertext descriptor at ADDR. -/
def kCt (addr : Nat) : QWord := BitVec.ofNat 128 (2 + addr * 2 ^ 32)
/-- KIND 3: a span of LEN bytes at ADDR. -/
def kSpan (addr len : Nat) : QWord := BitVec.ofNat 128 (3 + addr * 2 ^ 32 + len * 2 ^ 64)

/-- Powered, in reset no longer, the data path up, 100 million cycles in. -/
def powered : State :=
  { State.reset with
    pins := { perst := false, stopped := false, dataPath := true }
    time := 100000000
    upTime := 100000000 }

/-- In service: STAGE 6, VF1 attached with spindle 0, near tiles 0x100 to 0x17F, far tiles 0x800000 to 0x80000F and eight lock
counters. -/
def demo : State :=
  ((((((((({ powered with
    funcs := updAt powered.funcs 1 (fun x =>
      { x with exists_ := true, joinList := [{ lid := 1, stair := true, ply := true, peer := 0 }] })
  }.wr Reg.bootStage 6).wr Reg.fnSpindles 1 1).wr Reg.fnNearBase 0x100 1).wr Reg.fnNearCount 0x80 1).wr Reg.fnFarCount 16 1).wr
    Reg.fnCtrBase 16 1).wr Reg.fnCtrCount 8 1).wr Reg.attAttached 1 1).wr Reg.fnTenantTag 0x77 1)

/-- The device `s` with spindle 0 at the word `w`, changed by `g`. -/
def prog (s : State) (w : Nat) (g : Spindle → Spindle := id) : State :=
  s.updSpin 0 (fun x => g { x with st := .running, textLen := 64, scratch := writeNat [] 0 8 w, bound := [0] })

/-- Scalar, predicate and stream registers of a test. -/
def withS (x : Spindle) (l : List (Nat × Word)) : Spindle := l.foldl (fun x p => x.setS p.1 p.2) x
def withQ (x : Spindle) (l : List (Nat × QWord)) : Spindle := l.foldl (fun x p => x.setQ p.1 p.2) x
def withB (x : Spindle) (l : List (Nat × Nat × Nat)) : Spindle :=
  { x with scratch := l.foldl (fun m p => writeNat m p.1 p.2.1 p.2.2) x.scratch }

/-- The state a command answers. -/
def after (c : Instr) (s : State) : State := (match exec c s with | .next t => some t | _ => none).getD s
/-- A command completes. -/
def runs (c : Instr) (s : State) : Bool := match exec c s with | .next _ => true | _ => false

/-! ## Ill-formed commands, one for each check of WellFormed.lean -/

def badReq : Req := .vf 64
def badSpdm : SpdmReq := { ver := 256, ok := true, inSession := true, mutAuth := true, key := [], nonce := [], flag := true }
def badBist : BistResult :=
  { valid := true, lbist := 2 ^ 34, cc := 0, other := false, log := [], repaired := 0, slices := 0, scratch := 0, unrep := false }
def badPkt : Packet :=
  { port := 64, fcsOk := true, netOk := true, rsvdOk := true, ver := 1, opcode := 1, flags := 0, dst := 0, dport := 0, psn := 0, epoch := 0
    msn := 0, path := 0, tstamp := 0, plen := 0, off := 0, arg := 0, body := [], tag := [] }

theorem test_ill_formed_refused :
    [ Instr.registerWrite badReq 0 8 0, .registerWrite .nalam (2 ^ 26) 8 0, .registerWrite .nalam 0 2 0, .counterReadClear (.vf 0) 0
      , .rngData .cc (2 ^ 26), .add 32, .foldSegmentRetire 32 0, .residueCheckFail 32 .mismatch, .unitInstructionRetire 32 0
      , .releaseTrailerDone 64 0, .roundDeadline 0 (2 ^ 40), .gateRelease 64 0, .start 64, .openRound 64 0 [] none
      , .hostSubmit 0 4 [] none, .createQp 0 0 [] none, .nop 0 0 [], .setDest 0 4 [], .contribution 64 none 0 []
      , .contribution 0 (some (2 ^ 20)) 0 [], .recoveryMessage 0 none (2 ^ 24) [], .committeeReturn 0 (2 ^ 20) []
      , .plyDone 64 0 [], .hello badPkt, .handshakeRetry (2 ^ 20), .rtoExpiry (2 ^ 20) 0, .pathSuspectExpiry 0 256
      , .contextFetchDone (2 ^ 20) true 0, .portDown 64, .openWin 64 .reg, .openWin 0 (.ring 4 [] none), .postTwr 0 (.ring 0 [] none)
      , .syncEpoch .nalam (2 ^ 64), .plyForm badReq, .rngSourceSettled 8, .rngHealthFail 8 .repetition, .assign .nalam 64 0 false
      , .assign .nalam 4 64 false, .keyRelease .nalam 64, .getVersion 0 badSpdm, .getVersion 64 { badSpdm with ver := 1 }
      , .evk 64 [] none, .ringCreate 0 4, .sqTail 64 0 0, .farDone (2 ^ 16) 0, .farDone 0 (2 ^ 16), .portsDone (2 ^ 64)
      , .warmGo badReq none, .ccWatchdog 4, .clockLoss (.portLine 64), .farPackageLost 16, .creelScrub (2 ^ 24), .stagingDone 64 0
      , .fieldNow .nalam 34, .bistDone badBist, .weirSample [] 0, .vfEnable 64, .hostAccessFail (.sq 0 4)
      , .hostAccessFail (.sqRecord 0 0 []), .hostAccessFail (.progImage 64)
      ].all (fun c => !c.wf) = true := by decide +kernel

theorem test_well_formed_taken :
    [ Instr.registerWrite (.vf 63) 0x8000 8 0, .add 31, .nop 63 3 (List.replicate 64 0), .fieldNow .nalam 63, .ccWatchdog 3, .portDown 63
      , .openWin 0 (.ring 3 (List.replicate 64 0) none), .pathSuspectExpiry (2 ^ 20 - 1) 255 ].all Instr.wf = true := by decide +kernel

/-! ## The queue -/

theorem witness_StepTakesFront : ({ demo with pending := [.snapCmd .nalam] } : State).pending = .snapCmd .nalam :: [] := by rfl

theorem witness_StepIdle :
    (State.reset.pending == [] && State.reset.pins.perst && powered.pending == [] && powered.pins.perst == false
      && powered.frozen == false && powered.qps == [] && powered.posts == [] && powered.twrs == []) = true ∧
    ∀ f, (powered.fn f).ckptJob = none := by
  refine ⟨by decide +kernel, fun f => ?_⟩
  have h : ∀ i (hi : i < powered.funcs.length), (powered.funcs[i]).ckptJob = none := by decide +kernel
  by_cases hf : f < powered.funcs.length
  · simpa [State.fn, List.getD, hf] using h f hf
  · simp [State.fn, List.getD, hf]

theorem test_idle_counts : (match step powered with | .next t => t.time == 100000001 | _ => false) = true := by decide +kernel

/-! ## The scalar class -/

/-- Spindle 0 with s1 = −7, s2 = 67, p1 set, at the word `w`. -/
def scal (w : Nat) : State := prog demo w (fun x => (withS x [(1, 0xFFFFFFFFFFFFFFF9), (2, 67)]).setP 1 true)

/-- Every scalar form with a word written from its encoding, and the word `w` is the next to issue. -/
def scalForms : List ((Nat × Nat × Nat) × Nat) :=
  (List.range 10).map (fun op => ((0, op, 0), fR op 3 1 2)) ++ (List.range 3).map (fun k => ((0, 10 + k, 0), fR (10 + k) 0 1 2 2))
    ++ [((0, 13, 0), fR 13 3 1 2 1)] ++ (List.range 3).map (fun k => ((0, 14 + k, 0), fR (14 + k) 0 1 2 3))
    ++ [((0, 17, 0), fR 17 3 1)] ++ (List.range 7).map (fun k => ((0, 18 + k, 0), fI (18 + k) 3 1 3))
    ++ (List.range 3).map (fun k => ((0, 25 + k, 0), fI (25 + k) 0 1 3 2)) ++ [((0, 28, 0), fI 28 3 1 1)]

theorem witness_ScalarForms : scalForms.all (fun p => (scal p.2).issues 0 p.2 && wKey p.2 == p.1) = true := by decide +kernel

/-- What a command leaves in sD. -/
def sdOf (c : Instr) (w : Nat) : Word := ((after c (scal w)).spin 0).sreg 3

theorem test_format_R :
    [ (sdOf (.add 0) (fR 0 3 1 2), 60), (sdOf (.sub 0) (fR 1 3 1 2), -74), (sdOf (.and 0) (fR 2 3 1 2), 0x41)
      , (sdOf (.or 0) (fR 3 3 1 2), 0xFFFFFFFFFFFFFFFB), (sdOf (.xor 0) (fR 4 3 1 2), 0xFFFFFFFFFFFFFFBA)
      , (sdOf (.sll 0) (fR 5 3 1 2), -56), (sdOf (.srl 0) (fR 6 3 1 2), 0x1FFFFFFFFFFFFFFF), (sdOf (.sra 0) (fR 7 3 1 2), -1)
      , (sdOf (.mul 0) (fR 8 3 1 2), -469), (sdOf (.mulhu 0) (fR 9 3 1 2), 66), (sdOf (.sel 0) (fR 13 3 1 2 1), -7)
      , (sdOf (.sel 0) (fR 13 3 1 2 2), 67), (sdOf (.movp 0) (fR 17 3 1), 1)
      ].all (fun p => p.1 == p.2) = true := by decide +kernel

theorem test_format_I :
    [ (sdOf (.addi 0) (fI 18 3 1 (2 ^ 34 - 1)), -8), (sdOf (.andi 0) (fI 19 3 1 0xFF), 0xF9), (sdOf (.ori 0) (fI 20 3 1 6), -1)
      , (sdOf (.xori 0) (fI 21 3 1 (2 ^ 34 - 1)), 6), (sdOf (.slli 0) (fI 22 3 1 3), -56)
      , (sdOf (.srli 0) (fI 23 3 1 3), 0x1FFFFFFFFFFFFFFF), (sdOf (.srai 0) (fI 24 3 1 3), -1)
      , (sdOf (.lih 0) (fI 28 3 1 1), 0x3FFFFFF9) ].all (fun p => p.1 == p.2) = true := by decide +kernel

/-- What a command leaves in p2. -/
def p2Of (c : Instr) (w : Nat) : Bool := ((after c (scal w)).spin 0).preg 2

theorem test_predicates :
    [ (p2Of (.cmpeq 0) (fR 10 0 1 2 2), false), (p2Of (.cmplt 0) (fR 11 0 1 2 2), true), (p2Of (.cmpltu 0) (fR 12 0 1 2 2), false)
      , (p2Of (.pand 0) (fR 14 0 1 3 2), false), (p2Of (.por 0) (fR 15 0 1 3 2), true), (p2Of (.pxor 0) (fR 16 0 1 0 2), false)
      , (p2Of (.cmpeqi 0) (fI 25 0 1 (2 ^ 34 - 7) 2), true), (p2Of (.cmplti 0) (fI 26 0 1 0 2), true)
      , (p2Of (.cmpltui 0) (fI 27 0 1 0 2), false) ].all (fun p => p.1 == p.2) = true := by decide +kernel

/-- Spindle 0 with s1 = `a` and the bytes 11, 22, … at 0x100. -/
def memo (w : Nat) (a : Word) : State :=
  prog demo w (fun x => withB (withQ (withS x [(1, a), (2, 0x1122334455667788)])
      [(2, kTiles 0x110 1), (3, 0x0102030405060708090A0B0C0D0E0F10), (4, kTiles 0x90 1)])
    [(0x100, 16, 0xFFEEDDCCBBAA99887766554433221100)])

theorem witness_ScratchAccess :
    ((List.range 10).all (fun k =>
      let w := fI (29 + k) 2 1 0
      let n := 2 ^ (k % 5)
      let top := if k < 5 then 0x1FF080 else 0x1FF000
      -- the last aligned address, the first past the end, and, but for one byte, one off its alignment
      [(64, true), (top - n, true), (top, false), (56, false)].all (fun p =>
        (memo w (BitVec.ofNat 64 p.1)).issues 0 w && wKey w == (0, 29 + k, 0)
          && (decide (p.1 % n = 0 ∧ 64 ≤ p.1 ∧ p.1 + n ≤ top) == p.2))
      && (n == 1 || (memo w 0x101).issues 0 w && 0x101 % n != 0))
    && (let m (sd : Nat) : Bool × Option Nat :=
          let q := (((memo (fI 38 sd 1 0) 0x100).spin 0).qreg sd).toNat
          (qWf 64 (2 ^ 15) q, (opTiles q).find? (fun t => !demo.tileOk 1 t))
        -- ST16 of two tiles of the function, of no stream register's content, of a tile that is not the function's
        [2, 3, 4].all (fun sd => (memo (fI 38 sd 1 0) 0x100).issues 0 (fI 38 sd 1 0))
          && m 2 == (true, none) && (m 3).1 == false && m 4 == (true, some 0x90))) = true := by decide +kernel

theorem test_loads :
    [ ((after (.ld1 0) (memo (fI 29 2 1 3) 0x100)).spin 0).sreg 2 == 0x33, ((after (.ld2 0) (memo (fI 30 2 1 2) 0x100)).spin 0).sreg 2 == 0x3322
      , ((after (.ld4 0) (memo (fI 31 2 1 4) 0x100)).spin 0).sreg 2 == 0x77665544
      , ((after (.ld8 0) (memo (fI 32 2 1 8) 0x100)).spin 0).sreg 2 == 0xFFEEDDCCBBAA9988
      , ((after (.ld16 0) (memo (fI 33 2 1 0) 0x100)).spin 0).qreg 2 == 0xFFEEDDCCBBAA99887766554433221100
      , ((after (.ld8 0) (memo (fI 32 2 1 4) 0x100)).spin 0).st == .trapped ].all id = true := by decide +kernel

theorem test_stores :
    [ readNat ((after (.st1 0) (memo (fI 34 2 1 1) 0x100)).spin 0).scratch 0x100 8 == 0x7766554433228800
      , readNat ((after (.st2 0) (memo (fI 35 2 1 2) 0x100)).spin 0).scratch 0x100 8 == 0x7766554477881100
      , readNat ((after (.st4 0) (memo (fI 36 2 1 4) 0x100)).spin 0).scratch 0x100 8 == 0x5566778833221100
      , readNat ((after (.st8 0) (memo (fI 37 2 1 8) 0x100)).spin 0).scratch 0x108 8 == 0x1122334455667788
      , readNat ((after (.st16 0) (memo (fI 38 2 1 0) 0x100)).spin 0).scratch 0x100 16 == (kTiles 0x110 1).toNat
      , ((after (.st8 0) (memo (fI 37 2 1 0) 0)).spin 0).trap % 2 ^ 16 == 0x0A08 ].all id = true := by decide +kernel

/-- Register numbers, and scratch addresses, that meet each clause. -/
theorem witness_RegistersAndStores :
    let x : Spindle := {}
    (decide ((31 : Nat) ≠ 0) && decide (31 < x.s.length) && decide (7 < x.p.length) && decide (15 < x.q.length)
      && decide ((255 : Nat) < 256 ∨ 256 + 8 ≤ 255) && decide (256 + 8 ≤ 264) && Sparse.wf 0 x.scratch && decide (7 < 8)) = true := by
  decide +kernel

theorem witness_SystemValues :
    (List.range 10).all (fun i =>
      let w := fI 39 3 0 i
      (scal w).issues 0 w && (scal w).owner? 0 == some 1 && wKey w == (0, 39, 0) && (wImm w).toNat == i) = true := by decide +kernel

theorem test_sysr :
    [(0, 0), (1, 1), (2, 0), (3, 1), (4, 32), (5, 100000000), (8, 0x0100), (9, 0x3FFF)].all (fun p =>
      sdOf (.sysr 0) (fI 39 3 0 p.1) == p.2) = true := by decide +kernel

theorem witness_BranchFormat :
    (let w := fB 40 4 0 (2 ^ 38 - 1)
     let far := fB 40 0 2 0
     let no := fB 40 0 0 1 + 2 ^ 13
     (scal w).issues 0 w && wKey w == (0, 40, 0) && (scal far).issues 0 far && decide (0 < (scal far).spindles.length)
       && decide (64 ≤ (67 : Nat) * 8) && (scal no).issuing 0 && ((scal no).spin 0).fetch == some no
       && (usesOf no ((scal no).nctr 0)).isSome && ((scal no).spin 0).guard no == false) = true := by decide +kernel

/-- Back by one word from word 3, with a link in s4; to s2 = 67, which lies outside the text. -/
theorem test_br :
    (let w := fB 40 4 0 (2 ^ 38 - 1)
     let s := prog demo 0 (fun x => { withB x [(24, 8, w)] with pc := 3 })
     let t := (after (.br 0) s).spin 0
     t.pc == 2 && t.sreg 4 == 4
       && ((after (.br 0) (after (.br 0) (scal (fB 40 0 2 0)))).spin 0).trap % 2 ^ 16 == 0x0A08) = true := by decide +kernel

theorem witness_GuardAndDecode :
    (let out := prog demo 0 (fun x => { x with pc := 8 })
     let bad := 63 + 2 ^ 6
     let no := fR 0 3 1 2 + 2 ^ 13
     out.issuing 0 && (out.spin 0).fetch == none && (scal bad).issuing 0 && ((scal bad).spin 0).fetch == some bad
       && usesOf bad ((scal bad).nctr 0) == none && ((scal no).spin 0).fetch == some no
       && (usesOf no ((scal no).nctr 0)).isSome && wKey no == (0, 0, 0) && ((scal no).spin 0).guard no == false) = true := by
  decide +kernel

/-! ## The tile class -/

/-- A policy, round 5 of VF1 (dense, four elements of two bytes at W 32, accumulator tile 0x110), and a message of its slot 0. -/
def pol : Policy :=
  { modes := 15, format := 0, form := 0, ndest := 0, id := 1, tag := 0x77, kMin := 1, sigma := 0, tau := 0, digest := 0, dests := [] }
def cfg5 : RoundCfg :=
  { round := 5, encoding := 16, slots := 8, l := 4, m := 16, tileBase := 0x110, lzBase := 0x120, lzCount := 4, unmaskTimeout := 1000 }
def rnd : Round :=
  { func := 1, cfg := cfg5, basic := false, acc := [0x110], outTiles := [0x118], policy := pol, st := .open, deadline := 200000000 }
def msg0 : Msg :=
  { func := 1, round := 5, slot := 0, kind := .contribution, lz := 0x120, len := 8, time := 0, hdr := List.replicate 64 0
    bound := false, prepared := true }

/-- `s` with the round `x`. -/
def withRound (s : State) (x : Round) : State := { s with rounds := [x] }
/-- The round 5 of VF1. -/
def r5 (s : State) : Round := (s.round? 1 5).getD rnd

/-- Spindle 0 at `w` with the stream registers `q`, in a device that holds the round `x`. -/
def unitAt (x : Round) (w : Nat) (q : List (Nat × QWord)) (sr : List (Nat × Word) := []) : State :=
  prog (withRound demo x) w (fun y => withS (withQ y q) sr)

def foldW : Nat := fT 1 0 0 1 2 0 0 0 5 3
def foldS : State :=
  let s := unitAt { rnd with live := [msg0], dedup := [(0, 1)] } foldW [(1, kTiles 0x110 1), (2, kMsg 0x120 8)]
  { s with tiles := writeNat s.tiles (0x120 * tileSize + 64) 8 0x0004_0003_FFFE_0001 }

theorem witness_Folds :
    (let o := foldS.ops 0 foldW
     let x := r5 foldS
     let plan := foldPlan x.cfg.tileElems x.cfg.msgElems (qLast o.qd) 0 (qTiles o.qd)
     -- another format in the tile; a tile of an ABANDONED round; no live message; a sparse round; a recovery message
     let clash := foldS.setTag 0x110 { count := 1, mode := 1 }
     let dead := { foldS with rounds := [{ x with cfg := { cfg5 with tileBase := 0x114 }, acc := [0x114] }
       , { rnd with cfg := { cfg5 with round := 4 }, st := .abandoned }] }
     let none_ := unitAt { rnd with live := [] } foldW [(1, kTiles 0x110 1), (2, kMsg 0x120 8)]
     let sparse := unitAt { rnd with live := [msg0], cfg := { cfg5 with rowMode := 1 } } foldW [(1, kTiles 0x110 1), (2, kMsg 0x120 8)]
     let rec_ := unitAt { rnd with live := [{ msg0 with kind := .recovery }] } foldW [(1, kTiles 0x110 1), (2, kMsg 0x120 8)]
     foldS.unitReady 0 foldW (1, 0, 0) (fun _ => x.cfg.tileElems) [(tQD foldW, [0]), (tQA foldW, [1])]
       && foldS.liveMsg o.f o.qa == some (x, msg0) && !x.cfg.sparse && msg0.kind != .recovery && x.cfg.mode != 3 && msg0.prepared
       && (qTiles o.qd).all (fun t => !foldS.deadTile o.f t) && foldS.planConflict 0 x.cfg plan == false
       && clash.planConflict 0 x.cfg plan && clash.unitReady 0 foldW (1, 0, 0) (fun _ => x.cfg.tileElems) [(tQD foldW, [0]), (tQA foldW, [1])]
       && clash.liveMsg o.f o.qa == some (x, msg0) && (qTiles o.qd).all (fun t => !clash.deadTile o.f t)
       && dead.unitReady 0 foldW (1, 0, 0) (fun _ => 16384) [(tQD foldW, [0]), (tQA foldW, [1])]
       && (dead.liveMsg o.f o.qa).isSome && (qTiles o.qd).any (fun t => dead.deadTile o.f t)
       && foldS.allPresent (plan.map (·.1)) && foldS.sbRoom (plan.map (·.1)) && plan.all (fun p => !foldS.scrubHold.contains p.1)
       && none_.unitReady 0 foldW (1, 0, 0) none_.eOf [(tQD foldW, [0]), (tQA foldW, [1])]
       && (none_.liveMsg 1 (none_.ops 0 foldW).qa).isNone
       && [sparse, rec_].all (fun s => !(qTiles (s.ops 0 foldW).qd).any (fun t => s.deadTile 1 t) && s.unitReady 0 foldW (1, 0, 0) (fun _ => 16384) [(tQD foldW, [0]), (tQA foldW, [1])]
         && (s.liveMsg (s.ops 0 foldW).f (s.ops 0 foldW).qa).any (fun p => p.1.cfg.sparse || p.2.kind == .recovery))) = true := by
  decide +kernel

/-- FOLD of the payload 1, −2, 3, 4: one segment, and at its retirement the residues at W 32 in the tile, COUNT 1 and the
checksum 1·1 + 2·(2^32 − 2) + 3·3 + 4·4. -/
def folded : State := after (.fold 0) foldS
def retired : State := after (.foldSegmentRetire 0 0) folded

theorem test_fold : ((folded.spin 0).segs.map (fun g => (g.tile, g.elems, g.counts, g.last)) ==
    [(0x110, [1, 2 ^ 32 - 2, 3, 4], true, true)] && ((folded.spin 0).uq.map (fun e => (e.code, e.parts)) == [(0, 1)])
    && (r5 folded).live.map (·.cursor) == [4]) = true := by decide +kernel

theorem test_foldSegmentRetire :
    (retired.elem 0x110 4 1 == 2 ^ 32 - 2 && retired.elem 0x110 4 3 == 4 && (retired.tag 0x110).count == 1
      && (retired.spin 0).segs == []) = true := by decide +kernel

/-- The segment of `folded` when the epoch has moved on, when it is its message's last, and when a second one is still out. -/
theorem witness_FoldSegmentRetires :
    (let g := ((folded.spin 0).segs)[0]?
     let later := folded.setTag 0x110 { folded.tag 0x110 with epoch := 9 }
     let full := folded.setTag 0x110 { folded.tag 0x110 with count := 3, csum := 7 }
     let two := folded.updRound 1 5 (fun x => { x with live := x.live.map (fun m => { m with segs := 2 }) })
     let lastOf (s : State) : Option Bool := ((((s.updSpin 0 (fun y => { y with segs := [] })).updLive 1 5 0x120 (fun m =>
       { m with segs := m.segs - 1 })).round? 1 5).bind (fun r => r.live.find? (fun m => m.lz == 0x120))).map (fun m =>
         m.segs == 0 && m.cursor == cfg5.wholeMsg m)
     g.isSome && folded.owner? 0 == some 1 && folded.ready && (folded.round? 1 5).isSome && folded.tablesWf
       && g.any (fun g => (folded.tag g.tile).epoch == g.epoch && g.tile == 0x110 && g.round == 5 && g.row.isNone)
       && (later.tag 0x110).epoch != 0 && later.ready && ((later.spin 0).segs)[0]? == g
       && lastOf folded == some true && lastOf two == some false && two.ready && ((two.spin 0).segs)[0]? == g
       && (folded.tag 0x110).count == 0 && (full.tag 0x110).count != 0 && full.tablesWf
       && (folded.stagedOf 0x110).isNone && !folded.isFarNow 0x110 && (full.stagedOf 0x110).isNone && !full.isFarNow 0x110) = true := by
  decide +kernel

def zeroW : Nat := fT 1 2 0 1
def copyW : Nat := fT 1 3 0 1 2
def zeroS : State := unitAt rnd zeroW [(1, kTiles 0x130 2 3)]
def copyS : State :=
  let s := unitAt rnd copyW [(1, kTiles 0x134 1), (2, kTiles 0x138 1)]
  ({ s with tiles := writeNat s.tiles (0x138 * tileSize) 4 5 }).setTag 0x138 { count := 1, csum := 5, epoch := 2 }

theorem witness_TileInstructions :
    (let o := zeroS.ops 0 zeroW
     let p := copyS.ops 0 copyW
     zeroS.unitReady 0 zeroW (1, 2, 0) zeroS.eOf [(tQD zeroW, [0, 2])] && qKind o.qd == 0
       && (qTiles o.qd).all (fun t => !zeroS.sparseBusy o.f t) && qTiles o.qd == [0x130, 0x133]
       && copyS.unitReady 0 copyW (1, 3, 0) copyS.eOf [(tQD copyW, [0, 2]), (tQA copyW, [0, 2])] && qKind p.qd == 0 && qKind p.qa == 0
       && qNt p.qd == qNt p.qa && qLast p.qd == qLast p.qa && (qTiles p.qa).all (fun t => !(qTiles p.qd).contains t)
       && (qTiles p.qa ++ qTiles p.qd).all (fun t => !copyS.sparseBusy p.f t)
       && copyS.quiet (qTiles p.qa ++ qTiles p.qd)
       && !(qTiles p.qa ++ qTiles p.qd).any copyS.isFarNow && copyS.farTurn p.f) = true := by decide +kernel

theorem test_zero : (((after (.zero 0) (zeroS.setTag 0x133 { count := 4, csum := 9, epoch := 65535, tenant := 1 })).tag 0x133) ==
    { epoch := 0, tenant := 1 }) = true := by decide +kernel

def chktW : Nat := fT 1 5 0 0 2 0 0 0 5 3
def chktS : State := (unitAt rnd chktW [(2, kTiles 0x138 2)]).setTag 0x139 { count := 1, csum := 5 }

theorem witness_CheckTiles :
    (let ts := qTiles (chktS.ops 0 chktW).qa
     let bad (t : Nat) : Bool := chktS.csum t != (chktS.tag t).csum
     chktS.unitReady 0 chktW (1, 5, 0) chktS.eOf [(tQA chktW, [0])] && chktS.allPresent ts && chktS.quiet ts
       && ts == [0x138] ++ 0x139 :: [] && ([0x138] : List Nat).any bad == false && bad 0x139 && !chktS.rdb Reg.creelCsumValid
       && chktS.staged.all (fun g => !isFar g.slot) && chktS.tablesWf && decide (0x139 < 2 ^ 24)) = true := by decide +kernel

theorem test_chkt : ((((after (.chkt 0) chktS).spin 0).uq.map (·.code)) == [0x0101] &&
    (after (.chkt 0) chktS).rd Reg.creelCsumTile == 0x139) = true := by decide +kernel

/-- A ply QP of VF1, QPN 9. -/
def qp9 : Qp :=
  { qpn := 9, func := 1, st := .rts, initiate := true, bundle := 0, npath := 1, mtu := 0, maxMsg := 2 ^ 20, ipv4 := true, peerAddr := 0
    peerPort := 0, peerQpn := 7, filter := 0, tq := 0, ai := 0, round := 0, plyAttr := true, pinned := false, ver := 1 }
def drainW : Nat := fT 1 4 1 0 2 0 1 2
def combineW : Nat := fT 1 4 0 1 2
def drainS : State :=
  let s := unitAt rnd drainW [(2, kTiles 0x138 1)] [(1, 0x99), (2, 0)]
  { (({ s with tiles := writeNat s.tiles (0x138 * tileSize) 4 5 }).setTag 0x138 { count := 1, csum := 5, epoch := 2, tenant := 1 })
    with qps := [qp9] }
def combineS : State := unitAt rnd combineW [(1, kTiles 0x134 1), (2, kTiles 0x138 1)]
def drained : State := after (.drain 0) drainS

theorem witness_Drains :
    (let o := drainS.ops 0 drainW
     let p := combineS.ops 0 combineW
     let e := (drained.spin 0).uq.find? (fun e => e.op != .zero && !e.drains.isEmpty)
     let bad := drained.setTag 0x138 { drained.tag 0x138 with csum := 6 }
     let comb := after (.drainCombine 0) combineS
     drainS.unitReady 0 drainW (1, 4, 1) drainS.eOf [(tQA drainW, [0])] && drainS.drainQp o.f (qTile o.qa) == some 9
       && (qTiles o.qa).all (fun t => !drainS.sparseBusy o.f t) && drainS.allPresent (qTiles o.qa)
       && combineS.unitReady 0 combineW (1, 4, 0) combineS.eOf [(tQD combineW, [0]), (tQA combineW, [0])] && comb.owner? 0 == some 1
       && qNt p.qd == qNt p.qa && qLast p.qd == qLast p.qa
       && (qTiles p.qa ++ qTiles p.qd).all (fun t => !combineS.sparseBusy p.f t) && combineS.allPresent (qTiles p.qa ++ qTiles p.qd)
       && e.any (fun e => e.drains == [{ tile := 0x138, epoch := 2 }] && e.op == .drain && e.qpn == 9) && drained.owner? 0 == some 1
       && drained.oldDone 0x138 2 && drained.ready && drained.tablesWf && drained.csum 0x138 == (drained.tag 0x138).csum
       && drained.upsets == [] && (drained.stagedOf 0x138).isNone && !drained.isFarNow 0x138 && drained.tagUpsets == []
       && (drained.drainTile 0x138).1 && (bad.drainTile 0x138).1 == false && bad.oldDone 0x138 2 && bad.ready
       && (comb.spin 0).uq.any (fun e => e.op == .drainCombine && e.drains == [{ tile := 0x138, epoch := 0, target := 0x134 }])
       && comb.oldDone 0x138 0 && comb.ready && (comb.drainTile 0x138).1) = true := by decide +kernel

theorem test_drain : (drained.draining 0x138 == 1 && (drained.spin 0).pc == 1 &&
    ((after (.drainRead 0) drained).tag 0x138 == { epoch := 3, tenant := 1 })
    && ((after (.drainRead 0) drained).draining 0x138 == 0)) = true := by decide +kernel

theorem witness_NewEpoch : (drained.tablesWf && (drained.stagedOf 0x138).isNone && !drained.isFarNow 0x138 && decide (65535 < tileSize)
    && decide (drained.loc 0x138 * tileSize - 1 < drained.loc 0x138 * tileSize)) = true := by decide +kernel

/-! ## Sealed and sparse folds -/

def openW : Nat := fT 4 0 0 0 2 0 0 0 5 3
def clipW : Nat := fT 7 2 0 1 2 0 0 0 5 3
def finishW : Nat := fT 7 2 1 0 2 0 0 0 5 3
def foldrW : Nat := fT 1 1 0 0 2 0 0 0 5 3
def sealCfg : RoundCfg := { cfg5 with mode := 2, m := 0 }
/-- A sealed message of four two-byte elements, its header zero but for its tag; `sealedS` holds it, or `m`, in a round with
keys. -/
def blank : Msg := { msg0 with len := kxLen + 8 }
def sealedRnd (m : Msg) (k : Option RoundKey) : Round := { rnd with cfg := sealCfg, live := [m], keys := k }
def sealedS (w : Nat) (m : Msg) (k : Option RoundKey) : State :=
  unitAt (sealedRnd m k) w [(1, kSpan 0x200 64), (2, kMsg 0x120 1672)]
/-- The tag the message's own bytes give. -/
def sealTag : Bytes :=
  let s := sealedS openW blank (some {})
  gcmMac (s.sealKey {} blank) (sealIv 5 0) (List.replicate 48 0 ++ s.payload 0x120 0 kxLen) (s.payload 0x120 kxLen 8)
def tagged : Msg := { blank with hdr := List.replicate 48 0 ++ sealTag }
def authS : State := sealedS openW tagged (some {})

theorem leNat_lt (b : Bytes) : leNat b < 256 ^ b.length := by
  induction b with
  | nil => decide
  | cons x xs ih =>
    have h := x.isLt
    simp only [leNat, List.length_cons, Nat.pow_succ]
    omega

theorem toBe_length (n x : Nat) : (toBe n x).length = n := by
  have h : ∀ n x, (toLe n x).length = n := by
    intro n
    induction n with
    | zero => intro x; rfl
    | succ n ih => intro x; simp [toLe, ih]
  simp [toBe, h]

/-- Every two-byte element is in range where M is 0. -/
theorem elem_inRange (s : State) (off : Nat) : sealCfg.inRange (s.elemAt sealCfg 0x120 off) = true := by
  have h : leNat (s.payload 0x120 off sealCfg.pe) < 65536 := by
    have := leNat_lt (s.payload 0x120 off sealCfg.pe)
    have hl : (s.payload 0x120 off sealCfg.pe).length = 2 := by simp [State.payload, readBytes]; decide
    rw [hl] at this
    exact this
  have hb : encB sealCfg.encoding = 16 := by decide
  have hp : sealCfg.pe = 2 := by decide
  have hm : sealCfg.m = 0 := rfl
  simp only [RoundCfg.inRange, hb, hm, State.elemAt, hp, lift] at h ⊢
  simp only [Bool.and_eq_true, decide_eq_true_eq, beq_self_eq_true, Bool.true_or, and_true]
  split <;> omega

/-- OPEN of a message that authenticates. -/
theorem witness_SealedAndSparseFolds_open :
    authS.unitReady 0 openW (4, 0, 0) authS.eOf [(tQA openW, [1])] = true ∧
    authS.liveMsg 1 (authS.ops 0 openW).qa = some (sealedRnd tagged (some {}), tagged) ∧
    tagged.opened = false ∧ sealCfg.mode = 2 ∧ tagged.kind ≠ .recovery ∧ sealCfg.sparse = false ∧
    (let s0 := authS.eccSpan tagged.lz 0 (64 + tagged.len)
     gcmMac (s0.sealKey {} tagged) (sealIv tagged.round tagged.slot) (tagged.hdr.take 48 ++ s0.payload tagged.lz 0 kxLen)
       (s0.payload tagged.lz kxLen (tagged.len - kxLen)) = slice tagged.hdr 48 16) ∧
    (∀ s : State, (sealCfg.elemOffs tagged.len).all (fun i => sealCfg.inRange (s.elemAt sealCfg 0x120 i)) = true) := by
  have ht : authS.tiles = [] := rfl
  refine ⟨by decide +kernel, ?_, rfl, rfl, by decide, rfl, ?_, fun s => List.all_eq_true.mpr (fun i _ => elem_inRange s i)⟩
  · have hr : authS.rounds = [sealedRnd tagged (some {})] := rfl
    have hq : ((tagged.lz == qTile (authS.ops 0 openW).qa && tagged.slot == qSlot (authS.ops 0 openW).qa
      && tagged.len == qLen (authS.ops 0 openW).qa) = true) := by decide +kernel
    have hl : (sealedRnd tagged (some {})).func = 1 ∧ (sealedRnd tagged (some {})).live_ = true := by decide +kernel
    have hm : (sealedRnd tagged (some {})).live = [tagged] := rfl
    simp only [State.liveMsg, hr, firstSome, hm, List.find?, hq, Option.map, hl.1, hl.2, and_self, if_true]
  have h48 : tagged.hdr.take 48 = List.replicate 48 0 := by simp [tagged, blank]
  have h12 : slice tagged.hdr 8 12 = slice blank.hdr 8 12 := by
    have : blank.hdr = List.replicate 48 0 ++ List.replicate 16 0 := rfl
    simp only [slice, this, tagged, List.drop_append_of_le_length, List.length_replicate, Nat.reduceLeDiff, List.drop_replicate,
      List.take_append_of_le_length, Nat.reduceSub]
  have hs : slice tagged.hdr 48 16 = sealTag := by
    have hl : sealTag.length = 16 := by simp only [sealTag, gcmMac, toBe_length]
    simp [slice, tagged, hl, List.take_of_length_le]
  have hk : ∀ s : State, s.sealKey {} tagged = s.sealKey {} blank := by
    intro s
    simp only [State.sealKey, h12]
    rfl
  have he : authS.eccSpan tagged.lz 0 (64 + tagged.len) = authS := by
    have hu : authS.upsets = [] := rfl
    simp only [State.eccSpan, hu, List.filter_nil, List.foldl_nil]
  have hb : (sealedS openW blank (some {})).tiles = [] := rfl
  simp only [he, hk, hs, h48]
  simp only [sealTag, State.sealKey, State.payload, ht, hb]
  rfl

def m3cfg : M3Cfg :=
  { ps := 0, levelIn := 0, nlPath := 1, keyset := 0, nlTimeout := 1350000, evkBase := 0, evkCount := 0, workBase := 0, workCount := 0
    committeeQp := 9 }
def rnd3 : Round := { rnd with cfg := { cfg5 with mode := 3, committee := 3, m3 := some m3cfg } }
/-- CLIP of a mode 3 message of zeros in a round whose NL_PATH is 0. -/
def clip3 : Round := { rnd3 with cfg := { rnd3.cfg with m3 := some { m3cfg with nlPath := 0 } }, live := [msg0] }
def clip3S : State := unitAt clip3 clipW [(1, kSpan 0x200 64), (2, kMsg 0x120 8)]

theorem check3_blank (s : State) (x : Round) (m : Msg) (ht : s.tiles = []) (hh : bits (hdrOf m.hdr) 256 128 = 0)
    (hp : ∀ e, 0 < x.cfg.pset.prime (x.cfg.payLimb e)) : s.check3 x m = 0 := by
  have hz : ∀ a n, readNat [] a n = 0 := by
    intro a n
    have hb : ∀ l : List Nat, leNat (l.map (fun i => Sparse.get (0 : Byte) [] (a + i))) = 0 := by
      intro l
      induction l with
      | nil => rfl
      | cons i l ih => show (0 : Byte).toNat + 256 * leNat _ = 0; rw [ih]; rfl
    exact hb (List.range n)
  have he : ∀ off pe j, s.payElem m.lz off pe j = 0 := by intro off pe j; simp only [State.payElem, ht]; exact hz _ _
  have hc : ∀ (l : List Nat) i, csumOf i (l.map (fun _ => 0)) = 0 := by
    intro l
    induction l with
    | nil => intro i; rfl
    | cons y l ih => intro i; simp only [List.map_cons, csumOf, ih]; omega
  have hs : ∀ l : List Nat, (l.map (fun _ => 0)).sum = 0 := by
    intro l; induction l with
    | nil => rfl
    | cons y l ih => simp only [List.map_cons, List.sum_cons, ih]
  have h0 : s.payloadSum3 x.cfg m.lz = 0 := by simp only [State.payloadSum3, he, hc, Nat.zero_mod, hs]
  have h1 : (List.range x.cfg.payCoefs).any (fun e => decide (x.cfg.pset.prime (x.cfg.payLimb e) ≤ s.payElem m.lz 0 8 e)) = false := by
    rw [List.any_eq_false]
    intro e _
    have := hp e
    simp only [he, decide_eq_true_eq]
    omega
  simp only [State.check3, h0, hh, h1]
  rfl

def query1 : Query :=
  { handle := 3, func := 1, round := 5, slot := 0, lz := 0x120, qid := 11, sign := false, noise := 0, ctr := none, sentAt := 0
    onWire := true, decided := some .excluded, msg := [], desc := {}, v := [] }
def finishS : State :=
  let s := unitAt rnd finishW [(2, kSpan 0x200 8)]
  { s.updSpin 0 (fun x => withB x [(0x200, 8, 3)]) with queries := [query1] }

/-- CLIP and OPEN of messages opened, refused and of mode 3, and CLIP with PHASE 1. -/
theorem witness_SealedAndSparseFolds :
    (let opened := { blank with opened := true }
     let s := sealedS openW opened (some {})
     let bad := sealedS openW blank none
     let c := sealedS clipW opened (some {})
     let x := sealedRnd opened (some {})
     let y := sealedRnd blank none
     s.unitReady 0 openW (4, 0, 0) s.eOf [(tQA openW, [1])] && s.liveMsg 1 (s.ops 0 openW).qa == some (x, opened)
       && bad.unitReady 0 openW (4, 0, 0) bad.eOf [(tQA openW, [1])] && bad.liveMsg 1 (bad.ops 0 openW).qa == some (y, blank)
       && (bad.sealed2 y blank false).1 == 0x0603
       && c.unitReady 0 clipW (7, 2, 0) c.eOf [(tQD clipW, [3]), (tQA clipW, [1])] && c.liveMsg 1 (c.ops 0 clipW).qa == some (x, opened)
       && opened.clipped == false && x.st == .open && tMod clipW / 4 == 0
       && clip3S.unitReady 0 clipW (7, 2, 0) clip3S.eOf [(tQD clipW, [3]), (tQA clipW, [1])]
       && clip3S.liveMsg 1 (clip3S.ops 0 clipW).qa == some (clip3, msg0) && qLen (clip3S.ops 0 clipW).qd == 64
       && (match clip3S.exclude clip3 msg0 (some 0) (clip3S.spin 0).stepc with
           | some (.ok _, _) => true
           | _ => false)
       && finishS.unitReady 0 finishW (7, 2, 1) finishS.eOf [(tQA finishW, [3])] && (finishS.ops 0 finishW).f == 1
       && (finishS.queries.filter (fun q => q.func == 1 && q.handle == 3)).all (fun q =>
            (finishS.round? 1 q.round).all (fun r => r.st == .open || r.st == .guard || r.st == .closed))) = true ∧
    clip3S.check3 clip3 msg0 = 0 := by
  refine ⟨by decide +kernel, check3_blank clip3S clip3 msg0 rfl (by decide +kernel) (fun e => ?_)⟩
  have h : ∀ i, i < 1 → 0 < clip3.cfg.pset.prime i := by decide +kernel
  exact h _ (Nat.mod_lt _ (by decide))

def rows5 : RowCfg :=
  { rows := 64, rw := 4, maxRows := 8, accBase := 0x110, accTiles := 1, dirBase := 0x140, dirTiles := 1, cacheBase := 0x142
    cacheCount := 1, windows := [] }
/-- A sparse message of one row, with the directory's 16 pages in the cache or none, and page fetches outstanding. -/
def rowMsg : Msg := { msg0 with len := kxLen + 16 }
def foldrS (cached : Bool) (miss : List (Nat × Nat)) : State :=
  (unitAt { rnd with cfg := { cfg5 with rowMode := 1, rows := some rows5 }, live := [rowMsg]
                     sparse := { misses := miss, pages := if cached then (List.range 16).map (fun i => { page := i, slot := i, dirty := false }) else [] } }
      foldrW
    [(2, kMsg 0x120 1680)]).updFn 1 (fun x => { x with noiseSeed := some 17 })

/-- The stream key, and what resolving the row answers, in `foldrS`. -/
def rowKey : Nat := ((foldrS true []).streamOf 1 1 0 (stepOf 5 dirStep) 0).getD 0
def resolving (cached : Bool) : Round × Nat × Option Resolve :=
  let s := foldrS cached []
  resolveRows rowKey (r5 s) 0 [s.rowId (r5 s).cfg 0x120 0]

/-- FOLDR with its row's page cached, and with it uncached; the fetch of a page, with the spindle issuing and stopped. -/
theorem witness_SealedAndSparseFolds_rows :
    ([true, false].all (fun b =>
        let r := foldrS b []
        r.unitReady 0 foldrW (1, 1, 0) r.eOf [(tQA foldrW, [1])] && r.liveMsg 1 (r.ops 0 foldrW).qa == some (r5 r, rowMsg)
          && (r5 r).cfg.sparse && rowMsg.prepared && (r5 r).cfg.nRows rowMsg.len == 1
          && r.streamOf 1 1 0 (stepOf 5 dirStep) 0 == some rowKey)
      && (resolving false).2.2 == some .miss && (resolving true).2.2 == none
      && (let s := foldrS true []
          let u := (s.putResolved 1 5 (resolving true).1).updLive 1 5 0x120 (fun m => { m with resolved := (resolving true).2.1 })
          let k := { rowMsg with resolved := 1 }
          let plan := u.rowPlan (r5 u) k 0
          u.liveMsg 1 (s.ops 0 foldrW).qa == some (r5 u, k) && plan.length == 1 && u.roomFor (r5 u).cfg [] plan == plan
            && plan.all (fun p => !u.fmtConflict p.tile (u.issueEpoch 0 p.tile) (r5 u).cfg.mode (r5 u).cfg.wsel 0 false))
      && (let s := foldrS false [(0, 5)]
          let halted := s.updSpin 0 (fun x => { x with st := .stopped })
          [s, halted].all (fun s => s.rounds.find? (fun r => s.owner? 0 == some r.func && r.sparse.misses.any (fun p => p.1 == 0))
              == some (r5 s) && (r5 s).sparse.misses.find? (fun p => p.1 == 0) == some (0, 5) && ((r5 s).cached 5).isNone
              && s.round? 1 5 == some (r5 s))
            && !((halted.cachePage 1 5 5).issuing 0))) = true := by decide +kernel

theorem test_foldr :
    (((after (.foldr 0) (foldrS true [])).spin 0).segs.map (fun g => (g.tile, g.row, g.elems)) == [(0x110, some 0, [0, 0, 0, 0])]
      && (after (.foldr 0) (foldrS false [])).rounds.map (·.sparse.misses) == [[(0, 5)]]) = true := by decide +kernel

/-- The segment of a row, its message's last or with another still out. -/
theorem witness_FoldSegmentRetires_rows :
    (let s := after (.foldr 0) (foldrS true [])
     let two := s.updLive 1 5 0x120 (fun m => { m with segs := 2 })
     [(s, true), (two, false)].all (fun (s, last) => s.ready && s.owner? 0 == some 1 && s.round? 1 5 == some (r5 s)
       && ((s.spin 0).segs)[0]?.any (fun g => g.row == some 0 && g.round == 5 && g.lz == 0x120 && (s.tag g.tile).epoch == g.epoch)
       && (r5 s).live.any (fun m => m.lz == 0x120 && (m.segs - 1 == 0 && m.cursor == (r5 s).cfg.wholeMsg m) == last))) = true := by
  decide +kernel
/-! ## The unit queue -/

/-- An entry that reports 0x0101 in s5 and p3. -/
def entry5 : UnitEntry := { id := 4, op := .chkt, word := BitVec.ofNat 64 chktW, pc := 0, stepc := 0, code := 0x0101, reports := true }
def queued (e : UnitEntry) : State := prog (withRound demo rnd) 0 (fun x => { x with uq := [e], nextId := 5 })

/-- Entries that wait and entries that are done, on an owned spindle and on one without an owner; CLIP with PHASE 1 and a held
FOLD with their handles decided and not. -/
theorem witness_UnitQueue :
    (let wait := [queued { entry5 with parts := 1 }, queued { entry5 with drains := [{ tile := 0x138, epoch := 0 }] }]
     let done := queued entry5
     let free := (queued entry5).wr Reg.fnSpindles 0 1
     let held := { entry5 with op := .fold, held := true, handle := 3, round := some 5 }
     let clips := { entry5 with op := .clipFinish, ops := [3] }
     let asked (e : UnitEntry) (d : Option QDecision) : State := { queued e with queries := [{ query1 with decided := d }] }
     let words := { queued entry5 with rng := { reqs := [{ cls := 2, order := 0, words := 8, got := [], use := .stream 0 4 }] } }
     wait.all (fun s => s.ready && !(s.spin 0).recovering && ((s.spin 0).uq)[0]?.any (fun e => e.parts != 0 || e.drains != []))
       && (words.ready && words.awaitsWords 0 4)
       && [done, free, asked clips none, asked held none].all (fun s => s.ready && !(s.spin 0).recovering
            && ((s.spin 0).uq)[0]?.any (fun e => e.parts == 0 && e.drains == [] && !s.awaitsWords 0 e.id))
       && (free.owner? 0).isNone && [done, asked clips none, asked held none].all (fun s => s.owner? 0 == some 1)
       && entry5.failCode.isNone && entry5.op == .chkt
       && (asked clips (some .excluded)).clipReady 1 [3] && (asked clips none).clipReady 1 [3] == false
       && [none, some .excluded].all (fun d => ((asked held d).queries.find? (fun q =>
            q.func == 1 && q.handle == held.handle && some q.round == held.round)).any (fun q => q.decided == d))
       && entry5.reports && entry5.writes == [] && entry5.qdst.isNone) = true := by decide +kernel

theorem test_unitInstructionRetire :
    (let x := (after (.unitInstructionRetire 0 0) (queued entry5)).spin 0
     x.uq == [] && x.sreg 5 == 0x0101 && x.preg 3 == outcome 0x0101) = true := by decide +kernel

/-! ## The sync and system classes -/

def waitW : Nat := fT 8 1 2 0 0 0 1 2 5 3
def signalW : Nat := fT 8 2 2 0 0 0 1
def fenceW (m : Nat) : Nat := fT 8 3 m
/-- Spindle 0 at a sync word with s1 = 5, s2 = `b` and counter 2 of VF1 at `c`. -/
def syncAt (w c : Nat) (b : Word := 0) (g : Spindle → Spindle := id) : State :=
  (prog demo w (fun x => g (withS x [(1, 5), (2, b)]))).ctrPut 1 2 c

theorem witness_WaitsAndSignals :
    (let base (s : State) := s.issues 0 waitW && wKey waitW == (8, 1, 0)
     let o (s : State) := s.ops 0 waitW
     let here (s : State) := s.ctrGet (o s).f (modCtr waitW)
     let met := syncAt waitW 5
     let poll := syncAt waitW 4 1
     let wait := syncAt waitW 4 10
     let since (c : Nat) := syncAt waitW c 10 (fun x => { x with wait := .waitc 99999991 })
     let sig := syncAt signalW 0
     let posted := prog demo 0 (fun x => { x with signals := [{ id := 7, entries := [3], ctr := 2, addend := 5 }] })
     -- a far tile staged at 0x140, dirty, whose checksum is 5
     let torn (c : Nat) : State :=
       let s := syncAt (fenceW 1) 0
       ({ s with
         staged := [{ tile := 0x800000, slot := 0x140, func := 1, dirty := true, lastUse := 0, farTag := {} }]
         tiles := writeNat s.tiles (0x140 * tileSize) 4 5 }).setTag 0x800000 { count := 1, csum := c, far := true }
     let fen (m : Nat) (g : Spindle → Spindle) := (syncAt (fenceW m) 0 0 g)
     base met && decide ((o met).sa ≤ here met) && base poll && decide (here poll < (o poll).sa) && (o poll).sb == 1
       && base wait && decide (here wait < (o wait).sa) && (o wait).sb != 1 && (wait.spin 0).wait == .none
       && base (since 5) && ((since 5).spin 0).wait == .waitc 99999991 && decide ((o (since 5)).sa ≤ here (since 5))
       && base (since 4) && decide (here (since 4) < (o (since 4)).sa ∧ 99999991 + (o (since 4)).sb - 1 ≤ (since 4).time)
       && sig.issues 0 signalW && wKey signalW == (8, 2, 0)
       && posted.ready && posted.owner? 0 == some 1
       && ((posted.spin 0).signals.find? (fun g => g.entries.all (fun i => (posted.spin 0).uq.all (fun e => e.id != i)))).isSome
       && [(0, fen 0 (fun x => { x with uq := [entry5] })), (2, fen 2 (fun x => { x with unacked := 1 })), (2, fen 2 id), (3, fen 3 id)
          , (1, torn 5), (1, torn 6)].all (fun (m, s) => s.issues 0 (fenceW m) && wKey (fenceW m) == (8, 3, 0))
       && ((fen 2 id).spin 0).uq == [] && ((fen 2 id).spin 0).unacked == 0
       && bit (tMod (fenceW 2)) 1 && bit (tMod (fenceW 3)) 0 && !bit (tMod (fenceW 2)) 0
       && [fen 3 id, torn 5, torn 6].all (fun s => s.quiet (s.staged.map (·.tile)) && s.farTurn 1)
       && !((torn 5).writeBack 0x800000).staged.any (fun g => g.dirty) && ((torn 6).writeBack 0x800000).staged.any (fun g => g.dirty)) =
      true := by
  decide +kernel

theorem test_waitc :
    (((after (.waitc 0) (syncAt waitW 5)).spin 0).pc == 1 && ((after (.waitc 0) (syncAt waitW 4 1)).spin 0).sreg 5 == 0x0A0E
      && ((after (.waitc 0) (syncAt waitW 4 10)).spin 0).wait == .waitc 100000000
      && ((after (.waitTimeout 0) (syncAt waitW 4 10 (fun x => { x with wait := .waitc 99999990 }))).spin 0).sreg 5 == 0x0A0E
      && ((after (.waitTimeout 0) (syncAt waitW 4 10 (fun x => { x with wait := .waitc 99999992 }))).spin 0).sreg 5 == 0) = true := by
  decide +kernel

theorem test_signal :
    ((after (.signalApply 0) (after (.signal 0) (syncAt signalW 3))).ctrGet 1 2 == 8
      && ((after (.fence 0) (syncAt (fenceW 0) 0)).spin 0).pc == 1) = true := by decide +kernel

/-- The last counter of the set, and the first one past it. -/
theorem witness_CounterAdd : (demo.tablesWf && decide (7 < demo.rd Reg.fnCtrCount 1) && decide (demo.rd Reg.fnCtrCount 1 ≤ 8)
    && decide (demo.rd Reg.fnCtrBase 1 + 6 ≠ demo.rd Reg.fnCtrBase 1 + 7)) = true := by decide +kernel

theorem test_counter_saturates : ((demo.ctrPut 1 7 (2 ^ 64 - 2)).ctrAdd 1 7 5).ctrGet 1 7 = 2 ^ 64 - 1 := by decide +kernel

def gateW : Nat := fT 8 0 63 0 0 0 1 2 5 3
/-- Spindle 0 at GATE 63 of time `t`, with timeout `b`. -/
def gateAt (t : Word) (b : Word := 0) (g : Spindle → Spindle := id) : State := prog demo gateW (fun x => g (withS x [(1, t), (2, b)]))
def gate63 (t : Nat) (arrived : List Nat) : Gate := { func := 1, num := 63, time := t, conflict := false, arrived := arrived }

theorem witness_Gates :
    (let first := gateAt 100000000
     let later := { gateAt 100000000 with gates := [gate63 100000000 [1]] }
     let other := { gateAt 100000000 with gates := [gate63 100000001 [1]] }
     let past := { gateAt 99999999 with gates := [gate63 99999999 [0]] }
     let open_ := { gateAt 100000000 with gates := [gate63 100000000 [0]] }
     let late := { gateAt 100000001 10 (fun x => { x with wait := .gate 99999991 }) with gates := [gate63 100000001 [0]] }
     let base (s : State) := s.issues 0 gateW && wKey gateW == (8, 0, 0) && tMod gateW == 63 && (s.ops 0 gateW).f == 1
     base first && (first.spin 0).uq == [] && (first.spin 0).wait == .none && (first.gate? 1 63).isNone
       && base later && (later.spin 0).uq == [] && (later.spin 0).wait == .none
       && (later.gate? 1 63).any (fun g => !g.arrived.contains 0 && g.time == (later.ops 0 gateW).sa)
       && base other && (other.spin 0).uq == [] && (other.spin 0).wait == .none
       && (other.gate? 1 63).any (fun g => !g.arrived.contains 0 && g.time != (other.ops 0 gateW).sa && !g.conflict)
       && past.ready && (past.gate? 1 63).any (fun g => past.gateOpen g && decide (g.time < past.time))
       && open_.ready && (open_.gate? 1 63).any (fun g => open_.gateOpen g && g.time == open_.time)
       && base late && (late.spin 0).wait == .gate 99999991 && (late.gate? 1 63).any (fun g => !late.gateOpen g)
       && (late.ops 0 gateW).sb != 0 && decide (99999991 + (late.ops 0 gateW).sb - 1 ≤ late.time)) = true := by decide +kernel

theorem test_gate :
    (let armed := after (.gate 0) (gateAt 100000000)
     let t := after (.gateRelease 1 63) armed
     armed.gates == [gate63 100000000 [0]] && t.gates == [] && (t.spin 0).pc == 1 && (t.spin 0).sreg 5 == 0
       && ((after (.gateTimeout 0) { gateAt 100000001 10 (fun x => { x with wait := .gate 99999991 }) with
            gates := [gate63 100000001 [0]] }).spin 0).sreg 5 == 0x0A0E) = true := by decide +kernel

/-- Spindles with and without a handler, one in HANDLER, and one whose STOP has just been accepted. -/
theorem witness_TrapEntry :
    (let a := prog demo 0 (fun x => { x with handler := some 5 })
     let b := prog demo 0
     let c := prog demo 0 (fun x => { x with handler := some 5, st := .handler })
     let d := prog demo 0 (fun x => { x with handler := some 5, stopping := true, stopAt := 100000000 })
     (d.spin 0).stopping && (d.spin 0).stopAt == d.time && (d.spin 0).st == .running
       && decide (0 < a.spindles.length) && (a.spin 0).handler == some 5 && (a.spin 0).st != .handler && (b.spin 0).handler.isNone
       && (c.spin 0).st == .handler && decide (scratchTrap - 1 < scratchTrap)) = true := by decide +kernel

def trapW (ret : Nat) : Nat := fT 9 0 ret 0 0 0 ret
def stepW (set : Nat) : Nat := fT 9 2 set 0 0 0 set
/-- Spindle 0 at a system word with s1 = 6 and the step counter `c`. -/
def sysAt (w c : Nat) (g : Spindle → Spindle := id) : State := prog demo w (fun x => { g (withS x [(1, 6)]) with stepc := c })

theorem witness_SystemInstructions :
    (let ok (s : State) (w : Nat) (k : Nat × Nat × Nat) := s.issues 0 w && wKey w == k && (s.spin 0).uq == []
     let h := sysAt (trapW 1) 0 (fun x => { x with st := .handler })
     let halted := sysAt (fT 9 1) 0 (fun x => { x with wait := .halt })
     ok (sysAt (trapW 0) 0) (trapW 0) (9, 0, 0) && ok h (trapW 1) (9, 0, 1) && (h.spin 0).st == .handler
       && ok (sysAt (trapW 1) 0) (trapW 1) (9, 0, 1) && ((sysAt (trapW 1) 0).spin 0).st != .handler
       && ok (sysAt (fT 9 1) 0) (fT 9 1) (9, 1, 0)
       && ok (sysAt (stepW 0) 0xFFFFFC) (stepW 0) (9, 2, 0) && decide ((0xFFFFFC : Nat) % 2 ^ 24 + 1 < 0xFFFFFE)
       && ok (sysAt (stepW 0) 0xFFFFFD) (stepW 0) (9, 2, 0) && decide ((0xFFFFFE : Nat) ≤ 0xFFFFFD % 2 ^ 24 + 1)
       && ok (sysAt (stepW 1) (5 * 2 ^ 24)) (stepW 1) (9, 2, 1) && decide ((5 : Nat) < ((sysAt (stepW 1) 0).ops 0 (stepW 1)).sa % 2 ^ 40)
       && ok (sysAt (stepW 1) (6 * 2 ^ 24)) (stepW 1) (9, 2, 1) && decide (((sysAt (stepW 1) 0).ops 0 (stepW 1)).sa % 2 ^ 40 ≤ 6)
       && (sysAt (stepW 0) 0 (fun x => { x with uq := [entry5] })).issues 0 (stepW 0) && !(halted.spin 0).stopping
       && (sysAt 0 0).watched 0 && halted.ready && (halted.spin 0).wait == .halt && (halted.spin 0).uq == [] && (halted.spin 0).signals == []
       && (sysAt 0 0).issuing 0 && decide (((sysAt 0 0).spin 0).active + 1350000 ≤ (sysAt 0 0).time)
       && !(sysAt 0 0).unwatched 0) = true := by decide +kernel

theorem test_trap :
    (let t := (after (.trap 0) (sysAt (trapW 0) 9 (fun x => { x with handler := some 5 }))).spin 0
     let n := (after (.trap 0) (sysAt (trapW 0) 9 (fun x => { x with st := .handler, handler := some 5 }))).spin 0
     t.st == .handler && t.pc == 5 && readNat t.scratch 0x1FF000 2 == 0x0A0A && bits t.trap 21 2 == 1 && bits t.trap 160 64 == 9
       && n.st == .trapped && readNat n.scratch 0x1FF040 2 == 0x0A0A && bit n.trap 22
       && (let u := (after (.trapReturn 0) (sysAt (trapW 1) 0 (fun x => { x with st := .handler }))).spin 0
           u.st == .running && u.pc == 6)) = true := by decide +kernel

theorem test_step :
    (((after (.step 0) (sysAt (stepW 0) 41)).spin 0).stepc == 42
      && ((after (.stepSetround 0) (sysAt (stepW 1) 41)).spin 0).stepc == 6 * 2 ^ 24
      && ((after (.haltDone 0) (after (.halt 0) (sysAt (fT 9 1) 0))).spin 0).st == .done
      && ((after (.lockkeeperWatchdog 0) (sysAt 0 0)).spin 0).trap % 2 ^ 16 == 0x0A02) = true := by decide +kernel

/-! ## The polynomial class -/

/-- Records of R113, bit fields written out: set 0, noise 10 bits, four slots, room for three components; at tile 0x110 level 2, the
same in the NTT domain, with special primes, with three components, marked, of set 1, at level 0; then at tiles 0x130 and 0x150. -/
def recA : Nat := 0x400000000000000000001100000000800000000000000000a000200
def recN : Nat := 0x400000000000000000001100000000900000000000000000a000200
def recE : Nat := 0x400000000000000000001100000000a00000000000000000a000200
def recT : Nat := 0x400000000000000000001100000000c00000000000000000a000200
def recM : Nat := 0x400000000000000000001100000001800000000000000000a000200
def recP : Nat := 0x400000000000000000001000000000800000000000000000a000201
def recL : Nat := 0x400000000000000000001100000000800000000000000000a000000
def recD : Nat := 0x400000000000000000001300000000800000000000000000a000200
def recB : Nat := 0x400000000000000000001500000000800000000000000000a000200
/-- The descriptor these records spell. -/
def ctV (t : Nat) (ps : Nat := 0) (level : Nat := 2) (noise : Nat := 2560) (ntt ext three marked : Bool := false) (autoK count nuIn : Nat := 0) :
    CtDesc :=
  { ps := ps, level := level, noise := noise, keyset := 0, ntt := ntt, ext := ext, three := three, alloc3 := true, marked := marked
    autoK := autoK, tile := t, wsel := 0, count := count, nuIn := nuIn, res := 4 }

theorem test_ct_records :
    [(recA, ctV 0x110), (recN, ctV 0x110 (ntt := true)), (recE, ctV 0x110 (ext := true)), (recT, ctV 0x110 (three := true))
      , (recM, ctV 0x110 (marked := true)), (recP, ctV 0x100 1), (recL, ctV 0x110 (level := 0)), (recD, ctV 0x130), (recB, ctV 0x150)
      ].all (fun p => CtDesc.ofNat p.1 == p.2 && p.2.toNat == p.1) = true := by decide +kernel

/-- A polynomial instruction `w`: qD, qA, qB name the records at 0x100, 0x140, 0x180; s3 is `v`. -/
def polyAt (w : Nat) (a : Nat := recA) (v : Word := 0) (qb : QWord := kCt 0x180) : State :=
  prog demo w (fun x => withB (withQ (withS x [(3, v)]) [(1, kCt 0x100), (2, kCt 0x140), (3, qb)])
    [(0x100, 64, recD), (0x140, 64, a), (0x180, 64, recB)])
/-- Class 5 with qD = q1, qA = q2, and qB = q3 where `b` says so. -/
def poly2 (op : Nat) (m sc : Nat := 0) : Nat := fT 5 op m 1 2 0 0 0 sc
def poly3 (op m : Nat) : Nat := fT 5 op m 1 2 3
/-- The instruction issues with its stream registers as it needs them, its source is `d`, and every check passes. -/
def PolyMeets (s : State) (w op : Nat) (regs : Nat → List (Nat × List Nat)) (srcs : Nat) (d : CtDesc) (more : List CtDesc) (pre : Nat)
    (res : CtDesc) : Prop :=
  let o := s.ops 0 w
  s.unitReady 0 w (5, op, 0) s.eOf (regs w) = true ∧ (s.spin 0).ct o.qa = d ∧
    s.polyPass 0 o (if srcs = 1 then [o.qa] else [o.qa, o.qb]) (d :: more) pre 0 res = true
/-- The same over the destination's descriptor, written out. -/
def polyOk (s : State) (w op : Nat) (regs : Nat → List (Nat × List Nat)) (srcs : Nat) (d : CtDesc) (more : List CtDesc) (pre : Nat)
    (res : CtDesc) : Bool :=
  let o := s.ops 0 w
  let out := res.onto (ctV 0x130)
  s.unitReady 0 w (5, op, 0) s.eOf (regs w) && (s.spin 0).ct o.qa == d && (s.spin 0).ct o.qd == ctV 0x130
    && (o.qd :: (if srcs = 1 then [o.qa] else [o.qa, o.qb])).all (fun q => s.ctWf o.f ((s.spin 0).ctRec q)) && out.fits
    && (d :: more).all (fun d => !d.marked && d.ps == (ctV 0x130).ps) && pre == 0
    && s.quiet ((ctV 0x130).reserved ++ (d :: more).flatMap (·.reserved))

/-- Budgets of parameter set 0 at W 32 (R119). -/
theorem budget_2 : (paramSet 0).budget 2 32 false = some 32767 := by decide +kernel
theorem budget_2_ext : (paramSet 0).budget 2 32 true = some 46590 := by decide +kernel
theorem budget_1 : (paramSet 0).budget 1 32 false = some 18943 := by decide +kernel

theorem polyOk_meets {s : State} {w op : Nat} {regs : Nat → List (Nat × List Nat)} {srcs : Nat} {d : CtDesc} {more : List CtDesc}
    {pre : Nat} {res : CtDesc} {b : Nat} (hb : (paramSet res.ps).budget res.level (wOf res.wsel) res.ext = some b)
    (hn : res.noise ≤ b ∧ res.noise < 2 ^ 16) (h : polyOk s w op regs srcs d more pre res = true) :
    PolyMeets s w op regs srcs d more pre res := by
  simp only [polyOk, Bool.and_eq_true, beq_iff_eq] at h
  obtain ⟨⟨⟨⟨⟨⟨⟨h1, h2⟩, h3⟩, h4⟩, h5⟩, h6⟩, h7⟩, h9⟩ := h
  refine ⟨h1, h2, ?_⟩
  have h8 : (res.onto (ctV 0x130)).inBudget = true := by
    show (match (paramSet res.ps).budget res.level (wOf res.wsel) res.ext with
      | some b => decide (res.noise ≤ b) && decide (res.noise < 2 ^ 16)
      | none => false) = true
    rw [hb]
    exact Bool.and_eq_true_iff.mpr ⟨decide_eq_true hn.1, decide_eq_true hn.2⟩
  simp only [State.polyPass, h3, h4, h5, h6, h7, h8, h9, Bool.and_self, beq_self_eq_true]

theorem witness_PolynomialOperations_ntt :
    PolyMeets (polyAt (poly2 0)) (poly2 0) 0 regs2 1 (ctV 0x110) [] 0
      (ctV 0x110 (ntt := true) (count := 1) (nuIn := 2560)) := polyOk_meets budget_2 (by decide +kernel) (by decide +kernel)

theorem witness_PolynomialOperations_intt :
    PolyMeets (polyAt (poly2 1) recN) (poly2 1) 1 regs2 1 (ctV 0x110 (ntt := true)) [] 0
      (ctV 0x110 (count := 1) (nuIn := 2560)) := polyOk_meets budget_2 (by decide +kernel) (by decide +kernel)

theorem witness_PolynomialOperations_auto :
    PolyMeets (polyAt (poly2 4 16383)) (poly2 4 16383) 4 regs2 1 (ctV 0x110) [] 0 (ctV 0x110 (autoK := 16383) (count := 1) (nuIn := 2560)) ∧
    (decide (tMod (poly2 4 16383) < 2 * (paramSet 0).n)) = true :=
  ⟨polyOk_meets budget_2 (by decide +kernel) (by decide +kernel), by decide +kernel⟩

/-- NU_MUL of two estimates of 10 bits at W 32 and N 8,192: 10 + 32 + 13 + 2 bits. -/
theorem witness_PolynomialOperations_product :
    PolyMeets (polyAt (poly3 2 0)) (poly3 2 0) 2 regs3 2 (ctV 0x110) [ctV 0x150] 0
        (ctV 0x110 (noise := 14592) (three := true) (count := 1) (nuIn := 14592)) ∧
    ((paramSet 0).nuMul (wOf 0) 2560 2560 == 14592 && tMod (poly3 2 0) % 4 == 0) = true :=
  ⟨polyOk_meets budget_2 (by decide +kernel) (by decide +kernel), by decide +kernel⟩

theorem witness_PolynomialOperations_scalar :
    PolyMeets (polyAt (poly2 2 2 3) recA 3) (poly2 2 2 3) 2 regs2 1 (ctV 0x110) [] 0 (ctV 0x110 (noise := 3072) (count := 1) (nuIn := 3072)) ∧
    (tMod (poly2 2 2 3) % 4 == 2 && lift 64 ((polyAt (poly2 2 2 3) recA 3).ops 0 (poly2 2 2 3)).sc == 3
      && 2560 + ceilLog2 (3 + 1) * 256 == 3072) = true :=
  ⟨polyOk_meets budget_2 (by decide +kernel) (by decide +kernel), by decide +kernel⟩

theorem witness_PolynomialOperations_plainProduct :
    PolyMeets (polyAt (poly3 2 9) recN 0 (kTiles 0x160 3)) (poly3 2 9) 2 regs3p 1 (ctV 0x110 (ntt := true)) [] 0
        ((ctV 0x110 (ntt := true)).fresh (2560 + bits (tMod (poly3 2 9)) 2 7 * 256 + lg (paramSet 0).n)) ∧
    (tMod (poly3 2 9) % 4 == 1
      && decide ((ctV 0).slots * (ctV 0).pset.tiles ≤ qNt ((polyAt (poly3 2 9) recN 0 (kTiles 0x160 3)).ops 0 (poly3 2 9)).qb)) = true :=
  ⟨polyOk_meets budget_2 (by decide +kernel) (by decide +kernel), by decide +kernel⟩

theorem witness_PolynomialOperations_sum :
    PolyMeets (polyAt (poly3 3 0)) (poly3 3 0) 3 regs3 2 (ctV 0x110) [ctV 0x150] 0 (ctV 0x110 (noise := 0)) ∧
    ((ctV 0x110).add 0 0 == ctV 0x110 (noise := 0) && !bit (tMod (poly3 3 0)) 1) = true :=
  ⟨polyOk_meets budget_2 (by decide +kernel) (by decide +kernel), by decide +kernel⟩

theorem witness_PolynomialOperations_plain :
    PolyMeets (polyAt (poly3 3 2) recN 0 (kTiles 0x160 3)) (poly3 3 2) 3 regs3p 1 (ctV 0x110 (ntt := true)) [] 0
        (ctV 0x110 (noise := 0) (ntt := true) (count := 1)) ∧
    ((ctV 0x110 (ntt := true)).add 1 0 == ctV 0x110 (noise := 0) (ntt := true) (count := 1) && bit (tMod (poly3 3 2)) 1
      && decide ((ctV 0).slots * (ctV 0).pset.tiles ≤ qNt ((polyAt (poly3 3 2) recN 0 (kTiles 0x160 3)).ops 0 (poly3 3 2)).qb)) = true :=
  ⟨polyOk_meets budget_2 (by decide +kernel) (by decide +kernel), by decide +kernel⟩

/-- A round with the EVK_CACHE tile 0x170, and slices of three keys cached there at the levels `l`. -/
def cacheRnd : Round := { rnd3 with cfg := { rnd3.cfg with m3 := some { m3cfg with evkBase := 0x170, evkCount := 1 } } }
def cached (l : Nat) : List EvkSlice := (List.range 3).map (fun k => { key := k, level := l, tiles := [0x170], lastUse := 0 })
def kswS : State :=
  (withRound (polyAt (poly2 8) recT) cacheRnd).updFn 1 (fun x =>
    { x with evks := [(0, { keyset := 0, ps := 0, kind := 0, level := 2, galK := 0, tile := 0, ntiles := 0, digest := 0 })]
             evkCache := cached 2 })

/-- A slice that is cached can be used. -/
theorem evkUse_cached (s : State) (f key l : Nat) (h1 : (s.evk? f key).isSome = true) (h2 : (s.evkCached f key l).isSome = true) :
    (s.evkUse f key l).1 = true := by
  obtain ⟨e, he⟩ := Option.isSome_iff_exists.mp h1
  obtain ⟨c, hc⟩ := Option.isSome_iff_exists.mp h2
  simp only [State.evkUse, he, hc]

theorem witness_ModulusInstructions_modup :
    PolyMeets (polyAt (poly2 5)) (poly2 5) 5 regs2 1 (ctV 0x110) [] 0
      (ctV 0x110 (noise := 2560 + (paramSet 0).logP) (ext := true) (count := 1) (nuIn := 2560 + (paramSet 0).logP)) := polyOk_meets budget_2_ext (by decide +kernel) (by decide +kernel)

theorem witness_ModulusInstructions_moddn :
    PolyMeets (polyAt (poly2 6) recE) (poly2 6) 6 regs2 1 (ctV 0x110 (ext := true)) [] 0
      (ctV 0x110 (noise := (paramSet 0).nuModdn 2560) (count := 1) (nuIn := (paramSet 0).nuModdn 2560)) := polyOk_meets budget_2 (by decide +kernel) (by decide +kernel)

theorem witness_ModulusInstructions_resc :
    PolyMeets (polyAt (poly2 7)) (poly2 7) 7 regs2 1 (ctV 0x110) [] 0
      (ctV 0x110 (level := 1) (noise := (paramSet 0).nuResc 32 2 2560) (count := 1) (nuIn := (paramSet 0).nuResc 32 2 2560)) := polyOk_meets budget_1 (by decide +kernel) (by decide +kernel)

theorem witness_ModulusInstructions_ksw :
    PolyMeets kswS (poly2 8) 8 regs2 1 (ctV 0x110 (three := true)) [] (kswS.evkCode 1 0 (ctV 0x110 (three := true)) 0 0 2)
      (ctV 0x110 (noise := (paramSet 0).nuKsw 2 2560) (count := 1) (nuIn := (paramSet 0).nuKsw 2 2560)) ∧
    (kswS.evkUse 1 0 2).1 = true :=
  ⟨polyOk_meets budget_2 (by decide +kernel) (by decide +kernel), evkUse_cached kswS 1 0 2 (by decide +kernel) (by decide +kernel)⟩

theorem witness_PolynomialTraps :
    ([(recM, ctV 0x110 (marked := true)), (recP, ctV 0x100 1), (recL, ctV 0x110 (level := 0))].all (fun p =>
      let s := polyAt (poly2 7) p.1
      let o := s.ops 0 (poly2 7)
      let x := s.spin 0
      s.unitReady 0 (poly2 7) (5, 7, 0) s.eOf (regs2 (poly2 7)) && s.ctWf o.f (x.ctRec o.qd) && s.ctWf o.f (x.ctRec o.qa)
        && x.ct o.qa == p.2 && x.ct o.qd == ctV 0x130
        && (({ p.2.fresh (p.2.pset.nuResc (wOf 0) p.2.level p.2.noise) with level := p.2.level - 1 } : CtDesc).onto (ctV 0x130)).fits)) = true := by
  decide +kernel

/-- RESC at level 0 marks its source and traps with 0x0202. -/
theorem test_resc_level_0 :
    (let t := after (.resc 0) (polyAt (poly2 7) recL)
     ((t.spin 0).ct (2 + 0x140 * 2 ^ 32)).marked && (t.spin 0).trap % 2 ^ 16 == 0x0202) = true := by decide +kernel

/-! ## Masks, LUTR -/

def expandW : Nat := fT 3 0 0 0 0 3 1 0 5 3
def seedrecW : Nat := fT 3 1 0 0 2 0 0 0 5 3
def prghW : Nat := fT 3 2 5 1 0 0 2 4 5 3
def lutrW : Nat := fT 6 0 (3 + 2 * 64) 1 2 3 2 1 4
def unmaskS (um : Unmask) (st : RState) : State :=
  unitAt { rnd with st := st, um := um } expandW [(3, kSpan 0x200 16)] [(1, 5)]
/-- A recovery message of one share record, of OWNER 3, KIND 0 and X 1, in a round of threshold `t` whose four slots are DONE,
the other three secrets known. -/
def seedrecS (t len : Nat) (st : RState) : State :=
  let s := unitAt { rnd with st := st, cfg := { cfg5 with threshold := t, slots := 4 }, dedup := (List.range 4).map (fun u => (u, 2))
                             um := { secrets := (List.range 3).map (fun u => (u, 0, 1)) }
                             live := [{ msg0 with kind := .recovery, len := len }] } seedrecW [(2, kMsg 0x120 len)]
  { s with tiles := writeNat s.tiles (0x120 * tileSize + 64) 64 (1 + 3 * 2 ^ 24 + 77 * 2 ^ 64) }
def prghS (w : Nat) : State :=
  ((prog demo w (fun x => withB (withQ x [(1, kCt 0x100)]) [(0x100, 64, recD)])).updFn 1
    (fun x => { x with noiseSeed := some 17 })).wr Reg.rngState rngSeeded
def lutrS : State :=
  let key (k : Nat) : EvkTag := { keyset := 0, ps := 0, kind := k, level := 2, galK := 0, tile := 0, ntiles := 0, digest := 0 }
  (withRound (prog demo lutrW (fun x => withB (withQ (withS x [(1, 1), (4, 0x00020100)]) [(1, kCt 0x100), (2, kCt 0x140), (3, kSpan 0x200 256)])
    [(0x100, 64, recD), (0x140, 64, recA)])) cacheRnd).updFn 1 (fun x =>
      { x with evks := [(0, key 2), (1, key 3), (2, key 4)], evkCache := cached 2 })

theorem witness_MasksAndTables :
    (let q := unmaskS { queue := [(3, 1), (4, 1)] } .unmask
     let e := unmaskS {} .unmask
     let o := unmaskS {} .open
     let one := unitAt { rnd with st := .unmask, cfg := { cfg5 with mode := 1 }, um := { sigma := some [7] } } expandW [(3, kSpan 0x200 16)]
       [(1, 5)]
     let base (s : State) := s.issues 0 expandW && wKey expandW == (3, 0, 0) && (s.spin 0).spanOk (s.ops 0 expandW).qb 16
       && (s.ops 0 expandW).f == 1 && (s.ops 0 expandW).sa == 5
     base q && (r5 q).st == .unmask && (r5 q).cfg.mode == 0 && (r5 q).um.queue == (3, 1) :: [(4, 1)]
       && (q.loadShareModulus 0).quiet (r5 q).acc && (q.loadShareModulus 0).allPresent (r5 q).acc
       && base one && (r5 one).cfg.mode == 1 && (r5 one).um.sigma == some [7] && ((one.loadShareModulus 1).partsLeft 0 []).length == 32
       && (one.loadShareModulus 1).quiet (r5 one).acc && (one.loadShareModulus 1).allPresent (r5 one).acc
       && base e && (r5 e).st == .unmask && (r5 e).um.queue == []
       && base o && (r5 o).st != .unmask && (r5 o).st != .abandoned) = true := by decide +kernel

/-- What SEEDREC of the record leaves of the round. -/
def shared (t : Nat) : List ShareEnd × State :=
  let s := (seedrecS t 64 .unmask).loadShareModulus 0
  let p := s.takeShares (r5 s) (s.shareRecords 0x120 64)
  (p.1, s.updRound 1 5 (fun y => { y with um := p.2.um, counts := y.counts.shares p.1, live := y.live.filter (fun k => k.lz != 0x120) }))

/-- A cohort of every slot needs its own seeds and no more, whatever the roster. -/
theorem needed_full (s : State) (x : Round) (h : ∀ d, d < x.cfg.slots → x.cohortSlots.contains d = true) :
    s.needed x = x.cohortSlots.map (fun u => (u, 0)) := by
  have hn : (s.rosterSlots x.cfg).filter (fun d => !x.cohortSlots.contains d
      && (s.neighbours x.cfg d).any (fun u => x.cohortSlots.contains u)) = [] := by
    rw [List.filter_eq_nil_iff]
    intro d hd
    have hl : d < x.cfg.slots := by
      simp only [State.rosterSlots, List.mem_filter, List.mem_range] at hd
      exact hd.1
    simp only [h d hl, Bool.not_true, Bool.false_and, Bool.false_eq_true, not_false_eq_true]
  simp only [State.needed, hn, List.map_nil, List.append_nil]

/-- SEEDREC of a share that reconstructs the last secret, and of one that leaves it one short. -/
theorem witness_MasksAndTables_seedrec :
    ([1, 2].all (fun t =>
      let s := seedrecS t 64 .unmask
      s.unitReady 0 seedrecW (3, 1, 0) s.eOf [(tQA seedrecW, [1])]
        && s.liveMsg 1 (s.ops 0 seedrecW).qa == some (r5 s, { msg0 with kind := .recovery, len := 64 })
        && (r5 s).cfg.mode != 1 && (shared t).1 == [.ok] && (r5 (shared t).2).st == .unmask)) = true ∧
    (shared 1).2.reconstructed (r5 (shared 1).2) = true ∧ (shared 2).2.reconstructed (r5 (shared 2).2) = false := by
  have h : ∀ t, t = 1 ∨ t = 2 → ∀ d, d < (r5 (shared t).2).cfg.slots → (r5 (shared t).2).cohortSlots.contains d = true := by
    rintro t (rfl | rfl) <;> decide +kernel
  refine ⟨by decide +kernel, ?_, ?_⟩
  · rw [State.reconstructed, needed_full _ _ (h 1 (.inl rfl))]
    decide +kernel
  · rw [State.reconstructed, needed_full _ _ (h 2 (.inr rfl))]
    decide +kernel

theorem witness_MasksAndTables_prgh :
    (let p := prghS prghW
     let pub := prghS (prghW - 4 * 2 ^ 46)
     let d := (p.spin 0).ct (p.ops 0 prghW).qd
     p.unitReady 0 prghW (3, 2, 0) p.eOf [(tQD prghW, [2])] && tMod prghW / 4 == 1 && (p.fn (p.ops 0 prghW).f).noiseSeed.isSome
       && p.rngServes && p.ctWf 1 ((p.spin 0).ctRec (p.ops 0 prghW).qd)
       && decide ((p.ops 0 prghW).sa < d.comps) && d.fits && p.quiet d.reserved
       && pub.unitReady 0 (prghW - 4 * 2 ^ 46) (3, 2, 0) pub.eOf [(tQD prghW, [2])] && tMod (prghW - 4 * 2 ^ 46) / 4 == 0) = true := by
  decide +kernel

theorem witness_MasksAndTables_lutr :
    (let s := lutrS
     let o := s.ops 0 lutrW
     let x := s.spin 0
     let sh := bits (tMod lutrW) 0 6
     let lv := bits (tMod lutrW) 6 6
     let d := x.ct o.qa
     let dsts := (List.range o.sb).map (fun i => readNat x.scratch (qAddr o.qd + 64 * i) 64)
     let outs := dsts.map (fun c => ({ d.fresh (d.pset.nuLutr lv) with
       level := lv, ntt := false, ext := false, three := false, autoK := 0 } : CtDesc).onto (CtDesc.ofNat c))
     s.unitReady 0 lutrW (6, 0, 0) s.eOf [(tQD lutrW, [2]), (tQA lutrW, [2]), (tQB lutrW, [3])] && decide (256 ≤ qLen o.qb)
       && o.sb == 1 && decide (qAddr o.qd + 64 * o.sb ≤ dataEnd) && decide (sh ≤ wOf d.wsel - 8) && bits o.sc 24 40 == 0
       && s.ctWf o.f (x.ctRec o.qa) && dsts.all (fun c => s.ctWf o.f c) && decide (lv < d.pset.lq)
       && outs.all (fun c => c.fits && c.ps == d.ps && c.inBudget) && dsts.all (fun c => (CtDesc.ofNat c).ps == d.ps)
       && !d.marked && s.evkCode o.f (bits o.sc 0 8) d 2 0 d.level == 0 && s.evkCode o.f (bits o.sc 8 8) d 3 0 d.level == 0
       && s.evkCode o.f (bits o.sc 16 8) d 4 0 lv == 0 && s.quiet (d.reserved ++ outs.flatMap (·.reserved))) = true := by
  decide +kernel


theorem witness_MasksAndTables_lutr_keys :
    bits (tMod lutrW) 6 6 = 2 ∧ bits (lutrS.ops 0 lutrW).sc 0 24 = 0x020100 ∧ (lutrS.evkUses 1 [(0, 2), (1, 2), (2, 2)]).1 = true := by
  refine ⟨by decide +kernel, by decide +kernel, ?_⟩
  simp only [State.evkUses]
  decide +kernel
/-! ## The release gate's instructions -/

def decodeW : Nat := fT 7 0 0 1 2 3 1 0 5 3
def noiseW : Nat := fT 7 1 0 0 0 0 1
def releaseW : Nat := fT 7 4 0 0 2 3 1 2 4
def applyW : Nat := fT 7 3 0 1 2 3 1
/-- Round 5 in GATED with accumulator tile 0x110 empty and one decoded tile 0x118. -/
def gatedR (step : Nat) : Round :=
  { rnd with
    st := .gated
    policy := { pol with ndest := 1, dests := [{ kind := 1, peer := 0 }] }
    gate := { step := step, since := 99999000, outs := [{ tile := 0x118, logical := 0, fmt := 0, bytes := 16, tag := {} }] } }
def decodeS : State := unitAt (gatedR 5) decodeW [(1, kTiles 0x118 1), (2, kTiles 0x110 1), (3, kSpan 0x200 16)] [(1, 5)]
def noiseS : State := unitAt (gatedR 4) noiseW [] [(1, 5)]
def releaseS : State :=
  (unitAt (gatedR 5) releaseW [(2, kTiles 0x118 1), (3, kSpan 0x200 16)] [(1, 5)]).updFn 1 (fun x =>
    { x with dests := [{ index := 0, addr := 0x10000, len := 2 ^ 30 }] })
def applyS : State :=
  (unitAt (gatedR 5) applyW [(1, kTiles 0x130 1), (2, kTiles 0x118 1), (3, kSpan 0x200 96)] [(1, 5)]).updSpin 0 (fun x =>
    withB x [(0x240, 3, 0x134)])

theorem witness_GateInstructions_decode :
    (let s := decodeS
     let o := s.ops 0 decodeW
     let off := unitAt { gatedR 4 with cfg := { cfg5 with round := 4 } } decodeW [(1, kTiles 0x118 1), (2, kTiles 0x110 1), (3, kSpan 0x200 16)] [(1, 5)]
     let regs := [(tQD decodeW, [0]), (tQA decodeW, [0]), (tQB decodeW, [3])]
     let torn := s.setTag 0x110 { count := 1, csum := 5 }
     s.unitReady 0 decodeW (7, 0, 0) (fun _ => cfg5.elems) regs && torn.unitReady 0 decodeW (7, 0, 0) (fun _ => cfg5.elems) regs
       && (torn.gated? o.f o.sa 5).any (fun x => (torn.decodeTiles x ((qTiles o.qa).zip (qTiles o.qd))).1.contains 0x0101)
       && torn.quiet (qTiles o.qa ++ qTiles o.qd) && torn.allPresent (qTiles o.qa ++ qTiles o.qd)
       && (s.gated? o.f o.sa 5).any (fun x => !x.cipherForm
         && !(s.decodeTiles x ((qTiles o.qa).zip (qTiles o.qd))).1.contains 0x0101)
       && decide ((qTiles o.qa).length ≤ (qTiles o.qd).length) && (qTiles o.qa).all (fun t => !(qTiles o.qd).contains t)
       && decide (16 * (qTiles o.qa).length ≤ qLen o.qb) && s.quiet (qTiles o.qa ++ qTiles o.qd) && s.allPresent (qTiles o.qa ++ qTiles o.qd)
       && off.unitReady 0 decodeW (7, 0, 0) off.eOf regs && (off.round? (off.ops 0 decodeW).f (off.ops 0 decodeW).sa).isNone) = true := by
  decide +kernel

theorem witness_GateInstructions_noise :
    (let torn := noiseS.setTag 0x110 { count := 1, csum := 5 }
     let early := unitAt (gatedR 3) noiseW [] [(1, 5)]
     [(noiseS, true), (torn, false)].all (fun (s, ok) =>
       let o := s.ops 0 noiseW
       s.issues 0 noiseW && wKey noiseW == (7, 1, 0) && (s.gated? o.f o.sa 4).any (fun x =>
         let ls := (s.partsLeft 0 x.gate.noiseRan).flatMap (partItems x.gateTiles.length s.lgrade)
         x.gate.step == 4 && x.policy.sigma == 0 && ls == [0] && s.quiet (ls.map (fun l => x.acc.getD l 0))
           && s.allPresent (ls.map (fun l => x.acc.getD l 0)) && (s.noiseTiles x [] ls).1 == ok))
       && early.issues 0 noiseW && (early.gated? (early.ops 0 noiseW).f (early.ops 0 noiseW).sa 4).isNone) = true := by decide +kernel

theorem witness_GateInstructions_release :
    (let lost := releaseS.updFn 1 (fun x => { x with dests := [{ index := 0, addr := 0x10000, len := 1 }] })
     let early := unitAt (gatedR 4) releaseW [(2, kTiles 0x118 1), (3, kSpan 0x200 16)] [(1, 5)]
     [(releaseS, false), (lost, true)].all (fun (s, refused) =>
       let o := s.ops 0 releaseW
       s.unitReady 0 releaseW (7, 4, 0) s.eOf [(tQA releaseW, [0, 2]), (tQB releaseW, [3])] && qKind o.qa == 0
         && (s.gated? o.f o.sa 5).any (fun x => !x.cipherForm && s.releaseCode x o ((s.spin 0).ctRec o.qa) == 0
              && x.gate.dest.isNone && (s.resolveDest x o.sb == .refused) == refused)
         && decide (16 * (qTiles o.qa).length ≤ qLen o.qb) && s.allPresent (qTiles o.qa))
       && early.unitReady 0 releaseW (7, 4, 0) early.eOf [(tQA releaseW, [0, 2]), (tQB releaseW, [3])]
       && (early.gated? (early.ops 0 releaseW).f (early.ops 0 releaseW).sa 5).isNone) = true := by decide +kernel

/-- RELEASE of the one ciphertext of a round in ciphertext form. -/
def cipherS : State :=
  (prog (withRound demo { gatedR 5 with cfg := clip3.cfg, m3 := { acc := [ctV 0x110] } }) releaseW (fun x =>
    withB (withQ (withS x [(1, 5)]) [(2, kCt 0x140), (3, kSpan 0x200 16)]) [(0x140, 64, recA)])).updFn 1 (fun x =>
      { x with dests := [{ index := 0, addr := 0x10000, len := 2 ^ 30 }] })

theorem witness_GateInstructions_ciphertext :
    (let s := cipherS
     let o := s.ops 0 releaseW
     s.unitReady 0 releaseW (7, 4, 0) s.eOf [(tQA releaseW, [0, 2]), (tQB releaseW, [0, 1, 2, 3])] && qKind o.qa == 2
       && (s.gated? o.f o.sa 5).any (fun x => x.cipherForm && s.releaseCode x o ((s.spin 0).ctRec o.qa) == 0
            && s.resolveDest x o.sb != .refused && s.allPresent (x.cts.getD o.sc {}).tiles)) = true := by decide +kernel

theorem witness_GateInstructions_apply :
    (let s := applyS
     let o := s.ops 0 applyW
     let m := tMod applyW
     let a := applyOf m o.sa o.qa o.qd (readBytes (s.spin 0).scratch (qAddr o.qb) 96) none
     let ps := s.partsOf 0
     let used := (ps.flatMap (partItems a.agg.length s.lgrade)).flatMap (fun t => a.agg.getD t 0 :: a.touched t)
     s.unitReady 0 applyW (7, 3, 0) (fun _ => (applyFmt (bit m 0)).perTile) [(tQD applyW, [0]), (tQB applyW, [3])]
       && (s.gated? o.f o.sa 5).any (fun r => r.gate.applySums == [] && (r.applyRows (qTiles o.qa)).isNone)
       && applyWf m (readBytes (s.spin 0).scratch (qAddr o.qb) 96)
       && (s.regFault (s.spin 0) o.f a.afmt.perTile (tQA applyW) [0]).isNone && decide (96 ≤ qLen o.qb)
       && (a.param ++ a.m ++ a.v).all (fun t => s.tileOk o.f t) && decide (a.total ≤ a.room)
       && s.quiet used && s.allPresent used) = true := by decide +kernel

/-- What stands in the unit queue after each of the instructions, and the entry of an EXPAND. -/
theorem witness_GateInstructions_entries :
    (let rel := after (.release 0) releaseS
     let waits := rel.updRound 1 5 (fun x => { x with gate := { x.gate with tilesSent := 1 } })
     let app := after (.apply 0) applyS
     let noi := after (.noise 0) noiseS
     let exp := (unmaskS {} .unmask).updSpin 0 (fun x => { x with uq := [{ entry5 with op := .expand, code := 0, round := some 5 }] })
     let at_ (s : State) (p : UnitEntry → Round → Bool) : Bool := s.ready && !(s.spin 0).recovering && s.owner? 0 == some 1
       && ((s.spin 0).uq)[0]?.any (fun e => e.parts == 0 && e.drains == [] && !s.awaitsWords 0 e.id && (s.entryRound 1 e).any (p e))
     at_ rel (fun e x => e.op == .release && e.held && x.st == .gated && x.gate.stop.isNone && (rel.releaseReady x e).isSome)
       && at_ waits (fun e x => e.op == .release && e.held && x.st == .gated && x.gate.stop.isNone && (waits.releaseReady x e).isNone)
       && at_ app (fun e x => e.op == .apply && e.held && app.applyReady x e)
       && at_ noi (fun e x => e.op == .noise && x.st == .gated)
       && at_ exp (fun e x => e.op == .expand && x.st == .unmask && e.code == 0)) = true := by decide +kernel
/-! ## TAKE -/

def takeW (m : Nat) (qb : Nat := 3) : Nat := fT 2 0 m (if m % 4 = 0 then 1 else 0) 0 qb (if m % 4 = 1 then 0 else 1) 0 5 3
def takeS (m : Nat) (x : Round) (r : Word := 5) : State :=
  unitAt x (takeW m (if 2 ≤ m % 4 then 0 else 3)) [(3, kSpan 0x200 192)] [(1, r)]

theorem witness_TakeInstructions :
    (let ok (s : State) (m : Nat) := let w := takeW m (if 2 ≤ m % 4 then 0 else 3)
        s.issues 0 w && wKey w == (2, 0, m % 4) && ((2 ≤ m % 4) || (s.spin 0).spanOk (s.ops 0 w).qb 136) && (s.ops 0 w).f == 1
     let d := { rnd with intake := [{ msg0 with lz := 0x124, time := 9, slot := 2 }, { msg0 with time := 7 }] }
     let gone := { rnd with st := .released }
     let sv := (takeS 0 rnd).wr Reg.attSvc 1 1
     !rnd.gate.committed && rnd.gate.stop.isNone && rnd.gate.step != 7 && ok (takeS 0 rnd 6) 0 && ((takeS 0 rnd 6).round? 1 6).isNone
       && ok (takeS 0 d) 0 && ((takeS 0 d).ops 0 (takeW 0)).sa == 5 && d.live_ && (d.next?.any (fun m => m.time == 7))
       && (let wk := (takeS 0 d).updSpin 0 (fun x => { x with wait := .take }); ok wk 0 && (wk.spin 0).wait == .take)
       && ok sv 0 && rnd.live_ && rnd.next?.isNone && sv.rd Reg.attSvc 1 == 1 && (takeS 0 rnd).rd Reg.attSvc 1 != 1
       && ok (takeS 0 gone) 0 && !gone.live_
       && ok (takeS 1 rnd) 1 && ok (takeS 2 rnd) 2 && ok (takeS 2 rnd 6) 2 && ok (takeS 3 rnd) 3 && ok (takeS 3 rnd 6) 3) = true := by
  decide +kernel

theorem test_take :
    (let d := { rnd with intake := [{ msg0 with lz := 0x124, time := 9, slot := 2 }, { msg0 with time := 7 }] }
     let t := after (.takeD 0) (takeS 0 d)
     let u := after (.unitInstructionRetire 0 0) t
     (r5 t).live.map (·.time) == [7] && (r5 t).intake.map (·.time) == [9] && (u.spin 0).qreg 1 == kMsg 0x120 8 && (u.spin 0).sreg 5 == 0
       && ((after (.takeD 0) (takeS 0 rnd)).spin 0).wait == .take
       && (((after (.takeS 0) (takeS 2 rnd 6)).spin 0).uq.map (·.code)) == [0x0110]
       && (r5 (after (.takeA 0) (takeS 3 rnd))).st == .abandoned) = true := by decide +kernel

/-! ## Messages -/

/-- A message header (R83) for round `r` of TENANT_TAG 0x77, encoding 16, and the message with `len` bytes of payload. -/
def hdrN (mode cls r slot base len : Nat) : Nat :=
  0x48544C43 + 2 ^ 32 + mode * 2 ^ 40 + cls * 2 ^ 42 + 16 * 2 ^ 48 + 0x77 * 2 ^ 64 + r * 2 ^ 96 + slot * 2 ^ 136 + base * 2 ^ 160
    + len * 2 ^ 192
def msgOf (cls r slot base len : Nat) : Bytes := toLe 64 (hdrN 0 cls r slot base len) ++ List.replicate len 1

theorem witness_Messages :
    (let s := withRound demo rnd
     let base (s : State) (msg : Bytes) := s.ready && (s.fn 1).resetAt.isNone && s.lzFree 1 0x120 msg.length
     let here (s : State) (msg : Bytes) := hdrOk msg && hTag (hdrOf msg) == s.tenantTag 1 && (s.round? 1 (hRound (hdrOf msg))).any Round.live_
     let ok := msgOf 0 5 7 0x110 8
     let lone := msgOf 0 6 0 0x110 8
     let bad := (msgOf 0 6 0 0x110 8).set 4 2
     let past := withRound demo { rnd with st := .closed }
     let shape := msgOf 0 5 8 0x110 8
     let rec_ := msgOf 1 5 7 0 64
     base s lone && hdrOk lone && hClass (hdrOf lone) == 0 && (s.round? 1 (hRound (hdrOf lone))).isNone
       && base s bad && !hdrOk bad && hClass (hdrOf bad) != 1 && (s.round? 1 (hRound (hdrOf bad))).isNone
       && base past ok && here past ok && !(r5 past).inTime (hdrOf ok) past.time
       && base s shape && here s shape && (r5 s).inTime (hdrOf shape) s.time && !(r5 s).cfg.formatOk (hdrOf shape)
       && base s ok && here s ok && hClass (hdrOf ok) == 0 && (r5 s).inTime (hdrOf ok) s.time && (r5 s).cfg.formatOk (hdrOf ok)
       && (r5 s).slotSt 7 == 0 && decide ((r5 s).entries < intakeMax) && (r5 s).ply.awaiting == []
       && base s rec_ && here s rec_ && hClass (hdrOf rec_) == 1 && !s.mirroredHere (r5 s) && (r5 s).inTime (hdrOf rec_) s.time
       && (r5 s).cfg.formatOk (hdrOf rec_)
       && [{ rnd with st := .closed, deadline := 100000000 }, { rnd with st := .closed, deadline := 100000000, guardAt := 100000000 }].all
            (fun x =>
              let s := withRound demo x
              base s ok && here s ok && x.inTime (hdrOf ok) s.time && x.cfg.formatOk (hdrOf ok) && x.slotSt 7 == 0
                && decide (x.entries < intakeMax) && x.ply.awaiting == [] && x.closedNow s.time
                && x.inOpen { msg0 with slot := 7, time := s.time } == (x.guardAt == 100000000))
       && !(r5 s).closedNow s.time && [{ rnd with dedup := [(0, 2)] }, { rnd with dedup := [(0, 1)] }].all (fun x =>
            (x.slotSt msg0.slot == 2 || (x.slotSt msg0.slot == 1 && decide (x.dupHold.length < 4096)))
              && (demo.round? 1 5).isNone && ((withRound demo x).round? 1 5).isSome)) = true := by decide +kernel

/-- A contribution to the last slot is taken, its bytes lie in the landing zone; a second one is held; one to a DONE slot, one past
the slots and a late one are counted. -/
theorem test_contribution :
    (let go (x : Round) (m : Bytes) := after (.contribution 1 none 0x120 m) (withRound demo x)
     let a := go rnd (msgOf 0 5 7 0x110 8)
     (r5 a).intake.map (fun m => (m.slot, m.lz, m.len)) == [(7, 0x120, 8)] && (r5 a).counts.accepted == 1 && (r5 a).slotSt 7 == 1
       && readNat a.tiles (0x120 * tileSize) 4 == 0x48544C43 && a.elem 0x120 8 8 == 0x0101010101010101
       && (r5 (go { rnd with dedup := [(7, 1)] } (msgOf 0 5 7 0x110 8))).dupHold.length == 1
       && (r5 (go { rnd with dedup := [(7, 2)] } (msgOf 0 5 7 0x110 8))).counts.duplicate == 1
       && (r5 (go rnd (msgOf 0 5 8 0x110 8))).counts.mismatch == 1
       && (r5 (go { rnd with st := .closed } (msgOf 0 5 7 0x110 8))).counts.late == 1) = true := by decide +kernel

theorem test_recoveryMessage :
    ((r5 (after (.recoveryMessage 1 none 0x120 (msgOf 1 5 7 0 64)) (withRound demo rnd))).intake.map (fun m => m.kind == .recovery)) =
      [true] := by decide +kernel

/-! ## The committee (mode 3) -/

def comS : State := { withRound demo rnd3 with qps := [qp9], queries := [{ query1 with decided := none }] }
/-- The header of a return to query 11: magic, version 1, set 0, level 0. -/
def retHdr : Bytes := toLe 4 0x524E4C43 ++ [1, 0, 0, 0] ++ toLe 8 11 ++ List.replicate 48 0
/-- A return with every coefficient 0: two components of one limb of 8,192 coefficients. -/
def retMsg : Bytes := retHdr ++ List.replicate (2 * 8192 * 8) 0

theorem leNat_zeros (n : Nat) : leNat (List.replicate n (0 : Byte)) = 0 := by
  induction n with
  | zero => rfl
  | succ n ih => show (0 : Byte).toNat + 256 * leNat (List.replicate n (0 : Byte)) = 0; rw [ih]; rfl

theorem leAt_zeros (h : Bytes) (n k : Nat) : leAt (h ++ List.replicate n 0) (h.length + k) 8 = 0 := by
  rw [leAt, slice, List.drop_append, List.drop_eq_nil_of_le (by omega), List.nil_append, List.drop_replicate, List.take_replicate]
  exact leNat_zeros _

theorem test_returnOk : returnOk rnd3 retMsg = true := by
  have hl : retMsg.length = 64 + 2 * (0 + 1) * 8192 * 8 := by
    have h : retHdr.length = 64 := by decide
    simp only [retMsg, List.length_append, List.length_replicate, h]
  have hc : returnCt (paramSet 0) 0 retMsg = [[List.replicate 8192 0], [List.replicate 8192 0]] := by
    have hn : (paramSet 0).n = 8192 := rfl
    have e : ∀ a, (List.range 8192).map (fun i => leAt retMsg (64 + (a * 8192 + i) * 8) 8) = List.replicate 8192 0 := by
      intro a
      rw [List.eq_replicate_iff]
      refine ⟨by simp, fun b hb => ?_⟩
      obtain ⟨i, -, rfl⟩ := List.mem_map.mp hb
      exact leAt_zeros retHdr (2 * 8192 * 8) _
    simp only [returnCt, hn]
    rw [show List.range 2 = [0, 1] from rfl, show List.range (0 + 1) = [0] from rfl]
    simp only [List.map_cons, List.map_nil]
    rw [e, e]
  have hp : 0 < (paramSet 0).prime 0 := by decide +kernel
  have h8 : leAt retMsg 0 4 = 0x524E4C43 ∧ leAt retMsg 4 1 = 1 ∧ leAt retMsg 5 1 = 0 ∧ leAt retMsg 6 1 = 0 ∧ leAt retMsg 7 1 = 0
      ∧ leAt retMsg 16 8 = 0 ∧ allZero (slice retMsg 24 40) = true := by
    have h : ∀ o n, o + n ≤ 64 → slice retMsg o n = slice retHdr o n := by
      intro o n hon
      have hh : retHdr.length = 64 := by decide
      simp only [slice, retMsg, List.drop_append]
      rw [List.take_append_of_le_length (by simp [hh]; omega)]
    simp only [leAt]
    rw [h 0 4, h 4 1, h 5 1, h 6 1, h 7 1, h 16 8, h 24 40] <;> decide
  have hz : ((List.replicate 8192 (0 : Nat)).all (fun v => decide (v < (paramSet 0).prime 0))) = true := by
    rw [List.all_eq_true]
    intro v hv
    rw [List.eq_of_mem_replicate hv]
    exact decide_eq_true hp
  obtain ⟨a, b, c, d, e, f, g⟩ := h8
  show (leAt retMsg 0 4 == 0x524E4C43 && leAt retMsg 4 1 == 1 && leAt retMsg 5 1 == 0 && leAt retMsg 6 1 == 0 && leAt retMsg 7 1 == 0
    && leAt retMsg 16 8 == 0 && allZero (slice retMsg 24 40) && retMsg.length == 64 + 2 * (0 + 1) * 8192 * 8
    && ((returnCt (paramSet 0) 0 retMsg).all (fun comp =>
      (comp.mapIdx (fun j lm => lm.all (fun v => decide (v < (paramSet 0).prime j)))).all id))) = true
  rw [a, b, c, d, e, f, g, hl, hc]
  simp only [List.all_cons, List.all_nil, List.mapIdx_cons, List.mapIdx_nil, hz, id]
  rfl

/-- A record of member 2 for an aggregate of no ciphertexts. -/
def pdMsg (x digest : Nat) : Bytes := toLe 4 0x44504C43 ++ toLe 2 x ++ toLe 2 0 ++ toLe 32 digest ++ List.replicate 24 0
def jointR : Round := { rnd3 with st := .gated, cfg := { rnd3.cfg with m3 := some { m3cfg with nlPath := 0 } }, policy := { pol with form := 1 }, gate := { since := 5 } }
def jointS : State := { withRound demo jointR with qps := [qp9] }

theorem witness_CommitteeMessages :
    (let s := comS
     let q := s.queries.find? (fun q => q.func == 1 && q.onWire && q.decided.isNone && q.qid == 11)
     let j := jointS
     s.ready && (s.qp? 9).any (fun q => q.func == 1)
       && (s.queries.find? (fun q => q.func == 1 && q.onWire && q.decided.isNone && q.qid == 12)).isNone
       && leAt (toLe 8 0 ++ toLe 8 12) 8 8 == 12
       && m3cfg.committeeQp == 9 && q.any (fun q => (s.round? 1 q.round) == some rnd3) && leAt (retHdr) 8 8 == 11 && !returnOk rnd3 (toLe 8 0 ++ toLe 8 11)
       && s.postAll.ready && (s.postAll.queries.find? (fun q => q.func == 1 && q.handle == 3 && q.decided.isNone)).any (fun q => q.onWire
            && s.postAll.round? 1 q.round == some rnd3
            && decide (q.sentAt + (rnd3.cfg.m3.map (·.nlTimeout)).getD 0 ≤ s.postAll.time))
       && [pdMsg 0 0, pdMsg 2 1, pdMsg 2 0].all (fun m => (j.jointRound 1 9 m) == some jointR) && !j.mirroredHere jointR
       && jointR.gate.kept.isNone && jointR.pdBad (pdMsg 0 0) && !jointR.pdBad (pdMsg 2 1) && leAt (pdMsg 2 1) 8 32 != jointR.gate.ctDigest
       && !jointR.pdBad (pdMsg 2 0) && leAt (pdMsg 2 0) 8 32 == jointR.gate.ctDigest && jointR.gate.partials.all (fun p => p.x != 2)
       && j.postAll.ready && (j.postAll.round? 1 5).any (fun x => x.st == .gated && x.joint && x.gate.kept.isNone
            && decide (x.gate.since + x.cfg.unmaskTimeout ≤ j.postAll.time))) = true := by decide +kernel

theorem test_committee :
    ((after (.nlTimeout 1 3) comS).queries.all (fun q => q.decided == some .excluded)
      && (r5 (after (.partialDecryptTimeout 1 5) jointS)).reason == 0x0903
      && (r5 (after (.partialDecryption 1 9 (pdMsg 2 1)) jointS)).counts.sharesDenied == 1) = true := by decide +kernel

/-! ## A round's life -/

/-- Round 5 in state `st` with deadline `d`. -/
def roundAt (st : RState) (d : Nat) (g : Round → Round := id) : State := withRound demo (g { rnd with st := st, deadline := d })
def openingS : State := roundAt .opening 100000000 (fun x => { x with zeroed := true, drawn := true })
def closedS (mode : Nat) : State := roundAt .closed 99999000 (fun x => { x with cfg := { x.cfg with mode := mode } })
def unmaskT : State :=
  roundAt .unmask 0 (fun x => { x with cfg := { x.cfg with mode := 1, threshold := 2, committee := 3 }, um := { since := 99999000 } })
/-- A released mode 1 round of a series whose next round may be opened. -/
def seriesS : State :=
  ((roundAt .released 99000000 (fun x => { x with
    tLast := 99500000
    cfg := { x.cfg with mode := 1, threshold := 2, committee := 3, period := 900000, window := 800000, floor := 700000, unmaskTimeout := 1350000
                        ctlBase := 0x140, ctlCount := 35 } })).updFn 1 (fun x => { x with policy := some pol })).wr Reg.fnFkeyValid 1 1

theorem witness_RoundLife_states :
    (let c := closedS 1
     let x := r5 c
     let go (s : State) (p : Round → Bool) := s.postAll.ready && (s.postAll.round? 1 5).any p && s.postAll.time == 100000000
       && s.ready && (s.round? 1 5).any p
     let raw := roundAt .opening 100000000 (fun x => { x with drawn := true })
     let wiped := (raw.newEpoch 0x110).updRound 1 5 (fun x => { x with zeroed := true })
     let left (s : State) : Bool := ((s.settleIfFull 1 5).stairCheck 1 5 |>.round? 1 5).any (fun y => y.mayLeave && y.top)
     go raw (fun x => !x.zeroed && raw.quiet x.acc && x.acc == [0x110]) && go wiped (fun y => y.st == .opening && y.drawn
          && decide (wiped.time ≤ y.deadline)) && left (closedS 1) && left (closedS 2)
       && go openingS (fun x => x.st == .opening && x.zeroed && x.drawn && decide (openingS.time ≤ x.deadline))
       && go (roundAt .open 100000000) (fun x => x.st == .open && decide (x.deadline - x.cfg.guardBand ≤ 100000000 ∧ x.tLast < 100000000))
       && go (roundAt .guard 100000000) (fun x => x.st == .guard && decide (x.deadline ≤ 100000000) && x.cfg.nch == 0)
       && go (roundAt .opening 100000000) (fun x => x.st == .opening && decide (x.deadline ≤ 100000000) && !x.drawn && !demo.mirroredHere x)
       && go (roundAt .opening 99999999 (fun x => { x with drawn := true })) (fun x => x.st == .opening && decide (x.deadline < 100000000) && x.drawn)
       && go unmaskT (fun x => x.st == .unmask && decide (x.um.since + x.cfg.unmaskTimeout ≤ unmaskT.time) && !unmaskT.tallied x)
       && [0, 1, 2, 3].all (fun m => go (closedS m) (fun x => x.cfg.mode == m))
       && x.st == .closed && x.resolved && !x.cfg.isStair && x.cfg.nch == 0 && !x.stair.settled && !x.stair.passed && x.stair.combined == 0
       && x.stair.children == [] && !x.cfg.sparse && x.top) = true := by decide +kernel

theorem witness_RoundLife_series :
    ([(seriesS, true), (seriesS.updFn 1 (fun x => { x with policy := none }), false)].all (fun (s, ok) =>
       let x := r5 s
       let s1 := s.updRound 1 5 (fun x => { x with followed := true })
       s.ready && (s.round? 1 5).isSome && x.cfg.period != 0 && !x.followed && !x.live_ && decide (max x.nominalNext x.tLast ≤ s.time)
         && decide (5 + 1 < 2 ^ 40) && (s1.openCode 1 { x.cfg with round := 6 } x.basic x.ply.openDigest == 0) == ok)) = true := by
  decide +kernel

/-- A gated round with its last tile sent, to host buffer 0; the same with a stop; one whose destination stays away; a sparse one. -/
def trailerS (stop : Option Nat) : State :=
  (withRound demo { gatedR 8 with gate := { (gatedR 8).gate with dest := some 0, stop := stop } }).updFn 1 (fun x =>
    { x with dests := [{ index := 0, addr := 0x10000, len := 2 ^ 30 }] })
def awayS : State := withRound demo { gatedR 5 with gate := { (gatedR 5).gate with dest := some 0 } }
def sparseS : State :=
  roundAt .closed 99999000 (fun x => { x with cfg := { x.cfg with mode := 2, rowMode := 1, rows := some rows5 } })

theorem witness_RoundLife_ends :
    (let go (s : State) (p : Round → Bool) := s.ready && (s.round? 1 5).any p
     [none, some 0x0101].all (fun c => go (trailerS c) (fun x => x.st == .gated && x.gate.step == 8 && x.gate.stop == c
          && (trailerS c).destOf x != .waits && !((trailerS c).plied && x.ply.plied && (trailerS c).isB)))
       && ((trailerS none).fn 1).resetAt.isNone
       && go awayS (fun x => x.st == .gated && x.gate.dest.isSome
          && decide (x.gate.since + x.cfg.unmaskTimeout ≤ awayS.time) && awayS.destOf x == .waits
          && !(awayS.plied && x.ply.plied && awayS.isB))
       && go sparseS (fun x => x.cfg.sparse && x.st == .closed && x.resolved && !x.sparse.canonical
          && (!x.cfg.isStair || x.stair.settled))
       && ((withRound demo rnd).round? 1 5).any Round.live_
       && (((withRound demo rnd).abandon 1 5 0x090C).round? 1 5).isSome) = true := by decide +kernel

theorem test_round_life :
    ((r5 (after (.roundEnterOpen 1 5) openingS)).st == .open && (r5 (after (.roundGuardTimer 1 5) (roundAt .open 100000000))).st == .guard
      && (r5 (after (.roundDeadline 1 5) (roundAt .guard 100000000))).st == .closed
      && (r5 (after (.roundDeadline 1 5) (roundAt .opening 100000000))).reason == 0x0502
      && (r5 (after (.unmaskTimeout 1 5) unmaskT)).reason == 0x0903
      && (r5 (after (.candidatesResolved 1 5) (closedS 2))).reason == 0x0901
      && (after (.periodicRoundOpen 1 5) seriesS).rounds.map (fun x => (x.cfg.round, x.st == .opening)) == [(6, true)]
      && (r5 (after (.releaseTrailerDone 1 5) (trailerS none))).st == .released
      && (r5 (after (.releaseTrailerDone 1 5) (trailerS (some 0x0101)))).reason == 0x0101
      && (r5 (after (.releaseDestTimeout 1 5) awayS)).reason == 0x090A
      && (r5 (after (.canonicalPassDone 1 5) sparseS)).reason == 0x0901) = true := by decide +kernel

/-! ## Programs -/

/-- An image of one instruction word 7 and four data bytes, for one to two spindles. -/
def image : Bytes :=
  toLe 4 0x47514C43 ++ toLe 2 0x0100 ++ toLe 2 0 ++ toLe 8 0 ++ toLe 4 8 ++ toLe 4 4 ++ toLe 4 0 ++ toLe 4 0xFFFFFFFF ++ toLe 2 1 ++ toLe 2 2
    ++ toLe 4 0 ++ List.replicate 24 0 ++ toLe 8 7 ++ [1, 2, 3, 4]
/-- VF1 with spindle 0 selected and in state `st`. -/
def progS (st : SpState) (g : Spindle → Spindle := id) : State :=
  ((demo.updSpin 0 (fun x => g { x with st := st })).wr Reg.progSpindles 1 1).wr Reg.progLen 76 1

theorem witness_Programs :
    (let all (s : State) (l : List SpState) : Bool := (s.selected 1).all (fun j => s.owner? j == some 1 && l.contains (s.spin j).st)
     let busy := (progS .idle).wr Reg.progBusy 1 1
     let out := (progS .idle).wr Reg.attAttached 0 1
     -- a spindle whose physical spindle is being replaced
     let lost := { progS .stopped (fun x => { x with recovering := true }) with phys := [{}] }
     let stop := progS .running (fun x => { x with stopping := true })
     busy.funcUp 1 && busy.rdb Reg.progBusy 1 && out.funcUp 1 && !out.rdb Reg.progBusy 1 && !out.rdb Reg.attAttached 1
       && [.idle, .loaded, .running, .handler, .stopped, .trapped, .done].all (fun st => let s := progS st
            s.funcUp 1 && !s.rdb Reg.progBusy 1 && s.rdb Reg.attAttached 1 && (s.selected 1) == [0])
       && (progS .idle).loadCode 1 image == 0 && (progS .idle).loadCode 1 [] != 0 && (progS .running).loadCode 1 image != 0
       && all (progS .loaded) [.loaded] && !all (progS .idle) [.loaded] && all (progS .running) [.running, .handler]
       && !all (progS .idle) [.running, .handler] && all (progS .stopped) [.stopped, .trapped] && !all (progS .idle) [.stopped, .trapped]
       && all (progS .done) [.loaded, .trapped, .stopped, .done] && !all (progS .running) [.loaded, .trapped, .stopped, .done]
       && (stop.spin 0).stopping && (stop.spin 0).uq == [] && stop.ready && !(stop.spin 0).recovering && demo.substituting 0 == false
       && (lost.substituting 0) && !(lost.spin 0).trappedNow 9
       && decide (11 < ((parseImage image).text ++ (parseImage image).data).length)
       && decide (((parseImage image).text ++ (parseImage image).data).length ≤ 12)) = true := by decide +kernel

theorem test_load :
    (let x := (after (.load 1 (some image)) (progS .idle)).spin 0
     x.st == .loaded && readNat x.scratch 0 8 == 7 && readNat x.scratch 8 4 == 0x04030201 && x.textLen == 8 && x.handler.isNone
       && (after (.load 1 (some [])) (progS .idle)).rd Reg.progCode 1 == 0x0A0D
       && (after (.load 1 none) (progS .idle)).rd Reg.progCode 1 == 0x0A15) = true := by decide +kernel

theorem test_program_commands :
    ([(.start 1, .loaded, .running), (.resume 1, .trapped, .running), (.unload 1, .done, .idle), (.start 1, .stopped, .stopped)].all
        (fun (p : Instr × SpState × SpState) => ((after p.1 (progS p.2.1)).spin 0).st == p.2.2)
      && ((after (.spindleStopped 0) (after (.stop 1) (progS .running))).spin 0).st == .stopped
      && (after (.stop 1) (progS .idle)).rd Reg.progCode 1 == 0x0A0C) = true := by decide +kernel

/-! ## Command rings -/

/-- Ring 0 of VF1 with well-formed registers, in state `st`, its tail at `tail`. -/
def ringS (st tail : Nat) : State :=
  (((((((((demo.wr Reg.devRingMin 0x0100).wr Reg.devRingMax 0x0100).wr Reg.ringState st 1).wr Reg.ringSqBase 0x10000 1).wr Reg.ringCqBase 0x20000 1).wr Reg.ringSqLog2 6 1).wr Reg.ringCqLog2 6
    1).wr Reg.ringVmin 0x0100 1).wr Reg.ringVmax 0x0100 1).wr Reg.ringSqTail tail 1

theorem witness_Rings :
    (let n := ringS 0 0
     let get (s : State) (r : Fld) : Nat := s.rd r 1 0
     let shape (s : State) := get s Reg.ringState == 0 && get s Reg.ringSqBase % 4096 == 0 && get s Reg.ringCqBase % 4096 == 0
       && decide (6 ≤ get s Reg.ringSqLog2) && decide (get s Reg.ringSqLog2 ≤ 16) && decide (6 ≤ get s Reg.ringCqLog2)
       && decide (get s Reg.ringCqLog2 ≤ 16) && decide (get s Reg.ringVmin ≤ get s Reg.ringVmax)
     let ver (s : State) := negotiate (get s Reg.ringVmin) (get s Reg.ringVmax) (s.rd Reg.devRingMin) (s.rd Reg.devRingMax)
     let far := (n.wr Reg.ringVmin 0x0F00 1).wr Reg.ringVmax 0x0F00 1
     let bad := n.wr Reg.ringSqLog2 17 1
     let out := n.wr Reg.attAttached 0 1
     let t (v : Nat) := (ringS ringActive 0).wr Reg.ringSqTail v 1 0
     let full := (ringS ringActive 0).updRing 1 0 (fun x => { x with posted := 64 })
     let wait := (ringS ringActive 0).updFn 1 (fun x => { x with ckptJob := some (0, 0) })
     let sent := (ringS ringActive 0).updRing 1 0 (fun x => { x with posted := 63, sent := true })
     n.funcUp 1 && get n Reg.ringBusy != 1 && n.rdb Reg.attAttached 1 && shape n && (ver n).isSome && shape far && (ver far).isNone && !shape bad
       && get (ringS ringActive 0) Reg.ringState != 0 && !(ringS ringActive 0).ringWaits 1 0 && wait.ringWaits 1 0
       && get wait Reg.ringState != 0 && get wait Reg.ringBusy != 1 && wait.rdb Reg.attAttached 1 && out.funcUp 1 && get out Reg.ringBusy != 1 && !out.rdb Reg.attAttached 1
       && (t 64).rd Reg.ringState 1 0 == ringActive && decide ((t 64).sqUsed 1 0 ≤ 2 ^ (t 64).rd Reg.ringSqLog2 1 0)
       && decide (2 ^ (t 65).rd Reg.ringSqLog2 1 0 < (t 65).sqUsed 1 0)
       && jQuiet (2 ^ 9) && full.cqFull 1 0 && !sent.cqFull 1 0 && (sent.ring 1 0).sent && decide (1 < sent.funcs.length)
       && decide (0 < (sent.fn 1).rings.length)) = true := by decide +kernel

theorem test_rings :
    ((after (.ringCreate 1 0) (ringS 0 0)).rd Reg.ringState 1 == ringActive
      && (after (.ringCreate 1 0) ((ringS 0 0).wr Reg.ringSqLog2 5 1)).rd Reg.ringCode 1 == 0x0A13
      && (after (.ringDestroy 1 0) (ringS ringActive 0)).rd Reg.ringState 1 == 0
      && (after (.sqTail 1 0 65) (ringS ringActive 0)).rd Reg.ringState 1 == ringError
      && (after (.sqTail 1 0 64) (ringS ringActive 0)).rd Reg.ringState 1 == ringActive
      && (after (.cqHead 1 0 9) (ringS ringActive 0)).rd Reg.ringCqHead 1 == 9) = true := by decide +kernel

/-- 7 and 9 meet in 8; a range that is malformed, and ranges apart. -/
theorem test_negotiation :
    [negotiate 7 8 8 9, negotiate 1 5 1 9, negotiate 0 5 0 9, negotiate 1 2 3 4, negotiate 5 4 1 9] = [some 8, some 5, none, none, none] := by
  decide +kernel

/-- A descriptor of operation `op` (R383). -/
def dscN (op : Nat) (a0 a1 len : Nat := 0) (addr : Nat := 0x30000) : Nat :=
  op + 0x55 * 2 ^ 32 + a0 * 2 ^ 64 + a1 * 2 ^ 128 + addr * 2 ^ 192 + len * 2 ^ 256
def dsc (op : Nat) (a0 a1 len : Nat := 0) : Bytes := toLe 64 (dscN op a0 a1 len)
/-- An open record of a mode 2 round 6 (R387). -/
def openRec : Bytes :=
  toLe 128 (6 + 2 * 256 ^ 5 + 16 * 256 ^ 6 + 8 * 256 ^ 8 + 4 * 256 ^ 16 + 16 * 256 ^ 24 + 100000000 * 256 ^ 32 + 1000000 * 256 ^ 40
    + 1350000 * 256 ^ 72 + 0x170 * 256 ^ 104 + 4 * 256 ^ 108 + 0x140 * 256 ^ 120 + 35 * 256 ^ 124)
/-- One descriptor waits in ring 0 of VF1; round 5 is live; the spindle is IDLE and the function holds a policy. -/
def jobS : State :=
  let s := (withRound (ringS ringActive 1) rnd).updSpin 0 (fun x => { x with st := .idle })
  (s.updFn 1 (fun x => { x with policy := some pol })).wr Reg.fnFkeyValid 1 1
def nextS (s : State) : State :=
  { (s.wr Reg.ringSqHead (s.rd Reg.ringSqHead 1 0 + 1) 1 0).updFn 1 (fun x => { x with ringTurn := 0 }) with fwTurn := 1 }
/-- Round 5 in GATED, released in binary32, with a tile decoded. -/
def applyR : Round :=
  { gatedR 5 with policy := { pol with format := 2 }, gate := { (gatedR 5).gate with outs := [{ tile := 0x118, logical := 0, fmt := 2, bytes := 16, tag := {} }] } }
/-- PARAM 0x130, M 0x132. -/
def applyRec : Bytes := toLe 104 (0x132 * 256 ^ 64 + 0x130 * 256 ^ 96)

/-- A descriptor of each operation next in the ring. -/
theorem witness_RingDescriptors :
    (let s := jobS
     let s1 := nextS s
     let wf (d : Nat) := jobWf d && leNat (toLe 64 d) == d && (toLe 64 d).length == 64 && s.ringTakes 1 0 d
     let msg := msgOf 0 5 7 0x110 8
     let small := nextS { s with rounds := [{ rnd with cfg := { cfg5 with lzCount := 0 } }] }
     s.ringTakes 1 0 (dscN 13) && !jobOps.contains (jOp (leNat (dsc 13))) && s.ringTakes 1 0 (dscN 1 + 2 ^ 16) && jOp (dscN 1 + 2 ^ 16) == 1
       && !jobWf (dscN 1 + 2 ^ 16) && jRecLen (dscN 1 + 2 ^ 16) == 0
       && wf (dscN 0) && jRecLen (dscN 0) == 0 && jOp (dscN 0) == 0 && wf (dscN 3 6) && jOp (dscN 3 6) == 3 && (s1.round? 1 (jArg0 (dscN 3 6))).isNone
       && s1.abandonOwner 1 5 == 1 && s1.abandonOwner 1 6 == 1
       && wf (dscN 3 5) && (s1.round? 1 (jArg0 (dscN 3 5))).any Round.live_ && wf (dscN 2 5) && jOp (dscN 2 5) == 2 && wf (dscN 2 6)
       && wf (dscN 6 4) && decide (3 < jArg0 (dscN 6 4)) && wf (dscN 6 3) && decide (jArg0 (dscN 6 3) ≤ 3) && jOp (dscN 6 3) == 6
       && wf (dscN 4 0 0 72) && jOp (dscN 4 0 0 72) == 4 && msg.length == jRecLen (dscN 4 0 0 72) && (s1.submitTile 1 msg.length).isSome
       && (small.submitTile 1 msg.length).isNone && (small.round? 1 (hRound (hdrOf msg))).any Round.live_) = true := by decide +kernel

theorem witness_RingDescriptors_open :
    (let s1 := nextS jobS
     let none_ := nextS (jobS.updFn 1 (fun x => { x with policy := none }))
     let busy := nextS (jobS.updSpin 0 (fun x => { x with st := .running }))
     jobWf (dscN 1 0 0 128) && jobS.ringTakes 1 0 (dscN 1 0 0 128) && jOp (dscN 1 0 0 128) == 1 && openRec.length == jRecLen (dscN 1 0 0 128)
       && (parseOpen openRec).any (fun c => c.round == 6 && c.mode == 2) && (parseOpen (List.replicate 128 0)).isNone
       && s1.versionCode s1.firmwareImage == 0 && s1.canBind 1 && !busy.canBind 1
       && (s1.openRound 1 openRec true 1 none).1 == 0 && (none_.openRound 1 openRec true 1 none).1 == 0x0601) = true := by decide +kernel

theorem witness_RingDescriptors_apply :
    (let ap := nextS { jobS with rounds := [applyR] }
     let p := applyR.applyAll applyRec
     jobWf (dscN 5 5 0 104) && jobS.ringTakes 1 0 (dscN 5 5 0 104) && jOp (dscN 5 5 0 104) == 5 && jRecLen (dscN 5 5 0 104) == 104
       && applyRec.length == 104 && ap.round? 1 5 == some applyR && zerosAt applyRec [(67, 1), (71, 9), (88, 8), (99, 5)]
       && applyR.st == .gated && decide (5 ≤ applyR.gate.step)
       && p.agg != [] && decide (2 ≤ applyR.policy.format) && (p.param ++ p.m ++ p.v).all (fun t => ap.tileOk 1 t)) = true := by decide +kernel

/-- TAKE.o of the same record, with tile 0x110. -/
def takeOpenS : State :=
  ((prog demo (takeW 1) (fun x => withB (withQ x [(3, kSpan 0x200 136)]) [(0x200, 128, leNat openRec + 0x110 * 256 ^ 12)])).updFn 1 (fun x =>
    { x with policy := some pol })).wr Reg.fnFkeyValid 1 1

theorem witness_TakeInstructions_open :
    (let o := takeOpenS.ops 0 (takeW 1)
     let rec_ := readBytes (takeOpenS.spin 0).scratch (qAddr o.qb) (qLen o.qb - 8)
     takeOpenS.issues 0 (takeW 1) && wKey (takeW 1) == (2, 0, 1) && (takeOpenS.spin 0).spanOk o.qb 136 && o.f == 1
       && (parseOpen rec_).any (fun c => c.rangesOk && c.m3.isNone && takeOpenS.openCode 1 c false (sha256N rec_) == 0)) = true := by
  decide +kernel

theorem test_open_round :
    (let s := after (.openRound 1 0 (dsc 1 0 0 128) (some openRec)) jobS
     s.rounds.map (fun x => (x.cfg.round, x.basic)) == [(5, false), (6, true)] && s.rd Reg.ringSqHead 1 == 1 && (s.spin 0).firmware) = true := by
  decide +kernel

theorem test_descriptors :
    ((r5 (after (.abandonRound 1 0 (dsc 2 5)) jobS)).reason == 0x090C
      && leAt (readBytes (after (.nop 1 0 (dsc 0)) jobS).host (hostKey 1 0x20000) 16) 0 4 == 0x55) = true := by decide +kernel

theorem test_descriptor_codes :
    (bits (leNat (readBytes (after (.roundStatus 1 0 (dsc 3 6)) jobS).host (hostKey 1 0x20000) 16)) 32 16 == 0x0110
      && ((after (.setDest 1 0 (dsc 6 3 77)) jobS).fn 1).dests == [{ index := 3, addr := 0x30000, len := 77 }]
      && (r5 (after (.hostSubmit 1 0 (dsc 4 0 0 72) (some (msgOf 0 5 7 0x110 8))) jobS)).counts.accepted == 1) = true := by decide +kernel

/-! ## Queue pairs -/

/-- A queue-pair record (R388): MTU 4,096, messages to 1 MiB; `kind` 0 initiates, 1 listens. -/
def qpRec (kind fl : Nat := 0) : Bytes :=
  toLe 128 (kind + fl * 256 + 4096 * 256 ^ 4 + 2 ^ 20 * 256 ^ 8 + 1350 * 256 ^ 88 + 12500000 * 256 ^ 96)
def createD : Nat := dscN 7 0 0 128
def bundleS (b : Nat) : State := (((jobS.wr Reg.fnBundles b 1).wr Reg.nalamLc 1).updFn 1 (fun x => { x with idKey := some 5 }))
/-- QP 9 of VF1 in state `st`, with the QP_CTL descriptor `op` waiting. -/
def ctlS (st : QpState) (f : Nat := 1) : State := ({ jobS with qps := [{ qp9 with st := st, func := f }] }).wr Reg.fnPinQuota 4 1
def ctlD (act : Nat) (r : Nat := 0) : Nat := dscN 8 9 (act + r * 256)

theorem witness_QueuePairs :
    (let s := bundleS 1
     let s1 := nextS s
     let c1 := nextS (ctlS .rts)
     createD == leNat (toLe 64 createD) && s.ringTakes 1 0 createD && jobWf createD && jOp createD == 7 && jRecLen createD == 128
       && (qpRec).length == 128 && !qpRecordOk (qpRec 2) && qpRecordOk (qpRec 0) && qpRecordOk (qpRec 1)
       && !bit ((nextS (bundleS 0)).rd Reg.fnBundles 1) 0 && bit (s1.rd Reg.fnBundles 1) (leAt (qpRec) 2 1) && !s1.plyBundle 0
       && !(nextS ((jobS.wr Reg.fnBundles 1 1).wr Reg.nalamLc 1)).subUsable 1 .identity (fun k => k.sign) && s1.subUsable 1 .identity (fun k => k.sign) && !bit (leAt (qpRec) 1 1) 0
       && s1.bindCode 1 (leAt (qpRec) 104 5) (leAt (qpRec) 8 8) == 0 && s1.freeQpn (s1.qps.length + s1.evictions.length + 1) 0 == some 0
       && decide ((s1.qps.filter (fun q => q.cached)).length < cacheMax) && leAt (qpRec 0) 0 1 == 0 && leAt (qpRec 1) 0 1 == 1
       && [1, 2, 3, 4, 5].all (fun a => let d := ctlD a 5
            leNat (toLe 64 d) == d && jobWf d && jOp d == 8 && jRecLen d == 0 && jArg0 d == 9 && (ctlS .rts).ringTakes 1 0 d && jArg1 d % 256 == a)
       && ((ctlS .rts).qp? 9).any (fun q => q.func == 1 && q.st == .rts && !q.pinned) && ((({ ctlS .rts with qps := (ctlS .rts).qps.map (fun q => { q with pinned := true }) } : State)).qp? 9).any (fun q => q.pinned)
       && ((ctlS .rts 2).qp? 9).any (fun q => q.func != 1) && ((ctlS .init).qp? 9).any (fun q => q.st != .rts && q.st != .closed && q.st != .error)
       && ((ctlS .closed).qp? 9).any (fun q => q.st == .closed) && ((ctlS .error).qp? 9).any (fun q => q.st == .error)
       && !c1.pinRefused 1 && (nextS ((ctlS .rts).wr Reg.fnPinQuota 0 1)).pinRefused 1
       && bits (jArg1 (ctlD 5 6)) 8 40 == 6 && c1.bindCode 1 6 qp9.maxMsg != 0
       && c1.bindCode 1 5 65536 == 0) = true := by decide +kernel

theorem test_create_qp :
    ((after (.createQp 1 0 (toLe 64 createD) (some (qpRec 1))) (bundleS 1)).qps.map (fun q => (q.qpn, q.st == .listen)) == [(0, true)]
      && (after (.createQp 1 0 (toLe 64 createD) (some (qpRec 0))) (bundleS 1)).rng.reqs.map (·.words) == [18]) = true := by decide +kernel

theorem test_qp_ctl :
    ((after (.qpDestroy 1 0 (toLe 64 (ctlD 2))) (ctlS .closed)).qps == []
      && (after (.qpPin 1 0 (toLe 64 (ctlD 3))) (ctlS .rts)).qps.all (·.pinned)
      && (after (.qpBind 1 0 (toLe 64 (ctlD 5))) (ctlS .rts)).qps.all (fun q => q.round == 0)
      && (after (.qpClose 1 0 (toLe 64 (ctlD 1))) (ctlS .init)).qps.all (fun q => q.st == .init)) = true := by decide +kernel

/-! ## Packets -/

/-- A packet of opcode `op` for QP 9 with a body of `n` zero bytes. -/
def pkt (op : Nat) (n : Nat := 0) (ver : Nat := 0) : Packet :=
  { port := 0, fcsOk := true, netOk := true, dport := 49431, rsvdOk := true, ver := ver, opcode := op, flags := 0, dst := 9, psn := 0
    epoch := 0, msn := 0, path := 0, tstamp := 0, plen := 0, off := 0, arg := 0, body := List.replicate n 0, tag := [] }
/-- QP 9 on port 0 of bundle 0, MTU 4,096, in state `st`. -/
def qpN (st : QpState) : Qp := { qp9 with st := st, mtu := 4096, ports := 1, ver := 0x0100 }
/-- A device with the QP `q`, port 0 up and in bundle 0. -/
def netS (q : Qp) : State := ({ demo with qps := [q] }.wr Reg.qpcBundle 1 0 0).wr Reg.portUp 1 0
/-- A HELLO that offers versions 0x0100 to 0x0100, from QP 7. -/
def helloP : Packet := { pkt opHello with body := toLe 8 (0x0100 + 0x0100 * 2 ^ 16 + 7 * 2 ^ 32) ++ List.replicate (helloLen + 88) 0 }
def acceptP : Packet := { pkt opAccept with ver := 0x0100, body := toLe 8 (0x0100 + (2 ^ 20 - 1) * 2 ^ 32) ++ List.replicate (acceptLen + 88) 0 }
def refuseP : Packet := { pkt opRefuse with body := toLe 8 0x0404 ++ List.replicate 32 5 }
def shakeS (n : Nat) : State :=
  netS { qpN .handshake with ver := 0, nonceI := List.replicate 32 5, attempts := n, helloAt := 86500000, hello := [1] }
/-- The base point, as a public key: that of the scalar 1. -/
def pointG : Bytes := p384Point 1
/-- A HELLO of the identity key 1, signed with the per-message number 1: r is the abscissa of the base point. -/
def signedP : Packet :=
  let m : Packet := { helloP with body := helloP.body.take 1705 ++ pointG }
  let r := beNat (slice pointG 1 48)
  { m with body := m.body ++ toBe 48 r ++ toBe 48 ((beNat (sha384Bytes (packetBytes m)) + r) % p384N) }

theorem witness_Handshake :
    (let s := shakeS 3
     let l := netS (qpN .listen)
     let base (s : State) (p : Packet) := s.ready && p.fcsOk && packetWf p && p.dport == s.rd Reg.qpcKztUdpPort
       && ((s.bump Reg.portRxFrames p.port).qp? p.dst).any (fun q => q.cached)
     base l helloP && helloP.ver == 0 && (l.qp? 9).any (fun q => q.st == .listen && !q.accepting)
       && base s acceptP && (s.qp? 9).any (fun q => q.st == .handshake) && decide (s.rd Reg.devKztVerMin ≤ acceptP.ver)
       && decide (acceptP.ver ≤ s.rd Reg.devKztVerMax)
       && base s refuseP && refuseP.ver == 0
       && (s.qp? 9).any (fun q => slice refuseP.body 8 32 == q.nonceI && decide (q.helloAt + 13500000 ≤ s.time) && q.attempts == 3 && !s.shaking q)
       && ((shakeS 2).qp? 9).any (fun q => q.st == .handshake && decide (q.attempts < 3) && !(shakeS 2).shaking q)) = true := by decide +kernel

/-- A HELLO attempt that may leave at once. -/
theorem witness_Handshake_retry :
    (let s := shakeS 2
     let u : State := { s with shakes := s.shakes ++ [{ qpn := 9, kind := .helloAgain }] }
     (u.nextShake 0).any (fun k => k.1 == { qpn := 9, kind := .helloAgain }) && (s.qp? 9).any (fun q => q.bundle == 0)
       && decide (Sparse.get 0 s.shakeNext 0 ≤ s.time)) = true := by decide +kernel

/-- The HELLO of a QP in RTS, again. -/
theorem witness_Handshake_again :
    (let l := netS { qpN .rts with initiate := false, nonceI := List.replicate 32 0 }
     l.ready && signedP.fcsOk && packetWf signedP && signedP.dport == l.rd Reg.qpcKztUdpPort && signedP.opcode == opHello && signedP.ver == 0
       && ((l.bump Reg.portRxFrames 0).qp? 9).any (fun q => q.cached && q.st == .rts && !q.initiate && slice signedP.body 8 32 == q.nonceI
            && !((l.bump Reg.portRxFrames 0).hit 9).shaking q)) = true := by decide +kernel

theorem witness_Handshake_signature :
    (let bytes := packetBytes signedP
     ecdsaVerify (slice signedP.body 1705 97) (bytes.take (bytes.length - 96)) (bytes.drop (bytes.length - 96))) = true := by decide +kernel

/-- A REFUSE or 10 ms without an answer sends HELLO again; after the third attempt the QP ends in ERROR with the code. -/
theorem test_handshake :
    ((after (.refuse refuseP) (shakeS 2)).qps.map (fun q => (q.st == .handshake, q.attempts, q.lastCode)) == [(true, 3, 0x0404)]
      && (after (.refuse refuseP) (shakeS 3)).qps.map (fun q => (q.st == .handshake, q.lastCode)) == [(true, 0x0404)]
      && (after (.refuse refuseP) (shakeS 2)).out == [.control 9 opHello [1]]
      && (after (.handshakeRetry 9) (shakeS 3)).qps.map (fun q => (q.st == .error, q.lastCode)) == [(true, 0x0408)]) = true := by decide +kernel

/-- A body of each packet, with a one-byte SEND and WRITE. -/
def dataOps : List (Nat × (Packet → Instr) × Nat) :=
  [(opSend, .send, 1), (opWrite, .write, 1), (opAck, .ack, 56), (opNak, .nak, 12), (opClose, .close, 0)]
/-- A well-formed packet of QP 9 in RTS: a whole message of one byte, or a control packet of sequence 1. -/
def pktN (op n : Nat) : Packet :=
  { pkt op n 0x0100 with psn := if op < 0x20 then 0 else 1, plen := if op < 0x20 then n else 0, flags := if op < 0x20 then 3 else 0
                         arg := if op = opSend then 1 else 0 }
/-- With the tag of QP 9's key. -/
def sealedPkt (p : Packet) : Packet :=
  let h := kztHeader p.ver p.opcode p.flags p.dst p.psn p.epoch p.msn p.path p.tstamp p.plen
  let q := qpN .rts
  { p with tag := if isData p then gcmMac q.keyIn (dataIv (p.flags / 16) p.psn p.epoch) (h ++ kztExt (p.opcode == opWrite) p.off p.arg) p.body
                  else gcmMac q.keyIn (controlIv (p.psn + p.epoch * 2 ^ 24)) (h ++ p.body) [] }

theorem witness_Packets :
    (let s (q : Qp) := (netS q).bump Reg.portRxFrames 0
     let q := qpN .rts
     (netS q).ready && !{ pkt opSend with fcsOk := false : Packet }.fcsOk && !packetWf { pkt opSend with netOk := false : Packet }
       && { pkt opSend with dport := 1 : Packet }.dport != (netS q).rd Reg.qpcKztUdpPort
       && ((s q).qp? { pkt opSend with dst := 8 : Packet }.dst).isNone
       && dataOps.all (fun o => let p := pktN o.1 o.2.2
            packetWf p && p.fcsOk && p.dport == (netS q).rd Reg.qpcKztUdpPort && p.opcode == o.1 && p.ver == q.ver && p.dst == 9 && decide (p.plen ≤ q.mtu))
       && packetWf { pktN opSend 4097 with ver := 0 } && decide (q.mtu < (pktN opSend 4097).plen)
       && ((s { q with cached := false }).qp? 9).any (fun q => !q.cached && q.evictedAt != some (s q).time)
       && (((s q).hit 9).qp? 9).any (fun q => q.cached && q.ver != 0 && q.st == .rts)
       && (pkt opSend).ver != q.ver && (qpN .closed).st != .rts && (qpN .closed).st != .draining
       && isData (pktN opSend 1) && isData (pktN opWrite 1) && !isData (pktN opAck 56) && !isData (pktN opNak 12) && !isData (pktN opClose 0)
       && decide (1 ≤ { q.rx with cseq := 1 }.cseq) && decide (q.rx.cseq < 1)) = true := by decide +kernel

/-- The tag of each is right with its key. -/
theorem witness_Packets_tag : ∀ p : Packet, tagOk (sealedPkt p) { qpN .rts with lastUse := 100000000, rxAt := some 100000000 } = true := by
  intro p
  cases h : isData p <;> simp_all [tagOk, sealedPkt, isData, Qp.keyIn, qpN, qp9]

/-- A whole message of one packet, and the first of one of two; a NAK of a message that was sent. -/
theorem witness_Packets_data :
    (let q : Qp := { qpN .rts with rx := { credit := some 0 } }
     let s := (netS q).hit 9
     let one (p : Packet) := let m := rxNew p
       let m1 := m.add q.mtu p 0 [0]
       !q.overCredit p.msn && !q.rx.got.contains 0 && q.packetFits m p 0 && !m.failed && decide (s.reasmUsed < reasmMax) && decide (s.trackersUsed < trackerMax)
         && p.plen != 0 && decide (q.rx.cum ≤ seqOf p.epoch p.psn) && decide (seqOf p.epoch p.psn ≤ q.rx.cum + 64) && (q.rx.msgs.find? (fun m => m.msn == p.msn)).isNone && m1.whole
     one (pktN opSend 1) && one (pktN opWrite 1) && (rxNew (pktN opWrite 1)).write && !(rxNew (pktN opSend 1)).write
       && (let p := { pktN opSend 4096 with flags := 1, arg := 5000 }
           let m := rxNew p
           q.packetFits m p 0 && !(m.add q.mtu p 0 (List.replicate 4096 0)).whole && !bit p.flags 1 && !q.overCredit 0)
       && [{ write := false, handle := 0, offset := 0, data := [1], owner := .nobody, sent := 1, seq0 := some 0 : TxMsg }].any (fun m =>
            m.seq0.any (fun a => decide (a ≤ 0) && decide (0 < a + m.packets q.mtu)) && !m.naked)) = true := by decide +kernel

theorem witness_receive_window :
    (let q := qpN .rts
     let q5 : Qp := { q with rx := { cum := 5, got := [7] } }
     decide (q.rx.cum + 4095 < seqOf 0 4096) && !decide (q.rx.cum + 4095 < seqOf 0 4095)
       && decide (q.rx.cum + 64 < seqOf 0 65) && !q.rx.tracker && decide (trackerMax ≤ { netS q with
            qps := List.replicate 4096 { q with tx := { q.tx with tracker := true } } }.trackersUsed)
       && decide (seqOf 0 4 < q5.rx.cum) && (q5.mark 5).rx.got == [7] && (q5.mark 5).rx.cum == 6 && (q5.mark 6).rx.got == [6, 7]) = true := by
  decide +kernel

/-- A sequence number beyond the window is dropped; one below it is acknowledged again. -/
theorem test_receive_window :
    (let q : Qp := { qpN .rts with rx := { cum := 5, credit := some 0 } }
     let late := (netS q).dataIn q { pkt opSend with psn := 5 + 4096 }
     let dup := (netS q).dataIn q { pkt opSend with psn := 4 }
     late.rd Reg.qpcDropWindow == 1 && late.out.length == 0 && dup.rd Reg.qpcDropDup == 1 && dup.out.length == 1) = true := by decide +kernel

/-- The counters of the checks of R239. -/
theorem test_packet_checks :
    ((after (.send { pkt opSend with fcsOk := false }) (netS (qpN .rts))).rd Reg.portFcsErrors 0 == 1
      && (after (.send { pkt opSend with dst := 8 }) (netS (qpN .rts))).rd Reg.qpcDropMalformed == 1
      && (after (.ack (pkt opAck 55 0x0100)) (netS (qpN .rts))).rd Reg.qpcDropMalformed == 1
      && (after (.write (pkt opWrite 0 0x0100)) (netS (qpN .closed))).rd Reg.qpcDropAuth == 1
      && (after (.nak (pkt opNak 12 0x0100)) (netS { qpN .rts with cached := false })).qps.all (fun q => q.parked.length == 1)) = true := by
  decide +kernel
/-! ## Sending -/

def txm (sent : Nat := 0) (seq0 : Option Nat := none) : TxMsg :=
  { write := false, handle := 0, offset := 0, data := [1, 2, 3, 4], owner := .nobody, sent := sent, seq0 := seq0 }
def txp (retry sends : Nat) (lost : Bool) : TxPkt :=
  { seq := 0, msn := 0, off := 0, len := 4, retry := retry, sends := sends, path := 0, sentAt := 0, blockAt := 0, lost := lost }
def freshQ : Qp := { qpN .rts with tx := { credit := some 0, queue := [txm], rate := 50000000000 } }
def lostQ (retry : Nat := 0) : Qp := { qpN .rts with tx := { seq := 1, msn := 1, queue := [txm 4 (some 0)], unacked := [txp retry 1 true], rate := 50000000000 } }
def blockedQ (n : Nat := 0) : Qp := { qpN .rts with tx := { queue := [txm], blockedSince := some 0, probes := n, rate := 50000000000 } }

theorem witness_PacketsSent :
    (let s := netS freshQ
     let idle := netS (qpN .draining)
     let l := netS (lostQ 0)
     let b := netS (blockedQ 15)
     s.ready && (s.qp? 9).any (fun q => q.st == .rts && q.cached && s.released? q && s.servedFirst q && (q.lostPkt s.time).isNone && q.nextMsg.isSome && q.ctl == [] && !s.shakeDue q && (s.hop q).isSome
            && decide (q.tx.seq / 2 ^ 24 ≤ 0xFFFFFFFE) && decide (q.tx.probes < 16))
       && (idle.qp? 9).any (fun q => q.st == .draining && q.cached && q.ctl == [] && !idle.shakeDue q && (idle.txNext q).isNone)
       && (l.qp? 9).any (fun q => l.released? q && l.servedFirst q && q.ctl == [] && !l.shakeDue q && (q.lostPkt l.time).any (fun k =>
            (l.hop (q.suspect l.time k)).isSome && q.tx.queue.any (fun m => m.seq0.isSome && m.msn == k.msn) && decide (k.retry < 15)))
       && ((netS { qpN .rts with cached := false }).qp? 9).any (fun q => !q.cached) && decide (s.fetches < fetchMax)
       && ((netS (lostQ 15)).hop ((lostQ 15).suspect (netS (lostQ 15)).time (txp 15 1 true))).isSome && ((lostQ 15).tx.queue.find? (fun m => m.seq0.isSome && m.msn == (txp 15 1 true).msn)).isSome
       && (b.qp? 9).any (fun q => q.cached && q.tx.blockedSince.any (fun t => decide (t + b.rd Reg.qpcProbeT ≤ b.time))
            && q.nextMsg.any (fun m => !q.creditFor (q.msnOf m)) && decide (q.tx.probes < 16) && (b.hop q).isSome && b.paced q (b.wireBytes q 0) && b.servedFirst q)
       && (let c : State := { shakeS 2 with shakes := [{ qpn := 9, kind := .helloAgain }] }
           c.ready && (c.qp? 9).any (fun q => c.shakeDue q))
       && (let c := netS { qpN .rts with ctl := [.close] }
           (c.qp? 9).any (fun q => q.ctl != [] && q.cached && !c.shakeDue q))) = true := by decide +kernel

theorem test_sent :
    ((after (.kztPacketTransmit 9) (netS freshQ)).qps.map (fun q => (q.tx.seq, q.tx.msn, q.tx.unacked.map (·.retry))) == [(1, 1, [0])]
      && (after (.kztPacketTransmit 9) (netS (lostQ 0))).qps.map (fun q => (q.tx.seq, q.tx.unacked.map (·.retry))) == [(1, [1])]
      && (after (.kztPacketTransmit 9) (netS (lostQ 15))).qps.map (fun q => (q.st == .error, q.lastCode)) == [(true, 0x0409)]
      && (after (.kztPacketTransmit 9) (netS { blockedQ with tx := { queue := [txm] } })).qps.map (fun q => q.tx.blockedSince) == [some 100000000]
      && (after (.creditProbe 9) (netS (blockedQ 3))).qps.map (fun q => (q.tx.probes, q.tx.seq)) == [(4, 0)]
      && (after (.creditProbe 9) (netS (blockedQ 16))).qps.map (fun q => (q.st == .error, q.lastCode)) == [(true, 0x0409)]) = true := by
  decide +kernel

/-! ## Timers of a queue pair -/

def rtoS (sends : Nat) : State := netS { qpN .rts with tx := { seq := 1, queue := [txm 4 (some 0)], unacked := [txp 0 sends false] } }
def drainingS : State := netS { qpN .draining with drainAt := 86500000, tx := { queue := [txm 4 (some 0)], unacked := [txp 0 1 false] } }
def fetchS (park : List Packet := []) : State := netS { qpN .rts with cached := false, fetchAt := some 0, parked := park }
def ackS : State := netS { qpN .rts with rx := { firstUnacked := some 99997300 } }

theorem witness_QueuePairTimers :
    (let up := netS (qpN .rts)
     let down := up.wr Reg.portUp 0 0
     [12, 11].all (fun n => let s := rtoS n
        s.ready && (s.qp? 9).any (fun q => q.tx.unacked.any (fun k => !k.lost && decide (k.sentAt + s.rto q ≤ s.time)
          && (decide (s.rd Reg.qpcRetryLimit ≤ k.sends) == (n == 12)))))
       && (ackS.qp? 9).any (fun q => q.st == .rts && !q.ackWaits && q.rx.firstUnacked.any (fun t => decide (t + 2700 ≤ ackS.time)))
       && (drainingS.qp? 9).any (fun q => q.st == .draining && decide (q.drainAt + 13500000 ≤ drainingS.time))
       && (fetchS.qp? 9).any (fun q => q.fetchAt.isSome && q.parked == [] && q.fetchAt.any (fun t => decide (t + fetchS.rd Reg.qpcFetchTimeout < fetchS.time)))
       && fetchS.dmaOk 0 && decide ((fetchS.qps.filter (fun q => q.cached)).length < cacheMax)
       && Sparse.get 0 fetchS.evictions 9 == 0
       && up.portsRun && decide (0 < up.nports) && up.rdb Reg.portUp 0 && down.portsRun && !down.rdb Reg.portUp 0 && (down.linkUp 0).ready) = true := by
  decide +kernel

theorem test_timers :
    ((after (.rtoExpiry 9 0) (rtoS 12)).qps.map (fun q => (q.st == .error, q.lastCode)) == [(true, 0x0409)]
      && (after (.rtoExpiry 9 0) (rtoS 11)).qps.map (fun q => (q.tx.unacked.map (·.lost), q.tx.rate, q.tx.suspects)) == [([true], 125000000, [])]
      && ((lostQ 0).suspect 100000000 { txp 0 1 true with lateAt := some 5 }).tx.suspects == [(0, 101350000)]
      && (after (.pathSuspectExpiry 9 0) (netS { qpN .rts with tx := { suspects := [(0, 100000000), (1, 100000001)] } })).qps.map (fun q => q.tx.suspects)
           == [[(1, 100000001)]]
      && (after (.ackTimer 9) ackS).qps.map (fun q => q.rx.firstUnacked) == [none]
      && (after (.drainingTimeout 9) drainingS).qps.map (fun q => q.st == .closed) == [true]) = true := by decide +kernel

theorem test_contexts_and_ports :
    ((after (.contextFetchDone 9 false 0) fetchS).qps.map (fun q => (q.st == .error, q.lastCode)) == [(true, 0x0406)]
      && (after (.contextFetchDone 9 true 0) fetchS).qps.map (fun q => (q.cached, q.fetchAt)) == [(true, none)]
      && (after (.fetchTimeout 9) (fetchS [pkt opSend])).rd Reg.qpcDropCtxMiss == 1
      && (after (.portDown 0) (netS (qpN .rts))).rd Reg.portLinkDowns 0 == 1
      && !(after (.portDown 0) (netS (qpN .rts))).rdb Reg.portUp 0
      && (after (.portUp 0) ((netS (qpN .rts)).wr Reg.portUp 0 0)).rdb Reg.portUp 0) = true := by decide +kernel

/-! ## Windows and triggered work -/

/-- A LANDING window of one tile at 0x140, counter 7, any QP of a child; its kind, and its base. -/
def winN (kind : Nat := 0) (base : Nat := 0x140) (ctr : Nat := 7) : Nat :=
  kind + 0xFFFFF * 2 ^ 32 + base * 2 ^ 64 + 2 ^ 96 + ctr * 2 ^ 128 + 9 * 2 ^ 192
def xS (d : Nat) (a : Nat := 0) : State := ((((demo.wr Reg.fnWinQuota 1 1).wr Reg.fnTwrQuota 1 1).wr Reg.fnXdesc d 1).wr Reg.fnXarg a 1)
def win1 : Window := { index := 0, gen := 1, func := 1, tileKind := false, qpn := 0xFFFFF, base := 0x140, nt := 1, ctr := 7, addend := 9, round := 0 }
/-- A COUNTER request: counter 1 at 5 adds 3 to counter 2. -/
def twrN (op : Nat := 3) : Nat := op + 2 ^ 16 + 5 * 2 ^ 64 + 2 * 2 ^ 208 + 3 * 2 ^ 256
def twr1 (op : Nat := 3) : Twr :=
  { id := 0, func := 1, order := 0, op := op, roundDone := false, ctr := 1, qpn := 9, threshold := 5, tile := 0x138, nt := 1, stride := 1, doneCtr := 2
    handle := 0, arg := 3, round := 5, len := 4 }
/-- Request 0 on counter 1 at `v`, at the end of a cycle; the QP is a parent's of round 5. -/
def fireS (op v : Nat) : State :=
  ({ ({ withRound (netS (qpN .rts)) rnd with twrs := [twr1 op] } : State).ctrPut 1 1 v with twrOrder := 1 }).armTwrs
/-- A window or triggered-work descriptor in ring 0. -/
def twrD (op : Nat) : Nat := dscN op 0 0 (if op % 2 = 1 then 64 else 0)

theorem witness_WindowsAndTriggeredWork :
    (let b (s : State) := toLe 64 (s.rd Reg.fnXdesc 1)
     let s := xS (winN)
     let w := { xS 0 win1.handle with windows := [win1] }
     let t := xS (twrN)
     let c := { xS 0 0 with twrs := [twr1] }
     s.funcUp 1 && !((s.wr Reg.attAttached 0 1).rdb Reg.attAttached 1) && (s.wr Reg.attAttached 0 1).funcUp 1 && s.rdb Reg.attAttached 1
       && !s.windowBad 1 (b s) && s.freeWindow == some 0 && (xS (winN 2)).windowBad 1 (b (xS (winN 2)))
       && (xS (winN 0 0x140 8)).windowBad 1 (b (xS (winN 0 0x140 8)))
       && (w.windows.find? (fun x => x.func == 1 && x.handle == w.rd Reg.fnXarg 1)).isSome
       && (s.windows.find? (fun x => x.func == 1 && x.handle == s.rd Reg.fnXarg 1)).isNone
       && !t.twrBad 1 (b t) && ((List.range twrMax).find? (fun i => !t.twrs.any (fun w => w.id == i))) == some 0
       && (xS (twrN 4)).twrBad 1 (b (xS (twrN 4)))
       && c.twrs.any (fun x => x.id == c.rd Reg.fnXarg 1 && x.func == 1 && x.due.isNone)
       && !t.twrs.any (fun x => x.id == t.rd Reg.fnXarg 1 && x.func == 1 && x.due.isNone)
       && [(1, 5), (2, 5), (3, 5), (3, 4)].all (fun (p : Nat × Nat) => let f := fireS p.1 p.2
            f.ready && (f.twrs.find? (fun w => w.id == 0)).any (fun w => !w.fired && w.op == p.1 && (w.due == some 0) == (p.2 == 5)
              && (decide (w.threshold ≤ f.ctrGet w.func w.ctr) == (p.2 == 5))
              && (p.2 == 4 || f.twrsDue 0 == [w])
              && (let s1 := f.updTwr 0 (fun w => { w with fired := true, left := 1 })
                  !s1.twrBehind { w with fired := true, left := 1 } && s1.dmaOk 1))
              && [1, 2, 3, 4].length == (twr1 p.1).len)
       && (demo.ctrDev 1 (demo.rd Reg.fnCtrSel 1)).isSome && demo.ctrCyc == []
       && [9, 10, 11, 12].all (fun op => let d := twrD op
            jobWf d && jOp d == op && jRecLen d == (if op % 2 = 1 then 64 else 0) && jobS.ringTakes 1 0 d && leNat (toLe 64 d) == d)) = true := by
  decide +kernel

/-- A FORWARD of one tile whose round is not mirrored; its tile reads without an error. -/
theorem witness_forward :
    (let f := fireS 1 5
     let s1 := f.updTwr 0 (fun w => { w with fired := true, left := 1 })
     (s1.round? 1 5).any (fun x => !s1.mirroredHere x && !x.cfg.sparse)
       && (s1.twrs.find? (fun w => w.id == 0)).any (fun w => s1.fwdReady w w.tile && w.nt == 1)
       && (s1.drainTile 0x138).1) = true := by decide +kernel

theorem test_windows :
    (let o := after (.openWin 1 .reg) (xS (winN))
     o.windows == [win1] && o.rd Reg.fnXcode 1 == 0 && o.rd Reg.fnXresult 1 == 4096
      && (after (.openWin 1 .reg) (xS (winN 0 0x100 8))).rd Reg.fnXcode 1 == 0x040D
      && (after (.revokeWin 1 .reg) { xS 0 4096 with windows := [win1] }).windows == []
      && (after (.revokeWin 1 .reg) (xS 0 4096)).rd Reg.fnXcode 1 == 0x0402
      && (after (.ctrVal 1 77) (demo.wr Reg.fnCtrSel 3 1)).ctrGet 1 3 == 77) = true := by decide +kernel

theorem test_triggered_work :
    (let f := after (.twrFire 0 none) (fireS 3 5)
     f.ctrGet 1 2 == 3 && f.twrs == [] && (after (.twrFire 0 none) (fireS 3 4)).twrs.map (fun w => (w.id, w.due, w.fired)) == [(0, none, false)]
      && (after (.twrFire 0 (some [1, 2, 3, 4])) (fireS 2 5)).qps.map (fun q => q.tx.queue.map (·.data)) == [[[1, 2, 3, 4]]]
      && (after (.postTwr 1 .reg) (xS (twrN))).twrs.map (fun w => (w.id, w.op, w.threshold, w.doneCtr, w.arg)) == [(0, 3, 5, 2, 3)]
      && (after (.postTwr 1 .reg) (xS (twrN 4))).rd Reg.fnXcode 1 == 0x040E
      && (after (.cancelTwr 1 .reg) { xS 0 0 with twrs := [twr1] }).twrs == []) = true := by decide +kernel

/-! ## The staircase -/

def stair1 (parent : Nat := 0xFFFFF) (wait : Nat := 0) : StairCfg :=
  { height := 1, childPolicy := 0, nch := 2, parentQp := parent, slotLo := 0, slotHi := 8, childWait := wait }
/-- Round 5 is a staircase round with two children, QP 9 a child's QP. -/
def stairS (st : RState) (merged : List Nat := []) (settled : Bool := false) (passed : Bool := false) : State :=
  let x : Round := { rnd with st := st, deadline := 99000000, cfg := { cfg5 with stair := some (stair1 (if passed then 9 else 0xFFFFF)) }
                              stair := { merged := merged, settled := settled, passed := passed }, ply := { plied := passed } }
  (({ withRound demo x with qps := [qp9] }).updFn 1 (fun y => { y with joinList := [{ lid := 3, stair := true, ply := false, peer := 0 }] })).wr
    Reg.plyState (if passed then 2 else 0)
/-- The cohort message of child 3 for round 5: slots 0 and 4. -/
def cohMsg (round : Nat := 5) (count : Nat := 2) : Bytes :=
  toLe 64 (0x48434C43 + 2 ^ 32 + 3 * 2 ^ 64 + round * 2 ^ 128 + count * 2 ^ 192 + 8 * 2 ^ 256) ++ [0x11]

theorem witness_StaircaseParent :
    (let t (s : State) (m : Bytes) := s.ready && (s.qp? 9).any (fun q => q.func == 1) && (s.round? 1 (leAt m 16 5)).any (fun x =>
        (x.st == .open || x.st == .guard || x.st == .closed) && !x.stair.settled && x.cfg.nch != 0 && s.stairQp 1 9 && cohortMsgOk x m)
     let slots := slotsOf 8 ((cohMsg).drop 64)
     let p := stairS .closed [] true true
     t (stairS .open) (cohMsg) && t (stairS .guard) (cohMsg) && t (stairS .closed) (cohMsg) && !t (stairS .gated) (cohMsg)
       && !t (stairS .open [] true) (cohMsg) && !t (stairS .open) (cohMsg 5 3) && ((stairS .open).round? 1 (leAt (cohMsg 6) 16 5)).isNone
       && slots == [0, 4] && slots.any (fun k => [4].contains k) && !slots.any (fun k => [3].contains k)
       && ((stairS .closed).round? 1 5).any (fun x => x.st == .closed && x.cfg.isStair && !x.stair.settled
            && decide (x.deadline + (x.cfg.stair.map (·.childWait)).getD 0 ≤ (stairS .closed).time))
       && p.ready && p.plied && (p.round? 1 5).any (fun x => x.st == .closed && x.ply.plied && !x.top && x.stair.passed && x.ply.digest == none
            && !x.cfg.sparse)
       && (stairS .closed).posts == [] && (stairS .closed).ready) = true := by decide +kernel

theorem witness_partial_digest :
    (let p := stairS .closed [] true true
     (p.round? 1 5).any (fun x => (p.verifyAll 4 x.acc).1)) = true := by decide +kernel

theorem test_staircase :
    ((r5 (after (.cohortMessage 1 9 (cohMsg)) (stairS .open [3]))).stair.merged == [3, 0, 4]
      && (r5 (after (.cohortMessage 1 9 (cohMsg)) (stairS .open))).stair.children == [3]
      && (r5 (after (.cohortMessage 1 9 (cohMsg)) (stairS .open [4]))).reason == 0x011B
      && (r5 (after (.cohortMessage 1 9 (cohMsg 5 3)) (stairS .open))).stair.merged == []
      && (r5 (after (.childWaitExpiry 1 5) (stairS .closed))).stair.settled) = true := by decide +kernel

/-! ## SYNC -/

/-- A marker's period has passed since the last marker; epoch 8 is staged. -/
def syncS : State := { demo with sync := { staged := some 8, lastMarker := some 86500000 } }

theorem witness_SyncInput :
    (let off := demo.wr Reg.gateEpochValid 1
     demo.devAccess .nalam && !demo.outside .nalam && demo.privileged .nalam && demo.portsRun && demo.sync.staged == none && !demo.rdb Reg.gateEpochValid
       && demo.sync.lastMarker != some (demo.upTime - markerPeriod) && decide (markerPeriod ≤ demo.upTime)
       && syncS.sync.staged == some 8 && decide (syncS.time ≤ 8 * markerPeriod) && syncS.sync.lastMarker == some (syncS.upTime - markerPeriod)
       && off.rdb Reg.gateEpochValid && off.portsRun && decide (off.sync.lastMarker.getD 0 + markerTimeout < off.upTime)
       && demo.tablesWf) = true := by decide +kernel

theorem test_sync :
    (let s := after .syncMarker syncS
     s.time == 108000000 && s.rdb Reg.gateEpochValid && s.rdb Reg.gateSyncLock && s.sync.staged == none
      && (after (.syncEpoch .nalam 8) demo).sync.staged == some 8 && !(after (.syncEpoch (.pf0 false) 8) demo).sync.staged.isSome
      && !(after .syncMarkerTimeout (demo.wr Reg.gateEpochValid 1)).rdb Reg.gateEpochValid) = true := by decide +kernel

/-! ## The ply -/

/-- Strand `role`, in state `st`; QP 9 of PF0 is the ply QP; round 5 of VF1 runs plied. -/
def plyS (st role : Nat) (x : Round := { rnd with ply := { plied := true } }) : State :=
  ((((({ withRound demo x with qps := [{ qp9 with func := 0, bundle := 0 }, { qp9 with qpn := 10 }] }).wr Reg.plyQpn 9).wr Reg.plyState st).wr
    Reg.plyRole role).wr Reg.plyVer (if st = 2 then 0x0100 else 0)).wr Reg.gateEpochValid 1
def range (role : Nat := 2) (ver : Nat := 0x0100) (grade : Nat := 0) : PlyRange :=
  { verMin := ver, verMax := ver, grade := grade, stepping := 0, qgMin := 1, qgMax := 1, role := role, epochValid := true }
/-- A ply message of type `t` for round 5, its code and body. -/
def plyMsg (t : Nat) (body : Bytes := []) (code : Nat := 0) : Bytes := plyHeader 0 t code 5 7 ++ body
def lateS : State := plyS 2 2 { rnd with st := .closed, deadline := 98649999, ply := { plied := true, awaiting := [3] } }

theorem witness_PlyLifeAndMessages :
    (let s := plyS 1 1
     let ver (s : State) (x : PlyRange) := negotiate x.verMin x.verMax (s.rd Reg.devPlyVerMin) (s.rd Reg.devPlyVerMax)
     let same (s : State) (x : PlyRange) := x.grade == s.rd Reg.devGrade && x.stepping == s.rd Reg.devStepping
     let pair (s : State) (x : PlyRange) := x.role + s.rd Reg.plyRole == 3 && x.role != 0 && s.rd Reg.plyRole != 0 && x.epochValid
       && s.rdb Reg.gateEpochValid
     let beat := { plyS 2 1 with ply := { lastBeat := 99865000 } }
     let lost := { plyS 2 1 with ply := { heard := 86500000 } }
     s.ready && s.devAccess .nalam && !s.outside .nalam && s.privileged .nalam && (plyS 0 1).rd Reg.plyState == 0 && s.rd Reg.plyState == 1 && s.pf0PlyQp.isSome
       && (ver s (range 2 0x0200)).isNone && (ver s (range)).isSome && !same s (range 2 0x0100 1) && same s (range) && !pair s (range 1)
       && pair s (range) && beat.plied && Nat.ble (beat.ply.lastBeat + 135000) beat.time && beat.pf0PlyQp.isSome
       && lost.plied && Nat.ble (lost.ply.heard + 13500000) lost.time
       && [(2, [1, 2, 3, 4, 5, 6, 7, 8]), (1, [4, 8])].all (fun (p : Nat × List Nat) => let s := plyS 2 p.1
            s.ready && s.plied && s.isPlyQp 0 9 && (s.isB == (p.1 == 2)) && (s.isA == (p.1 == 1))
              && p.2.all (fun t => plyHdrOk s (plyMsg t) && leAt (plyMsg t) 5 1 == t))
       && !(plyS 2 2).isPlyQp 1 9 && !plyHdrOk (plyS 2 2) (plyMsg 8 [] 1)
       && lateS.ready && (lateS.round? 1 5).any (fun x => lateS.mirroredHere x && x.live_ && x.ply.awaiting != []
            && Nat.ble (x.deadline + 1350000) lateS.time) && lateS.posts == [] && lost.posts == [] && lost.ready) = true := by decide +kernel

theorem test_ply_life :
    ((after (.plyForm .nalam) (plyS 0 1)).rd Reg.plyState == 1 && (after (.plyRangeExchange (range)) (plyS 1 1)).rd Reg.plyState == 2
      && (after (.plyRangeExchange (range)) (plyS 1 1)).rd Reg.plyVer == 0x0100
      && (after (.plyRangeExchange (range 1)) (plyS 1 1)).rd Reg.plyCode == 0x0806
      && (after (.plyRangeExchange (range 2 0x0200)) (plyS 1 1)).rd Reg.plyCode == 0x0803
      && (after (.plyRangeExchange (range 2 0x0100 1)) (plyS 1 1)).rd Reg.plyCode == 0x0804
      && !(r5 (after (.plyDissolve .nalam) (plyS 2 1))).ply.plied && (after (.plyDissolve .nalam) (plyS 2 1)).rd Reg.plyState == 0
      && (after .plyHeartbeat (plyS 2 1)).ply.lastBeat == 100000000
      && (after .plyPartnerLost (plyS 2 1)).rd Reg.plyState == 3) = true := by decide +kernel

theorem test_ply_late : (r5 (after (.plyLateSlotExpiry 1 5) lateS)).reason == 0x0801 := by decide +kernel

/-! ## Random numbers -/

/-- Source 0 in phase `ph`, since the first cycle; the generator in state `st` with queue `q` and requests `l`. -/
def rngS (st ph : Nat) (q : List Word := []) (l : List RngReq := []) (fails : Nat := 0) : State :=
  { demo with rng := { demo.rng with
      sources := updAt demo.rng.sources 0 (fun x => { x with phase := ph, since := 0, fails := fails }), queue := q, reqs := l } }.wr Reg.rngState st
def softReq (n : Nat) : RngReq := { cls := 4, order := 0, words := n, got := [], use := .software .nalam }

theorem witness_RandomNumbers :
    (let due (a b : Nat) := Nat.ble a b
     let c := { demo with rng := { demo.rng with collecting := true, collectAt := 0 } }
     let r := rngS rngSeeded 3
     let t := { r with rng := { r.rng with sources := List.replicate 8 { ok := true, phase := 3 }, seededAt := 86500000 } }
     demo.busUp && (rngS 1 1).busUp && ((rngS 1 1).source 0).phase == 1 && due (((rngS 1 1).source 0).since + 675000) demo.upTime
       && ((rngS 1 2).source 0).phase == 2 && due (((rngS 1 2).source 0).since + 1024 * ((rngS 1 2).source 0).decim * 80) demo.upTime
       && (r.source 0).phase == 3 && !(r.source 0).disabled && r.rd Reg.rngState == rngSeeded
       && due (((rngS 1 2 [] [] 1).source 0).fails + 2) 3 && due 3 (((rngS 1 2 [] [] 2).source 0).fails + 1) && !((rngS 1 2 [] [] 2).source 0).disabled
       && c.rng.collecting && c.busUp && due (c.rng.collectAt + c.collectT) c.upTime
       && t.rd Reg.rngState == rngSeeded && !t.rng.collecting && t.sourcesOk && due (t.rng.seededAt + t.rd Reg.rngReseedMs * 1350000) t.upTime
       && due ((rngS rngSeeded 3 (List.replicate 447 0)).rng.queue.length + 1) 448 && due 448 (rngS rngSeeded 3 (List.replicate 448 0)).rng.queue.length
       && [1, 2].all (fun n => let s := rngS rngDraining 3 [9] [softReq n]
            s.rngServes && s.rng.next? == some 0 && s.rng.queue == [9] && s.rng.reqs[0]? == some (softReq n))
       && r.rng.queue == [] && r.rd Reg.rngState != rngHalted && r.rd Reg.rngState != rngDead && (rngS rngHalted 3).rd Reg.rngState == rngHalted
       && (rngS rngDead 3).rd Reg.rngState == rngDead) = true := by decide +kernel

theorem test_sources :
    (((after (.rngSourceSettled 0) (rngS 1 1)).source 0).phase == 2 && ((after (.rngStartupTestDone 0) (rngS 1 2)).source 0).ok
      && (after (.rngHealthFail 0 .repetition) (rngS rngSeeded 3 [1])).rd Reg.rngState == rngDraining
      && (after (.rngHealthFail 0 .proportion) (rngS rngSeeded 3)).rd Reg.rngState == rngHalted
      && ((after (.rngHealthFail 0 .repetition) (rngS 1 2 [] [] 2)).source 0).disabled
      && (after .rngCollectionDone { demo with rng := { demo.rng with collecting := true } }).rd Reg.rngState == rngSeeded) = true := by
  decide +kernel

theorem test_words :
    ((after .rngWordServe (rngS rngSeeded 3 [9, 8] [softReq 1])).rng.queue == [8]
      && (after .rngWordServe (rngS rngSeeded 3 [9, 8] [softReq 1])).rng.lastWord == 9
      && (after .rngWordServe (rngS rngDraining 3 [9] [softReq 2])).rd Reg.rngState == rngHalted
      && (after (.rngData .cc 0xB00040) (rngS rngSeeded 3)).rng.reqs.map (fun q => (q.cls, q.order, q.words)) == [(4, 1, 1)]
      && (after (.rngData .nalam 0xB00040) (rngS rngHalted 3)).rng.lastCode == 0x0502) = true := by decide +kernel

/-! ## Keys -/

def keyS (kind f : Nat) : State := (demo.wr Reg.rngState rngSeeded).updSlot 7 (fun _ => { attr := { ownerKind := kind, func := f } })
def lateKey : State := { keyS 2 1 with nalam := { (keyS 2 1).nalam with remaskAt := 98650000 } }

theorem witness_Keys :
    (let free := keyS 3 0
     let mine := keyS 2 1
     let busy := after (.keyZero .nalam 7) mine
     !free.keyBusy && !mine.keyBusy && busy.keyBusy && !free.outside .nalam && !free.outside .cc && free.devAccess .nalam && free.privileged .nalam && free.devAccess .cc && !free.privileged .cc && (free.slot 7).attr.ownerKind == 3
       && (free.slot 4).attr.ownerKind == 3 && (free.slot 63).attr.ownerKind == 3 && (free.fkeySlot 1).isNone && mine.devAccess .nalam
       && (mine.slot 7).attr.ownerKind != 3 && mine.funcUp 1 && mine.rdb Reg.attAttached 1 && mine.fkeySlot 1 == some 7 && mine.ready
       && Nat.ble (lateKey.nalam.remaskAt + 1350000) lateKey.time && lateKey.rngServes && !(lateKey.wr Reg.rngState rngHalted).rngServes) = true := by
  decide +kernel

theorem test_keys :
    ((after (.assign .nalam 7 1 false) (keyS 3 0)).fkeySlot 1 == some 7
      && (after (.assign .nalam 7 1 false) (keyS 3 0)).rng.reqs.map (·.words) == [8, 6]
      && (after (.assign .nalam 3 1 false) (keyS 3 0)).rd Reg.nalamKeyCode == 0x0602
      && (after (.keyRelease .nalam 7) (keyS 2 1)).fkeySlot 1 == none && (after (.keyZero .nalam 7) (keyS 2 1)).fkeySlot 1 == some 7
      && (after (.keyZero .nalam 7) (keyS 3 0)).rd Reg.nalamKeyCode == 0x0602
      && (after (.fkeyZero 1) ((keyS 2 1).updFn 1 (fun x => { x with noiseSeed := some 4 }))).funcs.all (fun x => x.noiseSeed.isNone)
      && (after .remask lateKey).rng.reqs.map (·.words) == [64]) = true := by decide +kernel

theorem test_life_cycle :
    ((after (.lcVoid .nalam) (keyS 2 1)).otp.lc == 0xFFFF && (after (.lcVoid .nalam) (keyS 2 1)).pins.stopped
      && (after (.lcVoid .cc) (keyS 2 1)).otp.lc == 0x00FF
      && (after (.rollbackCommit .nalam) ((keyS 2 1).wr Reg.nalamFwSvn 9)).otp.svn == 9
      && [nextPattern 1 2, nextPattern 2 3, nextPattern 2 1] == [some 0x00FF, some 0x0FFF, none]) = true := by decide +kernel

/-! ## SPDM -/

def req (ok inS mutu flag : Bool) : SpdmReq := { ver := 0x13, ok := ok, inSession := inS, mutAuth := mutu, key := [], nonce := [], flag := flag }
def sesS (o f : Bool) : State := (demo.updFn 1 (fun x => { x with session := { isOpen := o, finished := f, mutAuth := true } })).wr Reg.nalamLeavesLeft 1

theorem witness_SpdmRequests :
    (let q := req true true true true
     let lim := (sesS true false).wr Reg.nalamBootLimit 1
     let dry := (sesS true false).wr Reg.nalamLeavesLeft 0
     (sesS true false).doeUp 1 && lim.doeUp 1 && dry.doeUp 1 && !(req false true true true).ok && q.ok && q.ver == 0x13 && q.flag
       && !(req true true true false).flag && lim.rdb Reg.nalamBootLimit && !dry.rdb Reg.nalamBootLimit && dry.rd Reg.nalamLeavesLeft == 0
       && (sesS true false).rd Reg.nalamLeavesLeft != 0 && !(req true false true true).inSession && !((sesS false false).session 1).isOpen
       && ((sesS true false).session 1).isOpen && q.inSession && !((sesS true false).session 1).finished && ((sesS true false).session 1).mutAuth
       && q.mutAuth && ((sesS true true).session 1).finished && Nat.blt 1 (sesS true true).funcs.length && demo.ready
       && leAt [0x80, 5, 1, 0, 9] 0 1 % 128 == 0 && leAt [0x80, 5, 1, 0, 9] 2 1 == 1 && leAt [0, 5, 2] 2 1 == 2 && leAt [1] 0 1 % 128 == 1) = true := by
  decide +kernel

theorem test_spdm :
    ((after (.finish 1 (req true true true true)) (sesS true false)).session 1 == { isOpen := true, finished := true, mutAuth := true }
      && (after (.finish 1 (req true true false true)) (sesS true false)).session 1 == {}
      && (after (.endSession 1 (req true true true true)) (sesS true true)).session 1 == {}
      && ((after (.keyExchange 1 (req true false false true)) (sesS true true)).session 1).finished == false
      && (after (.getMeasurements 1 (req true false true true)) (sesS false false)).rd Reg.nalamLeavesLeft == 0
      && (after (.challenge 1 (req true false true true)) (sesS false false)).rng.reqs.map (·.words) == [4]) = true := by decide +kernel

theorem test_mctp :
    ((after (.mctpControl [0x80, 5, 1, 0, 9]) demo).nalam.mctpEid == 9
      && (after (.mctpControl [0x80, 5, 1, 0, 9]) demo).out == [.mctp [0, 5, 1, 0, 0, 9, 0]]
      && (after (.mctpControl [2]) demo).nalam.mctpDropped == 1) = true := by decide +kernel

/-! ## Tenant assets -/

/-- An asset request of kind `k`, sequence number 1, with a body of `n` zero bytes. -/
def assetMsg (k n : Nat) : Bytes := toLe 48 (0x53414C43 + 2 ^ 32 + k * 2 ^ 40 + 2 ^ 64 + n * 2 ^ 128) ++ List.replicate n 0
/-- A policy record: mode 0, form 0, one destination, K_MIN 2, tag 0x77. -/
def polRec (kmin : Nat := 2) : Bytes :=
  toLe 320 (0x50524C43 + 2 ^ 32 + 2 ^ 40 + 16 * 2 ^ 48 + 1 * 2 ^ 64 + 0x77 * 2 ^ 96 + kmin * 2 ^ 128 + 1 * 2 ^ 512)
def rotS (st : Nat) (key : Nat := 0) : State :=
  { (demo.wr Reg.fnRotState st 1).wr Reg.fnFarCount 2 1 with tags := [(0x800000, { keygen := key, tenant := 1 }), (0x800001, { keygen := key, tenant := 1 })] }.wr
    Reg.fnCurgen 1 1

theorem witness_TenantAssets :
    (demo.funcUp 1 && (List.range 9).all (fun k => assetWf (assetMsg k 32) && aKind (assetMsg k 32) == k) && !(demo.session 1).attested
      && demo.policyBad 1 (polRec 1) && !demo.policyBad 1 (polRec) && (rotS 1).funcUp 1 && (rotS 1).rd Reg.fnRotState 1 == 1
      && (rotS 2).funcUp 1 && (rotS 2).rd Reg.fnRotState 1 == 2
      && ((rotS 2).farTiles 1).filter (fun t => ((rotS 2).tag t).keygen != 0xFFFF && ((rotS 2).stagedOf t).isNone) == [0x800000, 0x800001]
      && ((rotS 2 0xFFFF).farTiles 1).filter (fun t => ((rotS 2 0xFFFF).tag t).keygen != 0xFFFF) == []) = true := by decide +kernel

/-- An attested session, its key exchanged when `kem` is set, of a function with a key. -/
def attestS (kem : Bool := true) : State :=
  (demo.updFn 1 (fun x => { x with session := { isOpen := true, mutAuth := true, finished := true, measured := true, kem := kem } })).wr Reg.fnFkeyValid 1 1
/-- The request with the tag of the session's key. -/
def assetTagged (k : Nat) : Bytes :=
  let m := assetMsg k 32
  m.take 32 ++ gcmMac 0 (assetIv m) (m.take 32) (aBody m) ++ aBody m

/-- A noise seed and a key exchange pass the checks; a policy that passes them is malformed. -/
theorem witness_TenantAssets_installed :
    ((attestS.session 1).attested && attestS.doeUp 1 && (attestS.fn 1).session.assetKey == 0
      && [2, 6].all (fun k => assetWf (assetTagged k) && aKind (assetTagged k) == k && attestS.assetCode 1 (assetTagged k) == 0)
      && (attestS false).assetCode 1 (assetMsg 0 1568) == 0 && assetWf (assetMsg 0 1568)
      && attestS.policyBad 1 (gcmCrypt 0 (assetIv (assetTagged 2)) ((assetTagged 2).take 32) (aBody (assetTagged 2)))
      && (gcmCrypt 0 (assetIv (assetTagged 6)) ((assetTagged 6).take 32) (aBody (assetTagged 6))).length == 32
      && (rotS 1).farTurn 1 && (rotS 2).farTurn 1 && (rotS 1).ready && (rotS 2).ready) = true := by decide +kernel

theorem test_assets :
    ((after (.noiseSeed 1 (assetMsg 6 32)) demo).rd Reg.nalamAssetRefusedCount == 1
      && (after (.noiseSeed 1 (assetMsg 6 32)) demo).out.head? == some (.doe 1 rspVendor (toLe 8 0x060C))
      && (demo.installPolicy 1 (polRec)).1 == 0 && ((demo.installPolicy 1 (polRec)).2.fn 1).lastPolicy == 1 && (demo.installPolicy 1 (polRec 1)).1 == 0x0908
      && (after (.memRotationSweep 1) (rotS 2)).fn 1 == { (rotS 2).fn 1 with sweep := 0x800001 }
      && (after (.memKeyInitDone 1) (rotS 1 3)).rd Reg.fnRotState 1 == 0 && ((after (.memKeyInitDone 1) (rotS 1 3)).tag 0x800000).keygen == 0) = true := by
  decide +kernel

/-! ## Partitions and checkpoints -/

/-- The partition command for VF1: its near tiles end at 0x100 + `n`. -/
def partS (n : Nat) (busy : Bool := false) : State :=
  ((((((demo.wr Reg.partFunc 1).wr Reg.partSpindles 1).wr Reg.partNear (0x100 + n * 2 ^ 32)).wr Reg.partFar (16 * 2 ^ 24)).wr Reg.partCtrBase 16).wr
    Reg.partCtrCount 8).wr Reg.partBusy (b2n busy)
def revS : State :=
  { (demo.wr Reg.partBusy 1) with partRev := some { func := 1, tiles := [0x17F], ctrs := [20], spindles := [0] }, ctrs := [(20, 3)] }
def ckptD (op a0 a1 len : Nat) : Bytes := dsc op a0 a1 len
def ckS (key : Option Nat) : State :=
  { jobS.updFn 1 (fun x => { x with ckptKey := key }) with
    rounds := [{ rnd with gate := { accLeaves := [(0, 5)] } }] }

theorem witness_PartitionsAndCheckpoints :
    (let s := partS 0x80
     let k := ckS (some 5)
     let d (op a0 a1 len : Nat) := leNat (ckptD op a0 a1 len)
     s.devAccess .nalam && !s.outside .nalam && s.privileged .nalam && (partS 0x80 true).rdb Reg.partBusy && !s.rdb Reg.partBusy && !s.partBad 1 s.stagedPartition
       && (partS 0xFF01).partBad 1 (partS 0xFF01).stagedPartition && !(partS 0xFF00).partBad 1 (partS 0xFF00).stagedPartition && s.rd Reg.partFunc == 1
       && revS.ready && revS.partRev.any (fun v => v.spindles.all (fun j => (revS.spin j).uq.isEmpty) && revS.quiet v.tiles)
       && [0x10, 0x11, 0x12].all (fun op => k.ringTakes 1 0 (d op 5 (2 ^ 32) 32) && (ckptD op 5 (2 ^ 32) 32).length == 64 && jobWf (d op 5 (2 ^ 32) 32) && jOp (d op 5 (2 ^ 32) 32) == op)
       && (nextS k).ckptOk 1 && ((nextS k).fn 1).ckptJob.isNone && !(nextS (ckS none)).ckptOk 1 && jRecLen (d 0x11 0 0 3) == 3
       && ((nextS k).round? 1 (jArg0 (d 0x12 5 (2 ^ 32) 32))).any (fun x => x.gate.accLeaves != []
            && Nat.ble (jArg1 (d 0x12 5 (2 ^ 32) 32) % 2 ^ 32 + jArg1 (d 0x12 5 (2 ^ 32) 32) / 2 ^ 32) x.gate.accLeaves.length)
       && Nat.ble (32 * (jArg1 (d 0x12 5 (2 ^ 32) 32) / 2 ^ 32)) (jRecLen (d 0x12 5 (2 ^ 32) 32))
       && ((nextS k).round? 1 (jArg0 (d 0x12 6 0 0))).isNone) = true := by decide +kernel

/-- A device with nothing live in VF1's partition, whose ring asks to restore the checkpoint of no chunks. -/
def resS : State := { (ckS (some 5)).wr Reg.attSvc 0 1 with rounds := [] }
def emptyCkpt : Bytes := sealCkpt (ckptKc 5 9) (resS.ckptHead 1 9 0) [] 0

theorem witness_CheckpointResume :
    (let s1 := nextS resS
     let kc := ckptKc (((s1.fn 1).ckptKey).getD 0) (leAt emptyCkpt 16 32)
     let d := leNat (ckptD 0x11 0 0 256)
     emptyCkpt.length == 256 && jobWf d && jRecLen d == 256 && resS.ringTakes 1 0 d && !s1.resumeBad 1 kc emptyCkpt
       && (nextS (ckS (some 5))).resumeBad 1 kc emptyCkpt) = true := by decide +kernel

theorem test_partitions :
    ((after (.partCmd .nalam) (partS 0x80)).rd Reg.partBusy == 0 && (after (.partCmd .nalam) (partS 0x7F)).rd Reg.partBusy == 1
      && (after (.partCmd .nalam) (partS 0x7F)).rd Reg.fnNearCount 1 == 0x7F && (after (.partCmd .nalam) (partS 0xFF01)).rd Reg.partCode == 0x060E
      && (after (.partitionRevocationDone 1) revS).rd Reg.partBusy == 0 && (after (.partitionRevocationDone 1) revS).ctrs == []) = true := by
  decide +kernel

/-- A spindle that joins a partition is IDLE, so that a program may be loaded on it (R201). -/
theorem test_joins_idle :
    ((after (.partCmd .nalam) ((partS 0x80).wr Reg.partSpindles 3)).spin 1).st == .idle
      && ((after (.partCmd .nalam) ((partS 0x80).wr Reg.partSpindles 3)).owner? 1) == some 1 := by decide +kernel

theorem test_checkpoints :
    ((after (.checkpoint 1 0 (ckptD 0x10 0 0 0)) (ckS (some 5))).rng.reqs.map (fun q => (q.cls, q.words)) == [(1, 4)]
      && bits (leNat (readBytes (after (.checkpoint 1 0 (ckptD 0x10 0 0 0)) (ckS none)).host (hostKey 1 0x20000) 16)) 32 16 == 0x0A25
      && (after (.leafDigests 1 0 (ckptD 0x12 5 (2 ^ 32) 32)) (ckS none)).host.head? == some (hostKey 1 0x20000, 0x55)
      && leNat (readBytes (after (.leafDigests 1 0 (ckptD 0x12 5 (2 ^ 32) 32)) (ckS none)).host (hostKey 1 0x30000) 32) == 5) = true := by decide +kernel

/-! ## The host's side -/

def hostS (g : Func → Func) (f : Nat := 1) : State := (demo.wr Reg.rstFrFunc 1).updFn f g

theorem witness_HostSide :
    (let s := demo.wr Reg.rstFrFunc 1
     let r := hostS (fun x => { x with resetAt := some 0, resetByGo := true })
     let i := (hostS (fun x => { x with ideKeyed := true })).wr Reg.fnIdeReq 1 1
     let q := ringS ringActive 1
     let e := demo
     let upTo (n : Nat) : State := { demo with funcs := (List.range 64).map (fun g => { exists_ := Nat.ble g n }) }
     [62, 63].all (fun n => (List.range 64).all (fun g => Nat.ble g n == ((upTo n).fn g).exists_)) && s.ready && (s.fn 1).exists_ && s.devAccess .nalam && !s.outside .nalam && s.privileged .nalam && (s.fn (s.rd Reg.rstFrFunc)).exists_
       && !((s.wr Reg.rstFrFunc 2).fn ((s.wr Reg.rstFrFunc 2).rd Reg.rstFrFunc)).exists_ && r.ready && (r.fn 1).resetAt.isSome && !(r.spindlesOf 1).any r.substituting && s.posts == []
       && !(i.wr Reg.fnIdeReq 0 1).wot.contains (Reg.fnIdeReq.key 1 0) && (after (.ideReq 1) (i.wr Reg.fnIdeReq 0 1)).wot.contains (Reg.fnIdeReq.key 1 0) && s.funcUp 1
       && (i.fn 1).ideKeyed && i.funcUp 1 && i.rdb Reg.fnIdeReq 1 && q.ready && q.funcUp 1 && q.rd Reg.ringState 1 0 == ringActive && q.sqUsed 1 0 != 0
       && (sesS true true).doeUp 1 && (req true true true true).ok && ((sesS true true).session 1).isOpen && ((sesS true true).session 1).finished
       && s.pins.pcieUp && !({ s with pins := { s.pins with pcieUp := false } } : State).pins.pcieUp
       && (List.range 64).all (fun g => Nat.ble g 1 == (e.fn g).exists_) && (s.fn 1).resetAt.isNone && Nat.blt 1 s.funcs.length) = true := by
  decide +kernel

theorem test_function_reset :
    (let s := (hostS (fun x => { x with policy := some pol, lastRound := some 9, dests := [{ index := 0, addr := 0, len := 1 }] }))
     let t := after (.flr 1) s
     let g := after (.frGo .nalam) s
     let d := after (.functionResetDone 1) g
     (t.fn 1).resetAt == some 100000000 && (t.fn 1).policy == some pol && (t.fn 1).lastRound == none && (t.fn 1).dests == []
      && g.rd Reg.rstFrBusy == 1 && d.rd Reg.rstFrBusy == 0 && (d.fn 1).resetAt == none && d.rd Reg.rstResetMask == 0
      && (after (.frGo .nalam) (demo.wr Reg.rstFrFunc 2)).rd Reg.rstFrCode == 0x0A17) = true := by decide +kernel

theorem test_host :
    ((after (.vfEnable 2) demo).fn 2 == { exists_ := true } && !((after (.vfEnable 0) demo).fn 1).exists_
      && !(after .pcieLinkDown demo).pins.pcieUp && (after .pcieLinkDown demo).rd Reg.evPcieDowns == 1
      && (after .pcieLinkUp { demo with pins := { demo.pins with pcieUp := false } }).pins.pcieUp
      && (after (.evtTail 1 7) demo).rd Reg.fnEvtTail 1 == 7
      && (after (.hostAccessFail (.sq 1 0)) (ringS ringActive 1)).rd Reg.ringState 1 == ringError
      && ((after (.ideStreamFailed 1) ((hostS (fun x => { x with ideKeyed := true })).wr Reg.fnIdeReq 1 1)).fn 1).ideFailed
      && (after (.ideReq 1) (hostS (fun x => { x with ideKeyed := true }))).rd Reg.fnIdeReq 1 == 1) = true := by decide +kernel

theorem test_snapshots :
    (let s : State := { (demo.bump Reg.qpcDropDup).bump Reg.fnFDropDup 1 with ctl := {} }
     (after (.snapCmd .nalam) s).holding.length == 2 && (after (.snapCmd .nalam) s).rd Reg.snapSeq == 1
      && (after (.fsnapCmd 1) s).holding.length == 1 && (after (.fsnapCmd 1) s).rd Reg.fnFsnapSeq 1 == 1) = true := by decide +kernel

/-! ## Boot and reset -/

/-- A device in boot stage `st`, 13.5 s after PERST_N was released. -/
def bootS (st : Nat) : State := { powered.wr Reg.bootStage st with upTime := 18000000000 }
def imgS (n : Nat) : State := { (((bootS 1).wr Reg.bootImgBusy 1).wr Reg.bootFwLen n) with upTime := 13500000000 }
def okCheck : BistResult :=
  { valid := true, lbist := 0, cc := 0, other := false, log := [], repaired := 0, slices := 0, scratch := 0, unrep := false }
/-- Everything of step 6 is done. -/
def allDone : State :=
  (doneBits.foldl (fun s d => s.wr d 1) ((bootS 5).wr Reg.rngState rngSeeded)).wr Reg.nalamAttestReady 1

theorem witness_BootAndReset :
    (let void := { powered with otp := { powered.otp with lc := 0xFFFF } }
     let len (n : Nat) := (bootS 1).wr Reg.bootFwLen n
     let key := (bootS 5).updSlot 2 (fun _ => { attr := attrLms })
     let run := { bootS 5 with nalam := { (bootS 5).nalam with ccRunning := true } }
     State.reset.pins.perst && powered.busUp && powered.rd Reg.bootStage == 0 && !powered.rdb Reg.clkRootLock && lcCode powered.otp.lc != 4
       && void.busUp && lcCode void.otp.lc == 4 && Nat.ble 1350000 powered.upTime
       && [2368, 6293760].all (fun n => (len n).busUp && (len n).rd Reg.bootStage == 1 && (len n).rd Reg.bootFwLen == n) && !(len 2368).rdb Reg.bootImgBusy
       && (len 2367).rd Reg.bootFwLen == 2367 && (len 6293761).rd Reg.bootFwLen == 6293761
       && (imgS 3).rdb Reg.bootImgBusy && [(1 : Byte), 2, 3].length == (imgS 3).rd Reg.bootFwLen && Nat.ble (imgS 3).upTime 13500000000
       && Nat.ble 13500000000 (bootS 1).upTime && ((bootS 4).wr Reg.rngState rngSeeded).rd Reg.bootStage == 4
       && ((bootS 4).wr Reg.rngState rngSeeded).rd Reg.rngState == rngSeeded && (bootS 5).rd Reg.bootStage == 5 && (bootS 5).busUp
       && doneBits.all (fun d => !(bootS 5).rdb d) && !key.rdb Reg.nalamBootLimit && (key.slot 2).attr.valid && key.tablesWf
       && Nat.ble ((bootS 5).nalam.initAt + 2700000000) (bootS 5).upTime && run.nalam.ccRunning
       && doneBits.all (fun d => allDone.rdb d) && allDone.rd Reg.rngState == rngSeeded && !allDone.nalam.held && allDone.rdb Reg.nalamAttestReady
       && !(bootS 5).nalam.warm && Nat.ble ((bootS 5).nalam.imageAt + 4050000000) (bootS 5).upTime) = true := by decide +kernel

theorem test_boot_start :
    ((after .perstNRelease State.reset).pins.perst == false && (after .perstNRelease State.reset).rd Reg.devStepping == 0xB0
      && (after .rootPllLock powered).rd Reg.bootStage == 1 && (after .rootPllFail powered).rd Reg.bootCode == 0x0A1C
      && (after .rootPllLock { powered with otp := { powered.otp with lc := 0xFFFF } }).rd Reg.bootCode == 0x0612
      && (after (.fwDoorbell (.pf0 false)) ((bootS 1).wr Reg.bootFwLen 2368)).rd Reg.bootImgBusy == 1
      && (after (.fwDoorbell (.pf0 false)) ((bootS 1).wr Reg.bootFwLen 2367)).rd Reg.bootImgCode == 0x0A1D
      && (after .fwImageTimeout (bootS 1)).rd Reg.bootCode == 0x0A18
      && (after (.fwImageArrival [1, 2, 3]) (imgS 3)).rd Reg.bootCode == 0x0605) = true := by decide +kernel

theorem test_step_6 :
    ((after (.creelDone true true) (bootS 5)).rd Reg.bootCreelDone == 1 && (after (.creelDone false true) (bootS 5)).rd Reg.bootCode == 0x0A1E
      && (after (.farDone 0xFFFF 0) (bootS 5)).rd Reg.farPkgOk 2 == 15 && (after (.farDone 0xFFFE 0xF0F) (bootS 5)).rd Reg.farPkgOk 1 == 0
      && (after (.portsDone 5) (bootS 5)).rd Reg.portUp 2 == 1 && (after .ready allDone).rd Reg.bootStage == 6
      && (after .bootTimeout (bootS 5)).rd Reg.bootDetail == 31 && (after (.drbgSeededAtBoot okCheck) ((bootS 4).wr Reg.rngState rngSeeded)).otp.boots == 1) = true := by
  decide +kernel

theorem test_full_reset :
    (after .perstNAssert (demo.wr Reg.fnTenantTag 5 1)).regs == [] ∧ (after .perstNAssert demo).ready = false := by decide +kernel

/-! ## Attaching, warm reset -/

/-- VF1 not attached; driver and firmware ABI ranges meet in 0x0100. -/
def attS (v : Nat := 0x0100) : State :=
  ((((demo.wr Reg.attAttached 0 1).wr Reg.attDrvAbiMin v 1).wr Reg.attDrvAbiMax v 1).wr Reg.devFwAbiMin 0x0100).wr Reg.devFwAbiMax 0x0100
def warmS : State := { demo with nalam := { demo.nalam with warmDigest := some 5 } }

theorem witness_AttachAndWarmReset :
    (let ver (s : State) := negotiate (s.rd Reg.attDrvAbiMin 1) (s.rd Reg.attDrvAbiMax 1) (s.rd Reg.devFwAbiMin) (s.rd Reg.devFwAbiMax)
     (attS).funcUp 1 && !(attS).rdb Reg.attAttached 1 && !(attS).rdb Reg.attAttachBusy 1 && ver (attS) == some 0x0100 && (ver (attS 0x0200)).isNone
       && demo.funcUp 1 && demo.rdb Reg.attAttached 1 && demo.rd Reg.attSvc 1 == 0 && demo.devAccess .nalam && !demo.outside .nalam && demo.privileged .nalam
       && !demo.rdb Reg.warmBusy && warmS.ready && warmS.nalam.warmDigest == some 5) = true := by decide +kernel

theorem test_attach :
    ((after (.attach 1) (attS)).rd Reg.attAbiVer 1 == 0x0100 && (after (.attach 1) (attS 0x0200)).rd Reg.attAttachCode 1 == 0x0A04
      && (after (.goService 1) demo).rd Reg.attSvc 1 == 1 && (after (.goService 1) (attS)).rd Reg.attAttachCode 1 == 0x0A1A
      && (after (.warmGo .nalam none) demo).rd Reg.warmCode == 0x0A15 && (after (.warmGo .nalam (some [1])) demo).rd Reg.warmCode == 0x0605) = true := by
  decide +kernel

/-! ## Faults -/

/-- The control cores run the empty image. -/
def ccS : State := { demo with nalam := { demo.nalam with ccRunning := true, fwDigest := fwDigestOf [] } }
def unitS (ms : List Nat := []) : State := (queued entry5).updPhys 0 (fun x => { x with mismatches := ms })

theorem witness_FaultsAndFatalEvents :
    (let q := unitS [99999999]
     let rec_ := (queued entry5).updSpin 0 (fun x => { x with recovering := true })
     let cc := ccS
     let old (s : State) := (s.phy 0).mismatches.filter (fun t => Nat.blt s.upTime (t + mismatchT))
     q.ready && q.physOf 0 == some 0 && !(q.spin 0).recovering && (q.spin 0).uq != [] && (demo.spin 0).uq == [] && demo.physOf 0 == some 0
       && (old q).length == 1 && (old (unitS [99999999, 99999998])).length == 2 && rec_.ready && rec_.physOf 0 == some 0 && (rec_.spin 0).recovering
       && fwDigestOf cc.nalam.fwImage == cc.nalam.fwDigest && q.issuing 0 && cc.ready && cc.nalam.ccRunning && !cc.nalam.ccOut.contains 3
       && (List.range 64).all (fun f => (List.range 4).all (fun n => cc.rd Reg.ringState f n == 0)) && cc.rounds == []
       && cc.nalam.ccRestarts.all (fun p => p.1 != 3) && !cc.rdb Reg.fnEvtEn 0
       && !demo.rdb Reg.evFatal && demo.tablesWf && (demo.wr Reg.evFatal 1).rdb Reg.evFatal) = true := by decide +kernel

theorem test_residue :
    ((after (.residueCheckFail 0 .mismatch) (unitS [99999999])).rd Reg.physSpResidueFails 0 == 1
      && ((after (.residueCheckFail 0 .mismatch) (unitS [99999999, 99999998])).phy 0).role == roleFailed
      && (after (.residueCheckFail 0 .mismatch) (unitS [99999999, 99999998])).physOf 0 == some 32
      && ((after (.residueCheckFail 0 .controlEcc) demo).phy 0).lastCode == 0x0A2E
      && !((after (.spareSubstituted 0) ((queued entry5).updSpin 0 (fun x => { x with recovering := true }))).spin 0).recovering) = true := by
  decide +kernel

theorem test_fatal :
    ((after .nalamWatchdog demo).rd Reg.evFatalCode == 0x0A21 && (after (.clockLoss .sysRefclk) demo).rd Reg.evFatalCode == 0x0A20
      && !(after (.clockLoss .pcieRefclk) demo).pins.pcieUp && (after .nalamWatchdog demo).ready == false
      && (after .creelTierLost (demo.wr Reg.fnNearCount 0 1)).rd Reg.evTier1Lost == 1 && (after (.farPackageLost 6) (demo.wr Reg.farPkgOk 15 1)).rd Reg.farPkgOk 1 == 11
      && (after (.ccWatchdog 3) ccS).nalam.ccRestarts == [(3, 100000000)]
      && (after .bookAudit demo).books == []) = true := by decide +kernel

/-! ## Upkeep -/

/-- The far tile 0x800003, in VF1's range, under a memory key, its tag's checksum `c`; round 5 has a staging pool of one near
tile. -/
def farS (c : Nat) : State :=
  { (withRound demo { rnd with cfg := { cfg5 with stageBase := 0x150, stageCount := 1 } }).wr Reg.fnMemkey 1 1 with tags := [(0x800003, { csum := c })] }
/-- The far tile of `farS c` passes its checksum when `c` is the sum of what it holds, and only then. -/
theorem far_verify (c src : Nat) : ((farS c).verify 0x800003 src).1 = decide ((farS 0).csum 0x800003 = c) := by
  have h0 : (farS c).eccRead 0x800003 = farS c := rfl
  have h1 : (farS c).csum 0x800003 = (farS 0).csum 0x800003 := rfl
  have h2 : ((farS c).tag 0x800003).csum = c := rfl
  simp only [State.verify, h0, h1, h2]
  split <;> simp [*]
def foldingS : State := { demo with flights := [(0x110, 98650001)] }.updSpin 0 (fun x => { x with segs :=
  [{ entry := 0, round := 5, slot := 0, lz := 0x120, tile := 0x110, epoch := 0, base := 0, elems := [], limb := 0, counts := false, row := none, last := false, mode := 0
     wsel := 2, b60 := false }] })
def weirS (step : Nat) (cool : Nat := 0) : State :=
  { (demo.wr Reg.weirStep step).wr Reg.weirPLimit 1450 with weir := { demo.weir with cool := cool } }
def rampS (goal : Nat) (up : Option Nat) : State := { demo.wr Reg.weirRamping 1 with weir := { demo.weir with vidGoal := goal, stepUp := up, vidAt := 99986500 } }

theorem witness_Upkeep :
    (let w (s : State) (t : Nat) := s.wanted t [100] (if t ≤ s.rd Reg.weirTCool then s.weir.cool + 1 else 0)
     demo.ready && demo.rdb Reg.creelScrubEn && !isFar 0x110 && !demo.isFarNow 0x110 && demo.staged == [] && demo.inflight 0x110 == 0
       && foldingS.inflight 0x110 == 1 && foldingS.ready && foldingS.rdb Reg.creelScrubEn && foldingS.flying 0x110 1350000 && !foldingS.scrubHold.contains 0x110
       && !foldingS.isFarNow 0x110 && foldingS.staged == []
       && [rampS 30 none, rampS 20 (some 1), rampS 20 none].all (fun s => s.busUp && s.rdb Reg.weirRamping && Nat.ble (s.weir.vidAt + 13500) s.upTime)
       && (rampS 30 none).rd Reg.weirVid != 30 && (rampS 20 none).rd Reg.weirVid == 20 && demo.busUp && Nat.ble 5 ((weirS 1).rd Reg.bootStage)
       && [40, 90, testTemp].all (fun t => Nat.ble ([t].foldl max 0) testTemp) && (weirS 1).weir.stepUp.isNone && (weirS 1).weir.lastChange.isNone
       && w (weirS 1) 90 == 1 && w (weirS 1) testTemp == 2 && w (weirS 1 999) 40 == 0 && !demo.pins.perst && State.reset.pins.perst) = true := by
  decide +kernel

/-- Staging and scrubbing of the far tile, whatever its checksum; of the two outcomes of its verification, `far_verify`. -/
theorem witness_Upkeep_far : ∀ c : Nat,
    (let s := farS c
     let p := (s.dropPages 0x800003).stageSlot 1 0x800003
     s.ready && s.isFarNow 0x800003 && (s.stagedOf 0x800003).isNone && (s.partition 1).hasTile 0x800003 && s.rdb Reg.fnMemkey 1
       && s.farTurn 1 && (s.wantedPagesOf 1 0x800003).isEmpty && s.pages == [] && !s.aloft 0x800003 && s.rd Reg.fnRotState 1 != 1
       && p.1 == some 0x150) = true ∧ ((farS c).dropPages 0x800003).stageSlot 1 0x800003 = (some 0x150, farS c) := by
  intro c
  exact ⟨rfl, rfl⟩

theorem test_scrub :
    ((after (.scrubFoldHold 0x110) foldingS).scrubHold == [0x110] && (after (.creelScrub 0x110) { demo with scrubHold := [0x110] }).scrubHold == []) = true := by
  decide +kernel

theorem test_weir :
    ((after .vidStep (rampS 30 none)).rd Reg.weirVid == 21 && (after .vidStep (rampS 19 none)).rd Reg.weirVid == 19
      && (after .vidStep (rampS 20 (some 1))).rd Reg.weirStep == 1 && (after (.thermalTrip 110) demo).rd Reg.bootCode == 0x0A2D
      && (after (.thermalTrip 109) demo).rd Reg.bootCode == 0 && (after (.weirSample [40, 90] 100) (weirS 1)).rd Reg.weirTjMax == 90
      && (after (.weirSample [testTemp] 100) (weirS 1)).rd Reg.weirStep == 2
      && !runs (.railFault .vddCore) demo) = true := by decide +kernel

/-! ## Tests of the device, freeze -/

def lcS (lc : Nat) : State := (demo.wr Reg.clkSysrefOk 1).wr Reg.nalamLc lc
def softS (n : Nat) : State := { lcS lcSort with otp := { demo.otp with repairs := List.replicate n 7 }, bist := { demo.bist with soft := [9] } }
def runS (kind : Nat) : State := { (lcS lcField).wr Reg.bistState bistRunning with bist := { demo.bist with kind := kind, target := 32 } }
/-- Frozen in the life-cycle pattern `p`. -/
def frozenS (p : Nat) (scope : Nat := 0) : State :=
  { (demo.wr Reg.evFrozen 1) with
    pins := { demo.pins with frz := true }, otp := { demo.otp with lc := p }, tap := { addr := 2 ^ 56, tokenOk := true, scope := scope }, tiles := [(3, 7)] }

theorem witness_TestAndFreeze :
    (let s := lcS lcSort
     let due := { lcS lcField with upTime := 3600 * oneSecond }
     s.devAccess .nalam && !s.outside .nalam && s.privileged .nalam && s.rd Reg.bistState != bistRunning && s.inFactory && s.testable && !(lcS lcField).inFactory
       && !((s.wr Reg.weirRamping 1).testable) && !s.nalam.held && Nat.blt 32 s.phys.length && s.fieldOk 32 && s.fieldOk 0
       && (softS 4095).inFactory && (softS 4095).otp.repairs.length + 1 == 4096 && (softS 4096).otp.repairs.length == 4096
       && (runS 1).rd Reg.bistState == bistRunning && (runS 1).devAccess .nalam && due.ready && due.lc == lcField && due.rd Reg.bistFsInterval != 0
       && due.rd Reg.bistState != bistRunning && Nat.ble (due.bist.lastAt + due.rd Reg.bistFsInterval * oneSecond) due.upTime && due.testable
       && due.fieldNext == some 0 && (runS 2).busUp && okCheck.valid && !(runS 2).bist.broken && (runS 2).testable && (runS 2).bist.kind == 2
       && (runS 1).bist.kind != 2 && (runS 1).testable && !{ okCheck with valid := false : BistResult }.valid
       && !demo.pins.perst && !demo.pins.frz && lcCode demo.otp.lc == lcField && lcCode 0x000F == lcSort && lcCode 0x0FFF == lcReturn
       && !({ demo with pins := { demo.pins with frz := true } } : State).rdb Reg.evFrozen && State.reset.pins.perst && !demo.frozen && demo.mapped
       && (frozenS 0xFF).frozen && lcCode (frozenS 0xFF).otp.lc == lcField && !((frozenS 0xFF).tap.tokenOk && bit (frozenS 0xFF).tap.scope 1)
       && ((frozenS 0xFF 2).tap.tokenOk && bit (frozenS 0xFF 2).tap.scope ((frozenS 0xFF 2).tap.addr / 2 ^ 56)) && (frozenS 0x0F).frozen) = true := by
  decide +kernel

theorem test_bist :
    ((after (.full .nalam) (lcS lcSort)).rd Reg.bistState == bistRunning && (after (.full .nalam) (lcS lcField)).rd Reg.bistCode == 0x0A2A
      && (after (.fieldNow .nalam 0) (lcS lcField)).physOf 0 == some 32 && (after (.fuseRepair .nalam) (softS 4095)).otp.repairs.length == 4096
      && (after (.fuseRepair .nalam) (softS 4096)).rd Reg.bistCode == 0x0A2C
      && (after .fieldSelfTest { lcS lcField with upTime := 3600 * oneSecond }).bist.kind == 2
      && (after (.bistDone { okCheck with lbist := 2 ^ 32 }) (runS 2)).rd Reg.bistFsResult == 1
      && (after (.bistDone { okCheck with valid := false }) (runS 2)).rd Reg.bistFsResult == 2) = true := by decide +kernel

theorem test_freeze :
    ((after .frzNAssert demo).rd Reg.evFrozen == 0 && (after .frzNAssert { demo with otp := { demo.otp with lc := 0x000F } }).rd Reg.evFrozen == 1
      && (after .freezeZeroiseDone { demo with pins := { demo.pins with frz := true } }).rd Reg.evFrozen == 1
      && (after .bypass demo).tap.ir == 0xFF && (after .idcode demo).tap.ir == 1 && (after .samplePreload demo).tap.ir == 2
      && (after .extest State.reset).tap.ir == 3 && (after .extest demo).tap.ir == 1 && (after (.frzAddr 5) demo).tap.addr == 5
      && (after .frzData (frozenS 0xFF)).tap.tdo == 0 && (after .frzData (frozenS 0xFF 2)).tap.tdo == 7 * 2 ^ 24
      && (after .frzData (frozenS 0x0F)).tap.addr == 2 ^ 56 + 8) = true := by decide +kernel

/-! ## The register pages -/

/-- The scrubber's registers locked. -/
def locked1 : State := { demo.wr Reg.creelLock 1 with wot := [Reg.creelLock.key 0 0] }

theorem witness_RegisterPages :
    (let up (r : Req) (a : Nat) := demo.onBus r && !demo.outside r && !demo.inReset r && demo.mappedAt r a
     let ok (r : Req) (a : Nat) (p : Page) (i : Nat) := up r a && reqPage r a == some (p, i) && demo.enabledPage p i
     let sel := 0x1000000 + 0x3038
     let lock := locked1
     up .nalam 4 && (reqPage .nalam 0x7FFFFF8).isNone && up .nalam 0x7FFFFF8
       && ok .nalam (0x1010000 + 0x3038) .func 1 && foreign .nalam .func 1 0x3038
       && ok .nalam 0x403F00 .creel 0 && !foreign .nalam .creel 0 0x3F00 && !isReg .creel 0 0x3F00
       && ok .nalam sel .func 0 && !foreign .nalam .func 0 0x3038 && isReg .func 0 0x3038 && (fieldsAt .func 0 0x3038 8).all (fun x => !x.1.priv)
       && ok (.pf0 false) 0x400008 .creel 0 && !demo.privileged (.pf0 false) && (fieldsAt .creel 0 8 4).any (fun x => x.1.priv) && isReg .creel 0 8
       && (fieldsAt .creel 0 8 8).any (fun x => x.1.priv) && (let e : State := { demo with otp := { demo.otp with gradeE := true } }
           e.mappedAt .nalam 0x9F0000 && reqPage .nalam 0x9F0000 == some (.port, 63) && !e.enabledPage .port 63)
       && Reg.devGrade.acc == .ro && Reg.qpcRtoExpiries.acc == .rc && Reg.creelUeValid.acc == .w1c && Reg.creelPeriodMs.acc == .rwl
       && lock.locked Reg.creelPeriodMs && !demo.locked Reg.creelPeriodMs
       && Reg.creelLock.acc == .wot && lock.wot.contains (Reg.creelLock.key 0 0) && !demo.wot.contains (Reg.creelLock.key 0 0) && demo.ctl.set == [] && demo.ctl.next == []
       && (after (.registerWrite .nalam 0x400008 8 0) demo).wot == [Reg.creelLock.key 0 0]
       && Reg.fnCtrSel.acc == .rw && Reg.fnXarg.acc == .wo && bit 5 0 && !bit 5 1 && demo.tablesWf && Reg.fnCtrSel.key 1 0 != Reg.fnCtrSel.key 0 0) = true := by
  decide +kernel

theorem test_registers :
    ((after (.registerWrite .nalam 0x1003038 8 77) demo).rd Reg.fnCtrSel == 77
      && (after (.registerWrite .nalam 0x1003038 2 77) demo).rd Reg.fnRefused == 1
      && (after (.registerWrite (.pf0 false) 0x400008 8 (20 * 256)) demo).rd Reg.creelPeriodMs == 80
      && (after (.registerWrite (.pf0 false) 0x400008 8 (20 * 256)) demo).rd Reg.fnPrivDenied == 1
      && (after (.registerWrite .nalam 0x400008 8 (20 * 256)) demo).rd Reg.creelPeriodMs == 20
      && (after (.registerWrite .nalam 0x400008 8 (20 * 256)) locked1).rd Reg.fnLockViolation == 1
      && (after (.counterReadClear .nalam 0xA00090) (demo.wr Reg.qpcRtoExpiries 6)).rd Reg.qpcRtoExpiries == 0
      && (after (.counterReadClear .nalam 0xA00090) (demo.wr Reg.qpcRtoExpiries 6)).out == [.read 0xA00090 6]) = true := by decide +kernel

/-! ## The machine as a whole -/

/-- A step from a state that meets the invariants gives a next state. -/
theorem witness_StepKeeps :
    (let s := { demo with pending := [.ctrVal 1 77] }
     let t := match step s with
       | .next t => some t
       | _ => none
     s.memWf && s.tablesWf && t.any (fun t => t.memWf && t.tablesWf && t.ctrGet 1 0 == 77 && t.otp == s.otp && t.pending == [])) = true := by
  decide +kernel

/-- The commands of NoCommandStops: any but RAIL_FAULT, which stops while PERST_N is released alone. -/
theorem witness_NoCommandStops :
    (Instr.remask != .railFault .vddCore && runs .remask demo && runs (.railFault .vddCore) State.reset && !runs (.railFault .vddCore) demo) = true := by
  decide +kernel

end Sys2Proof.Tests
end

/-! # Every step keeps the tables in canonical form

One lemma for each operation of the model, in the order of the model's text: the operation keeps `State.tablesWf`. What it
does beyond the seven tables plays no part, so a proof names the operations it is made of, and both sides of every choice. -/

namespace Sys2Proof.Machine
open Sys2Proof

/-! ## The canonical form, table by table -/

/-- The seven tables of the canonical form. -/
theorem State.tablesWf_iff {s : State} : s.tablesWf ↔ rising s.regs ∧ Sparse.wf {} s.tags ∧ Sparse.wf 0 s.ctrs ∧
    Sparse.wf 0 s.flights ∧ Sparse.wf ({}, {}) s.rots ∧ Sparse.wf 0 s.winGens ∧ Sparse.wf 0 s.evictions := by
  simp only [State.tablesWf, Bool.and_eq_true, and_assoc]

/-- Forgetting keys keeps the others rising. -/
theorem rising_filter {α : Type} (m : List (Nat × α)) (c : Nat × α → Bool) (h : rising m) : rising (m.filter c) := by
  induction m with
  | nil => exact h
  | cons q m ih =>
    simp only [rising, Bool.and_eq_true, List.all_eq_true, decide_eq_true_eq] at h
    obtain ⟨hq, hm⟩ := h
    rw [List.filter_cons]
    split
    · simp only [rising, Bool.and_eq_true, List.all_eq_true, decide_eq_true_eq]
      exact ⟨fun p hp => hq p (List.mem_of_mem_filter hp), ih hm⟩
    · exact ih hm

/-- A run of writes keeps keys rising. -/
theorem rising_setAll (l m : List (Nat × Nat)) (h : rising m) :
    rising (l.foldl (fun m q => Sparse.set 0 m q.1 q.2) m) := by
  induction l generalizing m with
  | nil => exact h
  | cons q l ih => exact ih _ (rising_set 0 m q.1 q.2 h)

/-! ## The shapes of a command: a choice, a run of steps, a pair, an option -/

/-- Both sides of a choice in canonical form, whichever is taken. -/
theorem ite_tablesWf {c : Prop} [Decidable c] {t u : State} (ht : t.tablesWf) (hu : u.tablesWf) :
    (if c then t else u).tablesWf := by split <;> assumption

/-- The same for an answer that carries a state. -/
theorem ite_snd_tablesWf {α : Type} {c : Prop} [Decidable c] {p q : α × State} (hp : p.2.tablesWf) (hq : q.2.tablesWf) :
    (if c then p else q).2.tablesWf := by split <;> assumption

/-- A run of steps that each keep the canonical form keeps it. -/
theorem foldl_tablesWf {α : Type} {g : State → α → State} {l : List α} {s : State}
    (hg : ∀ u, u.tablesWf → ∀ a, (g u a).tablesWf) (h : s.tablesWf) : (l.foldl g s).tablesWf := by
  induction l generalizing s with
  | nil => exact h
  | cons a l ih => exact ih (hg s h a)

/-- The same for steps that carry an answer along. -/
theorem foldl_snd_tablesWf {α β : Type} {g : β × State → α → β × State} {l : List α} {p : β × State}
    (hg : ∀ p, p.2.tablesWf → ∀ a, (g p a).2.tablesWf) (h : p.2.tablesWf) : (l.foldl g p).2.tablesWf := by
  induction l generalizing p with
  | nil => exact h
  | cons a l ih => exact ih (hg p h a)

/-- The state of an answer taken apart. -/
theorem snd_tablesWf {α : Type} {p : α × State} {a : α} {u : State} (e : p = (a, u)) (h : p.2.tablesWf) : u.tablesWf := by
  subst e; exact h

/-- The state of a threefold answer taken apart. -/
theorem snd_snd_tablesWf {α β : Type} {p : α × β × State} {a : α} {b : β} {u : State} (e : p = (a, b, u))
    (h : p.2.2.tablesWf) : u.tablesWf := by subst e; exact h

/-- The state of a fourfold answer taken apart. -/
theorem snd_snd_snd_tablesWf {α β γ : Type} {p : α × β × γ × State} {a : α} {b : β} {c : γ} {u : State}
    (e : p = (a, b, c, u)) (h : p.2.2.2.tablesWf) : u.tablesWf := by subst e; exact h

/-! ## Named operations over State: fields, hosts, lock counters, events and traps (R10, R191, R260, R281, R377) -/

theorem State.wr_tablesWf {s : State} {f : Fld} {v i j : Nat} (h : s.tablesWf) : (s.wr f v i j).tablesWf := by
  obtain ⟨hregs, hrest⟩ := tablesWf_iff.1 h
  exact tablesWf_iff.2 ⟨rising_set _ _ _ _ hregs, hrest⟩

theorem State.noteWas_tablesWf {s : State} {f : Fld} {i j : Nat} (h : s.tablesWf) : (s.noteWas f i j).tablesWf := by
  unfold State.noteWas
  exact ite_tablesWf h h

theorem State.bump_tablesWf {s : State} {f : Fld} {i n j : Nat} (h : s.tablesWf) : (s.bump f i n j).tablesWf :=
  wr_tablesWf (noteWas_tablesWf h)

theorem State.flag_tablesWf {s : State} {f : Fld} {i : Nat} (h : s.tablesWf) : (s.flag f i).tablesWf := by
  unfold State.flag
  extract_lets s1
  have hs1 : s1.tablesWf := wr_tablesWf h
  clear_value s1
  exact hs1

theorem State.capture_tablesWf {s : State} {valid : Fld} {vs : List (Fld × Nat)} {i : Nat} (h : s.tablesWf) :
    (s.capture valid vs i).tablesWf := by
  unfold State.capture
  exact ite_tablesWf h (flag_tablesWf (foldl_tablesWf (fun _ hs _ => wr_tablesWf hs) h))

theorem State.updFn_tablesWf {s : State} {f : Nat} {g : Func → Func} (h : s.tablesWf) : (s.updFn f g).tablesWf := h

/-- The Nalam core is no table. -/
theorem State.nalam_tablesWf {s : State} {n : Nalam} (h : s.tablesWf) : { s with nalam := n }.tablesWf := h

/-- The bytes of the tiles are no table. -/
theorem State.tiles_tablesWf {s : State} {m : List (Nat × Byte)} (h : s.tablesWf) : { s with tiles := m }.tablesWf := h

theorem State.updSpin_tablesWf {s : State} {j : Nat} {g : Spindle → Spindle} (h : s.tablesWf) :
    (s.updSpin j g).tablesWf :=
  h

theorem State.updRound_tablesWf {s : State} {f r : Nat} {g : Round → Round} (h : s.tablesWf) :
    (s.updRound f r g).tablesWf :=
  h

theorem State.updQp_tablesWf {s : State} {n : Nat} {g : Qp → Qp} (h : s.tablesWf) : (s.updQp n g).tablesWf := h

theorem State.draw_tablesWf {s : State} (h : s.tablesWf) : s.draw.2.tablesWf := h

theorem State.emit_tablesWf {s : State} {o : Out} (h : s.tablesWf) : (s.emit o).tablesWf := h

theorem State.hostPut_tablesWf {s : State} {f a : Nat} {bs : Bytes} (h : s.tablesWf) :
    (s.hostPut f a bs).tablesWf := by
  unfold State.hostPut
  exact ite_tablesWf h (ite_tablesWf h (updFn_tablesWf h))

theorem State.sendVec_tablesWf {s : State} {f v : Nat} (h : s.tablesWf) : (s.sendVec f v).tablesWf := by
  unfold State.sendVec
  exact ite_tablesWf h (ite_tablesWf (wr_tablesWf h) (emit_tablesWf h))

/-- A device counter takes a value, or none does. -/
theorem State.ctrs_set_tablesWf {s : State} {d v : Nat} (h : s.tablesWf) :
    { s with ctrs := Sparse.set 0 s.ctrs d v }.tablesWf := by
  obtain ⟨hregs, htags, hctrs, hrest⟩ := tablesWf_iff.1 h
  exact tablesWf_iff.2 ⟨hregs, htags, Sparse.set_wf _ _ _ _ hctrs, hrest⟩

theorem State.ctrPut_tablesWf {s : State} {f c v : Nat} (h : s.tablesWf) : (s.ctrPut f c v).tablesWf := by
  unfold State.ctrPut
  split
  · exact ctrs_set_tablesWf h
  · exact h

theorem State.ctrNote_tablesWf {s : State} {f c : Nat} {g : CtrCyc → CtrCyc} (h : s.tablesWf) :
    (s.ctrNote f c g).tablesWf := by
  unfold State.ctrNote
  split <;> exact h

theorem State.ctrSettle_tablesWf {s : State} {f c : Nat} (h : s.tablesWf) : (s.ctrSettle f c).tablesWf := by
  unfold State.ctrSettle
  split
  · exact ctrPut_tablesWf h
  · exact h

theorem State.ctrAdd_tablesWf {s : State} {f c v : Nat} (h : s.tablesWf) : (s.ctrAdd f c v).tablesWf :=
  ctrPut_tablesWf (ctrNote_tablesWf h)

theorem State.ctrRaise_tablesWf {s : State} {f c v : Nat} (h : s.tablesWf) : (s.ctrRaise f c v).tablesWf :=
  ctrSettle_tablesWf (ctrNote_tablesWf h)

theorem State.ctrWrite_tablesWf {s : State} {f c v : Nat} (h : s.tablesWf) : (s.ctrWrite f c v).tablesWf :=
  ctrSettle_tablesWf (ctrNote_tablesWf h)

theorem State.ctrForce_tablesWf {s : State} {d v : Nat} (h : s.tablesWf) : (s.ctrForce d v).tablesWf :=
  ctrs_set_tablesWf (s := s) (d := d) (v := v) h

theorem State.evtShift_tablesWf {s : State} {f h k : Nat} (hs : s.tablesWf) : (s.evtShift f h k).tablesWf := by
  unfold State.evtShift
  refine foldl_tablesWf ?_ hs
  intro u hu _
  extract_lets
  exact hostPut_tablesWf hu

theorem State.evtNotify_tablesWf {s : State} {f : Nat} (h : s.tablesWf) : (s.evtNotify f).tablesWf := by
  unfold State.evtNotify
  exact ite_tablesWf h (sendVec_tablesWf (updFn_tablesWf h))

theorem State.evtWindow_tablesWf {s : State} {f code obj now : Nat} (h : s.tablesWf) :
    (s.evtWindow f code obj now).tablesWf :=
  updFn_tablesWf h

theorem State.evtWrite_tablesWf {s : State} {f code kind obj aux reps : Nat} {fatal : Bool} {now : Nat}
    (h : s.tablesWf) : (s.evtWrite f code kind obj aux reps fatal now).tablesWf := by
  unfold State.evtWrite
  extract_lets _ _ _ s1
  have hs1 : s1.tablesWf := hostPut_tablesWf (evtShift_tablesWf h)
  exact evtNotify_tablesWf (evtWindow_tablesWf (wr_tablesWf hs1))

theorem State.evtLose_tablesWf {s : State} {f code obj : Nat} (h : s.tablesWf) : (s.evtLose f code obj).tablesWf :=
  updFn_tablesWf (bump_tablesWf h)

theorem State.evtOverwrite_tablesWf {s : State} {f code kind obj aux reps now : Nat} (h : s.tablesWf) :
    (s.evtOverwrite f code kind obj aux reps now).tablesWf := by
  unfold State.evtOverwrite
  extract_lets _ s1
  have hs1 : s1.tablesWf := hostPut_tablesWf h
  exact evtNotify_tablesWf (evtWindow_tablesWf (bump_tablesWf hs1))

theorem State.raiseAt_tablesWf {s : State} {now f code kind obj aux : Nat} {fatal : Bool} (h : s.tablesWf) :
    (s.raiseAt now f code kind obj aux fatal).tablesWf := by
  unfold State.raiseAt
  refine ite_tablesWf h (ite_tablesWf (updFn_tablesWf h) ?_)
  extract_lets
  exact ite_tablesWf (updFn_tablesWf h) (ite_tablesWf (evtLose_tablesWf h) (ite_tablesWf (ite_tablesWf
      (evtOverwrite_tablesWf h) (evtLose_tablesWf h)) (evtWrite_tablesWf h)))

theorem State.raise_tablesWf {s : State} {f code kind obj aux : Nat} {fatal : Bool} (h : s.tablesWf) :
    (s.raise f code kind obj aux fatal).tablesWf :=
  raiseAt_tablesWf h

theorem State.raiseAll_tablesWf {s : State} {fs : List Nat} {code kind obj : Nat} {fatal : Bool} (h : s.tablesWf) :
    (s.raiseAll fs code kind obj fatal).tablesWf :=
  foldl_tablesWf (fun _ hs _ => raise_tablesWf hs) h

theorem State.raiseOwn_tablesWf {s : State} {f code kind obj : Nat} (h : s.tablesWf) :
    (s.raiseOwn f code kind obj).tablesWf := by
  unfold State.raiseOwn
  exact ite_tablesWf (raise_tablesWf h) (raise_tablesWf (raise_tablesWf h))

theorem State.raiseTrap_tablesWf {s : State} {j code tile : Nat} (h : s.tablesWf) :
    (s.raiseTrap j code tile).tablesWf := by
  unfold State.raiseTrap
  split
  · exact h
  · exact ite_tablesWf (raiseOwn_tablesWf h) (raise_tablesWf h)

theorem State.settleBusy_tablesWf {s : State} {f : Nat} (h : s.tablesWf) : (s.settleBusy f).tablesWf := by
  unfold State.settleBusy
  exact ite_tablesWf h (wr_tablesWf (wr_tablesWf h))

theorem State.trap_tablesWf {s : State} {j code : Nat} {precise : Bool} {pc : Nat} {insn : Word}
    {step tile qreg : Nat} (h : s.tablesWf) : (s.trap j code precise pc insn step tile qreg).tablesWf := by
  unfold State.trap
  extract_lets _ _ _ _ s1
  have hs1 : s1.tablesWf := updSpin_tablesWf h
  exact settleBusy_tablesWf (raiseTrap_tablesWf hs1)

theorem State.trapLate_tablesWf {s : State} {j code id pc : Nat} {insn : Word} {step tile qreg : Nat} (h : s.tablesWf)
    : (s.trapLate j code id pc insn step tile qreg).tablesWf := by
  unfold State.trapLate
  extract_lets s0
  have hs0 : s0.tablesWf := updSpin_tablesWf h
  exact ite_tablesWf (updSpin_tablesWf hs0) (trap_tablesWf hs0)

theorem State.accErr_tablesWf {s : State} {r : Req} {code off : Nat} (h : s.tablesWf) :
    (s.accErr r code off).tablesWf := by
  unfold State.accErr
  extract_lets
  exact raise_tablesWf (capture_tablesWf (flag_tablesWf h))

theorem State.funcCmd_tablesWf {s : State} {f : Nat} {g : Fld} {j : Nat} {body : State → State} (h : s.tablesWf)
    (hbody : ∀ u, u.tablesWf → (body u).tablesWf) : (s.funcCmd f g j body).tablesWf := by
  unfold State.funcCmd
  exact ite_tablesWf (hbody _ h) (ite_tablesWf (accErr_tablesWf h) h)

/-! ## Issue and the unit queues (R187 to R190) -/

theorem State.advance_tablesWf {s : State} {j : Nat} (h : s.tablesWf) : (s.advance j).tablesWf := updSpin_tablesWf h

theorem State.trapHere_tablesWf {s : State} {j code w tile qreg : Nat} (h : s.tablesWf) :
    (s.trapHere j code w tile qreg).tablesWf :=
  trap_tablesWf h

theorem State.issue_tablesWf {s : State} {j : Nat} {key : Nat × Nat × Nat} {body : Nat → Nat → State → State}
    (h : s.tablesWf) (hbody : ∀ x0 x1 u2, u2.tablesWf → (body x0 x1 u2).tablesWf) :
    (s.issue j key body).tablesWf := by
  unfold State.issue
  refine ite_tablesWf h ?_
  extract_lets
  split
  · exact trapHere_tablesWf h
  · split
    · exact trapHere_tablesWf h
    · exact ite_tablesWf h (ite_tablesWf (advance_tablesWf h) (ite_tablesWf h (hbody _ _ _ h)))

theorem State.enqueue_tablesWf {s : State} {j w : Nat} {e : UnitEntry} (h : s.tablesWf) :
    (s.enqueue j w e).tablesWf :=
  advance_tablesWf (updSpin_tablesWf h)

/-! ## Tiles, tags, checksums, staging and flights (R49 to R71, R148) -/

theorem State.setTag_tablesWf {s : State} {t : Nat} {g : TileTag} (h : s.tablesWf) : (s.setTag t g).tablesWf := by
  obtain ⟨hregs, htags, hrest⟩ := tablesWf_iff.1 h
  exact tablesWf_iff.2 ⟨hregs, Sparse.set_wf _ _ _ _ htags, hrest⟩

theorem State.putFarPage_tablesWf {s : State} {t p : Nat} {bs : Bytes} (h : s.tablesWf) :
    (s.putFarPage t p bs).tablesWf := by
  unfold State.putFarPage
  extract_lets
  exact h

theorem State.setPage_tablesWf {s : State} {t p : Nat} {bs : Bytes} (h : s.tablesWf) :
    (s.setPage t p bs).tablesWf := by
  unfold State.setPage
  split
  · exact h
  · exact putFarPage_tablesWf h

theorem State.putFar_tablesWf {s : State} {t : Nat} {bs : Bytes} (h : s.tablesWf) : (s.putFar t bs).tablesWf :=
  foldl_tablesWf (fun _ hs _ => setPage_tablesWf hs) h

theorem State.putTile_tablesWf {s : State} {t off : Nat} {bs : Bytes} (h : s.tablesWf) :
    (s.putTile t off bs).tablesWf := by
  unfold State.putTile
  refine ite_tablesWf (foldl_tablesWf (fun _ hs _ => setPage_tablesWf hs) h) ?_
  extract_lets
  exact h

theorem State.setElem_tablesWf {s : State} {t eb i v : Nat} (h : s.tablesWf) : (s.setElem t eb i v).tablesWf :=
  putTile_tablesWf h

theorem State.addElems_tablesWf {s : State} {t eb m i : Nat} {l : List Nat} (h : s.tablesWf) :
    (s.addElems t eb m i l).tablesWf := by
  induction l generalizing s i with
  | nil =>
    unfold State.addElems
    exact h
  | cons x xs ih =>
    unfold State.addElems
    exact ih (setElem_tablesWf h)

theorem State.setElems_tablesWf {s : State} {t eb i : Nat} {l : List Nat} (h : s.tablesWf) :
    (s.setElems t eb i l).tablesWf := by
  induction l generalizing s i with
  | nil =>
    unfold State.setElems
    exact h
  | cons x xs ih =>
    unfold State.setElems
    exact ih (setElem_tablesWf h)

theorem State.zeroTile_tablesWf {s : State} {t : Nat} (h : s.tablesWf) : (s.zeroTile t).tablesWf := by
  unfold State.zeroTile
  exact ite_tablesWf (putFar_tablesWf h) h

theorem State.eccWord_tablesWf {s : State} {t w : Nat} {double : Bool} (h : s.tablesWf) :
    (s.eccWord t w double).tablesWf := by
  unfold State.eccWord
  extract_lets _ _ _ src src1
  have hsrc : src.tablesWf := bump_tablesWf h
  clear_value src
  have hsrc1 : src1.tablesWf := bump_tablesWf h
  clear_value src1
  exact ite_tablesWf (ite_tablesWf (raise_tablesWf (capture_tablesWf (bump_tablesWf h))) hsrc) (ite_tablesWf
      (raise_tablesWf (capture_tablesWf (bump_tablesWf h))) hsrc1)

theorem State.eccSpan_tablesWf {s : State} {t off n : Nat} (h : s.tablesWf) : (s.eccSpan t off n).tablesWf :=
  foldl_tablesWf (fun _ hs _ => eccWord_tablesWf hs) h

theorem State.eccTag_tablesWf {s : State} {t : Nat} (h : s.tablesWf) : (s.eccTag t).tablesWf := by
  unfold State.eccTag
  refine ite_tablesWf h (foldl_tablesWf ?_ h)
  intro u hu _
  extract_lets s1
  have hs1 : s1.tablesWf := eccWord_tablesWf hu
  clear_value s1
  exact ite_tablesWf hs1 hs1

theorem State.eccRead_tablesWf {s : State} {t : Nat} (h : s.tablesWf) : (s.eccRead t).tablesWf :=
  eccSpan_tablesWf (eccTag_tablesWf h)

theorem State.csumFail_tablesWf {s : State} {t src : Nat} (h : s.tablesWf) : (s.csumFail t src).tablesWf :=
  capture_tablesWf (raise_tablesWf h)

theorem State.verify_tablesWf {s : State} {t src : Nat} (h : s.tablesWf) : (s.verify t src).2.tablesWf := by
  unfold State.verify
  extract_lets s1
  have hs1 : s1.tablesWf := eccRead_tablesWf h
  exact ite_snd_tablesWf hs1 (csumFail_tablesWf hs1)

theorem State.verifyAll_tablesWf {s : State} {src : Nat} {l : List Nat} (h : s.tablesWf) :
    (s.verifyAll src l).2.tablesWf := by
  induction l generalizing s with
  | nil =>
    unfold State.verifyAll
    exact h
  | cons x xs ih =>
    unfold State.verifyAll
    split
    next s2 e =>
      have hs2 : s2.tablesWf := snd_tablesWf e (verify_tablesWf h)
      split
      next s21 e1 =>
        have hs21 : s21.tablesWf := snd_tablesWf e1 (ih hs2)
        exact hs21

/-- The flights of a list of tiles begin by a run of writes, which keeps the canonical form. -/
theorem flights_foldl_wf (now : Nat) (aloft : Nat → Bool) (ts : List Nat) (m : List (Nat × Nat)) (h : Sparse.wf 0 m) :
    Sparse.wf 0 (ts.foldl (fun m t => if aloft t then m else Sparse.set 0 m t (now + 1)) m) := by
  induction ts generalizing m with
  | nil => exact h
  | cons t ts ih =>
    refine ih _ ?_
    dsimp only
    split
    · exact h
    · exact Sparse.set_wf _ _ _ _ h

theorem State.takeOff_tablesWf {s : State} {ts : List Nat} (h : s.tablesWf) : (s.takeOff ts).tablesWf := by
  obtain ⟨hregs, htags, hctrs, hflights, hrest⟩ := tablesWf_iff.1 h
  exact tablesWf_iff.2 ⟨hregs, htags, hctrs, flights_foldl_wf _ _ ts _ hflights, hrest⟩

theorem State.rotated_tablesWf {s : State} {f : Nat} (h : s.tablesWf) : (s.rotated f).tablesWf := by
  unfold State.rotated
  exact ite_tablesWf (raise_tablesWf (wr_tablesWf (updFn_tablesWf h))) h

theorem State.rekeyPages_tablesWf {s : State} {t : Nat} {ps : List Nat} (h : s.tablesWf) :
    (s.rekeyPages t ps).tablesWf := by
  unfold State.rekeyPages
  refine ite_tablesWf h ?_
  extract_lets _ _ _ s1 s2
  have hs1 : s1.tablesWf := setTag_tablesWf h
  have hs2 : s2.tablesWf := foldl_tablesWf (fun _ hu _ => putFarPage_tablesWf hu) hs1
  exact rotated_tablesWf (wr_tablesWf hs2)

theorem State.farWritten_tablesWf {s : State} {t : Nat} (h : s.tablesWf) : (s.farWritten t).tablesWf :=
  rekeyPages_tablesWf h

theorem State.wrote_tablesWf {s : State} {t : Nat} (h : s.tablesWf) : (s.wrote t).tablesWf := by
  unfold State.wrote
  split
  · exact h
  · exact ite_tablesWf (rekeyPages_tablesWf h) h

theorem State.lockBytes_tablesWf {s : State} (h : s.tablesWf) : s.lockBytes.tablesWf :=
  foldl_tablesWf (fun _ hs _ => bump_tablesWf hs) h

theorem State.newEpoch_tablesWf {s : State} {t : Nat} (h : s.tablesWf) : (s.newEpoch t).tablesWf := by
  unfold State.newEpoch
  extract_lets
  exact wrote_tablesWf (setTag_tablesWf (zeroTile_tablesWf h))

theorem State.writeBack_tablesWf {s : State} {t : Nat} (h : s.tablesWf) : (s.writeBack t).tablesWf := by
  unfold State.writeBack
  split
  · exact h
  · refine ite_tablesWf h ?_
    split
    next s2 e =>
      have hs2 : s2.tablesWf := snd_tablesWf e (verify_tablesWf h)
      refine ite_tablesWf hs2 ?_
      extract_lets s21
      have hs21 : s21.tablesWf := farWritten_tablesWf (lockBytes_tablesWf (putFar_tablesWf hs2))
      clear_value s21
      exact hs21

theorem State.leaveSlot_tablesWf {s : State} {g : Staged} (h : s.tablesWf) : (s.leaveSlot g).tablesWf :=
  setTag_tablesWf h

theorem State.unstage_tablesWf {s : State} {t : Nat} (h : s.tablesWf) : (s.unstage t).tablesWf := by
  unfold State.unstage
  extract_lets s1
  have hs1 : s1.tablesWf := writeBack_tablesWf h
  split
  · exact hs1
  · extract_lets src
    have hsrc : src.tablesWf := leaveSlot_tablesWf hs1
    clear_value src
    exact hsrc

theorem State.discardStage_tablesWf {s : State} {t : Nat} (h : s.tablesWf) : (s.discardStage t).tablesWf := by
  unfold State.discardStage
  split
  · exact h
  · extract_lets src
    have hsrc : src.tablesWf := setTag_tablesWf (leaveSlot_tablesWf h)
    clear_value src
    exact hsrc

theorem State.pageBack_tablesWf {s : State} {g : PageCopy} (h : s.tablesWf) : (s.pageBack g).tablesWf := by
  unfold State.pageBack
  refine ite_tablesWf h ?_
  extract_lets s1
  have hs1 : s1.tablesWf := bump_tablesWf (putFarPage_tablesWf (rekeyPages_tablesWf h))
  clear_value s1
  exact hs1

theorem State.pagesBack_tablesWf {s : State} {t : Nat} (h : s.tablesWf) : (s.pagesBack t).tablesWf :=
  foldl_tablesWf (fun _ hs _ => pageBack_tablesWf hs) h

theorem State.pageOut_tablesWf {s : State} {g : PageCopy} (h : s.tablesWf) : (s.pageOut g).tablesWf := by
  unfold State.pageOut
  extract_lets s1
  have hs1 : s1.tablesWf := h
  exact ite_tablesWf hs1 (setTag_tablesWf hs1)

theorem State.dropPages_tablesWf {s : State} {t : Nat} (h : s.tablesWf) : (s.dropPages t).tablesWf := by
  unfold State.dropPages
  extract_lets s1
  have hs1 : s1.tablesWf := pagesBack_tablesWf h
  exact foldl_tablesWf (fun _ hs _ => pageOut_tablesWf hs) hs1

theorem State.flights_set_tablesWf {s : State} {t v : Nat} (h : s.tablesWf) :
    { s with flights := Sparse.set 0 s.flights t v }.tablesWf := by
  obtain ⟨hregs, htags, hctrs, hflights, hrest⟩ := tablesWf_iff.1 h
  exact tablesWf_iff.2 ⟨hregs, htags, hctrs, Sparse.set_wf _ _ _ _ hflights, hrest⟩

theorem State.land_tablesWf {s : State} {t : Nat} (h : s.tablesWf) : (s.land t).tablesWf := by
  unfold State.land
  extract_lets s1
  have hs1 : s1.tablesWf := ite_tablesWf (pagesBack_tablesWf h) h
  exact ite_tablesWf hs1 (flights_set_tablesWf hs1)

theorem State.zeroLz_tablesWf {s : State} {lz n : Nat} (h : s.tablesWf) : (s.zeroLz lz n).tablesWf := h

/-! ## Rounds: states, transitions and the status record (R80, R109, R205) -/

theorem State.putStatus_tablesWf {s : State} {f r : Nat} (h : s.tablesWf) : (s.putStatus f r).tablesWf := by
  unfold State.putStatus
  split
  · exact ite_tablesWf h (hostPut_tablesWf h)
  · exact h

theorem State.progress_tablesWf {s : State} {f r c : Nat} (h : s.tablesWf) : (s.progress f r c).tablesWf := by
  unfold State.progress
  extract_lets s1
  have hs1 : s1.tablesWf := updRound_tablesWf h
  split
  · exact ctrRaise_tablesWf hs1
  · exact hs1

theorem State.enter_tablesWf {s : State} {f r : Nat} {st : RState} (h : s.tablesWf) : (s.enter f r st).tablesWf :=
  putStatus_tablesWf (progress_tablesWf (updRound_tablesWf h))

theorem State.raiseOnce_tablesWf {s : State} {f r code : Nat} (h : s.tablesWf) : (s.raiseOnce f r code).tablesWf := by
  unfold State.raiseOnce
  split
  · exact h
  · exact ite_tablesWf h (updRound_tablesWf (raise_tablesWf h))

theorem State.count_tablesWf {s : State} {f r : Nat} {g : RoundCounts → RoundCounts} (h : s.tablesWf) :
    (s.count f r g).tablesWf :=
  updRound_tablesWf h

theorem State.post_tablesWf {s : State} {qpn : Nat} {owner : TxOwner} {data : Bytes} {write : Bool}
    {handle offset : Nat} (h : s.tablesWf) : (s.post qpn owner data write handle offset).tablesWf :=
  updQp_tablesWf h

theorem State.twrFail_tablesWf {s : State} {id cause : Nat} (h : s.tablesWf) : (s.twrFail id cause).tablesWf := by
  unfold State.twrFail
  split
  · exact h
  · extract_lets s1
    have hs1 : s1.tablesWf := ite_tablesWf (updRound_tablesWf h) h
    clear_value s1
    exact raise_tablesWf hs1

theorem State.twrFailRound_tablesWf {s : State} {f r cause : Nat} (h : s.tablesWf) :
    (s.twrFailRound f r cause).tablesWf :=
  foldl_tablesWf (fun _ hs _ => twrFail_tablesWf hs) h

theorem State.abandon_tablesWf {s : State} {f r code : Nat} (h : s.tablesWf) : (s.abandon f r code).tablesWf := by
  unfold State.abandon
  split
  · exact h
  · refine ite_tablesWf h ?_
    extract_lets s1 s2 s3 s4 s5 _ s6 s7
    have hs1 : s1.tablesWf := twrFailRound_tablesWf h
    clear_value s1
    have hs2 : s2.tablesWf := hs1
    have hs3 : s3.tablesWf := foldl_tablesWf (fun _ hs _ => newEpoch_tablesWf hs) hs2
    have hs4 : s4.tablesWf := zeroLz_tablesWf hs3
    have hs5 : s5.tablesWf := updRound_tablesWf hs4
    clear_value s5
    have hs6 : s6.tablesWf := hs5
    have hs7 : s7.tablesWf := ite_tablesWf (bump_tablesWf hs6) hs6
    exact enter_tablesWf hs7

theorem State.abandonAll_tablesWf {s : State} {f code : Nat} {p : Round → Bool} (h : s.tablesWf) :
    (s.abandonAll f code p).tablesWf :=
  foldl_tablesWf (fun _ hs _ => abandon_tablesWf hs) h

theorem State.slotDone_tablesWf {s : State} {f r slot lz : Nat} {scaled : Bool} (h : s.tablesWf) :
    (s.slotDone f r slot lz scaled).tablesWf := by
  unfold State.slotDone
  split
  · exact h
  · extract_lets s1
    have hs1 : s1.tablesWf := updRound_tablesWf h
    exact ite_tablesWf (raiseOnce_tablesWf hs1) hs1

theorem State.rejectMsg_tablesWf {s : State} {f r slot lz code : Nat} (h : s.tablesWf) :
    (s.rejectMsg f r slot lz code).tablesWf :=
  raiseOnce_tablesWf (updRound_tablesWf h)

theorem State.dropLeaves_tablesWf {s : State} {f : Nat} {gone : Nat → Bool} (h : s.tablesWf) :
    (s.dropLeaves f gone).tablesWf :=
  h

/-! ## Unmasking (R93 to R99) -/

theorem State.loadShareModulus_tablesWf {s : State} {mode : Nat} (h : s.tablesWf) :
    (s.loadShareModulus mode).tablesWf :=
  h

theorem State.addTile_tablesWf {s : State} {t eb m : Nat} {ds : List Nat} (h : s.tablesWf) :
    (s.addTile t eb m ds).tablesWf := by
  unfold State.addTile
  extract_lets
  exact wrote_tablesWf (setTag_tablesWf (addElems_tablesWf h))

theorem State.addLogical_tablesWf {s : State} {r : Round} {l : Nat} {d : Nat → ℤ} (h : s.tablesWf) :
    (s.addLogical r l d).tablesWf := by
  unfold State.addLogical
  extract_lets
  split
  · exact h
  · exact addTile_tablesWf h

theorem State.addRound_tablesWf {s : State} {r : Round} {d : Nat → ℤ} (h : s.tablesWf) : (s.addRound r d).tablesWf :=
  foldl_tablesWf (fun _ hs _ => addLogical_tablesWf hs) h

theorem State.expand0_tablesWf {s : State} {r : Round} {owner kind secret : Nat} (h : s.tablesWf) :
    (s.expand0 r owner kind secret).tablesWf := by
  unfold State.expand0
  extract_lets
  refine ite_tablesWf (addRound_tablesWf h) (foldl_tablesWf ?_ h)
  intro u hu _
  extract_lets
  exact ite_tablesWf (addRound_tablesWf hu) (addRound_tablesWf hu)

theorem State.expandBlock_tablesWf {s : State} {r : Round} {tag : Nat} {sigma : List Nat} {b : Nat} (h : s.tablesWf) :
    (s.expandBlock r tag sigma b).tablesWf := by
  unfold State.expandBlock
  extract_lets
  split
  · exact h
  · extract_lets _ s1
    have hs1 : s1.tablesWf := addElems_tablesWf h
    exact wrote_tablesWf (setTag_tablesWf hs1)

/-! ## Leaving CLOSED (R96, R172, R294) -/

theorem State.gateChecks_tablesWf {s : State} {f r : Nat} (h : s.tablesWf) : (s.gateChecks f r).tablesWf := by
  unfold State.gateChecks
  split
  · exact h
  · refine ite_tablesWf (abandon_tablesWf h) (ite_tablesWf (abandon_tablesWf h) ?_)
    extract_lets
    exact progress_tablesWf (updRound_tablesWf h)

theorem State.toGated_tablesWf {s : State} {f r : Nat} (h : s.tablesWf) : (s.toGated f r).tablesWf := by
  unfold State.toGated
  extract_lets s1
  have hs1 : s1.tablesWf := enter_tablesWf (updRound_tablesWf h)
  split
  · exact hs1
  · refine ite_tablesWf ?_ (gateChecks_tablesWf hs1)
    extract_lets
    exact emit_tablesWf (updRound_tablesWf hs1)

theorem State.toUnmask_tablesWf {s : State} {f r : Nat} (h : s.tablesWf) : (s.toUnmask f r).tablesWf := by
  unfold State.toUnmask
  extract_lets s1 s2
  have hs1 : s1.tablesWf := updRound_tablesWf h
  have hs2 : s2.tablesWf := enter_tablesWf hs1
  split
  · exact hs2
  · exact emit_tablesWf hs2

theorem State.sealTiles_tablesWf {s : State} {ts : List Nat} (h : s.tablesWf) : (s.sealTiles ts).tablesWf :=
  foldl_tablesWf (fun _ hs _ => setTag_tablesWf hs) h

theorem State.masksCancelled_tablesWf {s : State} {f r : Nat} (h : s.tablesWf) : (s.masksCancelled f r).tablesWf := by
  unfold State.masksCancelled
  split
  · exact h
  · exact ite_tablesWf (toGated_tablesWf (sealTiles_tablesWf h)) h

theorem State.stairCheck_tablesWf {s : State} {f r : Nat} (h : s.tablesWf) : (s.stairCheck f r).tablesWf := by
  unfold State.stairCheck
  split
  · exact h
  · refine ite_tablesWf h (ite_tablesWf (abandon_tablesWf h) ?_)
    extract_lets s1
    have hs1 : s1.tablesWf := updRound_tablesWf h
    refine ite_tablesWf hs1 ?_
    split
    · exact ctrAdd_tablesWf hs1
    · exact hs1

theorem State.settleIfFull_tablesWf {s : State} {f r : Nat} (h : s.tablesWf) : (s.settleIfFull f r).tablesWf := by
  unfold State.settleIfFull
  split
  · exact h
  · exact ite_tablesWf (stairCheck_tablesWf (updRound_tablesWf h)) h

theorem State.recordDone_tablesWf {s : State} {f r : Nat} {credit : Nat × Nat} (h : s.tablesWf) :
    (s.recordDone f r credit).tablesWf :=
  settleIfFull_tablesWf (updRound_tablesWf (ctrAdd_tablesWf h))

theorem State.dropRoundKeys_tablesWf {s : State} {f r : Nat} (h : s.tablesWf) : (s.dropRoundKeys f r).tablesWf :=
  updRound_tablesWf h

theorem State.leaveClosed_tablesWf {s : State} {f r : Nat} (h : s.tablesWf) : (s.leaveClosed f r).tablesWf := by
  unfold State.leaveClosed
  split
  · exact h
  · refine ite_tablesWf h ?_
    extract_lets s1
    have hs1 : s1.tablesWf := dropRoundKeys_tablesWf h
    exact ite_tablesWf (masksCancelled_tablesWf (toUnmask_tablesWf hs1)) (toGated_tablesWf hs1)

theorem State.candidatesResolved_tablesWf {s : State} {f r : Nat} (h : s.tablesWf) :
    (s.candidatesResolved f r).tablesWf := by
  unfold State.candidatesResolved
  refine ite_tablesWf h ?_
  extract_lets s1
  have hs1 : s1.tablesWf := by
    unfold s1
    split
    · exact ite_tablesWf (updRound_tablesWf h) h
    · exact h
  exact leaveClosed_tablesWf (stairCheck_tablesWf (settleIfFull_tablesWf hs1))

theorem State.released_tablesWf {s : State} {f r : Nat} (h : s.tablesWf) : (s.released f r).tablesWf :=
  enter_tablesWf (dropRoundKeys_tablesWf h)

/-! ## Messages of the ply (R302 to R304) -/

theorem State.plySend_tablesWf {s : State} {f type code round : Nat} {body : Bytes} (h : s.tablesWf) :
    (s.plySend f type code round body).tablesWf := by
  unfold State.plySend
  split
  · exact h
  · extract_lets _ _ _ s1
    have hs1 : s1.tablesWf := h
    exact bump_tablesWf (post_tablesWf hs1)

theorem State.mirror_tablesWf {s : State} {r : Round} {type : Nat} {body : Bytes} (h : s.tablesWf) :
    (s.mirror r type body).tablesWf := by
  unfold State.mirror
  exact ite_tablesWf (plySend_tablesWf h) h

theorem State.mirrorAgain_tablesWf {s : State} {r : Round} {type : Nat} {body : Bytes} (h : s.tablesWf) :
    (s.mirrorAgain r type body).tablesWf := by
  unfold State.mirrorAgain
  split
  · exact h
  · extract_lets
    exact updQp_tablesWf h

theorem State.verdict_tablesWf {s : State} {f round code : Nat} (h : s.tablesWf) :
    (s.verdict f round code).tablesWf :=
  plySend_tablesWf h

/-! ## Messages of a round (R83 to R91, R213) -/

theorem State.place_tablesWf {s : State} {lz : Nat} {msg : Bytes} (h : s.tablesWf) : (s.place lz msg).tablesWf := h

theorem State.refuseMsg_tablesWf {s : State} {f r code : Nat} {g : RoundCounts → RoundCounts} (h : s.tablesWf) :
    (s.refuseMsg f r code g).tablesWf :=
  raiseOnce_tablesWf (count_tablesWf h)

theorem State.takeLate_tablesWf {s : State} {f r : Nat} {m : Msg} (h : s.tablesWf) : (s.takeLate f r m).tablesWf := by
  unfold State.takeLate
  split
  · exact h
  · extract_lets
    exact ite_tablesWf (updRound_tablesWf h) (ite_tablesWf (mirrorAgain_tablesWf (updRound_tablesWf h))
        (updRound_tablesWf h))

theorem State.dedup_tablesWf {s : State} {f r : Nat} {m : Msg} (h : s.tablesWf) : (s.dedup f r m).tablesWf := by
  unfold State.dedup
  split
  · exact h
  · extract_lets _ _ s0 s1
    have hs0 : s0.tablesWf := updRound_tablesWf h
    have hs1 : s1.tablesWf := ite_tablesWf (takeLate_tablesWf hs0) (updRound_tablesWf hs0)
    split
    · exact refuseMsg_tablesWf h
    · exact ite_tablesWf (updRound_tablesWf h) (refuseMsg_tablesWf h)
    · exact ite_tablesWf (refuseMsg_tablesWf h) (ite_tablesWf (verdict_tablesWf hs1) hs1)

theorem State.queueRecovery_tablesWf {s : State} {f r : Nat} {m : Msg} {msg : Bytes} (h : s.tablesWf) :
    (s.queueRecovery f r m msg).tablesWf := by
  unfold State.queueRecovery
  split
  · exact h
  · exact ite_tablesWf (refuseMsg_tablesWf h) (mirror_tablesWf (updRound_tablesWf h))

theorem State.message_tablesWf {s : State} {f : Nat} {bound window mirrored : Bool} {lz : Nat} {msg : Bytes}
    (h : s.tablesWf) : (s.message f bound window mirrored lz msg).tablesWf := by
  unfold State.message
  extract_lets hd named s1
  have hs1 : s1.tablesWf := place_tablesWf h
  clear_value named
  split
  · split
    · exact refuseMsg_tablesWf h
    · exact raise_tablesWf h
  · split
    · exact raise_tablesWf (bump_tablesWf h)
    · exact ite_tablesWf h (ite_tablesWf (refuseMsg_tablesWf h) (ite_tablesWf (refuseMsg_tablesWf h)
        (ite_tablesWf (queueRecovery_tablesWf hs1) (dedup_tablesWf hs1))))

theorem State.complete_tablesWf {s : State} {f : Nat} {qp : Option Nat} {lz : Nat} {msg : Bytes} (h : s.tablesWf) :
    (s.complete f qp lz msg).tablesWf := by
  unfold State.complete
  exact ite_tablesWf h (message_tablesWf h)

theorem State.report_tablesWf {s : State} {j w code : Nat} {op : UOp} {writes : List (Nat × Bytes)}
    {qdst : Option (Nat × Nat)} (h : s.tablesWf) : (s.report j w code op writes qdst).tablesWf :=
  enqueue_tablesWf h

theorem State.takeD_tablesWf {s : State} {j : Nat} (h : s.tablesWf) : (s.takeD j).tablesWf := by
  unfold State.takeD
  refine issue_tablesWf h ?_
  intro _ _ u hu
  extract_lets
  refine ite_tablesWf (trapHere_tablesWf hu) ?_
  split
  · exact report_tablesWf hu
  · extract_lets idle
    have hidle : idle.tablesWf := report_tablesWf hu
    refine ite_tablesWf hidle ?_
    split
    · exact report_tablesWf (updRound_tablesWf hu)
    · exact ite_tablesWf hidle (updSpin_tablesWf hu)

theorem State.takeS_tablesWf {s : State} {j : Nat} (h : s.tablesWf) : (s.takeS j).tablesWf := by
  unfold State.takeS
  refine issue_tablesWf h ?_
  intro _ _ u hu
  extract_lets
  split
  · exact report_tablesWf hu
  · exact report_tablesWf (putStatus_tablesWf hu)

theorem State.abandonCmd_tablesWf {s : State} {f r code : Nat} (h : s.tablesWf) :
    (s.abandonCmd f r code).tablesWf := by
  unfold State.abandonCmd
  split
  · exact h
  · exact ite_tablesWf h (ite_tablesWf (updRound_tablesWf h) (abandon_tablesWf h))

theorem State.takeA_tablesWf {s : State} {j : Nat} (h : s.tablesWf) : (s.takeA j).tablesWf := by
  unfold State.takeA
  refine issue_tablesWf h ?_
  intro _ _ u hu
  extract_lets
  split
  · exact report_tablesWf hu
  · exact ite_tablesWf (report_tablesWf hu) (report_tablesWf (abandonCmd_tablesWf hu))

/-! ## Mode 2 on a message (R102, R103, R161) -/

theorem State.updLive_tablesWf {s : State} {f r lz : Nat} {g : Msg → Msg} (h : s.tablesWf) :
    (s.updLive f r lz g).tablesWf :=
  updRound_tablesWf h

theorem State.unseal_tablesWf {s : State} {x : Round} {m : Msg} (h : s.tablesWf) : (s.unseal x m).2.tablesWf := by
  unfold State.unseal
  split
  · exact h
  · extract_lets key iv aad ct s1
    have hs1 : s1.tablesWf := tiles_tablesWf h
    exact ite_snd_tablesWf h (ite_snd_tablesWf hs1 (ite_snd_tablesWf hs1 (updLive_tablesWf hs1)))

theorem State.clipMsg_tablesWf {s : State} {x : Round} {m : Msg} (h : s.tablesWf) : (s.clipMsg x m).tablesWf := by
  unfold State.clipMsg
  extract_lets _ _ s1
  have hs1 : s1.tablesWf := foldl_tablesWf (fun _ hs _ => hs) h
  exact ite_tablesWf (updLive_tablesWf hs1) (updLive_tablesWf h)

theorem State.sealed2_tablesWf {s : State} {x : Round} {m : Msg} {clip : Bool} (h : s.tablesWf) :
    (s.sealed2 x m clip).2.tablesWf := by
  unfold State.sealed2
  extract_lets s0
  have hs0 : s0.tablesWf := eccSpan_tablesWf h
  split
  next s1 e =>
    have hs1 : s1.tablesWf := snd_tablesWf e (ite_snd_tablesWf hs0 (unseal_tablesWf hs0))
    exact ite_snd_tablesWf hs1 (ite_snd_tablesWf hs1 (clipMsg_tablesWf hs1))

/-! ## The row directory (R142 to R145) -/

theorem State.retag_tablesWf {s : State} {t : Nat} (h : s.tablesWf) : (s.retag t).tablesWf := setTag_tablesWf h

theorem State.cacheBack_tablesWf {s : State} {f r : Nat} {g : CachePage} (h : s.tablesWf) :
    (s.cacheBack f r g).tablesWf := by
  unfold State.cacheBack
  split
  · exact h
  · extract_lets _ _ s1
    have hs1 : s1.tablesWf := retag_tablesWf (putFarPage_tablesWf (rekeyPages_tablesWf h))
    exact ite_tablesWf h (updRound_tablesWf hs1)

theorem State.cachePage_tablesWf {s : State} {f r page : Nat} (h : s.tablesWf) : (s.cachePage f r page).tablesWf := by
  unfold State.cachePage
  split
  · exact h
  · extract_lets _ _ s1 _ _ s2
    have hs1 : s1.tablesWf := by
      unfold s1
      split
      · exact cacheBack_tablesWf h
      · exact h
    have hs2 : s2.tablesWf := retag_tablesWf (putTile_tablesWf hs1)
    exact ite_tablesWf h (updRound_tablesWf hs2)

theorem State.putEntry_tablesWf {s : State} {f r e : Nat} (h : s.tablesWf) : (s.putEntry f r e).tablesWf := by
  unfold State.putEntry
  split
  · exact h
  · extract_lets
    split
    · extract_lets
      exact updRound_tablesWf (retag_tablesWf (putTile_tablesWf h))
    · exact retag_tablesWf (rekeyPages_tablesWf (putTile_tablesWf h))

theorem State.putDir_tablesWf {s : State} {f r : Nat} {dir : List (Nat × DirEntry)} (h : s.tablesWf) :
    (s.putDir f r dir).tablesWf := by
  unfold State.putDir
  split
  · exact h
  · extract_lets
    exact foldl_tablesWf (fun _ hs _ => putEntry_tablesWf hs) (updRound_tablesWf h)

theorem State.countRow_tablesWf {s : State} {f r row n : Nat} (h : s.tablesWf) : (s.countRow f r row n).tablesWf := by
  unfold State.countRow
  split
  · exact h
  · exact putDir_tablesWf h

theorem State.putResolved_tablesWf {s : State} {f r : Nat} {x : Round} (h : s.tablesWf) :
    (s.putResolved f r x).tablesWf :=
  putDir_tablesWf (updRound_tablesWf h)

/-! ## Limbs of ciphertexts in tiles (R110 to R114) -/

theorem State.putCtTile_tablesWf {s : State} {d : CtDesc} {k j c : Nat} {a : List Nat} (h : s.tablesWf) :
    (s.putCtTile d k j c a).tablesWf := by
  unfold State.putCtTile
  extract_lets _ s1
  have hs1 : s1.tablesWf := setElems_tablesWf h
  exact wrote_tablesWf (setTag_tablesWf hs1)

theorem State.putLimb_tablesWf {s : State} {d : CtDesc} {k j : Nat} {cols a : List Nat} (h : s.tablesWf) :
    (s.putLimb d k j cols a).tablesWf :=
  foldl_tablesWf (fun _ hs _ => putCtTile_tablesWf hs) h

theorem State.putAll_tablesWf {s : State} {d : CtDesc} {cols : List Nat} {vals : List (Nat × Nat × List Nat)}
    (h : s.tablesWf) : (s.putAll d cols vals).tablesWf :=
  foldl_tablesWf (fun _ hs _ => putLimb_tablesWf hs) h

/-! ## Sealed rotations (R361, R362) -/

theorem State.rotate_tablesWf {s : State} {res : Nat} (h : s.tablesWf) : (s.rotate res).tablesWf := by
  obtain ⟨hregs, htags, hctrs, hflights, hrots, hrest⟩ := tablesWf_iff.1 h
  unfold State.rotate
  extract_lets p r start
  split
  · exact h
  · exact tablesWf_iff.2 ⟨hregs, htags, hctrs, hflights, Sparse.set_wf _ _ _ _ hrots, hrest⟩

theorem State.rotateAll_tablesWf {s : State} (h : s.tablesWf) : s.rotateAll.tablesWf :=
  foldl_tablesWf (fun _ hs _ => rotate_tablesWf hs) h

/-! ## What unit instructions share (R177, R189) -/

theorem State.unitOpE_tablesWf {s : State} {j : Nat} {key : Nat × Nat × Nat} {ef : State → TOps → Nat → Nat}
    {regs : Nat → List (Nat × List Nat)} {body : TOps → State → State} (h : s.tablesWf)
    (hbody : ∀ o u, u.tablesWf → (body o u).tablesWf) : (s.unitOpE j key ef regs body).tablesWf := by
  unfold State.unitOpE
  refine issue_tablesWf h ?_
  intro f w u hu
  extract_lets x o fault
  clear_value fault
  split
  · exact trapHere_tablesWf hu
  · exact hbody o u hu

theorem State.unitOp_tablesWf {s : State} {j : Nat} {key : Nat × Nat × Nat} {regs : Nat → List (Nat × List Nat)}
    {body : TOps → State → State} (h : s.tablesWf) (hbody : ∀ x0 u1, u1.tablesWf → (body x0 u1).tablesWf) :
    (s.unitOp j key regs body).tablesWf :=
  unitOpE_tablesWf h hbody

theorem State.silent_tablesWf {s : State} {j w : Nat} {op : UOp} {writes : List (Nat × Bytes)} {code : Nat}
    {round : Option Nat} {ops : List Nat} (h : s.tablesWf) : (s.silent j w op writes code round ops).tablesWf :=
  enqueue_tablesWf h

theorem State.reportMsg_tablesWf {s : State} {j w code : Nat} {op : UOp} {r : Round} {m : Msg} {fails : Bool}
    {parts : Nat} (h : s.tablesWf) : (s.reportMsg j w code op r m fails parts).tablesWf :=
  enqueue_tablesWf h

theorem State.mark_tablesWf {s : State} {j : Nat} {qs : List Nat} (h : s.tablesWf) : (s.mark j qs).tablesWf :=
  updSpin_tablesWf h

theorem State.ctTrap_tablesWf {s : State} {j code w : Nat} {srcs : List Nat} (h : s.tablesWf) :
    (s.ctTrap j code w srcs).tablesWf := by
  unfold State.ctTrap
  exact trapHere_tablesWf (ite_tablesWf (mark_tablesWf h) h)

theorem State.polyRun_tablesWf {s : State} {j w : Nat} {o : TOps} {srcs : List Nat} {srcDs : List CtDesc}
    {pre level : Nat} {res : CtDesc} {top : Bool} {cols : List Nat} {vals : State → List (Nat × Nat × List Nat)}
    {op : UOp} {prep : State → Bool × State} (h : s.tablesWf) (hprep : ∀ u, u.tablesWf → (prep u).2.tablesWf) :
    (s.polyRun j w o srcs srcDs pre level res top cols vals op prep).tablesWf := by
  unfold State.polyRun
  extract_lets
  refine ite_tablesWf (ctTrap_tablesWf h) (ite_tablesWf h ?_)
  split
  next s2 e =>
    have hs2 : s2.tablesWf := snd_tablesWf e (hprep _ h)
    exact ite_tablesWf (trap_tablesWf hs2) (silent_tablesWf (putAll_tablesWf hs2))

/-! ## Requests to the random bit generator (R320, R324) -/

theorem State.noEntropy_tablesWf {s : State} (h : s.tablesWf) : s.noEntropy.tablesWf := by
  unfold State.noEntropy
  refine ite_tablesWf h ?_
  extract_lets _ src
  have hsrc : src.tablesWf := raiseAll_tablesWf h
  clear_value src
  exact hsrc

theorem State.ask_tablesWf {s : State} {cls order words : Nat} {use : RngUse} (h : s.tablesWf) :
    (s.ask cls order words use).tablesWf := by
  unfold State.ask
  exact ite_tablesWf h (noEntropy_tablesWf h)

theorem State.askLoads_tablesWf {s : State} {j n : Nat} {sampler : Bool} (h : s.tablesWf) :
    (s.askLoads j n sampler).tablesWf := by
  unfold State.askLoads
  extract_lets
  exact ite_tablesWf (ask_tablesWf h) (ask_tablesWf h)

theorem State.deadRound_tablesWf {s : State} {f r : Nat} (h : s.tablesWf) : (s.deadRound f r).tablesWf := by
  unfold State.deadRound
  exact ite_tablesWf (abandon_tablesWf h) h

/-! ## Evaluation keys and the key cache (R124, R125) -/

theorem State.evkEvict_tablesWf {s : State} {f n k : Nat} (h : s.tablesWf) : (s.evkEvict f n k).tablesWf := by
  induction k generalizing s with
  | zero =>
    unfold State.evkEvict
    exact h
  | succ n ih =>
    unfold State.evkEvict
    refine ite_tablesWf h ?_
    split
    · exact h
    · exact ih (updFn_tablesWf h)

theorem State.evkCopy_tablesWf {s : State} {src dst : Nat} (h : s.tablesWf) : (s.evkCopy src dst).tablesWf := by
  unfold State.evkCopy
  extract_lets
  exact wrote_tablesWf (putTile_tablesWf (setTag_tablesWf h))

theorem State.evkRead_tablesWf {s : State} {ts : List Nat} (h : s.tablesWf) : (s.evkRead ts).2.tablesWf :=
  verifyAll_tablesWf (foldl_tablesWf (fun _ hs _ => eccRead_tablesWf hs) h)

theorem State.evkUse_tablesWf {s : State} {f key l : Nat} (h : s.tablesWf) : (s.evkUse f key l).2.tablesWf := by
  unfold State.evkUse
  split
  · exact h
  · split
    · exact updFn_tablesWf (foldl_tablesWf (fun _ hs _ => eccRead_tablesWf hs) h)
    · extract_lets _ s0
      have hs0 : s0.tablesWf := updFn_tablesWf h
      split
      next s2 e =>
        have hs2 : s2.tablesWf := snd_tablesWf e (evkRead_tablesWf hs0)
        refine ite_snd_tablesWf hs2 (ite_snd_tablesWf hs2 ?_)
        extract_lets s21
        have hs21 : s21.tablesWf := evkEvict_tablesWf hs2
        exact updFn_tablesWf (foldl_tablesWf (fun _ hs _ => evkCopy_tablesWf hs) hs21)

theorem State.evkUses_tablesWf {s : State} {f : Nat} {l : List (Nat × Nat)} (h : s.tablesWf) :
    (s.evkUses f l).2.tablesWf := by
  induction l generalizing s with
  | nil =>
    unfold State.evkUses
    exact h
  | cons x xs ih =>
    unfold State.evkUses
    split
    next s2 e =>
      have hs2 : s2.tablesWf := snd_tablesWf e (evkUse_tablesWf h)
      exact ite_snd_tablesWf (ih hs2) hs2

theorem State.putWork_tablesWf {s : State} {f j : Nat} {p : ParamSet} {l : Nat} {c : List (List Nat)} (h : s.tablesWf)
    : (s.putWork f j p l c).tablesWf := by
  unfold State.putWork
  extract_lets
  refine foldl_tablesWf ?_ h
  intro u hu _
  extract_lets s1
  have hs1 : s1.tablesWf := setElems_tablesWf hu
  exact wrote_tablesWf (setTag_tablesWf hs1)

/-! ## The polynomial class (R119 to R123, R219 to R221) -/

theorem State.limbOp_tablesWf {s : State} {j w : Nat} {o : TOps} {res : CtDesc → CtDesc}
    {g : State → CtDesc → Nat → Nat → List Nat} {op : UOp} (h : s.tablesWf) : (s.limbOp j w o res g op).tablesWf := by
  unfold State.limbOp
  extract_lets
  exact polyRun_tablesWf h (fun _ hs => hs)

theorem State.ntt_tablesWf {s : State} {j : Nat} (h : s.tablesWf) : (s.ntt j).tablesWf :=
  unitOp_tablesWf h (fun _ _ hs => limbOp_tablesWf hs)

theorem State.intt_tablesWf {s : State} {j : Nat} (h : s.tablesWf) : (s.intt j).tablesWf :=
  unitOp_tablesWf h (fun _ _ hs => limbOp_tablesWf hs)

theorem State.auto_tablesWf {s : State} {j : Nat} (h : s.tablesWf) : (s.auto j).tablesWf := by
  unfold State.auto
  refine unitOp_tablesWf h ?_
  intro _ u hu
  extract_lets
  exact ite_tablesWf (ctTrap_tablesWf hu) (limbOp_tablesWf hu)

theorem State.pmul_tablesWf {s : State} {j : Nat} (h : s.tablesWf) : (s.pmul j).tablesWf := by
  unfold State.pmul
  extract_lets
  refine ite_tablesWf (unitOp_tablesWf h ?_) (ite_tablesWf (unitOp_tablesWf h ?_) (unitOp_tablesWf h ?_))
  · intro x0 u hu
    extract_lets
    exact polyRun_tablesWf hu (fun _ hs => hs)
  · intro x0 u hu
    extract_lets
    exact ite_tablesWf (trapHere_tablesWf hu) (limbOp_tablesWf hu)
  · intro x0 u hu
    extract_lets
    exact limbOp_tablesWf hu

theorem State.padd_tablesWf {s : State} {j : Nat} (h : s.tablesWf) : (s.padd j).tablesWf := by
  unfold State.padd
  extract_lets
  refine ite_tablesWf (unitOp_tablesWf h ?_) (unitOp_tablesWf h ?_)
  · intro x0 u hu
    extract_lets
    exact ite_tablesWf (trapHere_tablesWf hu) (ite_tablesWf (ctTrap_tablesWf hu) (limbOp_tablesWf hu))
  · intro x0 u hu
    extract_lets
    exact polyRun_tablesWf hu (fun _ hs => hs)

theorem State.modup_tablesWf {s : State} {j : Nat} (h : s.tablesWf) : (s.modup j).tablesWf := by
  unfold State.modup
  refine unitOp_tablesWf h ?_
  intro _ u hu
  extract_lets
  exact polyRun_tablesWf hu (fun _ hs => hs)

theorem State.moddn_tablesWf {s : State} {j : Nat} (h : s.tablesWf) : (s.moddn j).tablesWf := by
  unfold State.moddn
  refine unitOp_tablesWf h ?_
  intro _ u hu
  extract_lets
  exact polyRun_tablesWf hu (fun _ hs => hs)

theorem State.resc_tablesWf {s : State} {j : Nat} (h : s.tablesWf) : (s.resc j).tablesWf := by
  unfold State.resc
  refine unitOp_tablesWf h ?_
  intro _ u hu
  extract_lets
  exact polyRun_tablesWf hu (fun _ hs => hs)

theorem State.ksw_tablesWf {s : State} {j : Nat} (h : s.tablesWf) : (s.ksw j).tablesWf := by
  unfold State.ksw
  refine unitOp_tablesWf h ?_
  intro _ u1 hu1
  extract_lets
  refine polyRun_tablesWf hu1 ?_
  intro u hu
  split
  next s2 e =>
    have hs2 : s2.tablesWf := snd_tablesWf e (evkUse_tablesWf hu)
    exact ite_tablesWf (putWork_tablesWf hs2) hs2

theorem State.lutr_tablesWf {s : State} {j : Nat} (h : s.tablesWf) : (s.lutr j).tablesWf := by
  unfold State.lutr
  refine unitOp_tablesWf h ?_
  intro _ u hu
  extract_lets _ _ _ _ _ _ _ _ _ _ _ _ _ _ _ put
  have hput : ∀ u0 : State, u0.tablesWf → ∀ x1, (put u0 x1).tablesWf := fun _ hs _ => putAll_tablesWf hs
  refine ite_tablesWf (trapHere_tablesWf hu) (ite_tablesWf (trapHere_tablesWf hu) (ite_tablesWf (ctTrap_tablesWf hu)
      (ite_tablesWf hu ?_)))
  split
  next s2 e =>
    have hs2 : s2.tablesWf := snd_tablesWf e (evkUses_tablesWf hu)
    exact ite_tablesWf (trap_tablesWf hs2) (silent_tablesWf (foldl_tablesWf hput hs2))

/-! ## The mask class (R215 to R217) -/

theorem State.expandEntry_tablesWf {s : State} {j : Nat} {o : TOps} {x : Round} (h : s.tablesWf) :
    (s.expandEntry j o x).tablesWf := by
  unfold State.expandEntry
  split
  · exact report_tablesWf h
  · refine ite_tablesWf h ?_
    extract_lets _ s1
    have hs1 : s1.tablesWf := updRound_tablesWf (expand0_tablesWf h)
    exact enqueue_tablesWf hs1

theorem State.expandParts_tablesWf {s : State} {j : Nat} {o : TOps} {x : Round} (h : s.tablesWf) :
    (s.expandParts j o x).tablesWf := by
  unfold State.expandParts
  extract_lets
  split
  · exact report_tablesWf h
  · refine ite_tablesWf (report_tablesWf h) (ite_tablesWf h ?_)
    extract_lets s1 s2
    have hs1 : s1.tablesWf := foldl_tablesWf (fun _ hs _ => expandBlock_tablesWf hs) h
    have hs2 : s2.tablesWf := updRound_tablesWf hs1
    exact deadRound_tablesWf (enqueue_tablesWf (askLoads_tablesWf hs2))

theorem State.expand_tablesWf {s : State} {j : Nat} (h : s.tablesWf) : (s.expand j).tablesWf := by
  unfold State.expand
  refine issue_tablesWf h ?_
  intro _ _ u hu
  extract_lets
  refine ite_tablesWf (trapHere_tablesWf hu) ?_
  split
  · exact report_tablesWf hu
  · exact ite_tablesWf (report_tablesWf hu) (ite_tablesWf (report_tablesWf hu) (ite_tablesWf (expandParts_tablesWf
      (loadShareModulus_tablesWf hu)) (expandEntry_tablesWf (loadShareModulus_tablesWf hu))))

theorem State.seedRecords_tablesWf {s : State} {x : Round} {m : Msg} (h : s.tablesWf) :
    (s.seedRecords x m).2.tablesWf := by
  unfold State.seedRecords
  split
  · extract_lets _ s1 s2 s3 s4 s5
    have hs1 : s1.tablesWf := updRound_tablesWf h
    have hs2 : s2.tablesWf := ite_tablesWf (raiseOnce_tablesWf hs1) hs1
    have hs3 : s3.tablesWf := ite_tablesWf (raise_tablesWf hs2) hs2
    have hs4 : s4.tablesWf := ite_tablesWf (raise_tablesWf hs3) hs3
    have hs5 : s5.tablesWf := by
      unfold s5
      split
      · exact ite_tablesWf (progress_tablesWf hs4) hs4
      · exact hs4
    exact hs5

theorem State.seedrec_tablesWf {s : State} {j : Nat} (h : s.tablesWf) : (s.seedrec j).tablesWf := by
  unfold State.seedrec
  refine unitOp_tablesWf h ?_
  intro _ u hu
  split
  · exact report_tablesWf hu
  · refine ite_tablesWf (report_tablesWf hu) ?_
    split
    next s1 e =>
      have hs1 : s1.tablesWf := snd_tablesWf e (seedRecords_tablesWf (loadShareModulus_tablesWf hu))
      exact report_tablesWf hs1

theorem State.prgh_tablesWf {s : State} {j : Nat} (h : s.tablesWf) : (s.prgh j).tablesWf := by
  unfold State.prgh
  refine unitOp_tablesWf h ?_
  intro _ u hu
  extract_lets _ _ _ _ _ _ _ src s1 _ s2
  have hsrc : src.tablesWf := putAll_tablesWf hu
  clear_value src
  have hs1 : s1.tablesWf := hsrc
  have hs2 : s2.tablesWf := ite_tablesWf hs1 (askLoads_tablesWf hs1)
  exact ite_tablesWf (ctTrap_tablesWf hu) (ite_tablesWf (trapHere_tablesWf hu) (ite_tablesWf (report_tablesWf hu)
      (ite_tablesWf hu (report_tablesWf hs2))))

/-! ## The release gate after its checks (R162 to R172, R222 to R226) -/

theorem State.noiseTile_tablesWf {s : State} {r : Round} {tab : List Nat} {k l t : Nat} (h : s.tablesWf) :
    (s.noiseTile r tab k l t).tablesWf := by
  unfold State.noiseTile
  extract_lets
  exact ite_tablesWf (ite_tablesWf (addTile_tablesWf h) h) (addTile_tablesWf h)

theorem State.noiseStep5_tablesWf {s : State} {r : Round} {tab : List Nat} {l : Nat} (h : s.tablesWf) :
    (s.noiseStep5 r tab l).2.tablesWf := by
  unfold State.noiseStep5
  extract_lets t key
  clear_value key
  split
  next ok s1 e =>
    have hs1 : s1.tablesWf := snd_tablesWf e (verify_tablesWf h)
    refine ite_snd_tablesWf hs1 ?_
    extract_lets leaf s2
    have hs2 : s2.tablesWf := updRound_tablesWf hs1
    split
    · exact ite_snd_tablesWf hs2 (noiseTile_tablesWf hs2)
    · exact hs2

theorem State.noiseTiles_tablesWf {s : State} {r : Round} {tab l : List Nat} (h : s.tablesWf) :
    (s.noiseTiles r tab l).2.tablesWf := by
  induction l generalizing s with
  | nil =>
    unfold State.noiseTiles
    exact h
  | cons x xs ih =>
    unfold State.noiseTiles
    split
    next s2 e =>
      have hs2 : s2.tablesWf := snd_tablesWf e (noiseStep5_tablesWf h)
      exact ite_snd_tablesWf (ih hs2) hs2

theorem State.noise_tablesWf {s : State} {j : Nat} (h : s.tablesWf) : (s.noise j).tablesWf := by
  unfold State.noise
  refine issue_tablesWf h ?_
  intro _ _ u hu
  extract_lets
  split
  · exact trapHere_tablesWf hu
  · refine ite_tablesWf (trapHere_tablesWf hu) (ite_tablesWf (trapHere_tablesWf hu) ?_)
    extract_lets
    refine ite_tablesWf hu ?_
    split
    next s2 e =>
      have hs2 : s2.tablesWf := snd_tablesWf e (noiseTiles_tablesWf hu)
      extract_lets s21 s3
      have hs21 : s21.tablesWf := updRound_tablesWf hs2
      have hs3 : s3.tablesWf := enqueue_tablesWf (ite_tablesWf hs21 (askLoads_tablesWf hs21))
      exact ite_tablesWf (deadRound_tablesWf hs3) (abandon_tablesWf hs3)

theorem State.plyCompare_tablesWf {s : State} {f r : Nat} (h : s.tablesWf) : (s.plyCompare f r).tablesWf := by
  unfold State.plyCompare
  split
  · exact h
  · split
    · exact ite_tablesWf h (ite_tablesWf (verdict_tablesWf h) (abandon_tablesWf (verdict_tablesWf h)))
    · exact h

theorem State.plyFormed_tablesWf {s : State} {f r digest : Nat} (h : s.tablesWf) :
    (s.plyFormed f r digest).tablesWf := by
  unfold State.plyFormed
  extract_lets s1
  have hs1 : s1.tablesWf := updRound_tablesWf h
  split
  · exact hs1
  · exact plyCompare_tablesWf (mirror_tablesWf hs1)

theorem State.noiseDone_tablesWf {s : State} {f r : Nat} {ps : List Nat} (h : s.tablesWf) :
    (s.noiseDone f r ps).tablesWf := by
  unfold State.noiseDone
  extract_lets s1 s2
  have hs1 : s1.tablesWf := updRound_tablesWf h
  have hs2 : s2.tablesWf := progress_tablesWf (updRound_tablesWf hs1)
  split
  · exact hs1
  · exact ite_tablesWf (ite_tablesWf (plyFormed_tablesWf hs2) hs2) hs1

theorem State.putOutput_tablesWf {s : State} {t : Nat} {g : TileTag} {bs : Bytes} (h : s.tablesWf) :
    (s.putOutput t g bs).tablesWf := by
  unfold State.putOutput
  extract_lets s1 _ _ s2
  have hs1 : s1.tablesWf := putTile_tablesWf (newEpoch_tablesWf h)
  have hs2 : s2.tablesWf := setTag_tablesWf hs1
  exact wrote_tablesWf (setTag_tablesWf hs2)

theorem State.decodeTile_tablesWf {s : State} {r : Round} {a b : Nat} (h : s.tablesWf) :
    (s.decodeTile r a b).2.2.tablesWf := by
  unfold State.decodeTile
  split
  next ok s1 e =>
    have hs1 : s1.tablesWf := snd_tablesWf e (verify_tablesWf h)
    extract_lets g n mode err l hgt noisy bound drop es d s2 s3
    clear_value l
    have hs2 : s2.tablesWf := putOutput_tablesWf (updRound_tablesWf hs1)
    have hs3 : s3.tablesWf := by
      unfold s3
      split
      · exact updRound_tablesWf hs2
      · exact hs2
    split
    · exact updRound_tablesWf hs1
    · exact hs3

theorem State.decodeTiles_tablesWf {s : State} {r : Round} {l : List (Nat × Nat)} (h : s.tablesWf) :
    (s.decodeTiles r l).2.2.tablesWf := by
  induction l generalizing s with
  | nil => exact h
  | cons p l ih => exact ih (decodeTile_tablesWf h)

theorem State.stopRelease_tablesWf {s : State} {f r code : Nat} (h : s.tablesWf) :
    (s.stopRelease f r code).tablesWf := by
  unfold State.stopRelease
  split
  · exact h
  · exact ite_tablesWf (abandon_tablesWf h) (updRound_tablesWf h)

theorem State.decode_tablesWf {s : State} {j : Nat} (h : s.tablesWf) : (s.decode j).tablesWf := by
  unfold State.decode
  refine unitOpE_tablesWf h ?_
  intro o u hu
  extract_lets
  split
  · exact trapHere_tablesWf hu
  · refine ite_tablesWf (trapHere_tablesWf hu) (ite_tablesWf (trapHere_tablesWf hu) (ite_tablesWf (trapHere_tablesWf
      hu) (ite_tablesWf hu ?_)))
    split
    next s2 e =>
      have hs2 : s2.tablesWf := snd_snd_tablesWf e (decodeTiles_tablesWf hu)
      extract_lets _ s21
      have hs21 : s21.tablesWf := report_tablesWf hs2
      exact ite_tablesWf (stopRelease_tablesWf hs21) hs21

theorem State.sendTo_tablesWf {s : State} {r : Round} {d : Dest} {sp : Option Nat} {bs : Bytes} (h : s.tablesWf) :
    (s.sendTo r d sp bs).tablesWf := by
  unfold State.sendTo
  extract_lets s1
  have hs1 : s1.tablesWf := by
    unfold s1
    split
    · exact hostPut_tablesWf h
    · extract_lets s0
      have hs0 : s0.tablesWf := post_tablesWf h
      split
      · exact updSpin_tablesWf hs0
      · exact hs0
    · exact h
  exact updRound_tablesWf hs1

theorem State.release_tablesWf {s : State} {j : Nat} (h : s.tablesWf) : (s.release j).tablesWf := by
  unfold State.release
  refine unitOp_tablesWf h ?_
  intro _ u hu
  split
  · exact trapHere_tablesWf hu
  · extract_lets _ _ _ _ _ _ s1
    have hs1 : s1.tablesWf := enqueue_tablesWf hu
    exact ite_tablesWf (trapHere_tablesWf hu) (ite_tablesWf (trapHere_tablesWf hu) (ite_tablesWf hu (ite_tablesWf
        (abandon_tablesWf hs1) (updRound_tablesWf hs1))))

theorem State.sendTiles_tablesWf {s : State} {f r : Nat} {d : Dest} {sp l : Nat} {l1 : List (Nat × Bytes)}
    (h : s.tablesWf) : (s.sendTiles f r d sp l l1).2.tablesWf := by
  induction l1 generalizing s l with
  | nil =>
    unfold State.sendTiles
    exact h
  | cons x xs ih =>
    unfold State.sendTiles
    split
    · exact h
    · split
      next s2 e =>
        have hs2 : s2.tablesWf := snd_tablesWf e (verify_tablesWf h)
        split
        · exact hs2
        · refine ite_snd_tablesWf hs2 ?_
          extract_lets _ _ s21 s3
          have hs21 : s21.tablesWf := sendTo_tablesWf hs2
          have hs3 : s3.tablesWf := updRound_tablesWf hs21
          exact ih hs3

theorem State.sendCt_tablesWf {s : State} {f r : Nat} {d : Dest} {sp i : Nat} (h : s.tablesWf) :
    (s.sendCt f r d sp i).2.tablesWf := by
  unfold State.sendCt
  split
  · exact h
  · extract_lets
    split
    next s2 e =>
      have hs2 : s2.tablesWf := snd_tablesWf e (verifyAll_tablesWf h)
      refine ite_snd_tablesWf hs2 ?_
      extract_lets _ _ s21
      have hs21 : s21.tablesWf := sendTo_tablesWf hs2
      exact updRound_tablesWf hs21

theorem State.sendRows_tablesWf {s : State} {f r : Nat} {d : Dest} {sp : Nat} (h : s.tablesWf) :
    (s.sendRows f r d sp).tablesWf := by
  unfold State.sendRows
  split
  · exact h
  · refine ite_tablesWf h ?_
    extract_lets
    exact updRound_tablesWf (sendTo_tablesWf h)

theorem State.releaseRun_tablesWf {s : State} {f r j : Nat} {e : UnitEntry} {d : Dest} (h : s.tablesWf) :
    (s.releaseRun f r j e d).tablesWf := by
  unfold State.releaseRun
  split
  · exact h
  · extract_lets _ s1
    have hs1 : s1.tablesWf := sendRows_tablesWf (updRound_tablesWf h)
    split
    · exact abandon_tablesWf h
    · exact updRound_tablesWf h
    · split
      next s2 e1 =>
        have hs2 : s2.tablesWf := snd_tablesWf e1 (ite_snd_tablesWf (sendCt_tablesWf hs1) (sendTiles_tablesWf hs1))
        exact ite_tablesWf (stopRelease_tablesWf hs2) (ite_tablesWf (updRound_tablesWf hs2) hs2)

theorem State.trailerDone_tablesWf {s : State} {f r : Nat} (h : s.tablesWf) : (s.trailerDone f r).tablesWf := by
  unfold State.trailerDone
  split
  · exact h
  · refine ite_tablesWf h ?_
    extract_lets _ _ s1
    have hs1 : s1.tablesWf := ite_tablesWf h (sendTo_tablesWf h)
    refine ite_tablesWf h ?_
    split
    · exact abandon_tablesWf hs1
    · exact released_tablesWf (mirror_tablesWf hs1)

theorem State.destTimeout_tablesWf {s : State} {f r : Nat} (h : s.tablesWf) : (s.destTimeout f r).tablesWf := by
  unfold State.destTimeout
  split
  · exact h
  · exact ite_tablesWf (abandon_tablesWf h) h

theorem State.putPlain_tablesWf {s : State} {r : Round} {ms : List (List Nat)} (h : s.tablesWf) :
    (s.putPlain r ms).tablesWf := by
  unfold State.putPlain
  extract_lets
  refine foldl_tablesWf ?_ h
  intro u hu _
  extract_lets _ _ s1
  have hs1 : s1.tablesWf := setElems_tablesWf (zeroTile_tablesWf hu)
  exact wrote_tablesWf (setTag_tablesWf hs1)

theorem State.jointDone_tablesWf {s : State} {f r : Nat} (h : s.tablesWf) : (s.jointDone f r).tablesWf := by
  unfold State.jointDone
  split
  · exact h
  · extract_lets
    exact ite_tablesWf h (ite_tablesWf (abandon_tablesWf h) (gateChecks_tablesWf (updRound_tablesWf
        (putPlain_tablesWf h))))

theorem State.partialOn_tablesWf {s : State} {x : Round} {msg : Bytes} (h : s.tablesWf) :
    (s.partialOn x msg).tablesWf := by
  unfold State.partialOn
  extract_lets _ _ _ s1
  have hs1 : s1.tablesWf := updRound_tablesWf (count_tablesWf h)
  exact ite_tablesWf h (ite_tablesWf (refuseMsg_tablesWf h) (ite_tablesWf (raise_tablesWf (count_tablesWf h))
      (ite_tablesWf h (jointDone_tablesWf (mirror_tablesWf hs1)))))

theorem State.partialMsg_tablesWf {s : State} {f qpn : Nat} {msg : Bytes} (h : s.tablesWf) :
    (s.partialMsg f qpn msg).tablesWf := by
  unfold State.partialMsg
  split
  · exact h
  · exact ite_tablesWf h (partialOn_tablesWf h)

theorem State.partialTimeout_tablesWf {s : State} {f r : Nat} (h : s.tablesWf) : (s.partialTimeout f r).tablesWf := by
  unfold State.partialTimeout
  split
  · exact h
  · exact ite_tablesWf (abandon_tablesWf h) h

/-! ## APPLY (R46, R47, R227, R228) -/

theorem State.setRun_tablesWf {s : State} {a : ApplyOp} {run : List Nat} {j x : Nat} (h : s.tablesWf) :
    (s.setRun a run j x).tablesWf :=
  setElem_tablesWf h

theorem State.applyElem_tablesWf {s : State} {a : ApplyOp} {sc t i : Nat} (h : s.tablesWf) :
    (s.applyElem a sc t i).2.tablesWf := by
  unfold State.applyElem
  extract_lets
  exact ite_snd_tablesWf (setRun_tablesWf (setRun_tablesWf (setRun_tablesWf h))) (setRun_tablesWf (setRun_tablesWf h))

theorem State.applyTile_tablesWf {s : State} {a : ApplyOp} {sc t n i : Nat} (h : s.tablesWf) :
    (s.applyTile a sc t n i).2.tablesWf := by
  induction n generalizing s i with
  | zero => exact h
  | succ n ih => exact ih (applyElem_tablesWf h)

theorem State.resum_tablesWf {s : State} {t : Nat} (h : s.tablesWf) : (s.resum t).tablesWf :=
  wrote_tablesWf (setTag_tablesWf h)

theorem State.applyTiles_tablesWf {s : State} {a : ApplyOp} {sc : Nat} {l : List Nat} (h : s.tablesWf) :
    (s.applyTiles a sc l).2.tablesWf := by
  induction l generalizing s with
  | nil =>
    unfold State.applyTiles
    exact h
  | cons x xs ih =>
    unfold State.applyTiles
    split
    next s1 e =>
      have hs1 : s1.tablesWf := snd_tablesWf e (applyTile_tablesWf h)
      extract_lets s2
      have hs2 : s2.tablesWf := foldl_tablesWf (fun _ hs _ => resum_tablesWf hs) hs1
      split
      next s11 e1 =>
        have hs11 : s11.tablesWf := snd_tablesWf e1 (ih hs2)
        exact hs11

theorem State.apply_tablesWf {s : State} {j : Nat} (h : s.tablesWf) : (s.apply j).tablesWf := by
  unfold State.apply
  refine unitOpE_tablesWf h ?_
  intro o u hu
  extract_lets
  split
  · exact trapHere_tablesWf hu
  · exact trapHere_tablesWf hu
  · refine ite_tablesWf (trapHere_tablesWf hu) (ite_tablesWf (trapHere_tablesWf hu) (ite_tablesWf (trapHere_tablesWf
      hu) ?_))
    extract_lets
    exact ite_tablesWf hu (enqueue_tablesWf (updRound_tablesWf hu))

theorem State.applyRun_tablesWf {s : State} {r : Round} {e : UnitEntry} (h : s.tablesWf) :
    (s.applyRun r e).2.tablesWf := by
  unfold State.applyRun
  extract_lets
  exact applyTiles_tablesWf h

/-! ## The sync class (R195, R229, R300) -/

theorem State.syncDone_tablesWf {s : State} {j w code : Nat} (h : s.tablesWf) : (s.syncDone j w code).tablesWf :=
  advance_tablesWf (updSpin_tablesWf h)

theorem State.waitc_tablesWf {s : State} {j : Nat} (h : s.tablesWf) : (s.waitc j).tablesWf := by
  unfold State.waitc
  refine issue_tablesWf h ?_
  intro _ _ u hu
  extract_lets
  refine ite_tablesWf (syncDone_tablesWf hu) (ite_tablesWf (syncDone_tablesWf hu) ?_)
  split
  · exact hu
  · exact updSpin_tablesWf hu

theorem State.waitTimeout_tablesWf {s : State} {j : Nat} (h : s.tablesWf) : (s.waitTimeout j).tablesWf := by
  unfold State.waitTimeout
  split
  · refine issue_tablesWf h ?_
    intro _ _ u hu
    extract_lets
    exact ite_tablesWf (syncDone_tablesWf hu) (ite_tablesWf (syncDone_tablesWf hu) hu)
  · exact h

theorem State.signal_tablesWf {s : State} {j : Nat} (h : s.tablesWf) : (s.signal j).tablesWf := by
  unfold State.signal
  refine issue_tablesWf h ?_
  intro _ _ u hu
  extract_lets
  exact advance_tablesWf (updSpin_tablesWf hu)

theorem State.signalApply_tablesWf {s : State} {j : Nat} (h : s.tablesWf) : (s.signalApply j).tablesWf := by
  unfold State.signalApply
  extract_lets
  split
  · exact ite_tablesWf h (updSpin_tablesWf (ctrAdd_tablesWf h))
  · exact h

theorem State.fence_tablesWf {s : State} {j : Nat} (h : s.tablesWf) : (s.fence j).tablesWf := by
  unfold State.fence
  refine issue_tablesWf h ?_
  intro _ _ u hu
  extract_lets _ _ _ _ _ s1
  have hs1 : s1.tablesWf := ite_tablesWf (foldl_tablesWf (fun _ hs _ => pagesBack_tablesWf hs) (foldl_tablesWf (fun _
      hs _ => writeBack_tablesWf hs) hu)) hu
  refine ite_tablesWf (updSpin_tablesWf hu) ?_
  split
  · exact trap_tablesWf hs1
  · exact advance_tablesWf hs1

theorem State.gate_tablesWf {s : State} {j : Nat} (h : s.tablesWf) : (s.gate j).tablesWf := by
  unfold State.gate
  refine issue_tablesWf h ?_
  intro x0 _ u hu
  extract_lets _ _ s0 upd
  have hs0 : s0.tablesWf := by
    unfold s0
    split
    · exact hu
    · exact updSpin_tablesWf hu
  clear_value s0
  have hupd : ∀ x0, ∀ u1 : State, u1.tablesWf → (upd x0 u1).tablesWf := fun _ _ hs => hs
  refine ite_tablesWf hs0 ?_
  split
  · exact hs0
  · exact ite_tablesWf hs0 (ite_tablesWf (hupd _ _ (raiseOwn_tablesWf hs0)) (hupd _ _ hs0))

theorem State.leaveGate_tablesWf {s : State} {j code : Nat} (h : s.tablesWf) : (s.leaveGate j code).tablesWf := by
  unfold State.leaveGate
  split
  · exact syncDone_tablesWf h
  · exact h

theorem State.gateRelease_tablesWf {s : State} {f n : Nat} (h : s.tablesWf) : (s.gateRelease f n).tablesWf := by
  unfold State.gateRelease
  split
  · exact h
  · refine ite_tablesWf h ?_
    extract_lets s1
    have hs1 : s1.tablesWf := foldl_tablesWf (fun _ hs _ => leaveGate_tablesWf hs) h
    exact ite_tablesWf (bump_tablesWf (raiseOwn_tablesWf hs1)) hs1

theorem State.gateTimeout_tablesWf {s : State} {j : Nat} (h : s.tablesWf) : (s.gateTimeout j).tablesWf := by
  unfold State.gateTimeout
  split
  · refine issue_tablesWf h ?_
    intro _ _ u hu
    extract_lets
    split
    · exact ite_tablesWf (gateRelease_tablesWf hu) (ite_tablesWf (syncDone_tablesWf hu) hu)
    · exact ite_tablesWf (syncDone_tablesWf hu) hu
  · exact h

/-! ## The system class (R192, R196, R201, R230) -/

theorem State.trapInsn_tablesWf {s : State} {j : Nat} (h : s.tablesWf) : (s.trapInsn j).tablesWf :=
  issue_tablesWf h (fun _ _ _ hs => trapHere_tablesWf hs)

theorem State.trapReturn_tablesWf {s : State} {j : Nat} (h : s.tablesWf) : (s.trapReturn j).tablesWf := by
  unfold State.trapReturn
  refine issue_tablesWf h ?_
  intro _ _ u hu
  extract_lets
  exact ite_tablesWf (trapHere_tablesWf hu) (updSpin_tablesWf (advance_tablesWf hu))

theorem State.halt_tablesWf {s : State} {j : Nat} (h : s.tablesWf) : (s.halt j).tablesWf :=
  issue_tablesWf h (fun _ _ _ hs => updSpin_tablesWf hs)

theorem State.haltDone_tablesWf {s : State} {j : Nat} (h : s.tablesWf) : (s.haltDone j).tablesWf := by
  unfold State.haltDone
  extract_lets
  exact ite_tablesWf (updSpin_tablesWf (advance_tablesWf h)) h

theorem State.stepTo_tablesWf {s : State} {j stepc : Nat} (h : s.tablesWf) : (s.stepTo j stepc).tablesWf :=
  updSpin_tablesWf (advance_tablesWf h)

theorem State.step_tablesWf {s : State} {j : Nat} (h : s.tablesWf) : (s.step j).tablesWf := by
  unfold State.step
  refine issue_tablesWf h ?_
  intro _ _ u hu
  extract_lets
  exact ite_tablesWf (updSpin_tablesWf hu) (ite_tablesWf (trapHere_tablesWf hu) (stepTo_tablesWf hu))

theorem State.stepSet_tablesWf {s : State} {j : Nat} (h : s.tablesWf) : (s.stepSet j).tablesWf := by
  unfold State.stepSet
  refine issue_tablesWf h ?_
  intro _ _ u hu
  extract_lets
  exact ite_tablesWf (updSpin_tablesWf hu) (ite_tablesWf (trapHere_tablesWf hu) (stepTo_tablesWf hu))

theorem State.lockkeeperWatchdog_tablesWf {s : State} {j : Nat} (h : s.tablesWf) :
    (s.lockkeeperWatchdog j).tablesWf := by
  unfold State.lockkeeperWatchdog
  extract_lets
  exact ite_tablesWf (trap_tablesWf h) h

/-! ## Program images and program control (R198 to R201) -/

theorem State.loadOn_tablesWf {s : State} {b : Bytes} {sel : List Nat} {firmware : Bool} (h : s.tablesWf) :
    (s.loadOn b sel firmware).tablesWf :=
  foldl_tablesWf (fun _ hs _ => updSpin_tablesWf hs) h

theorem State.progDone_tablesWf {s : State} {f code : Nat} (h : s.tablesWf) : (s.progDone f code).tablesWf := by
  unfold State.progDone
  extract_lets s1
  have hs1 : s1.tablesWf := wr_tablesWf (wr_tablesWf h)
  exact ite_tablesWf (raiseOwn_tablesWf hs1) hs1

theorem State.progCmd_tablesWf {s : State} {f : Nat} {body : State → State} (h : s.tablesWf)
    (hbody : ∀ u, u.tablesWf → (body u).tablesWf) : (s.progCmd f body).tablesWf := by
  unfold State.progCmd
  exact funcCmd_tablesWf h (fun _ hs => ite_tablesWf (flag_tablesWf hs) (ite_tablesWf (progDone_tablesWf hs) (hbody _
      hs)))

theorem State.loadImage_tablesWf {s : State} {f : Nat} {img : Option Bytes} (h : s.tablesWf) :
    (s.loadImage f img).tablesWf := by
  unfold State.loadImage
  refine progCmd_tablesWf h ?_
  intro u hu
  split
  · exact progDone_tablesWf hu
  · extract_lets
    exact ite_tablesWf (progDone_tablesWf hu) (progDone_tablesWf (wr_tablesWf (loadOn_tablesWf hu)))

theorem State.onSelected_tablesWf {s : State} {f : Nat} {from_ : List SpState} {g : Spindle → Spindle}
    (h : s.tablesWf) : (s.onSelected f from_ g).tablesWf := by
  unfold State.onSelected
  extract_lets
  exact ite_tablesWf (progDone_tablesWf h) (progDone_tablesWf (foldl_tablesWf (fun _ hs _ => updSpin_tablesWf hs) h))

theorem State.start_tablesWf {s : State} {f : Nat} (h : s.tablesWf) : (s.start f).tablesWf :=
  progCmd_tablesWf h (fun _ hs => onSelected_tablesWf hs)

theorem State.stop_tablesWf {s : State} {f : Nat} (h : s.tablesWf) : (s.stop f).tablesWf := by
  unfold State.stop
  refine progCmd_tablesWf h ?_
  intro u hu
  extract_lets
  exact ite_tablesWf (progDone_tablesWf hu) (settleBusy_tablesWf (wr_tablesWf (foldl_tablesWf (fun _ hs _ =>
      updSpin_tablesWf hs) hu)))

theorem State.spindleStopped_tablesWf {s : State} {j : Nat} (h : s.tablesWf) : (s.spindleStopped j).tablesWf := by
  unfold State.spindleStopped
  extract_lets
  exact ite_tablesWf (settleBusy_tablesWf (updSpin_tablesWf h)) h

theorem State.resume_tablesWf {s : State} {f : Nat} (h : s.tablesWf) : (s.resume f).tablesWf :=
  progCmd_tablesWf h (fun _ hs => onSelected_tablesWf hs)

theorem State.unloadSpin_tablesWf {s : State} {j : Nat} (h : s.tablesWf) : (s.unloadSpin j).tablesWf :=
  updSpin_tablesWf h

theorem State.unload_tablesWf {s : State} {f : Nat} (h : s.tablesWf) : (s.unload f).tablesWf := by
  unfold State.unload
  refine progCmd_tablesWf h ?_
  intro u hu
  extract_lets
  exact ite_tablesWf (progDone_tablesWf hu) (settleBusy_tablesWf (wr_tablesWf (foldl_tablesWf (fun _ hs _ =>
      unloadSpin_tablesWf hs) hu)))

/-! ## Norm checks of mode 3 (R129 to R132) -/

theorem State.foldCt_tablesWf {s : State} {d : CtDesc} {c : Ct} (h : s.tablesWf) : (s.foldCt d c).tablesWf := by
  unfold State.foldCt
  extract_lets
  refine foldl_tablesWf ?_ h
  intro u hu _
  refine foldl_tablesWf ?_ hu
  intro u1 hu1 _
  refine foldl_tablesWf ?_ hu1
  intro u2 hu2 _
  extract_lets _ _ _ s1
  have hs1 : s1.tablesWf := setTag_tablesWf hu2
  exact addTile_tablesWf hs1

theorem State.updQuery_tablesWf {s : State} {f h : Nat} {g : Query → Query} (hs : s.tablesWf) :
    (s.updQuery f h g).tablesWf :=
  hs

theorem State.keepReturn_tablesWf {s : State} {f r qid : Nat} {d : QDecision} (h : s.tablesWf) :
    (s.keepReturn f r qid d).tablesWf :=
  updRound_tablesWf h

theorem State.decide_tablesWf {s : State} {f h : Nat} {d : QDecision} (hs : s.tablesWf) :
    (s.decide_ f h d).tablesWf := by
  unfold State.decide_
  split
  · exact hs
  · extract_lets s1
    have hs1 : s1.tablesWf := keepReturn_tablesWf (updQuery_tablesWf hs)
    split
    · exact ctrAdd_tablesWf hs1
    · exact hs1

theorem State.startQuery_tablesWf {s : State} {x : Round} {m : Msg} {h : Nat} {ctr : Option Nat} {key relin conj : Nat}
    (hs : s.tablesWf) : (s.startQuery x m h ctr key relin conj).tablesWf := by
  unfold State.startQuery
  extract_lets
  split
  next msg qid neg e =>
    extract_lets kept send q s1 s2
    have hs2 : s2.tablesWf := updLive_tablesWf (s := s1) hs
    clear_value kept
    refine ite_tablesWf (decide_tablesWf hs2) (ite_tablesWf (decide_tablesWf hs2) ?_)
    split
    · exact decide_tablesWf hs2
    · exact ite_tablesWf (post_tablesWf hs2) hs2

theorem State.finishQuery_tablesWf {s : State} {f h : Nat} (hs : s.tablesWf) : (s.finishQuery f h).tablesWf := by
  unfold State.finishQuery
  split
  · exact hs
  · extract_lets s0
    have hs0 : s0.tablesWf := hs
    split
    · exact hs0
    · extract_lets _ _ _ s1 _ s11 _ s2
      have hs1 : s1.tablesWf := foldl_tablesWf (fun _ hs1 _ => foldCt_tablesWf hs1) hs0
      have hs11 : s11.tablesWf := evkUse_tablesWf hs0
      have hs2 : s2.tablesWf := foldl_tablesWf (fun _ hs2 _ => foldCt_tablesWf hs2) hs11
      exact ite_tablesWf (slotDone_tablesWf (updRound_tablesWf hs1)) (slotDone_tablesWf (updRound_tablesWf
          (foldCt_tablesWf hs2)))

theorem State.committeeReturn_tablesWf {s : State} {f qpn : Nat} {msg : Bytes} (h : s.tablesWf) :
    (s.committeeReturn f qpn msg).tablesWf := by
  unfold State.committeeReturn
  split
  · exact raise_tablesWf h
  · split
    · exact raise_tablesWf h
    · exact ite_tablesWf (raise_tablesWf h) (decide_tablesWf (mirror_tablesWf h))

theorem State.nlExpire_tablesWf {s : State} {f h : Nat} (hs : s.tablesWf) : (s.nlExpire f h).tablesWf := by
  unfold State.nlExpire
  split
  · exact hs
  · split
    · exact hs
    · extract_lets
      exact decide_tablesWf (mirror_tablesWf (raise_tablesWf hs))

theorem State.nlTimeout_tablesWf {s : State} {f handle : Nat} (h : s.tablesWf) : (s.nlTimeout f handle).tablesWf := by
  unfold State.nlTimeout
  exact ite_tablesWf (nlExpire_tablesWf h) h

/-! ## Opening a round (R75 to R78, R387) -/

theorem State.asOpened_tablesWf {s : State} {f : Nat} (h : s.tablesWf) : (s.asOpened f).tablesWf := by
  unfold State.asOpened
  split
  · exact ite_tablesWf (updFn_tablesWf h) h
  · exact h

theorem State.roundKeyed_tablesWf {s : State} {f r seed scalar kem : Nat} (h : s.tablesWf) :
    (s.roundKeyed f r seed scalar kem).tablesWf := by
  unfold State.roundKeyed
  split
  · exact h
  · extract_lets _ _ s1
    have hs1 : s1.tablesWf := updRound_tablesWf h
    exact emit_tablesWf hs1

theorem State.mirrorOpen_tablesWf {s : State} {f r : Nat} (h : s.tablesWf) : (s.mirrorOpen f r).tablesWf := by
  unfold State.mirrorOpen
  split
  · exact h
  · exact mirror_tablesWf h

theorem State.roundDrawn_tablesWf {s : State} {f r : Nat} {ws : List Word} (h : s.tablesWf) :
    (s.roundDrawn f r ws).tablesWf := by
  unfold State.roundDrawn
  split
  · exact h
  · refine ite_tablesWf (mirrorOpen_tablesWf (roundKeyed_tablesWf h)) ?_
    extract_lets
    exact ite_tablesWf (mirrorOpen_tablesWf (roundKeyed_tablesWf h)) (ask_tablesWf (updRound_tablesWf h))

theorem State.takeOpen_tablesWf {s : State} {f r : Nat} (h : s.tablesWf) : (s.takeOpen f r).tablesWf := by
  unfold State.takeOpen
  split
  · exact ite_tablesWf h (ite_tablesWf (verdict_tablesWf (roundKeyed_tablesWf h)) (verdict_tablesWf (abandon_tablesWf
      h)))
  · exact h

theorem State.zeroRound_tablesWf {s : State} {f r : Nat} (h : s.tablesWf) : (s.zeroRound f r).tablesWf := by
  unfold State.zeroRound
  split
  · exact h
  · exact ite_tablesWf h (updRound_tablesWf (foldl_tablesWf (fun _ hs _ => newEpoch_tablesWf hs) h))

theorem State.clearDir_tablesWf {s : State} {c : RoundCfg} (h : s.tablesWf) : (s.clearDir c).tablesWf := by
  unfold State.clearDir
  split
  · exact ite_tablesWf (foldl_tablesWf (fun _ hs _ => retag_tablesWf (wrote_tablesWf (zeroTile_tablesWf hs))) h) h
  · exact h

theorem State.openAccepted_tablesWf {s : State} {f : Nat} {c : RoundCfg} {basic : Bool} {ctr : Option Nat}
    {series lag deadline digest : Nat} (h : s.tablesWf) :
    (s.openAccepted f c basic ctr series lag deadline digest).tablesWf := by
  unfold State.openAccepted
  split
  · extract_lets _ _ _ src s1 s2 s3
    have hsrc : src.tablesWf := dropLeaves_tablesWf h
    clear_value src
    have hs1 : s1.tablesWf := updFn_tablesWf hsrc
    have hs2 : s2.tablesWf := zeroRound_tablesWf (clearDir_tablesWf hs1)
    have hs3 : s3.tablesWf := ite_tablesWf (takeOpen_tablesWf hs2) (ask_tablesWf hs2)
    exact deadRound_tablesWf hs3
  · exact h

theorem State.openRound_tablesWf {s : State} {f : Nat} {rec_ : Bytes} {basic : Bool} {bound : Nat} {ctr : Option Nat}
    (h : s.tablesWf) : (s.openRound f rec_ basic bound ctr).2.tablesWf := by
  unfold State.openRound
  split
  · exact h
  · extract_lets
    exact ite_snd_tablesWf (ite_tablesWf (verdict_tablesWf h) h) (openAccepted_tablesWf h)

theorem State.roundEnterOpen_tablesWf {s0 : State} {f r : Nat} (h : s0.tablesWf) :
    (s0.roundEnterOpen f r).tablesWf := by
  unfold State.roundEnterOpen
  extract_lets s
  have hs : s.tablesWf := ite_tablesWf (zeroRound_tablesWf h) h
  split
  · exact hs
  · exact ite_tablesWf (enter_tablesWf hs) hs

theorem State.takeO_tablesWf {s : State} {j : Nat} (h : s.tablesWf) : (s.takeO j).tablesWf := by
  unfold State.takeO
  refine issue_tablesWf h ?_
  intro _ _ u hu
  extract_lets
  refine ite_tablesWf (trapHere_tablesWf hu) ?_
  split
  next s1 e =>
    have hs1 : s1.tablesWf := snd_tablesWf e (openRound_tablesWf hu)
    exact report_tablesWf hs1

/-! ## What time does to a round (R80, R105 to R108) -/

theorem State.guardTimer_tablesWf {s : State} {f r : Nat} (h : s.tablesWf) : (s.guardTimer f r).tablesWf := by
  unfold State.guardTimer
  split
  · exact h
  · extract_lets
    exact ite_tablesWf (enter_tablesWf h) h

theorem State.applyCohort_tablesWf {s : State} {f r : Nat} (h : s.tablesWf) : (s.applyCohort f r).tablesWf := by
  unfold State.applyCohort
  split
  · exact h
  · split
    · exact h
    · extract_lets _ _ _ s1
      have hs1 : s1.tablesWf := updRound_tablesWf h
      exact ite_tablesWf (verdict_tablesWf (abandon_tablesWf h)) (ite_tablesWf (verdict_tablesWf hs1) hs1)

theorem State.resolveHold_tablesWf {s : State} {f r : Nat} (h : s.tablesWf) : (s.resolveHold f r).tablesWf := by
  unfold State.resolveHold
  split
  · exact h
  · refine ite_tablesWf (applyCohort_tablesWf h) ?_
    extract_lets s1
    have hs1 : s1.tablesWf := updRound_tablesWf h
    exact ite_tablesWf (mirror_tablesWf (updRound_tablesWf hs1)) (updRound_tablesWf hs1)

theorem State.roundDeadline_tablesWf {s : State} {f r : Nat} (h : s.tablesWf) : (s.roundDeadline f r).tablesWf := by
  unfold State.roundDeadline
  split
  · exact h
  · refine ite_tablesWf h (ite_tablesWf (ite_tablesWf (verdict_tablesWf (abandon_tablesWf h)) (ite_tablesWf
      (abandon_tablesWf h) (ite_tablesWf (abandon_tablesWf h) (ite_tablesWf (enter_tablesWf h) (abandon_tablesWf
      h))))) (ite_tablesWf ?_ h))
    extract_lets s1
    have hs1 : s1.tablesWf := resolveHold_tablesWf (enter_tablesWf h)
    exact ite_tablesWf (abandon_tablesWf hs1) hs1

theorem State.periodicOpen_tablesWf {s : State} {f r : Nat} (h : s.tablesWf) : (s.periodicOpen f r).tablesWf := by
  unfold State.periodicOpen
  split
  · exact h
  · extract_lets _ _ _ _ s1
    have hs1 : s1.tablesWf := updRound_tablesWf h
    exact ite_tablesWf h (ite_tablesWf (raise_tablesWf hs1) (openAccepted_tablesWf hs1))

theorem State.unmaskTimeout_tablesWf {s : State} {f r : Nat} (h : s.tablesWf) : (s.unmaskTimeout f r).tablesWf := by
  unfold State.unmaskTimeout
  split
  · exact h
  · exact ite_tablesWf (abandon_tablesWf h) h

/-! ## Command rings (R380 to R386) -/

theorem State.updRing_tablesWf {s : State} {f n : Nat} {g : Ring → Ring} (h : s.tablesWf) :
    (s.updRing f n g).tablesWf :=
  updFn_tablesWf h

theorem State.ringCmd_tablesWf {s : State} {f n : Nat} {body : State → State} (h : s.tablesWf)
    (hbody : ∀ u, u.tablesWf → (body u).tablesWf) : (s.ringCmd f n body).tablesWf := by
  unfold State.ringCmd
  exact ite_tablesWf h (funcCmd_tablesWf h (fun _ hs => ite_tablesWf hs (ite_tablesWf (wr_tablesWf hs) (hbody _ hs))))

theorem State.ringFail_tablesWf {s : State} {f n code : Nat} (h : s.tablesWf) : (s.ringFail f n code).tablesWf :=
  raiseOwn_tablesWf (wr_tablesWf h)

theorem State.ringCreate_tablesWf {s : State} {f n : Nat} (h : s.tablesWf) : (s.ringCreate f n).tablesWf := by
  unfold State.ringCreate
  refine ringCmd_tablesWf h ?_
  intro u hu
  extract_lets
  refine ite_tablesWf (ringFail_tablesWf hu) ?_
  split
  · exact ringFail_tablesWf hu
  · extract_lets s1
    have hs1 : s1.tablesWf := wr_tablesWf (wr_tablesWf (wr_tablesWf (wr_tablesWf (wr_tablesWf (wr_tablesWf hu)))))
    exact updRing_tablesWf hs1

theorem State.ringGone_tablesWf {s : State} {f n : Nat} (h : s.tablesWf) : (s.ringGone f n).tablesWf :=
  updRing_tablesWf (wr_tablesWf (wr_tablesWf h))

theorem State.ringDestroy_tablesWf {s : State} {f n : Nat} (h : s.tablesWf) : (s.ringDestroy f n).tablesWf := by
  unfold State.ringDestroy
  exact ringCmd_tablesWf h (fun _ hs => ite_tablesWf hs (ite_tablesWf (wr_tablesWf hs) (ringGone_tablesWf hs)))

theorem State.sqTail_tablesWf {s : State} {f n v : Nat} (h : s.tablesWf) : (s.sqTail f n v).tablesWf := by
  unfold State.sqTail
  refine ite_tablesWf h (funcCmd_tablesWf h ?_)
  intro u hu
  extract_lets s1
  have hs1 : s1.tablesWf := wr_tablesWf hu
  exact ite_tablesWf (ringFail_tablesWf (wr_tablesWf hs1)) hs1

theorem State.postHeld_tablesWf {s : State} {f n : Nat} {l : List Bytes} (h : s.tablesWf) :
    (s.postHeld f n l).tablesWf := by
  induction l generalizing s with
  | nil =>
    unfold State.postHeld
    exact updRing_tablesWf h
  | cons x xs ih =>
    unfold State.postHeld
    refine ite_tablesWf (updRing_tablesWf h) ?_
    extract_lets _ _ _ _ s1 s2
    have hs1 : s1.tablesWf := updRing_tablesWf (hostPut_tablesWf h)
    have hs2 : s2.tablesWf := ite_tablesWf hs1 (sendVec_tablesWf (updRing_tablesWf hs1))
    exact ih hs2

theorem State.cqHead_tablesWf {s : State} {f n v : Nat} (h : s.tablesWf) : (s.cqHead f n v).tablesWf := by
  unfold State.cqHead
  refine ite_tablesWf h (funcCmd_tablesWf h ?_)
  intro u hu
  extract_lets s1
  have hs1 : s1.tablesWf := updRing_tablesWf (wr_tablesWf hu)
  exact postHeld_tablesWf hs1

theorem State.takeJob_tablesWf {s : State} {f n : Nat} (h : s.tablesWf) : (s.takeJob f n).tablesWf := by
  unfold State.takeJob
  extract_lets src
  have hsrc : src.tablesWf := updFn_tablesWf (wr_tablesWf h)
  clear_value src
  exact hsrc

theorem State.jobDone_tablesWf {s : State} {f n d code result : Nat} (h : s.tablesWf) :
    (s.jobDone f n d code result).tablesWf := by
  unfold State.jobDone
  exact ite_tablesWf h (postHeld_tablesWf h)

theorem State.job_tablesWf {s : State} {f n : Nat} {desc : Bytes} {op : Nat} {want : Option Nat} {rec_ : Option Bytes}
    {body : Nat → Bytes → State → (Nat × Nat) × State} (h : s.tablesWf)
    (hbody : ∀ x0 x1 u2, u2.tablesWf → (body x0 x1 u2).2.tablesWf) : (s.job f n desc op want rec_ body).tablesWf := by
  unfold State.job
  extract_lets _ _ s1
  have hs1 : s1.tablesWf := takeJob_tablesWf h
  refine ite_tablesWf h (ite_tablesWf (jobDone_tablesWf hs1) ?_)
  split
  · exact jobDone_tablesWf hs1
  · split
    next s2 e =>
      have hs2 : s2.tablesWf := snd_tablesWf e (hbody _ _ _ hs1)
      exact jobDone_tablesWf hs2

theorem State.job0_tablesWf {s : State} {f n : Nat} {desc : Bytes} {op : Nat}
    {body : Nat → State → (Nat × Nat) × State} (h : s.tablesWf)
    (hbody : ∀ x0 u1, u1.tablesWf → (body x0 u1).2.tablesWf) : (s.job0 f n desc op body).tablesWf :=
  job_tablesWf h (fun _ _ _ hs => hbody _ _ hs)

theorem State.jobNop_tablesWf {s : State} {f n : Nat} {desc : Bytes} (h : s.tablesWf) :
    (s.jobNop f n desc).tablesWf := by
  unfold State.jobNop
  extract_lets
  exact ite_tablesWf (job0_tablesWf h (fun _ _ hs => hs)) (ite_tablesWf h (job_tablesWf h (fun _ _ _ hs => hs)))

theorem State.jobStatus_tablesWf {s : State} {f n : Nat} {desc : Bytes} (h : s.tablesWf) :
    (s.jobStatus f n desc).tablesWf := by
  unfold State.jobStatus
  refine job0_tablesWf h ?_
  intro _ u hu
  split
  · exact hu
  · exact putStatus_tablesWf hu

theorem State.jobAbandon_tablesWf {s : State} {f n : Nat} {desc : Bytes} (h : s.tablesWf) :
    (s.jobAbandon f n desc).tablesWf := by
  unfold State.jobAbandon
  refine job0_tablesWf h ?_
  intro _ u hu
  extract_lets
  split
  · exact hu
  · exact ite_snd_tablesWf (abandonCmd_tablesWf hu) hu

theorem State.jobSetDest_tablesWf {s : State} {f n : Nat} {desc : Bytes} (h : s.tablesWf) :
    (s.jobSetDest f n desc).tablesWf := by
  unfold State.jobSetDest
  exact job0_tablesWf h (fun _ _ hs => ite_snd_tablesWf hs (updFn_tablesWf hs))

theorem State.jobSubmit_tablesWf {s : State} {f n : Nat} {desc : Bytes} {rec_ : Option Bytes} (h : s.tablesWf) :
    (s.jobSubmit f n desc rec_).tablesWf := by
  unfold State.jobSubmit
  refine job_tablesWf h ?_
  intro _ _ u hu
  split
  · exact message_tablesWf hu
  · exact ite_snd_tablesWf hu (message_tablesWf hu)

theorem State.bindFirmware_tablesWf {s : State} {f : Nat} (h : s.tablesWf) : (s.bindFirmware f).tablesWf := by
  unfold State.bindFirmware
  extract_lets _ s1
  have hs1 : s1.tablesWf := loadOn_tablesWf h
  exact foldl_tablesWf (fun _ hs _ => updSpin_tablesWf hs) hs1

theorem State.jobOpen_tablesWf {s : State} {f n : Nat} {desc : Bytes} {rec_ : Option Bytes} (h : s.tablesWf) :
    (s.jobOpen f n desc rec_).tablesWf := by
  unfold State.jobOpen
  refine job_tablesWf h ?_
  intro _ _ u hu
  split
  · exact hu
  · refine ite_snd_tablesWf hu (ite_snd_tablesWf hu ?_)
    split
    next s1 e =>
      have hs1 : s1.tablesWf := snd_tablesWf e (openRound_tablesWf hu)
      exact ite_snd_tablesWf hs1 (bindFirmware_tablesWf hs1)

theorem State.periodicNext_tablesWf {s : State} {f r : Nat} (h : s.tablesWf) : (s.periodicNext f r).tablesWf := by
  unfold State.periodicNext
  extract_lets _ s1
  have hs1 : s1.tablesWf := periodicOpen_tablesWf h
  refine ite_tablesWf hs1 ?_
  split
  · exact ite_tablesWf (abandon_tablesWf hs1) (ite_tablesWf (bindFirmware_tablesWf hs1) (abandon_tablesWf hs1))
  · exact hs1

theorem State.jobApply_tablesWf {s : State} {f n : Nat} {desc : Bytes} {rec_ : Option Bytes} (h : s.tablesWf) :
    (s.jobApply f n desc rec_).tablesWf := by
  unfold State.jobApply
  refine job_tablesWf h ?_
  intro _ _ u hu
  split
  · exact hu
  · extract_lets
    refine ite_snd_tablesWf hu (ite_snd_tablesWf hu (ite_snd_tablesWf hu ?_))
    split
    next s1 e =>
      have hs1 : s1.tablesWf := snd_tablesWf e (applyTiles_tablesWf hu)
      exact hostPut_tablesWf hs1

/-! ## What both directions of a queue pair share (R235 to R246) -/

theorem State.sendCtl_tablesWf {s : State} {qpn : Nat} {l : List CtlPkt} (h : s.tablesWf) :
    (s.sendCtl qpn l).tablesWf := by
  induction l generalizing s with
  | nil =>
    unfold State.sendCtl
    exact h
  | cons x xs ih =>
    unfold State.sendCtl
    split
    · exact h
    · split
      · split
        · exact h
        · extract_lets
          exact ih (bump_tablesWf (emit_tablesWf (updQp_tablesWf h)))

theorem State.sendControl_tablesWf {s : State} {qpn : Nat} {k : CtlPkt} (h : s.tablesWf) :
    (s.sendControl qpn k).tablesWf := by
  unfold State.sendControl
  split
  · exact h
  · exact sendCtl_tablesWf (updQp_tablesWf h)

theorem State.sendAck_tablesWf {s : State} {qpn : Nat} (h : s.tablesWf) : (s.sendAck qpn).tablesWf := by
  unfold State.sendAck
  split
  · exact h
  · exact ite_tablesWf h (updQp_tablesWf (ite_tablesWf h (sendControl_tablesWf h)))

theorem State.sendNak_tablesWf {s : State} {qpn seq code : Nat} (h : s.tablesWf) :
    (s.sendNak qpn seq code).tablesWf :=
  sendControl_tablesWf h

theorem State.grant_tablesWf {s u : State} {qpn : Nat} (h : s.tablesWf) (e : s.grant qpn = some u) : u.tablesWf := by
  unfold State.grant at e
  split at e
  · cases e
  · extract_lets room at e
    split at e
    · cases e
    · split at e
      · cases e
      · cases e
        exact updQp_tablesWf h

theorem State.grantPass_tablesWf {s : State} {l : List Nat} (h : s.tablesWf) : (s.grantPass l).2.tablesWf := by
  induction l generalizing s with
  | nil =>
    unfold State.grantPass
    exact h
  | cons x xs ih =>
    unfold State.grantPass
    extract_lets
    split
    · exact ih h
    next s1 e =>
      have hs1 : s1.tablesWf := grant_tablesWf h e
      exact ih (ite_tablesWf (sendAck_tablesWf hs1) hs1)

theorem State.credits_tablesWf {s : State} {k : Nat} (h : s.tablesWf) : (s.credits k).tablesWf := by
  induction k generalizing s with
  | zero =>
    unfold State.credits
    exact h
  | succ n ih =>
    unfold State.credits
    split
    next s2 e =>
      have hs2 : s2.tablesWf := snd_tablesWf e (grantPass_tablesWf h)
      exact ite_tablesWf (ih hs2) hs2

theorem State.creditAll_tablesWf {s : State} (h : s.tablesWf) : s.creditAll.tablesWf := by
  unfold State.creditAll
  exact ite_tablesWf h (credits_tablesWf h)

theorem State.forwarded_tablesWf {s : State} {f r : Nat} (h : s.tablesWf) : (s.forwarded f r).tablesWf := by
  unfold State.forwarded
  split
  · exact h
  · refine ite_tablesWf h ?_
    extract_lets s1 s2
    have hs1 : s1.tablesWf := released_tablesWf h
    have hs2 : s2.tablesWf := by
      unfold s2
      split
      · exact ite_tablesWf hs1 (post_tablesWf hs1)
      · exact hs1
    exact ite_tablesWf hs1 (mirror_tablesWf hs2)

theorem State.roundDones_tablesWf {s : State} {f r : Nat} (h : s.tablesWf) : (s.roundDones f r).tablesWf := by
  unfold State.roundDones
  extract_lets
  split
  · exact h
  · exact forwarded_tablesWf h

theorem State.twrDoneCtr_tablesWf {s : State} {w : Twr} (h : s.tablesWf) : (s.twrDoneCtr w).tablesWf := by
  unfold State.twrDoneCtr
  exact ite_tablesWf h (ctrAdd_tablesWf h)

theorem State.fwdDone_tablesWf {s : State} {id : Nat} (h : s.tablesWf) : (s.fwdDone id).tablesWf := by
  unfold State.fwdDone
  split
  · exact h
  · refine ite_tablesWf h ?_
    extract_lets s1 s2
    have hs1 : s1.tablesWf := twrDoneCtr_tablesWf h
    clear_value s1
    have hs2 : s2.tablesWf := ite_tablesWf hs1 hs1
    exact roundDones_tablesWf hs2

theorem State.updTwr_tablesWf {s : State} {id : Nat} {g : Twr → Twr} (h : s.tablesWf) : (s.updTwr id g).tablesWf := h

theorem State.txDone_tablesWf {s : State} {k : TxOwner} (h : s.tablesWf) : (s.txDone k).tablesWf := by
  unfold State.txDone
  split
  · exact fwdDone_tablesWf (updTwr_tablesWf h)
  · split
    · extract_lets src
      have hsrc : src.tablesWf := twrDoneCtr_tablesWf h
      clear_value src
      exact hsrc
    · exact h
  · exact updSpin_tablesWf h
  · exact updSpin_tablesWf h
  · exact h

theorem State.txFail_tablesWf {s : State} {code : Nat} {k : TxOwner} (h : s.tablesWf) :
    (s.txFail code k).tablesWf := by
  unfold State.txFail
  split
  · exact twrFail_tablesWf h
  · exact twrFail_tablesWf h
  · exact updSpin_tablesWf h
  · exact updSpin_tablesWf h
  · exact h

theorem State.qpEnd_tablesWf {s : State} {qpn : Nat} {st : QpState} {code : Nat} (h : s.tablesWf) :
    (s.qpEnd qpn st code).tablesWf := by
  unfold State.qpEnd
  split
  · exact h
  · extract_lets s1 _ s2 s3 s4
    have hs1 : s1.tablesWf := updQp_tablesWf h
    clear_value s1
    have hs2 : s2.tablesWf := hs1
    have hs3 : s3.tablesWf := foldl_tablesWf (fun _ hs _ => txFail_tablesWf hs) hs2
    have hs4 : s4.tablesWf := foldl_tablesWf (fun _ hs _ => twrFail_tablesWf hs) hs3
    exact ite_tablesWf hs4 (raise_tablesWf hs4)

theorem State.drainCheck_tablesWf {s : State} {qpn : Nat} (h : s.tablesWf) : (s.drainCheck qpn).tablesWf := by
  unfold State.drainCheck
  split
  · exact h
  · exact ite_tablesWf (qpEnd_tablesWf h) h

theorem State.qpErrorAll_tablesWf {s : State} {code : Nat} {p : Qp → Bool} (h : s.tablesWf) :
    (s.qpErrorAll code p).tablesWf :=
  foldl_tablesWf (fun _ hs _ => qpEnd_tablesWf hs) h

/-! ## The tile class, drains and combines (R62 to R68, R207 to R212) -/

theorem State.prepare_tablesWf {s : State} {x : Round} {m : Msg} (h : s.tablesWf) : (s.prepare x m).2.tablesWf := by
  unfold State.prepare
  extract_lets done s1
  have hdone : ∀ u0 : State, u0.tablesWf → (done u0).tablesWf := fun _ hs => updLive_tablesWf hs
  have hs1 : s1.tablesWf := eccSpan_tablesWf h
  refine ite_snd_tablesWf h (ite_snd_tablesWf ?_ (ite_snd_tablesWf (ite_tablesWf (hdone _ hs1) hs1) (ite_tablesWf
      (hdone _ hs1) hs1)))
  split
  next s11 e =>
    have hs11 : s11.tablesWf := snd_tablesWf e (sealed2_tablesWf h)
    exact ite_tablesWf (hdone _ hs11) hs11

theorem State.payRead_tablesWf {s : State} {c : RoundCfg} {m : Msg} {cursor n : Nat} (h : s.tablesWf) :
    (s.payRead c m cursor n).tablesWf := by
  unfold State.payRead
  extract_lets
  exact eccSpan_tablesWf h

theorem State.exclude_tablesWf {s u : State} {x : Round} {m : Msg} {ctr : Option Nat} {step : Nat} {r : Except Nat Nat}
    (h : s.tablesWf) (e : s.exclude x m ctr step = some (r, u)) : u.tablesWf := by
  unfold State.exclude at e
  split at e
  · cases e
  · extract_lets rk gk at e
    split at e
    · cases e
      exact h
    · split at e
      · cases e
        exact h
      · split at e
        next ok s1 es =>
          have hs1 : s1.tablesWf := snd_tablesWf es (ite_snd_tablesWf h (evkUses_tablesWf h))
          split at e
          · cases e
            exact hs1
          · cases e
            exact startQuery_tablesWf hs1

theorem State.markAcc_tablesWf {s : State} {f r : Nat} (h : s.tablesWf) : (s.markAcc f r).tablesWf :=
  updRound_tablesWf h

theorem State.fold_tablesWf {s : State} {j : Nat} (h : s.tablesWf) : (s.fold j).tablesWf := by
  unfold State.fold
  refine unitOpE_tablesWf h ?_
  intro o u hu
  split
  · exact report_tablesWf hu
  · refine ite_tablesWf (report_tablesWf hu) (ite_tablesWf (report_tablesWf hu) (ite_tablesWf (ite_tablesWf
      (report_tablesWf hu) ?_) ?_))
    · extract_lets
      refine ite_tablesWf (reportMsg_tablesWf hu) ?_
      split
      · exact hu
      next s1 e =>
        have hs1 : s1.tablesWf := exclude_tablesWf hu e
        exact trapHere_tablesWf hs1
      next s1 e =>
        have hs1 : s1.tablesWf := exclude_tablesWf hu e
        exact deadRound_tablesWf (enqueue_tablesWf (askLoads_tablesWf hs1))
    · split
      next s1 e =>
        have hs1 : s1.tablesWf := snd_tablesWf e (prepare_tablesWf hu)
        refine ite_tablesWf (reportMsg_tablesWf hs1) ?_
        extract_lets _ _ _ _ s2
        have hs2 : s2.tablesWf := updLive_tablesWf (takeOff_tablesWf (payRead_tablesWf hs1))
        exact ite_tablesWf (reportMsg_tablesWf hs1) (ite_tablesWf (trapHere_tablesWf hu) (ite_tablesWf
            (trapHere_tablesWf (markAcc_tablesWf hu)) (ite_tablesWf hu (reportMsg_tablesWf (updSpin_tablesWf hs2)))))

theorem State.touchStage_tablesWf {s : State} {t : Nat} (h : s.tablesWf) : (s.touchStage t).tablesWf := h

theorem State.foldInto_tablesWf {s : State} {f : Nat} {x : Round} {g : FoldSeg} (h : s.tablesWf) :
    (s.foldInto f x g).tablesWf := by
  unfold State.foldInto
  extract_lets _ _ _ _ _ _ _ s1 s2
  have hs1 : s1.tablesWf := addElems_tablesWf (eccSpan_tablesWf (eccTag_tablesWf h))
  have hs2 : s2.tablesWf := wrote_tablesWf (setTag_tablesWf hs1)
  exact ite_tablesWf (raise_tablesWf hs2) hs2

theorem State.msgDone_tablesWf {s : State} {x : Round} {m : Msg} (h : s.tablesWf) : (s.msgDone x m).tablesWf := by
  unfold State.msgDone
  extract_lets s1
  have hs1 : s1.tablesWf := slotDone_tablesWf h
  exact ite_tablesWf (updRound_tablesWf hs1) hs1

theorem State.combine_tablesWf {s : State} {own : Option Round} {t : Nat} {g : TileTag} {data : Bytes}
    (h : s.tablesWf) : (s.combine own t g data).2.tablesWf := by
  unfold State.combine
  extract_lets _ _ _ _ _ _ _ _ _ s1 s2
  have hs1 : s1.tablesWf := addElems_tablesWf (eccRead_tablesWf h)
  have hs2 : s2.tablesWf := wrote_tablesWf (setTag_tablesWf hs1)
  exact ite_snd_tablesWf h (ite_tablesWf (raise_tablesWf hs2) hs2)

theorem State.combineNow_tablesWf {s : State} {f : Nat} {own : Option Nat} {t : Nat} {record : Bytes}
    {credit : Option (Nat × Nat)} (h : s.tablesWf) : (s.combineNow f own t record credit).tablesWf := by
  unfold State.combineNow
  extract_lets
  split
  next s1 e =>
    have hs1 : s1.tablesWf := snd_tablesWf e (ite_snd_tablesWf (combine_tablesWf h) (ite_tablesWf (markAcc_tablesWf
        h) h))
    refine ite_tablesWf (raise_tablesWf hs1) ?_
    split
    · exact recordDone_tablesWf (updRound_tablesWf hs1)
    · exact updRound_tablesWf hs1
    · exact hs1

theorem State.settleCombines_tablesWf {s : State} (h : s.tablesWf) : s.settleCombines.tablesWf :=
  foldl_tablesWf (fun _ hs _ => combineNow_tablesWf hs) h

theorem State.join_tablesWf {s : State} {f : Nat} {own : Option Nat} {t e : Nat} {record : Bytes}
    {credit : Option (Nat × Nat)} (h : s.tablesWf) : (s.join f own t e record credit).tablesWf := by
  unfold State.join
  exact ite_tablesWf (combineNow_tablesWf h) h

theorem State.drainOver_tablesWf {s : State} {d : DrainOut} (h : s.tablesWf) : (s.drainOver d).tablesWf :=
  updSpin_tablesWf h

theorem State.settleZeros_tablesWf {s : State} (h : s.tablesWf) : s.settleZeros.tablesWf := by
  unfold State.settleZeros
  exact foldl_tablesWf (fun _ hs _ => ite_tablesWf (drainOver_tablesWf (newEpoch_tablesWf hs)) hs) h

theorem State.settleTiles_tablesWf {s : State} (h : s.tablesWf) : s.settleTiles.tablesWf :=
  settleCombines_tablesWf (settleZeros_tablesWf h)

theorem State.segRetire_tablesWf {s : State} {j i : Nat} (h : s.tablesWf) : (s.segRetire j i).tablesWf := by
  unfold State.segRetire
  split
  · refine ite_tablesWf h ?_
    extract_lets s1
    have hs1 : s1.tablesWf := updSpin_tablesWf h
    split
    · exact settleTiles_tablesWf (land_tablesWf hs1)
    · extract_lets _ s2 s3 s4
      have hs2 : s2.tablesWf := touchStage_tablesWf (foldInto_tablesWf hs1)
      have hs3 : s3.tablesWf := by
        unfold s3
        split
        · exact countRow_tablesWf hs2
        · exact hs2
      have hs4 : s4.tablesWf := settleTiles_tablesWf (land_tablesWf (updLive_tablesWf hs3))
      split
      · exact ite_tablesWf (msgDone_tablesWf hs4) hs4
      · exact hs4
  · exact h

theorem State.drainRecord_tablesWf {s : State} {j : Nat} {zero : Bool} {pairs : List (Nat × Nat)} (h : s.tablesWf) :
    (s.drainRecord j zero pairs).tablesWf :=
  foldl_tablesWf (fun _ hu _ => hu) h

theorem State.zero_tablesWf {s : State} {j : Nat} (h : s.tablesWf) : (s.zero j).tablesWf := by
  unfold State.zero
  refine unitOp_tablesWf h ?_
  intro _ u hu
  extract_lets
  exact ite_tablesWf (ctTrap_tablesWf hu) (ite_tablesWf (trapHere_tablesWf hu) (settleTiles_tablesWf
      (enqueue_tablesWf (drainRecord_tablesWf hu))))

theorem State.copyTile_tablesWf {s : State} {src dst : Nat} (h : s.tablesWf) : (s.copyTile src dst).tablesWf := by
  unfold State.copyTile
  extract_lets _ s1 _ _ s2 s3
  have hs1 : s1.tablesWf := newEpoch_tablesWf h
  have hs2 : s2.tablesWf := setTag_tablesWf hs1
  have hs3 : s3.tablesWf := wrote_tablesWf (putTile_tablesWf hs2)
  exact ite_tablesWf (lockBytes_tablesWf hs3) hs3

theorem State.copyAll_tablesWf {s : State} {l : List (Nat × Nat)} (h : s.tablesWf) : (s.copyAll l).2.tablesWf := by
  induction l generalizing s with
  | nil =>
    unfold State.copyAll
    exact h
  | cons x xs ih =>
    unfold State.copyAll
    split
    next s2 e =>
      have hs2 : s2.tablesWf := snd_tablesWf e (verify_tablesWf h)
      exact ite_snd_tablesWf (ih (copyTile_tablesWf hs2)) hs2

theorem State.copy_tablesWf {s : State} {j : Nat} (h : s.tablesWf) : (s.copy j).tablesWf := by
  unfold State.copy
  refine unitOp_tablesWf h ?_
  intro _ u hu
  extract_lets
  refine ite_tablesWf (trapHere_tablesWf hu) (ite_tablesWf (ctTrap_tablesWf hu) (ite_tablesWf (ctTrap_tablesWf hu)
      (ite_tablesWf (trapHere_tablesWf hu) (ite_tablesWf (trapHere_tablesWf hu) (ite_tablesWf (trapHere_tablesWf hu)
      (ite_tablesWf (trapHere_tablesWf hu) (ite_tablesWf hu ?_)))))))
  split
  next s2 e =>
    have hs2 : s2.tablesWf := snd_tablesWf e (copyAll_tablesWf hu)
    exact silent_tablesWf hs2

theorem State.chkt_tablesWf {s : State} {j : Nat} (h : s.tablesWf) : (s.chkt j).tablesWf := by
  unfold State.chkt
  refine unitOp_tablesWf h ?_
  intro _ u hu
  extract_lets
  refine ite_tablesWf hu ?_
  split
  next s2 e =>
    have hs2 : s2.tablesWf := snd_tablesWf e (verifyAll_tablesWf hu)
    exact report_tablesWf hs2

theorem State.drainEnded_tablesWf {s : State} {t e : Nat} (h : s.tablesWf) : (s.drainEnded t e).tablesWf := h

theorem State.drainIssue_tablesWf {s : State} {j : Nat} {o : TOps} {op : UOp} {pairs : List (Nat × Nat)} {qpn : Nat}
    (h : s.tablesWf) : (s.drainIssue j o op pairs qpn).tablesWf :=
  enqueue_tablesWf (drainRecord_tablesWf h)

theorem State.drain_tablesWf {s : State} {j : Nat} (h : s.tablesWf) : (s.drain j).tablesWf := by
  unfold State.drain
  refine unitOp_tablesWf h ?_
  intro _ u hu
  extract_lets
  refine ite_tablesWf (trapHere_tablesWf hu) ?_
  split
  · exact trapHere_tablesWf hu
  · exact ite_tablesWf hu (drainIssue_tablesWf hu)

theorem State.drainCombine_tablesWf {s : State} {j : Nat} (h : s.tablesWf) : (s.drainCombine j).tablesWf := by
  unfold State.drainCombine
  refine unitOp_tablesWf h ?_
  intro _ u hu
  extract_lets
  exact ite_tablesWf (trapHere_tablesWf hu) (ite_tablesWf (trapHere_tablesWf hu) (ite_tablesWf hu
      (drainIssue_tablesWf hu)))

theorem State.drainTile_tablesWf {s : State} {t : Nat} (h : s.tablesWf) : (s.drainTile t).2.2.2.tablesWf := by
  unfold State.drainTile
  extract_lets s0 _ _ _ s1
  have hs0 : s0.tablesWf := eccRead_tablesWf h
  have hs1 : s1.tablesWf := newEpoch_tablesWf hs0
  exact ite_tablesWf hs1 (csumFail_tablesWf hs1)

theorem State.drainRead_tablesWf {s : State} {j : Nat} (h : s.tablesWf) : (s.drainRead j).tablesWf := by
  unfold State.drainRead
  split
  · split
    · exact h
    · refine ite_tablesWf h ?_
      split
      next s1 e =>
        have hs1 : s1.tablesWf := snd_snd_snd_tablesWf e (drainTile_tablesWf h)
        extract_lets s2
        have hs2 : s2.tablesWf := drainEnded_tablesWf (updSpin_tablesWf hs1)
        exact ite_tablesWf (trapLate_tablesWf (settleTiles_tablesWf hs2)) (ite_tablesWf (settleTiles_tablesWf
            (join_tablesWf hs2)) (updSpin_tablesWf (post_tablesWf (settleTiles_tablesWf hs2))))
  · exact h

theorem State.openMsg_tablesWf {s : State} {j : Nat} (h : s.tablesWf) : (s.openMsg j).tablesWf := by
  unfold State.openMsg
  refine unitOp_tablesWf h ?_
  intro _ u hu
  split
  · exact report_tablesWf hu
  · refine ite_tablesWf (report_tablesWf hu) ?_
    split
    next s1 e =>
      have hs1 : s1.tablesWf := snd_tablesWf e (sealed2_tablesWf hu)
      exact reportMsg_tablesWf hs1

theorem State.reportClip_tablesWf {s : State} {j w c : Nat} {x : Round} {m : Msg} (h : s.tablesWf) :
    (s.reportClip j w c x m).tablesWf :=
  enqueue_tablesWf h

theorem State.clip_tablesWf {s : State} {j : Nat} (h : s.tablesWf) : (s.clip j).tablesWf := by
  unfold State.clip
  refine unitOp_tablesWf h ?_
  intro _ u hu
  split
  · exact report_tablesWf hu
  · refine ite_tablesWf (trapHere_tablesWf hu) (ite_tablesWf (report_tablesWf hu) (ite_tablesWf (ite_tablesWf
      (trapHere_tablesWf hu) ?_) (ite_tablesWf (trapHere_tablesWf hu) (ite_tablesWf ?_ ?_))))
    · split
      next s1 e =>
        have hs1 : s1.tablesWf := snd_tablesWf e (sealed2_tablesWf hu)
        exact reportClip_tablesWf hs1
    · extract_lets
      exact report_tablesWf hu
    · extract_lets
      refine ite_tablesWf (reportClip_tablesWf hu) ?_
      split
      · exact hu
      next s1 e =>
        have hs1 : s1.tablesWf := exclude_tablesWf hu e
        exact trapHere_tablesWf hs1
      next s1 e =>
        have hs1 : s1.tablesWf := exclude_tablesWf hu e
        exact deadRound_tablesWf (report_tablesWf (askLoads_tablesWf hs1))

theorem State.clipFinish_tablesWf {s : State} {j : Nat} (h : s.tablesWf) : (s.clipFinish j).tablesWf := by
  unfold State.clipFinish
  refine unitOp_tablesWf h ?_
  intro _ u hu
  extract_lets
  exact ite_tablesWf (trapHere_tablesWf hu) (enqueue_tablesWf hu)

/-! ## Sparse rounds (R138 to R154, R218) -/

theorem State.foldRows_tablesWf {s : State} {j : Nat} {o : TOps} {x : Round} {m : Msg} (h : s.tablesWf) :
    (s.foldRows j o x m).tablesWf := by
  unfold State.foldRows
  extract_lets _ _ _ _ s0 s1 s2
  have hs0 : s0.tablesWf := takeOff_tablesWf (eccSpan_tablesWf h)
  have hs1 : s1.tablesWf := updLive_tablesWf hs0
  have hs2 : s2.tablesWf := updSpin_tablesWf hs1
  exact ite_tablesWf (reportMsg_tablesWf h) (ite_tablesWf hs2 (reportMsg_tablesWf hs2))

theorem State.resolve_tablesWf {s : State} {j : Nat} {o : TOps} {x : Round} {m : Msg} {key : Nat} (h : s.tablesWf) :
    (s.resolve j o x m key).tablesWf := by
  unfold State.resolve
  extract_lets
  split
  · extract_lets s1
    have hs1 : s1.tablesWf := updLive_tablesWf (putResolved_tablesWf h)
    split
    · exact updSpin_tablesWf (updRound_tablesWf hs1)
    · exact reportMsg_tablesWf hs1
    · split
      · exact foldRows_tablesWf hs1
      · exact hs1

theorem State.foldr_tablesWf {s : State} {j : Nat} (h : s.tablesWf) : (s.foldr j).tablesWf := by
  unfold State.foldr
  refine unitOp_tablesWf h ?_
  intro _ u hu
  split
  · exact report_tablesWf hu
  · refine ite_tablesWf (report_tablesWf hu) ?_
    split
    · exact trapHere_tablesWf hu
    · split
      next s1 e =>
        have hs1 : s1.tablesWf := snd_tablesWf e (prepare_tablesWf hu)
        refine ite_tablesWf (reportMsg_tablesWf hs1) ?_
        split
        · exact resolve_tablesWf hs1
        · exact hs1

theorem State.pageFetch_tablesWf {s : State} {j : Nat} (h : s.tablesWf) : (s.pageFetch j).tablesWf := by
  unfold State.pageFetch
  split
  · exact h
  · split
    · exact h
    · exact foldr_tablesWf (updRound_tablesWf (cachePage_tablesWf h))

theorem State.moveRows_tablesWf {s : State} {r : Round} {rows : List (Nat × DirEntry)} (h : s.tablesWf) :
    (s.moveRows r rows).tablesWf := by
  unfold State.moveRows
  extract_lets _ _ _ s1
  have hs1 : s1.tablesWf := foldl_tablesWf (fun _ hs _ => zeroTile_tablesWf hs) h
  exact foldl_tablesWf (fun _ hs _ => setElems_tablesWf hs) hs1

theorem State.blockTag_tablesWf {s : State} {r : Round} {rows : List (Nat × DirEntry)} {x : Nat} (h : s.tablesWf) :
    (s.blockTag r rows x).tablesWf := by
  unfold State.blockTag
  extract_lets _ _ _ _ _ s1 _ s2
  have hs1 : s1.tablesWf := setTag_tablesWf h
  have hs2 : s2.tablesWf := wrote_tablesWf (setTag_tablesWf hs1)
  exact ite_tablesWf (raise_tablesWf hs2) hs2

theorem State.canonical_tablesWf {s : State} {f r : Nat} (h : s.tablesWf) : (s.canonical f r).tablesWf := by
  unfold State.canonical
  split
  · exact h
  · extract_lets s0
    have hs0 : s0.tablesWf := foldl_tablesWf (fun _ hs _ => dropPages_tablesWf hs) h
    split
    next s2 e =>
      have hs2 : s2.tablesWf := snd_tablesWf e (verifyAll_tablesWf hs0)
      refine ite_tablesWf (abandon_tablesWf hs2) ?_
      extract_lets s21 s3 s4 s5
      have hs21 : s21.tablesWf := moveRows_tablesWf hs2
      have hs3 : s3.tablesWf := foldl_tablesWf (fun _ hs _ => ite_tablesWf (blockTag_tablesWf hs) hs) hs21
      have hs4 : s4.tablesWf := putDir_tablesWf hs3
      have hs5 : s5.tablesWf := foldl_tablesWf (fun _ hs _ => cacheBack_tablesWf hs) hs4
      exact updRound_tablesWf hs5

theorem State.canonicalDone_tablesWf {s : State} {f r : Nat} (h : s.tablesWf) : (s.canonicalDone f r).tablesWf := by
  unfold State.canonicalDone
  split
  · exact h
  · exact ite_tablesWf h (leaveClosed_tablesWf (stairCheck_tablesWf (canonical_tablesWf h)))

/-! ## The staircase at a parent (R293, R294, R307) -/

theorem State.cohortMessage_tablesWf {s : State} {f qpn : Nat} {msg : Bytes} (h : s.tablesWf) :
    (s.cohortMessage f qpn msg).tablesWf := by
  unfold State.cohortMessage
  split
  · exact raise_tablesWf h
  · extract_lets
    exact ite_tablesWf (raise_tablesWf h) (ite_tablesWf (abandon_tablesWf h) (settleIfFull_tablesWf
        (updRound_tablesWf h)))

theorem State.childWait_tablesWf {s : State} {f r : Nat} (h : s.tablesWf) : (s.childWait f r).tablesWf := by
  unfold State.childWait
  split
  · exact h
  · extract_lets
    exact ite_tablesWf (stairCheck_tablesWf (updRound_tablesWf h)) h

theorem State.resolveNow_tablesWf {s : State} {f r key row : Nat} (h : s.tablesWf) :
    (s.resolveNow f r key row).2.tablesWf := by
  unfold State.resolveNow
  split
  · exact h
  · extract_lets s1
    have hs1 : s1.tablesWf := foldl_tablesWf (fun _ hs _ => cachePage_tablesWf hs) h
    split
    · exact putResolved_tablesWf hs1
    · exact hs1

theorem State.resolveAll_tablesWf {s : State} {f r key : Nat} {l : List Nat} (h : s.tablesWf) :
    (s.resolveAll f r key l).2.tablesWf := by
  induction l generalizing s with
  | nil =>
    unfold State.resolveAll
    exact h
  | cons x xs ih =>
    unfold State.resolveAll
    split
    next s2 e =>
      have hs2 : s2.tablesWf := snd_tablesWf e (resolveNow_tablesWf h)
      exact ite_snd_tablesWf (ih hs2) hs2

theorem State.foldRow_tablesWf {s : State} {f r row n : Nat} {elems : List Nat} (h : s.tablesWf) :
    (s.foldRow f r row n elems).tablesWf := by
  unfold State.foldRow
  split
  · exact h
  · extract_lets _ _ _ _ _ _ s1 _ s2
    have hs1 : s1.tablesWf := addElems_tablesWf h
    have hs2 : s2.tablesWf := wrote_tablesWf (setTag_tablesWf hs1)
    exact countRow_tablesWf hs2

theorem State.blockOver_tablesWf {s : State} {f : Nat} {x : Round} {ovr : Bool} {t : Nat} (h : s.tablesWf) :
    (s.blockOver f x ovr t).tablesWf := by
  unfold State.blockOver
  extract_lets _ _ s1
  have hs1 : s1.tablesWf := setTag_tablesWf h
  exact ite_tablesWf (raise_tablesWf hs1) hs1

theorem State.foldBlock_tablesWf {s : State} {f r i : Nat} {rows : List (Nat × Nat × Nat)} {rec_ : Bytes}
    {credit : Nat × Nat} (h : s.tablesWf) : (s.foldBlock f r i rows rec_ credit).2.tablesWf := by
  unfold State.foldBlock
  split
  · exact h
  · extract_lets
    split
    · exact raiseOnce_tablesWf h
    · split
      next s2 e =>
        have hs2 : s2.tablesWf := snd_tablesWf e (resolveAll_tablesWf h)
        refine ite_snd_tablesWf (raiseOnce_tablesWf hs2) ?_
        extract_lets s21
        have hs21 : s21.tablesWf := foldl_tablesWf (fun _ hs _ => foldRow_tablesWf hs) hs2
        exact recordDone_tablesWf (foldl_tablesWf (fun _ hs _ => blockOver_tablesWf hs) hs21)

theorem State.sparseRecord_tablesWf {s : State} {f r qpn i : Nat} {rec_ : Bytes} {credit : Nat × Nat} (h : s.tablesWf)
    : (s.sparseRecord f r qpn i rec_ credit).2.tablesWf := by
  unfold State.sparseRecord
  split
  · exact h
  · split
    · exact foldBlock_tablesWf h
    · exact updRound_tablesWf h

theorem State.rowListMsg_tablesWf {s : State} {f qpn : Nat} {x : Round} {msg : Bytes} (h : s.tablesWf) :
    (s.rowListMsg f qpn x msg).tablesWf := by
  unfold State.rowListMsg
  extract_lets
  split
  · exact raise_tablesWf h
  · extract_lets s1
    have hs1 : s1.tablesWf := updRound_tablesWf h
    exact foldl_tablesWf (fun _ hs _ => foldBlock_tablesWf hs) hs1

theorem State.partialDigest_tablesWf {s : State} {f r : Nat} (h : s.tablesWf) : (s.partialDigest f r).tablesWf := by
  unfold State.partialDigest
  split
  · exact h
  · refine ite_tablesWf h ?_
    split
    next s2 e =>
      have hs2 : s2.tablesWf := snd_tablesWf e (verifyAll_tablesWf h)
      refine ite_tablesWf hs2 ?_
      extract_lets
      exact plyFormed_tablesWf (updRound_tablesWf hs2)

/-! ## Memory windows (R262 to R270) -/

theorem State.xrecord_tablesWf {s : State} {f : Nat} {path : CmdPath} {op : Nat}
    {body : Bytes → State → (Nat × Nat) × State} (h : s.tablesWf)
    (hbody : ∀ x0 u1, u1.tablesWf → (body x0 u1).2.tablesWf) : (s.xrecord f path op body).tablesWf := by
  unfold State.xrecord
  split
  · refine funcCmd_tablesWf h ?_
    intro u hu
    refine ite_tablesWf (wr_tablesWf hu) ?_
    split
    next s2 e =>
      have hs2 : s2.tablesWf := snd_tablesWf e (hbody _ _ hu)
      exact wr_tablesWf (wr_tablesWf hs2)
  · exact job_tablesWf h (fun _ _ _ hs => hbody _ _ hs)

theorem State.xarg_tablesWf {s : State} {f : Nat} {path : CmdPath} {op : Nat} {body : Nat → State → Nat × State}
    (h : s.tablesWf) (hbody : ∀ x0 u1, u1.tablesWf → (body x0 u1).2.tablesWf) : (s.xarg f path op body).tablesWf := by
  unfold State.xarg
  split
  · refine funcCmd_tablesWf h ?_
    intro u hu
    refine ite_tablesWf (wr_tablesWf hu) ?_
    split
    next s1 e =>
      have hs1 : s1.tablesWf := snd_tablesWf e (hbody _ _ hu)
      exact wr_tablesWf (wr_tablesWf hs1)
  · refine job0_tablesWf h ?_
    intro _ u1 hu1
    split
    next s1 e =>
      have hs1 : s1.tablesWf := snd_tablesWf e (hbody _ _ hu1)
      exact hs1

theorem State.openWindow_tablesWf {s : State} {f : Nat} {b : Bytes} (h : s.tablesWf) :
    (s.openWindow f b).2.tablesWf := by
  obtain ⟨hregs, htags, hctrs, hflights, hrots, hgens, hevicts⟩ := tablesWf_iff.1 h
  unfold State.openWindow
  split
  · exact tablesWf_iff.2 ⟨hregs, htags, hctrs, hflights, hrots, Sparse.set_wf _ _ _ _ hgens, hevicts⟩
  · exact raise_tablesWf h

theorem State.rxFail_tablesWf {s : State} {qpn msn seq code : Nat} (h : s.tablesWf) :
    (s.rxFail qpn msn seq code).tablesWf :=
  sendNak_tablesWf (updQp_tablesWf h)

theorem State.failWindow_tablesWf {s : State} {handle : Nat} (h : s.tablesWf) : (s.failWindow handle).tablesWf := by
  unfold State.failWindow
  extract_lets
  exact foldl_tablesWf (fun _ hs _ => rxFail_tablesWf hs) h

theorem State.closeWindow_tablesWf {s : State} {w : Window} (h : s.tablesWf) : (s.closeWindow w).tablesWf := by
  unfold State.closeWindow
  extract_lets src
  have hsrc : src.tablesWf := failWindow_tablesWf h
  clear_value src
  exact hsrc

theorem State.revokeWindow_tablesWf {s : State} {f handle : Nat} (h : s.tablesWf) :
    (s.revokeWindow f handle).2.tablesWf := by
  unfold State.revokeWindow
  split
  · exact h
  · exact closeWindow_tablesWf h

theorem State.recordCsum_tablesWf {s : State} {w : Window} {t : Nat} (h : s.tablesWf) : (s.recordCsum w t).tablesWf :=
  capture_tablesWf (raise_tablesWf h)

theorem State.record_tablesWf {s : State} {w : Window} {qpn i : Nat} {rec_ : Bytes} (h : s.tablesWf) :
    (s.record w qpn i rec_).2.tablesWf := by
  unfold State.record
  extract_lets
  split
  · exact h
  · extract_lets
    exact ite_snd_tablesWf h (ite_snd_tablesWf (recordCsum_tablesWf h) (ite_snd_tablesWf (raise_tablesWf h)
        (ite_snd_tablesWf h (ite_snd_tablesWf (sparseRecord_tablesWf h) (join_tablesWf h)))))

/-! ## Triggered work (R275 to R280) -/

theorem State.postTwr_tablesWf {s : State} {f : Nat} {b : Bytes} (h : s.tablesWf) : (s.postTwr f b).2.tablesWf := by
  unfold State.postTwr
  split
  · extract_lets
    exact h
  · exact raise_tablesWf h

theorem State.cancelTwr_tablesWf {s : State} {f id : Nat} (h : s.tablesWf) : (s.cancelTwr f id).2.tablesWf := by
  unfold State.cancelTwr
  exact ite_snd_tablesWf h (raise_tablesWf h)

theorem State.forward_tablesWf {s : State} {w : Twr} (h : s.tablesWf) : (s.forward w).tablesWf := by
  unfold State.forward
  extract_lets held k t list
  clear_value list
  refine ite_tablesWf (ite_tablesWf (fwdDone_tablesWf (updTwr_tablesWf h)) h) (ite_tablesWf h ?_)
  split
  next s1 e =>
    have hs1 : s1.tablesWf := snd_snd_snd_tablesWf e (drainTile_tablesWf h)
    refine ite_tablesWf (twrFail_tablesWf hs1) ?_
    extract_lets s2
    have hs2 : s2.tablesWf := by
      unfold s2
      split
      · exact updTwr_tablesWf (post_tablesWf (settleTiles_tablesWf hs1))
      · exact settleTiles_tablesWf hs1
    exact updTwr_tablesWf (post_tablesWf hs2)

theorem State.twrSend_tablesWf {s : State} {w : Twr} {data : Option Bytes} (h : s.tablesWf) :
    (s.twrSend w data).tablesWf := by
  unfold State.twrSend
  refine ite_tablesWf h ?_
  extract_lets
  exact ite_tablesWf (updTwr_tablesWf (post_tablesWf h)) (post_tablesWf (twrFail_tablesWf h))

theorem State.fireOne_tablesWf {s : State} {w : Twr} (h : s.tablesWf) : (s.fireOne w).tablesWf := by
  unfold State.fireOne
  refine ite_tablesWf ?_ (updTwr_tablesWf h)
  extract_lets src
  have hsrc : src.tablesWf := ctrAdd_tablesWf h
  clear_value src
  exact hsrc

theorem State.armTwrs_tablesWf {s : State} (h : s.tablesWf) : s.armTwrs.tablesWf := by
  unfold State.armTwrs
  refine foldl_tablesWf ?_ h
  intro u hu _
  extract_lets src
  have hsrc : src.tablesWf := updTwr_tablesWf hu
  clear_value src
  exact hsrc

theorem State.twrOn_tablesWf {s : State} {id : Nat} {data : Option Bytes} (h : s.tablesWf) :
    (s.twrOn id data).tablesWf := by
  unfold State.twrOn
  split
  · exact h
  · exact ite_tablesWf h (ite_tablesWf (forward_tablesWf h) (twrSend_tablesWf h))

theorem State.twrFire_tablesWf {s : State} {id : Nat} {data : Option Bytes} (h : s.tablesWf) :
    (s.twrFire id data).tablesWf := by
  unfold State.twrFire
  split
  · exact h
  · split
    · exact h
    · exact ite_tablesWf h (twrOn_tablesWf (foldl_tablesWf (fun _ hs _ => fireOne_tablesWf hs) h))

theorem State.ctrVal_tablesWf {s : State} {f v : Nat} (h : s.tablesWf) : (s.ctrVal f v).tablesWf := by
  unfold State.ctrVal
  exact funcCmd_tablesWf h (fun _ hs => ctrWrite_tablesWf hs)

/-! ## Privileged registers (R10, R11, R375) -/

theorem State.privCmd_tablesWf {s : State} {r : Req} {off : Nat} {body : State → State} (h : s.tablesWf)
    (hbody : ∀ u, u.tablesWf → (body u).tablesWf) : (s.privCmd r off body).tablesWf := by
  unfold State.privCmd
  exact ite_tablesWf h (ite_tablesWf (accErr_tablesWf h) (ite_tablesWf (accErr_tablesWf h) (hbody _ h)))

/-! ## Keys of the Nalam core (R334 to R339, R351) -/

theorem State.updSlot_tablesWf {s : State} {i : Nat} {g : KeySlot → KeySlot} (h : s.tablesWf) :
    (s.updSlot i g).tablesWf :=
  h

theorem State.setSlot_tablesWf {s : State} {i : Nat} {a : KeyAttr} {v m : Nat} (h : s.tablesWf) :
    (s.setSlot i a v m).tablesWf :=
  updSlot_tablesWf h

theorem State.clearAssets_tablesWf {s : State} {f : Nat} (h : s.tablesWf) : (s.clearAssets f).tablesWf := by
  unfold State.clearAssets
  extract_lets s1 _ s2
  have hs1 : s1.tablesWf := updFn_tablesWf h
  clear_value s1
  have hs2 : s2.tablesWf := hs1
  exact wr_tablesWf (wr_tablesWf (wr_tablesWf (wr_tablesWf (wr_tablesWf hs2))))

theorem State.zeroFkey_tablesWf {s : State} {f code : Nat} (h : s.tablesWf) : (s.zeroFkey f code).tablesWf := by
  unfold State.zeroFkey
  extract_lets s1
  have hs1 : s1.tablesWf := qpErrorAll_tablesWf (abandonAll_tablesWf h)
  exact wr_tablesWf (clearAssets_tablesWf hs1)

theorem State.zeroSlot_tablesWf {s : State} {i code : Nat} (h : s.tablesWf) : (s.zeroSlot i code).tablesWf := by
  unfold State.zeroSlot
  extract_lets _ src _ s1
  have hsrc : src.tablesWf := updSlot_tablesWf h
  clear_value src
  have hs1 : s1.tablesWf := hsrc
  exact ite_tablesWf (zeroFkey_tablesWf hs1) hs1

theorem State.releaseSlot_tablesWf {s : State} {i code : Nat} (h : s.tablesWf) : (s.releaseSlot i code).tablesWf := by
  unfold State.releaseSlot
  extract_lets _ s1
  have hs1 : s1.tablesWf := updSlot_tablesWf (zeroSlot_tablesWf h)
  exact ite_tablesWf (wr_tablesWf hs1) hs1

theorem State.keyWork_tablesWf {s : State} (h : s.tablesWf) : s.keyWork.tablesWf := h

theorem State.keyCmd_tablesWf {s : State} {r : Req} {body : State → Nat × State} (h : s.tablesWf)
    (hbody : ∀ u, u.tablesWf → (body u).2.tablesWf) : (s.keyCmd r body).tablesWf := by
  unfold State.keyCmd
  refine privCmd_tablesWf h ?_
  intro u hu
  refine ite_tablesWf hu ?_
  split
  next s1 e =>
    have hs1 : s1.tablesWf := snd_tablesWf e (hbody _ hu)
    exact wr_tablesWf hs1

theorem State.assign_tablesWf {s : State} {r : Req} {slot f : Nat} {toCC : Bool} (h : s.tablesWf) :
    (s.assign r slot f toCC).tablesWf := by
  unfold State.assign
  refine keyCmd_tablesWf h ?_
  intro u hu
  refine ite_snd_tablesWf hu (ite_snd_tablesWf (updSlot_tablesWf hu) ?_)
  extract_lets s1
  have hs1 : s1.tablesWf := wr_tablesWf (updSlot_tablesWf (clearAssets_tablesWf hu))
  exact ask_tablesWf (ask_tablesWf hs1)

theorem State.keyRelease_tablesWf {s : State} {r : Req} {slot : Nat} (h : s.tablesWf) :
    (s.keyRelease r slot).tablesWf := by
  unfold State.keyRelease
  exact keyCmd_tablesWf h (fun _ hs => ite_snd_tablesWf hs (keyWork_tablesWf (releaseSlot_tablesWf hs)))

theorem State.keyZero_tablesWf {s : State} {r : Req} {slot : Nat} (h : s.tablesWf) : (s.keyZero r slot).tablesWf := by
  unfold State.keyZero
  exact keyCmd_tablesWf h (fun _ hs => ite_snd_tablesWf hs (keyWork_tablesWf (zeroSlot_tablesWf hs)))

theorem State.fkeyZero_tablesWf {s : State} {f : Nat} (h : s.tablesWf) : (s.fkeyZero f).tablesWf := by
  unfold State.fkeyZero
  refine funcCmd_tablesWf h ?_
  intro u hu
  refine ite_tablesWf hu ?_
  split
  · exact zeroSlot_tablesWf hu
  · exact hu

theorem State.transition_tablesWf {s : State} {pattern : Nat} (h : s.tablesWf) : (s.transition pattern).tablesWf := by
  unfold State.transition
  extract_lets s1 s2 s3
  have hs1 : s1.tablesWf := foldl_tablesWf (fun _ hs _ => abandonAll_tablesWf hs) h
  have hs2 : s2.tablesWf := foldl_tablesWf (fun _ hs _ => zeroSlot_tablesWf hs) hs1
  have hs3 : s3.tablesWf := foldl_tablesWf (fun _ hs _ => updSlot_tablesWf hs) hs2
  clear_value s3
  exact hs3

theorem State.lcVoid_tablesWf {s : State} {r : Req} (h : s.tablesWf) : (s.lcVoid r).tablesWf :=
  keyCmd_tablesWf h (fun _ hs => transition_tablesWf hs)

theorem State.lifecycle_tablesWf {s : State} {t : Bytes} (h : s.tablesWf) : (s.lifecycle t).tablesWf := by
  unfold State.lifecycle
  refine ite_tablesWf h ?_
  extract_lets s1
  have hs1 : s1.tablesWf := ask_tablesWf h
  split
  · exact transition_tablesWf hs1
  · exact raise_tablesWf hs1

theorem State.rollback_tablesWf {s : State} {r : Req} (h : s.tablesWf) : (s.rollback r).tablesWf := by
  unfold State.rollback
  refine privCmd_tablesWf h ?_
  intro u hu
  extract_lets
  exact wr_tablesWf hu

theorem State.remask_tablesWf {s : State} (h : s.tablesWf) : s.remask.tablesWf := by
  unfold State.remask
  refine ite_tablesWf h ?_
  extract_lets _ s1
  have hs1 : s1.tablesWf := h
  exact ite_tablesWf (ask_tablesWf hs1) (bump_tablesWf hs1)

theorem State.remasked_tablesWf {s : State} {ws : List Word} (h : s.tablesWf) : (s.remasked ws).tablesWf :=
  foldl_tablesWf (fun _ hs _ => updSlot_tablesWf hs) h

/-! ## SPDM and MCTP (R344 to R350) -/

theorem State.updSession_tablesWf {s : State} {f : Nat} {g : Session → Session} (h : s.tablesWf) :
    (s.updSession f g).tablesWf :=
  updFn_tablesWf h

theorem State.spdmAnswer_tablesWf {s : State} {f code : Nat} (h : s.tablesWf) : (s.spdmAnswer f code).tablesWf := by
  unfold State.spdmAnswer
  split
  next s1 e =>
    have hs1 : s1.tablesWf := snd_tablesWf e (draw_tablesWf h)
    exact emit_tablesWf hs1

theorem State.spdmError_tablesWf {s : State} {f code : Nat} (h : s.tablesWf) : (s.spdmError f code).tablesWf :=
  raise_tablesWf (spdmAnswer_tablesWf h)

theorem State.spdm_tablesWf {s : State} {f : Nat} {q : SpdmReq} {needs : Bool} {body : State → State} (h : s.tablesWf)
    (hbody : ∀ u, u.tablesWf → (body u).tablesWf) : (s.spdm f q needs body).tablesWf := by
  unfold State.spdm
  exact ite_tablesWf h (ite_tablesWf (spdmError_tablesWf h) (hbody _ h))

theorem State.spdmNonce_tablesWf {s : State} {f code words : Nat} {body : Bytes} (h : s.tablesWf) :
    (s.spdmNonce f code words body).tablesWf :=
  ask_tablesWf h

theorem State.nonceServed_tablesWf {s : State} {f code : Nat} {body : Bytes} {ws : List Word} (h : s.tablesWf) :
    (s.nonceServed f code body ws).tablesWf := by
  unfold State.nonceServed
  extract_lets
  split
  next s1 e =>
    have hs1 : s1.tablesWf := snd_tablesWf e (draw_tablesWf h)
    exact ite_tablesWf (emit_tablesWf (updSession_tablesWf hs1)) (emit_tablesWf hs1)

theorem State.measurements_tablesWf {s : State} {f : Nat} {q : SpdmReq} (h : s.tablesWf) :
    (s.measurements f q).tablesWf := by
  unfold State.measurements
  refine spdm_tablesWf h ?_
  intro u hu
  refine ite_tablesWf (spdmAnswer_tablesWf hu) (ite_tablesWf (spdmError_tablesWf hu) (ite_tablesWf
      (spdmError_tablesWf hu) ?_))
  extract_lets _ _ s1 s2
  have hs1 : s1.tablesWf := bump_tablesWf (wr_tablesWf hu)
  have hs2 : s2.tablesWf := ite_tablesWf (updSession_tablesWf hs1) hs1
  exact spdmNonce_tablesWf hs2

theorem State.keyExchange_tablesWf {s : State} {f : Nat} {q : SpdmReq} (h : s.tablesWf) :
    (s.keyExchange f q).tablesWf := by
  unfold State.keyExchange
  refine spdm_tablesWf h ?_
  intro u hu
  split
  next s1 e =>
    have hs1 : s1.tablesWf := snd_tablesWf e (draw_tablesWf hu)
    extract_lets _ s2
    have hs2 : s2.tablesWf := hs1
    exact spdmNonce_tablesWf (updSession_tablesWf hs2)

theorem State.finishSession_tablesWf {s : State} {f : Nat} {q : SpdmReq} (h : s.tablesWf) :
    (s.finishSession f q).tablesWf := by
  unfold State.finishSession
  exact spdm_tablesWf h (fun _ hs => ite_tablesWf (spdmError_tablesWf (updSession_tablesWf hs)) (spdmAnswer_tablesWf
      (updSession_tablesWf hs)))

theorem State.endSession_tablesWf {s : State} {f : Nat} {q : SpdmReq} (h : s.tablesWf) :
    (s.endSession f q).tablesWf :=
  spdm_tablesWf h (fun _ hs => spdmAnswer_tablesWf (updSession_tablesWf hs))

theorem State.mctp_tablesWf {s : State} {msg : Bytes} (h : s.tablesWf) : (s.mctp msg).tablesWf := by
  unfold State.mctp
  refine ite_tablesWf h ?_
  extract_lets _ _ _ s1
  have hs1 : s1.tablesWf := ite_tablesWf h h
  refine ite_tablesWf (ite_tablesWf (emit_tablesWf hs1) (ite_tablesWf (emit_tablesWf hs1) ?_)) (ite_tablesWf ?_ h)
  · split
    next s11 e =>
      have hs11 : s11.tablesWf := snd_tablesWf e (draw_tablesWf hs1)
      exact emit_tablesWf hs11
  · split
    next s11 e =>
      have hs11 : s11.tablesWf := snd_tablesWf e (draw_tablesWf h)
      exact emit_tablesWf hs11

/-! ## Tenant assets (R157, R348, R349) -/

theorem State.assetAnswer_tablesWf {s : State} {f code : Nat} (h : s.tablesWf) : (s.assetAnswer f code).tablesWf :=
  emit_tablesWf h

theorem State.digestRaise_tablesWf {s : State} {f code : Nat} (h : s.tablesWf) : (s.digestRaise f code).tablesWf := by
  unfold State.digestRaise
  exact ite_tablesWf (raise_tablesWf h) h

theorem State.keepAssets_tablesWf {s1 s : State} {f : Nat} (h : s1.tablesWf) :
    (s1.keepAssets s f).tablesWf :=
  updFn_tablesWf h

theorem State.asset_tablesWf {s : State} {f kind : Nat} {m : Bytes} {install : Bytes → State → Nat × Bytes × State}
    (h : s.tablesWf) (hinstall : ∀ x0 u1, u1.tablesWf → (install x0 u1).2.2.tablesWf) :
    (s.asset f kind m install).tablesWf := by
  unfold State.asset
  refine ite_tablesWf h ?_
  extract_lets
  refine ite_tablesWf (assetAnswer_tablesWf (bump_tablesWf h)) ?_
  split
  next s1 e =>
    have hs1 : s1.tablesWf := snd_snd_tablesWf e (hinstall _ _ h)
    refine ite_tablesWf (assetAnswer_tablesWf (digestRaise_tablesWf (bump_tablesWf hs1))) ?_
    extract_lets s2 s3
    have hs2 : s2.tablesWf := updFn_tablesWf (wr_tablesWf (keepAssets_tablesWf hs1))
    have hs3 : s3.tablesWf := ite_tablesWf (plySend_tablesWf hs2) hs2
    exact assetAnswer_tablesWf hs3

theorem State.installKem_tablesWf {s : State} {f : Nat} {b : Bytes} (h : s.tablesWf) :
    (s.installKem f b).2.tablesWf := by
  unfold State.installKem
  refine ite_snd_tablesWf h ?_
  extract_lets
  exact updSession_tablesWf h

theorem State.installBind_tablesWf {s : State} {f : Nat} {b : Bytes} (h : s.tablesWf) :
    (s.installBind f b).2.tablesWf := by
  unfold State.installBind
  refine ite_snd_tablesWf h ?_
  extract_lets s1
  have hs1 : s1.tablesWf := updFn_tablesWf h
  exact wr_tablesWf (wr_tablesWf hs1)

theorem State.installPolicy_tablesWf {s : State} {f : Nat} {b : Bytes} (h : s.tablesWf) :
    (s.installPolicy f b).2.tablesWf := by
  unfold State.installPolicy
  refine ite_snd_tablesWf h ?_
  extract_lets
  exact updFn_tablesWf h

theorem State.installJoin_tablesWf {s : State} {f : Nat} {b : Bytes} (h : s.tablesWf) :
    (s.installJoin f b).2.tablesWf := by
  unfold State.installJoin
  extract_lets
  exact ite_snd_tablesWf h (updFn_tablesWf h)

theorem State.placeKey_tablesWf {s : State} {tile ntiles : Nat} {body : Bytes} (h : s.tablesWf) :
    (s.placeKey tile ntiles body).tablesWf := by
  unfold State.placeKey
  refine foldl_tablesWf ?_ h
  intro u hu _
  extract_lets s1
  have hs1 : s1.tablesWf := putTile_tablesWf hu
  exact wrote_tablesWf (setTag_tablesWf hs1)

theorem State.installEvk_tablesWf {s : State} {f : Nat} {b : Bytes} {raw : Bool} {host : Option Bytes}
    (h : s.tablesWf) : (s.installEvk f b raw host).2.2.tablesWf := by
  unfold State.installEvk
  extract_lets
  split
  · exact h
  · extract_lets
    split
    · exact updFn_tablesWf h
    · exact updFn_tablesWf (placeKey_tablesWf h)

theorem State.installCommittee_tablesWf {s : State} {f : Nat} {b : Bytes} {raw : Bool} {host : Option Bytes}
    (h : s.tablesWf) : (s.installCommittee f b raw host).2.2.tablesWf := by
  unfold State.installCommittee
  extract_lets
  split
  · exact h
  · extract_lets
    split
    · exact h
    · exact updFn_tablesWf (placeKey_tablesWf h)

theorem State.installNoise_tablesWf {s : State} {f : Nat} {b : Bytes} (h : s.tablesWf) :
    (s.installNoise f b).2.tablesWf := by
  unfold State.installNoise
  exact ite_snd_tablesWf h (updFn_tablesWf h)

theorem State.installCkpt_tablesWf {s : State} {f : Nat} {b : Bytes} (h : s.tablesWf) :
    (s.installCkpt f b).2.tablesWf := by
  unfold State.installCkpt
  exact ite_snd_tablesWf h (updFn_tablesWf h)

theorem State.installMem_tablesWf {s : State} {f : Nat} {b : Bytes} (h : s.tablesWf) :
    (s.installMem f b).2.tablesWf := by
  unfold State.installMem
  refine ite_snd_tablesWf h (ite_snd_tablesWf ?_ ?_)
  · extract_lets s1
    have hs1 : s1.tablesWf := updFn_tablesWf h
    exact wr_tablesWf (wr_tablesWf (wr_tablesWf hs1))
  · extract_lets _ _ s1
    have hs1 : s1.tablesWf := updFn_tablesWf h
    exact rotated_tablesWf (wr_tablesWf (wr_tablesWf (wr_tablesWf hs1)))

theorem State.memInitDone_tablesWf {s : State} {f : Nat} (h : s.tablesWf) : (s.memInitDone f).tablesWf := by
  unfold State.memInitDone
  exact ite_tablesWf h (wr_tablesWf (foldl_tablesWf (fun _ hs _ => zeroTile_tablesWf (setTag_tablesWf hs)) h))

theorem State.memSweep_tablesWf {s : State} {f : Nat} (h : s.tablesWf) : (s.memSweep f).tablesWf := by
  unfold State.memSweep
  refine ite_tablesWf h ?_
  extract_lets
  split
  · exact farWritten_tablesWf (updFn_tablesWf h)
  · exact farWritten_tablesWf (updFn_tablesWf h)
  · exact h

theorem State.plyAssetMsg_tablesWf {s : State} {f : Nat} {body : Bytes} (h : s.tablesWf) :
    (s.plyAssetMsg f body).tablesWf := by
  unfold State.plyAssetMsg
  extract_lets b done done3 s1
  have hdone : ∀ p : Nat × State, p.2.tablesWf → (done p).tablesWf := fun _ hp => ite_tablesWf hp (raise_tablesWf hp)
  have hdone3 : ∀ p : Nat × Bytes × State, p.2.2.tablesWf → (done3 p).tablesWf :=
    fun _ hp => ite_tablesWf hp (raise_tablesWf hp)
  have hs1 : s1.tablesWf := by
    unfold s1
    split
    · exact hdone _ (installPolicy_tablesWf h)
    · exact hdone _ (installJoin_tablesWf h)
    · exact hdone3 _ (installEvk_tablesWf h)
    · exact hdone3 _ (installCommittee_tablesWf h)
    · exact hdone _ (installNoise_tablesWf h)
    · exact hdone _ (installMem_tablesWf h)
    · exact hdone _ (installCkpt_tablesWf h)
    · exact h
  exact updFn_tablesWf (keepAssets_tablesWf hs1)

theorem plain2_tablesWf {b : Bytes} {p : Nat × State} (h : p.2.tablesWf) : (plain2 b p).2.2.tablesWf := h

/-! ## Partitions (R353 to R356) -/

theorem State.setPartition_tablesWf {s : State} {f : Nat} {p : Partition} (h : s.tablesWf) :
    (s.setPartition f p).tablesWf := by
  unfold State.setPartition
  extract_lets s1 s2
  have hs1 : s1.tablesWf := wr_tablesWf (wr_tablesWf (wr_tablesWf (wr_tablesWf (wr_tablesWf (wr_tablesWf h)))))
  have hs2 : s2.tablesWf := wr_tablesWf (wr_tablesWf (wr_tablesWf (wr_tablesWf (wr_tablesWf hs1))))
  exact rotateAll_tablesWf (wr_tablesWf hs2)

theorem State.revokeTiles_tablesWf {s : State} {f : Nat} {gone : Nat → Bool} (h : s.tablesWf) :
    (s.revokeTiles f gone).tablesWf := by
  unfold State.revokeTiles
  extract_lets s1 s2
  have hs1 : s1.tablesWf := abandonAll_tablesWf h
  have hs2 : s2.tablesWf := foldl_tablesWf (fun _ hs _ => closeWindow_tablesWf hs) hs1
  exact foldl_tablesWf (fun _ hs _ => twrFail_tablesWf hs) hs2

theorem State.unstageGone_tablesWf {s : State} {f : Nat} {gone : Nat → Bool} (h : s.tablesWf) :
    (s.unstageGone f gone).tablesWf := by
  unfold State.unstageGone
  extract_lets s1
  have hs1 : s1.tablesWf := foldl_tablesWf (fun _ hs _ => ite_tablesWf (discardStage_tablesWf hs) (unstage_tablesWf
      hs)) h
  exact foldl_tablesWf (fun _ hs _ => ite_tablesWf (pageOut_tablesWf hs) (dropPages_tablesWf hs)) hs1

theorem State.dropMemKeys_tablesWf {s : State} {f : Nat} (h : s.tablesWf) : (s.dropMemKeys f).tablesWf :=
  wr_tablesWf (wr_tablesWf (updFn_tablesWf h))

theorem State.unpinTo_tablesWf {s : State} {f quota : Nat} (h : s.tablesWf) : (s.unpinTo f quota).tablesWf := by
  unfold State.unpinTo
  extract_lets
  exact foldl_tablesWf (fun _ hs _ => updQp_tablesWf hs) h

theorem State.applyPartition_tablesWf {s : State} {f : Nat} {p : Partition} (h : s.tablesWf) :
    (s.applyPartition f p).tablesWf := by
  unfold State.applyPartition
  extract_lets _ _ _ _ _ _ s1 s2 s3 s4 s5 s6 _ _ _ s7 s8
  have hs1 : s1.tablesWf := ite_tablesWf h (abandonAll_tablesWf h)
  have hs2 : s2.tablesWf := foldl_tablesWf (fun _ hs _ => updSpin_tablesWf hs) (revokeTiles_tablesWf hs1)
  have hs3 : s3.tablesWf := qpErrorAll_tablesWf hs2
  have hs4 : s4.tablesWf := foldl_tablesWf (fun _ hs _ => twrFail_tablesWf hs) hs3
  have hs5 : s5.tablesWf := ite_tablesWf (dropMemKeys_tablesWf hs4) hs4
  have hs6 : s6.tablesWf := foldl_tablesWf (fun _ hs _ => setTag_tablesWf hs) hs5
  have hs7 : s7.tablesWf := foldl_tablesWf (fun _ hs _ => updSpin_tablesWf hs) (foldl_tablesWf (fun _ hs _ =>
      ctrForce_tablesWf hs) hs6)
  have hs8 : s8.tablesWf := unpinTo_tablesWf (setPartition_tablesWf hs7)
  clear_value s8
  exact ite_tablesWf hs8 (wr_tablesWf hs8)

theorem State.partCmd_tablesWf {s : State} {r : Req} (h : s.tablesWf) : (s.partCmd r).tablesWf := by
  unfold State.partCmd
  refine privCmd_tablesWf h ?_
  intro u hu
  refine ite_tablesWf hu ?_
  extract_lets
  exact ite_tablesWf (wr_tablesWf hu) (wr_tablesWf (applyPartition_tablesWf hu))

theorem State.wipeTile_tablesWf {s : State} {t : Nat} (h : s.tablesWf) : (s.wipeTile t).tablesWf := by
  unfold State.wipeTile
  exact ite_tablesWf (setTag_tablesWf h) (setTag_tablesWf (zeroTile_tablesWf h))

theorem State.revocationDone_tablesWf {s : State} {f : Nat} (h : s.tablesWf) : (s.revocationDone f).tablesWf := by
  unfold State.revocationDone
  split
  · exact h
  · extract_lets _ _ s1 s2 s3
    have hs1 : s1.tablesWf := foldl_tablesWf (fun _ hs _ => updSpin_tablesWf hs) (unstageGone_tablesWf h)
    have hs2 : s2.tablesWf := foldl_tablesWf (fun _ hs _ => wipeTile_tablesWf hs) hs1
    have hs3 : s3.tablesWf := foldl_tablesWf (fun _ hs _ => ctrForce_tablesWf hs) (dropLeaves_tablesWf hs2)
    clear_value s3
    exact ite_tablesWf h (wr_tablesWf hs3)

/-! ## The ply (R302 to R309) -/

theorem State.unply_tablesWf {s : State} {p : Round → Bool} (h : s.tablesWf) : (s.unply p).tablesWf := h

theorem State.plyRefuse_tablesWf {s : State} {code : Nat} (h : s.tablesWf) : (s.plyRefuse code).tablesWf :=
  wr_tablesWf (wr_tablesWf h)

theorem State.plyDecide_tablesWf {s : State} {x : PlyRange} (h : s.tablesWf) : (s.plyDecide x).tablesWf := by
  unfold State.plyDecide
  split
  · exact plyRefuse_tablesWf h
  · refine ite_tablesWf (plyRefuse_tablesWf h) (ite_tablesWf (plyRefuse_tablesWf h) ?_)
    extract_lets s1
    have hs1 : s1.tablesWf := wr_tablesWf (wr_tablesWf (wr_tablesWf h))
    clear_value s1
    exact hs1

theorem State.plyForm_tablesWf {s : State} {r : Req} (h : s.tablesWf) : (s.plyForm r).tablesWf := by
  unfold State.plyForm
  refine privCmd_tablesWf h ?_
  intro u hu
  refine ite_tablesWf hu ?_
  extract_lets s1
  have hs1 : s1.tablesWf := wr_tablesWf hu
  exact ite_tablesWf (emit_tablesWf hs1) hs1

theorem State.plyExchange_tablesWf {s : State} {x : PlyRange} (h : s.tablesWf) : (s.plyExchange x).tablesWf := by
  unfold State.plyExchange
  exact ite_tablesWf h (plyDecide_tablesWf h)

theorem State.plyDissolve_tablesWf {s : State} {r : Req} (h : s.tablesWf) : (s.plyDissolve r).tablesWf := by
  unfold State.plyDissolve
  refine privCmd_tablesWf h ?_
  intro u hu
  extract_lets s1 src
  have hs1 : s1.tablesWf := wr_tablesWf (unply_tablesWf hu)
  have hsrc : src.tablesWf := wr_tablesWf hs1
  clear_value src
  exact hsrc

theorem State.plyHeard_tablesWf {s : State} {f qpn : Nat} {msg : Bytes} (h : s.tablesWf) :
    (s.plyHeard f qpn msg).tablesWf := by
  unfold State.plyHeard
  extract_lets s1
  have hs1 : s1.tablesWf := wr_tablesWf (bump_tablesWf h)
  clear_value s1
  exact hs1

theorem State.plyOpenMsg_tablesWf {s : State} {f r : Nat} {body : Bytes} (h : s.tablesWf) :
    (s.plyOpenMsg f r body).tablesWf := by
  unfold State.plyOpenMsg
  extract_lets _ _ s1
  have hs1 : s1.tablesWf := h
  exact takeOpen_tablesWf hs1

theorem State.plyCohortMsg_tablesWf {s : State} {f r : Nat} {body : Bytes} (h : s.tablesWf) :
    (s.plyCohortMsg f r body).tablesWf := by
  unfold State.plyCohortMsg
  split
  · exact h
  · refine ite_tablesWf h ?_
    extract_lets s1
    have hs1 : s1.tablesWf := updRound_tablesWf h
    exact ite_tablesWf (applyCohort_tablesWf hs1) hs1

theorem State.plyShareMsg_tablesWf {s : State} {f r : Nat} {body : Bytes} (h : s.tablesWf) :
    (s.plyShareMsg f r body).tablesWf := by
  unfold State.plyShareMsg
  split
  · exact h
  · refine ite_tablesWf ?_ (partialOn_tablesWf h)
    split
    · exact message_tablesWf h
    · exact h

theorem State.plyReturnMsg_tablesWf {s : State} {f r : Nat} {body : Bytes} (h : s.tablesWf) :
    (s.plyReturnMsg f r body).tablesWf := by
  unfold State.plyReturnMsg
  extract_lets
  split
  · exact h
  · extract_lets
    refine ite_tablesWf h ?_
    split
    · exact decide_tablesWf h
    · exact keepReturn_tablesWf h

theorem State.plyDigestMsg_tablesWf {s : State} {f r : Nat} {body : Bytes} (h : s.tablesWf) :
    (s.plyDigestMsg f r body).tablesWf :=
  plyCompare_tablesWf (updRound_tablesWf h)

theorem State.plyDoneMsg_tablesWf {s : State} {f r : Nat} (h : s.tablesWf) : (s.plyDoneMsg f r).tablesWf :=
  updRound_tablesWf h

theorem State.plyVerdictMsg_tablesWf {s : State} {f r code : Nat} (h : s.tablesWf) :
    (s.plyVerdictMsg f r code).tablesWf := by
  unfold State.plyVerdictMsg
  split
  · exact h
  · exact ite_tablesWf h (ite_tablesWf (updRound_tablesWf h) (ite_tablesWf (abandon_tablesWf h) (updRound_tablesWf
      h)))

theorem State.plyAct_tablesWf {s : State} {f : Nat} {msg : Bytes} (h : s.tablesWf) : (s.plyAct f msg).tablesWf := by
  unfold State.plyAct
  extract_lets
  exact ite_tablesWf (ite_tablesWf (plyVerdictMsg_tablesWf h) h) (ite_tablesWf h (ite_tablesWf (plyAssetMsg_tablesWf
      h) (ite_tablesWf (plyOpenMsg_tablesWf h) (ite_tablesWf (plyCohortMsg_tablesWf h) (ite_tablesWf
      (plyShareMsg_tablesWf h) (ite_tablesWf (plyReturnMsg_tablesWf h) (ite_tablesWf (plyDigestMsg_tablesWf h)
      (ite_tablesWf (plyDoneMsg_tablesWf h) h))))))))

theorem State.plyMessage_tablesWf {s : State} {f qpn : Nat} {msg : Bytes} (h : s.tablesWf) :
    (s.plyMessage f qpn msg).tablesWf := by
  unfold State.plyMessage
  exact ite_tablesWf h (plyAct_tablesWf (plyHeard_tablesWf h))

theorem State.plyCmd_tablesWf {s : State} {f qpn type : Nat} {msg : Bytes} (h : s.tablesWf) :
    (s.plyCmd f qpn type msg).tablesWf := by
  unfold State.plyCmd
  exact ite_tablesWf (plyMessage_tablesWf h) h

theorem State.plyLate_tablesWf {s : State} {f r : Nat} (h : s.tablesWf) : (s.plyLate f r).tablesWf := by
  unfold State.plyLate
  split
  · exact h
  · exact ite_tablesWf (abandon_tablesWf (verdict_tablesWf h)) h

theorem State.plyBeat_tablesWf {s : State} (h : s.tablesWf) : s.plyBeat.tablesWf := by
  unfold State.plyBeat
  refine ite_tablesWf h ?_
  extract_lets _ s1
  have hs1 : s1.tablesWf := h
  split
  · exact hs1
  · exact plySend_tablesWf hs1

theorem State.askAgain_tablesWf {s : State} {q : Query} (h : s.tablesWf) : (s.askAgain q).tablesWf := by
  unfold State.askAgain
  split
  · exact h
  · exact ite_tablesWf (post_tablesWf (updQuery_tablesWf h)) h

theorem State.alone_tablesWf {s : State} {x : Round} (h : s.tablesWf) : (s.alone x).tablesWf := by
  unfold State.alone
  extract_lets _ _ s1
  have hs1 : s1.tablesWf := updRound_tablesWf h
  exact ite_tablesWf (ask_tablesWf hs1) hs1

theorem State.dropHeldForwards_tablesWf {s : State} (h : s.tablesWf) : s.dropHeldForwards.tablesWf := by
  unfold State.dropHeldForwards
  exact ite_tablesWf h (foldl_tablesWf (fun _ hs _ => fwdDone_tablesWf (updTwr_tablesWf hs)) h)

theorem State.partnerLost_tablesWf {s : State} (h : s.tablesWf) : s.partnerLost.tablesWf := by
  unfold State.partnerLost
  extract_lets _ s1 s2 s3
  have hs1 : s1.tablesWf := bump_tablesWf (wr_tablesWf (wr_tablesWf h))
  have hs2 : s2.tablesWf := dropHeldForwards_tablesWf (foldl_tablesWf (fun _ hs _ => raise_tablesWf hs) hs1)
  have hs3 : s3.tablesWf := foldl_tablesWf (fun _ hs _ => alone_tablesWf hs) hs2
  exact ite_tablesWf (foldl_tablesWf (fun _ hs _ => askAgain_tablesWf hs) hs3) hs3

theorem State.plyLost_tablesWf {s : State} (h : s.tablesWf) : s.plyLost.tablesWf := by
  unfold State.plyLost
  extract_lets
  exact ite_tablesWf (partnerLost_tablesWf h) h

/-! ## Connections and the context cache (R240 to R244, R253, R254) -/

theorem State.evictions_set_tablesWf {s : State} {k v : Nat} (h : s.tablesWf) :
    { s with evictions := Sparse.set 0 s.evictions k v }.tablesWf := by
  obtain ⟨hregs, htags, hctrs, hflights, hrots, hgens, hevicts⟩ := tablesWf_iff.1 h
  exact tablesWf_iff.2 ⟨hregs, htags, hctrs, hflights, hrots, hgens, Sparse.set_wf _ _ _ _ hevicts⟩

theorem State.evict_tablesWf {s : State} {qpn : Nat} (h : s.tablesWf) : (s.evict qpn).tablesWf := by
  unfold State.evict
  extract_lets n aad
  split
  next d s1 e =>
    have hs1 : s1.tablesWf := snd_tablesWf e (draw_tablesWf (evictions_set_tablesWf h))
    exact hostPut_tablesWf (updQp_tablesWf hs1)

theorem State.cacheRoom_tablesWf {s u : State} {keep : Nat} (h : s.tablesWf) (e : s.cacheRoom keep = some u) :
    u.tablesWf := by
  unfold State.cacheRoom at e
  split at e
  · cases e
    exact h
  · obtain ⟨q, -, rfl⟩ := Option.map_eq_some_iff.1 e
    exact evict_tablesWf h

theorem State.keepContext_tablesWf {s : State} {q : Qp} (h : s.tablesWf) : (s.keepContext q).tablesWf := by
  unfold State.keepContext
  extract_lets n s1
  have hs1 : s1.tablesWf := updQp_tablesWf (evictions_set_tablesWf h)
  refine ite_tablesWf h (ite_tablesWf hs1 ?_)
  split
  · exact evict_tablesWf hs1
  · exact h

theorem State.startFetch_tablesWf {s : State} {qpn : Nat} (h : s.tablesWf) : (s.startFetch qpn).tablesWf :=
  updQp_tablesWf h

theorem State.createQp_tablesWf {s : State} {f : Nat} {b : Bytes} (h : s.tablesWf) : (s.createQp f b).2.tablesWf := by
  unfold State.createQp
  extract_lets
  refine ite_snd_tablesWf h (ite_snd_tablesWf h (ite_snd_tablesWf h (ite_snd_tablesWf h (ite_snd_tablesWf
      (raise_tablesWf h) (ite_snd_tablesWf h ?_)))))
  split
  · exact h
  · extract_lets _ _ _ s1
    have hs1 : s1.tablesWf := by
      unfold s1
      split
      next v e =>
        have hv : v.tablesWf := cacheRoom_tablesWf h e
        exact hv
      · exact evict_tablesWf h
    exact ite_tablesWf (ask_tablesWf hs1) hs1

theorem State.qpCtl_tablesWf {s : State} {f n : Nat} {desc : Bytes} {action : Nat}
    {body : Nat → Qp → State → Nat × State} (h : s.tablesWf)
    (hbody : ∀ x0 x1 u2, u2.tablesWf → (body x0 x1 u2).2.tablesWf) : (s.qpCtl f n desc action body).tablesWf := by
  unfold State.qpCtl
  extract_lets
  refine ite_tablesWf h (job0_tablesWf h ?_)
  intro _ u hu
  refine ite_snd_tablesWf hu ?_
  split
  · exact hu
  · split
    next s1 e =>
      have hs1 : s1.tablesWf := snd_tablesWf e (hbody _ _ _ hu)
      exact hs1

theorem State.startDrain_tablesWf {s : State} {qpn : Nat} (h : s.tablesWf) : (s.startDrain qpn).tablesWf :=
  updQp_tablesWf h

theorem State.qpClose_tablesWf {s : State} {f n : Nat} {desc : Bytes} (h : s.tablesWf) :
    (s.qpClose f n desc).tablesWf := by
  unfold State.qpClose
  exact qpCtl_tablesWf h (fun _ _ _ hs => ite_snd_tablesWf hs (drainCheck_tablesWf (startDrain_tablesWf
      (sendControl_tablesWf hs))))

theorem State.qpDestroy_tablesWf {s : State} {f n : Nat} {desc : Bytes} (h : s.tablesWf) :
    (s.qpDestroy f n desc).tablesWf := by
  unfold State.qpDestroy
  exact qpCtl_tablesWf h (fun _ _ _ hs => ite_snd_tablesWf hs hs)

theorem State.qpPin_tablesWf {s : State} {f n : Nat} {desc : Bytes} (h : s.tablesWf) :
    (s.qpPin f n desc).tablesWf := by
  unfold State.qpPin
  exact qpCtl_tablesWf h (fun _ _ _ hs => ite_snd_tablesWf hs (ite_snd_tablesWf (raise_tablesWf hs)
      (startFetch_tablesWf (updQp_tablesWf hs))))

theorem State.qpUnpin_tablesWf {s : State} {f n : Nat} {desc : Bytes} (h : s.tablesWf) :
    (s.qpUnpin f n desc).tablesWf :=
  qpCtl_tablesWf h (fun _ _ _ hs => updQp_tablesWf hs)

theorem State.qpBind_tablesWf {s : State} {f n : Nat} {desc : Bytes} (h : s.tablesWf) :
    (s.qpBind f n desc).tablesWf := by
  unfold State.qpBind
  refine qpCtl_tablesWf h ?_
  intro _ _ u hu
  extract_lets
  exact ite_snd_tablesWf hu (creditAll_tablesWf (updQp_tablesWf hu))

theorem State.keyed_tablesWf {s : State} {qpn x ss : Nat} {hello accept : Bytes} (h : s.tablesWf) :
    (s.keyed qpn x ss hello accept).tablesWf := by
  unfold State.keyed
  extract_lets
  exact updQp_tablesWf h

theorem State.outShake_tablesWf {s : State} {q1 : Qp} {port op : Nat} {pkt : Bytes} (h : s.tablesWf) :
    (s.outShake q1 port op pkt).tablesWf :=
  bump_tablesWf (emit_tablesWf (updQp_tablesWf h))

theorem State.outHello_tablesWf {s : State} {q1 : Qp} {port path : Nat} (h : s.tablesWf) :
    (s.outHello q1 port path).tablesWf := by
  unfold State.outHello
  extract_lets
  exact outShake_tablesWf h

theorem State.outAccept_tablesWf {s : State} {q1 : Qp} {port path : Nat} (h : s.tablesWf) :
    (s.outAccept q1 port path).tablesWf := by
  unfold State.outAccept
  extract_lets
  exact creditAll_tablesWf (keyed_tablesWf (outShake_tablesWf h))

theorem State.sendShake_tablesWf {s : State} {q1 : Qp} {port path : Nat} {k : ShakeKind} (h : s.tablesWf) :
    (s.sendShake q1 port path k).tablesWf := by
  unfold State.sendShake
  split
  · exact outHello_tablesWf h
  · exact outShake_tablesWf h
  · exact outAccept_tablesWf h
  · exact outShake_tablesWf h
  · exact outShake_tablesWf h

theorem State.serveShake_tablesWf {s : State} {b : Nat} (h : s.tablesWf) : (s.serveShake b).tablesWf := by
  unfold State.serveShake
  refine ite_tablesWf h ?_
  split
  · exact h
  · exact sendShake_tablesWf h

theorem State.shake_tablesWf {s : State} {q : Qp} {k : ShakeKind} (h : s.tablesWf) : (s.shake q k).tablesWf :=
  serveShake_tablesWf h

theorem State.helloServed_tablesWf {s : State} {q : Qp} {ws : List Word} (h : s.tablesWf) :
    (s.helloServed q ws).tablesWf := by
  unfold State.helloServed
  extract_lets
  exact ite_tablesWf (ask_tablesWf (updQp_tablesWf h)) (shake_tablesWf (updQp_tablesWf h))

theorem State.acceptServed_tablesWf {s : State} {q : Qp} {ws : List Word} (h : s.tablesWf) :
    (s.acceptServed q ws).tablesWf := by
  unfold State.acceptServed
  extract_lets
  exact ite_tablesWf (ask_tablesWf (updQp_tablesWf h)) (shake_tablesWf (updQp_tablesWf h))

theorem State.handshakeServed_tablesWf {s : State} {qpn : Nat} {ws : List Word} (h : s.tablesWf) :
    (s.handshakeServed qpn ws).tablesWf := by
  unfold State.handshakeServed
  split
  · exact h
  · exact ite_tablesWf (helloServed_tablesWf h) (ite_tablesWf (acceptServed_tablesWf h) h)

theorem State.dropMalformed_tablesWf {s : State} (h : s.tablesWf) : s.dropMalformed.tablesWf := bump_tablesWf h

theorem State.dropAuth_tablesWf {s : State} {q : Qp} (h : s.tablesWf) : (s.dropAuth q).tablesWf := by
  unfold State.dropAuth
  extract_lets s1
  have hs1 : s1.tablesWf := bump_tablesWf (bump_tablesWf h)
  exact ite_tablesWf hs1 (updQp_tablesWf (raise_tablesWf hs1))

theorem State.dropCtx_tablesWf {s : State} {q : Qp} {n : Nat} (h : s.tablesWf) : (s.dropCtx q n).tablesWf :=
  raise_tablesWf (bump_tablesWf (bump_tablesWf h))

theorem State.frame_tablesWf {s : State} {p : Packet} {op : Nat} {other : Bool} {body : Qp → State → State}
    (h : s.tablesWf) (hbody : ∀ x0 u1, u1.tablesWf → (body x0 u1).tablesWf) : (s.frame p op other body).tablesWf := by
  unfold State.frame
  refine ite_tablesWf h (ite_tablesWf (dropMalformed_tablesWf (bump_tablesWf h)) ?_)
  extract_lets s1
  have hs1 : s1.tablesWf := bump_tablesWf h
  refine ite_tablesWf (dropMalformed_tablesWf hs1) ?_
  split
  · exact dropMalformed_tablesWf hs1
  · refine ite_tablesWf (dropMalformed_tablesWf hs1) ?_
    extract_lets s2
    have hs2 : s2.tablesWf := keepContext_tablesWf hs1
    split
    · exact hs2
    · exact hbody _ _ hs2

theorem State.hit_tablesWf {s : State} {qpn : Nat} (h : s.tablesWf) : (s.hit qpn).tablesWf :=
  updQp_tablesWf (bump_tablesWf h)

theorem State.handshakeIn_tablesWf {s : State} {p : Packet} {op : Nat} {body : Qp → State → State} (h : s.tablesWf)
    (hbody : ∀ x0 u1, u1.tablesWf → (body x0 u1).tablesWf) : (s.handshakeIn p op body).tablesWf := by
  unfold State.handshakeIn
  exact frame_tablesWf h (fun _ _ hs => ite_tablesWf (dropCtx_tablesWf hs) (hbody _ _ (hit_tablesWf hs)))

theorem State.hello_tablesWf {s : State} {p : Packet} (h : s.tablesWf) : (s.hello p).tablesWf := by
  unfold State.hello
  refine handshakeIn_tablesWf h ?_
  intro _ u hu
  extract_lets
  refine ite_tablesWf (dropMalformed_tablesWf hu) (ite_tablesWf (dropAuth_tablesWf hu) (ite_tablesWf (ite_tablesWf
      (shake_tablesWf hu) hu) (ite_tablesWf hu (ite_tablesWf (shake_tablesWf hu) ?_))))
  split
  · exact shake_tablesWf hu
  · exact ask_tablesWf (updQp_tablesWf hu)

theorem State.accept_tablesWf {s : State} {p : Packet} (h : s.tablesWf) : (s.accept p).tablesWf := by
  unfold State.accept
  refine handshakeIn_tablesWf h ?_
  intro _ u hu
  extract_lets
  exact ite_tablesWf (dropMalformed_tablesWf hu) (ite_tablesWf (qpEnd_tablesWf (bump_tablesWf (bump_tablesWf hu)))
      (ite_tablesWf (qpEnd_tablesWf hu) (ite_tablesWf (qpEnd_tablesWf hu) (creditAll_tablesWf (keyed_tablesWf
      (updQp_tablesWf hu))))))

theorem State.refuse_tablesWf {s : State} {p : Packet} (h : s.tablesWf) : (s.refuse p).tablesWf := by
  unfold State.refuse
  refine handshakeIn_tablesWf h ?_
  intro _ u hu
  refine ite_tablesWf (dropMalformed_tablesWf hu) ?_
  extract_lets s1
  have hs1 : s1.tablesWf := updQp_tablesWf hu
  exact ite_tablesWf (shake_tablesWf hs1) hs1

theorem State.handshakeRetry_tablesWf {s : State} {qpn : Nat} (h : s.tablesWf) : (s.handshakeRetry qpn).tablesWf := by
  unfold State.handshakeRetry
  split
  · exact h
  · exact ite_tablesWf h (ite_tablesWf (shake_tablesWf h) (qpEnd_tablesWf h))

/-! ## Receiving on a queue pair (R239, R245 to R247) -/

theorem State.ackNow_tablesWf {s : State} {qpn : Nat} {p : Packet} (h : s.tablesWf) : (s.ackNow qpn p).tablesWf :=
  sendAck_tablesWf (updQp_tablesWf h)

theorem State.arrived_tablesWf {s : State} {qpn : Nat} {p : Packet} (h : s.tablesWf) : (s.arrived qpn p).tablesWf :=
  updQp_tablesWf h

theorem State.dropWindow_tablesWf {s : State} {q : Qp} (h : s.tablesWf) : (s.dropWindow q).tablesWf :=
  bump_tablesWf (bump_tablesWf h)

theorem State.dropMsg_tablesWf {s : State} {qpn msn : Nat} (h : s.tablesWf) : (s.dropMsg qpn msn).tablesWf :=
  updQp_tablesWf h

theorem State.failMsg_tablesWf {s : State} {q : Qp} {m : RxMsg} {seq code : Nat} (h : s.tablesWf) :
    (s.failMsg q m seq code).tablesWf := by
  unfold State.failMsg
  extract_lets s1 s2
  have hs1 : s1.tablesWf := rxFail_tablesWf h
  have hs2 : s2.tablesWf := ite_tablesWf (dropMsg_tablesWf hs1) hs1
  exact ite_tablesWf hs2 (raise_tablesWf hs2)

theorem State.deliver_tablesWf {s : State} {q : Qp} {lz : Nat} {msg : Bytes} (h : s.tablesWf) :
    (s.deliver q lz msg).tablesWf := by
  unfold State.deliver
  extract_lets
  refine ite_tablesWf (cohortMessage_tablesWf h) (ite_tablesWf (committeeReturn_tablesWf h) (ite_tablesWf
      (partialMsg_tablesWf h) (ite_tablesWf (plyMessage_tablesWf h) ?_)))
  split
  · exact rowListMsg_tablesWf h
  · exact message_tablesWf h

theorem State.awaitPost_tablesWf {s : State} {q : Qp} {m : RxMsg} {k : PostKind} (h : s.tablesWf) :
    (s.awaitPost q m k).tablesWf :=
  h

theorem State.sendDone_tablesWf {s : State} {q : Qp} {m : RxMsg} (h : s.tablesWf) : (s.sendDone q m).tablesWf :=
  awaitPost_tablesWf h

theorem State.combineRecords_tablesWf {s : State} {w : Window} {qpn msn : Nat} {data : List Host.Cell} {l : List Nat}
    (h : s.tablesWf) : (s.combineRecords w qpn msn data l).2.tablesWf := by
  induction l generalizing s with
  | nil =>
    unfold State.combineRecords
    exact h
  | cons x xs ih =>
    unfold State.combineRecords
    split
    next s2 e =>
      have hs2 : s2.tablesWf := snd_tablesWf e (record_tablesWf h)
      exact ite_snd_tablesWf hs2 (ih (updQp_tablesWf hs2))

theorem State.landingDone_tablesWf {s : State} {q : Qp} {w : Window} {m : RxMsg} {off n : Nat} (h : s.tablesWf) :
    (s.landingDone q w m off n).tablesWf :=
  awaitPost_tablesWf h

theorem State.postOne_tablesWf {s : State} {c : Completion} (h : s.tablesWf) : (s.postOne c).tablesWf := by
  unfold State.postOne
  split
  · exact h
  · extract_lets s1 s2
    have hs1 : s1.tablesWf := dropMsg_tablesWf h
    have hs2 : s2.tablesWf := by
      unfold s2
      split
      · exact deliver_tablesWf hs1
      · extract_lets s3
        have hs3 : s3.tablesWf := place_tablesWf hs1
        exact ctrAdd_tablesWf (message_tablesWf hs3)
    exact drainCheck_tablesWf (creditAll_tablesWf hs2)

theorem State.postAll_tablesWf {s : State} (h : s.tablesWf) : s.postAll.tablesWf :=
  foldl_tablesWf (fun _ hs _ => postOne_tablesWf hs) h

theorem State.written_tablesWf {s : State} {q : Qp} {m : RxMsg} {p : Packet} {seq : Nat} (h : s.tablesWf) :
    (s.written q m p seq).tablesWf := by
  unfold State.written
  split
  · exact failMsg_tablesWf h
  · extract_lets
    split
    · extract_lets
      refine ite_tablesWf (failMsg_tablesWf h) (ite_tablesWf (ite_tablesWf (landingDone_tablesWf h) h) ?_)
      split
      next s2 e =>
        have hs2 : s2.tablesWf := snd_tablesWf e (combineRecords_tablesWf h)
        exact ite_tablesWf (failMsg_tablesWf hs2) (ite_tablesWf (dropMsg_tablesWf hs2) hs2)

theorem State.packetPlaced_tablesWf {s : State} {q : Qp} {m : RxMsg} {p : Packet} {seq : Nat} (h : s.tablesWf) :
    (s.packetPlaced q m p seq).tablesWf := by
  unfold State.packetPlaced
  exact ite_tablesWf (ite_tablesWf (dropMsg_tablesWf h) h) (ite_tablesWf (written_tablesWf h) (ite_tablesWf
      (sendDone_tablesWf h) h))

theorem State.dataIn_tablesWf {s : State} {q : Qp} {p : Packet} (h : s.tablesWf) : (s.dataIn q p).tablesWf := by
  unfold State.dataIn
  extract_lets _ _ _ _ _ _ _ _ _ s1 s2 s3
  have hs1 : s1.tablesWf := arrived_tablesWf (updQp_tablesWf h)
  have hs2 : s2.tablesWf := creditAll_tablesWf (packetPlaced_tablesWf hs1)
  have hs3 : s3.tablesWf := ite_tablesWf (ackNow_tablesWf hs2) hs2
  exact ite_tablesWf (dropWindow_tablesWf h) (ite_tablesWf (ackNow_tablesWf (bump_tablesWf (bump_tablesWf h)))
      (ite_tablesWf (ackNow_tablesWf h) (ite_tablesWf (dropWindow_tablesWf h) (ite_tablesWf (dropMalformed_tablesWf
      h) (ite_tablesWf (bump_tablesWf (bump_tablesWf h)) (drainCheck_tablesWf hs3))))))

theorem State.controlIn_tablesWf {s : State} {q : Qp} {p : Packet} {body : State → State} (h : s.tablesWf)
    (hbody : ∀ u, u.tablesWf → (body u).tablesWf) : (s.controlIn q p body).tablesWf := by
  unfold State.controlIn
  extract_lets
  exact ite_tablesWf (dropWindow_tablesWf h) (hbody _ (updQp_tablesWf h))

theorem State.ackIn_tablesWf {s : State} {q : Qp} {p : Packet} (h : s.tablesWf) : (s.ackIn q p).tablesWf := by
  unfold State.ackIn
  extract_lets _ _ _ _ _ _ _ _ _ _ _ s1
  have hs1 : s1.tablesWf := updQp_tablesWf h
  exact ite_tablesWf (drainCheck_tablesWf (updQp_tablesWf h)) (drainCheck_tablesWf (foldl_tablesWf (fun _ hs _ =>
      txDone_tablesWf hs) hs1))

theorem State.nakIn_tablesWf {s : State} {q : Qp} {p : Packet} (h : s.tablesWf) : (s.nakIn q p).tablesWf := by
  unfold State.nakIn
  extract_lets
  split
  · exact h
  · refine ite_tablesWf h ?_
    extract_lets s1
    have hs1 : s1.tablesWf := updQp_tablesWf h
    exact raise_tablesWf (txFail_tablesWf hs1)

theorem State.checked_tablesWf {s : State} {qpn : Nat} {p : Packet} (h : s.tablesWf) :
    (s.checked qpn p).tablesWf := by
  unfold State.checked
  split
  · exact dropMalformed_tablesWf h
  · exact ite_tablesWf (dropMalformed_tablesWf h) (ite_tablesWf (dropAuth_tablesWf h) (ite_tablesWf (dataIn_tablesWf
      h) (controlIn_tablesWf h (fun _ hs => ite_tablesWf (ackIn_tablesWf hs) (ite_tablesWf (nakIn_tablesWf hs)
      (ite_tablesWf (drainCheck_tablesWf (startDrain_tablesWf hs)) hs))))))

theorem State.park_tablesWf {s : State} {q : Qp} {p : Packet} (h : s.tablesWf) : (s.park q p).tablesWf := by
  unfold State.park
  exact ite_tablesWf (dropCtx_tablesWf h) (startFetch_tablesWf (updQp_tablesWf (bump_tablesWf h)))

theorem State.packetIn_tablesWf {s : State} {p : Packet} {op : Nat} {other : Bool} (h : s.tablesWf) :
    (s.packetIn p op other).tablesWf := by
  unfold State.packetIn
  exact frame_tablesWf h (fun _ _ hs => ite_tablesWf (checked_tablesWf (hit_tablesWf hs)) (park_tablesWf hs))

theorem State.fetched_tablesWf {s : State} {qpn : Nat} {tagOk : Bool} {count : Nat} (h : s.tablesWf) :
    (s.fetched qpn tagOk count).tablesWf := by
  unfold State.fetched
  split
  · exact h
  · refine ite_tablesWf h (ite_tablesWf (qpEnd_tablesWf h) ?_)
    split
    · exact h
    next s1 e =>
      have hs1 : s1.tablesWf := cacheRoom_tablesWf h e
      exact foldl_tablesWf (fun _ hs _ => checked_tablesWf hs) (updQp_tablesWf hs1)

theorem State.fetchLate_tablesWf {s : State} {qpn : Nat} (h : s.tablesWf) : (s.fetchLate qpn).tablesWf := by
  unfold State.fetchLate
  split
  · exact h
  · refine ite_tablesWf h ?_
    extract_lets s1
    have hs1 : s1.tablesWf := updQp_tablesWf h
    exact ite_tablesWf hs1 (dropCtx_tablesWf hs1)

/-! ## Sending on a queue pair (R247 to R252) -/

theorem State.sendData_tablesWf {s : State} {q1 : Qp} {port path write flags retry seq msn off arg : Nat}
    {plain : Bytes} (h : s.tablesWf) :
    (s.sendData q1 port path write flags retry seq msn off arg plain).tablesWf := by
  unfold State.sendData
  extract_lets _ _ _ _ _ _ s1
  have hs1 : s1.tablesWf := bump_tablesWf (emit_tablesWf (updQp_tablesWf h))
  exact ite_tablesWf hs1 (bump_tablesWf (bump_tablesWf hs1))

theorem State.sendPart_tablesWf {s : State} {q1 : Qp} {port path : Nat} {m : TxMsg} {msn retry seq off n : Nat}
    (h : s.tablesWf) : (s.sendPart q1 port path m msn retry seq off n).tablesWf := by
  unfold State.sendPart
  extract_lets
  exact ite_tablesWf (sendData_tablesWf h) (sendData_tablesWf h)

theorem State.sendAgain_tablesWf {s : State} {q : Qp} {k : TxPkt} (h : s.tablesWf) : (s.sendAgain q k).tablesWf := by
  unfold State.sendAgain
  split
  · refine ite_tablesWf (qpEnd_tablesWf h) ?_
    extract_lets
    exact sendPart_tablesWf h
  · exact h

theorem State.sendFresh_tablesWf {s : State} {q : Qp} {m : TxMsg} (h : s.tablesWf) : (s.sendFresh q m).tablesWf := by
  unfold State.sendFresh
  extract_lets
  refine ite_tablesWf (qpEnd_tablesWf h) (ite_tablesWf (qpEnd_tablesWf h) ?_)
  split
  · exact h
  · extract_lets
    exact sendPart_tablesWf h

theorem State.noteBlocked_tablesWf {s : State} {q : Qp} (h : s.tablesWf) : (s.noteBlocked q).tablesWf := by
  unfold State.noteBlocked
  exact ite_tablesWf (updQp_tablesWf h) h

theorem State.transmit_tablesWf {s : State} {qpn : Nat} (h : s.tablesWf) : (s.transmit qpn).tablesWf := by
  unfold State.transmit
  split
  · exact h
  · refine ite_tablesWf (serveShake_tablesWf h) (ite_tablesWf h (ite_tablesWf (startFetch_tablesWf h) (ite_tablesWf
      (drainCheck_tablesWf (sendCtl_tablesWf h)) ?_)))
    split
    · exact noteBlocked_tablesWf h
    · refine ite_tablesWf h ?_
      split
      · exact sendAgain_tablesWf h
      · exact sendFresh_tablesWf h

theorem State.probe_tablesWf {s : State} {qpn : Nat} (h : s.tablesWf) : (s.probe qpn).tablesWf := by
  unfold State.probe
  split
  · exact h
  · extract_lets
    refine ite_tablesWf h (ite_tablesWf (qpEnd_tablesWf h) (ite_tablesWf (qpEnd_tablesWf h) ?_))
    split
    · exact h
    · extract_lets
      exact sendData_tablesWf h

theorem State.rtoExpiry_tablesWf {s : State} {qpn seq : Nat} (h : s.tablesWf) : (s.rtoExpiry qpn seq).tablesWf := by
  unfold State.rtoExpiry
  split
  · exact h
  · split
    · exact h
    · refine ite_tablesWf h ?_
      extract_lets s1
      have hs1 : s1.tablesWf := bump_tablesWf h
      exact ite_tablesWf (qpEnd_tablesWf hs1) (updQp_tablesWf hs1)

theorem State.pathClear_tablesWf {s : State} {qpn h : Nat} (hs : s.tablesWf) : (s.pathClear qpn h).tablesWf := by
  unfold State.pathClear
  exact ite_tablesWf hs (updQp_tablesWf hs)

theorem State.ackTimer_tablesWf {s : State} {qpn : Nat} (h : s.tablesWf) : (s.ackTimer qpn).tablesWf := by
  unfold State.ackTimer
  split
  · exact h
  · exact ite_tablesWf (sendAck_tablesWf h) h

theorem State.drainLate_tablesWf {s : State} {qpn : Nat} (h : s.tablesWf) : (s.drainLate qpn).tablesWf := by
  unfold State.drainLate
  split
  · exact h
  · exact ite_tablesWf (qpEnd_tablesWf h) h

theorem State.relock_tablesWf {s : State} {port : Nat} (h : s.tablesWf) : (s.relock port).tablesWf := by
  unfold State.relock
  extract_lets
  exact wr_tablesWf (wr_tablesWf h)

theorem State.bundleDown_tablesWf {s : State} {b : Nat} (h : s.tablesWf) : (s.bundleDown b).tablesWf := by
  unfold State.bundleDown
  exact ite_tablesWf h (raiseAll_tablesWf h)

theorem State.portDown_tablesWf {s : State} {port : Nat} (h : s.tablesWf) : (s.portDown port).tablesWf := by
  unfold State.portDown
  refine ite_tablesWf h ?_
  extract_lets s1
  have hs1 : s1.tablesWf := relock_tablesWf (bump_tablesWf (wr_tablesWf (wr_tablesWf h)))
  exact foldl_tablesWf (fun _ hs _ => bundleDown_tablesWf hs) (raise_tablesWf hs1)

theorem State.linkUp_tablesWf {s : State} {port : Nat} (h : s.tablesWf) : (s.linkUp port).tablesWf :=
  relock_tablesWf (wr_tablesWf (wr_tablesWf h))

theorem State.portUp_tablesWf {s : State} {port : Nat} (h : s.tablesWf) : (s.portUp port).tablesWf := by
  unfold State.portUp
  refine ite_tablesWf h ?_
  extract_lets s1
  have hs1 : s1.tablesWf := linkUp_tablesWf h
  exact ite_tablesWf (raise_tablesWf hs1) hs1

/-! ## The SYNC input (R296 to R299) -/

theorem State.syncEpoch_tablesWf {s : State} {r : Req} {m : Nat} (h : s.tablesWf) : (s.syncEpoch r m).tablesWf :=
  privCmd_tablesWf h (fun _ hs => hs)

theorem State.syncLost_tablesWf {s : State} (h : s.tablesWf) : s.syncLost.tablesWf := by
  unfold State.syncLost
  extract_lets s1
  have hs1 : s1.tablesWf := bump_tablesWf (wr_tablesWf (wr_tablesWf h))
  exact raiseAll_tablesWf hs1

theorem State.loadEpoch_tablesWf {s : State} (h : s.tablesWf) : s.loadEpoch.tablesWf := by
  unfold State.loadEpoch
  split
  · exact h
  · extract_lets _ _ s1
    have hs1 : s1.tablesWf := h
    clear_value s1
    exact ite_tablesWf (bump_tablesWf hs1) (wr_tablesWf hs1)

theorem State.marker_tablesWf {s : State} (h : s.tablesWf) : s.marker.tablesWf := by
  unfold State.marker
  refine ite_tablesWf h ?_
  extract_lets _ s1 src _ s2 s3
  have hs1 : s1.tablesWf := loadEpoch_tablesWf h
  have hsrc : src.tablesWf := wr_tablesWf (wr_tablesWf hs1)
  clear_value src
  have hs2 : s2.tablesWf := hsrc
  have hs3 : s3.tablesWf := ite_tablesWf (wr_tablesWf hs2) hs2
  exact ite_tablesWf (syncLost_tablesWf hs3) hs3

theorem State.markerLate_tablesWf {s : State} (h : s.tablesWf) : s.markerLate.tablesWf := by
  unfold State.markerLate
  exact ite_tablesWf (syncLost_tablesWf h) h

/-! ## Checkpoints (R427 to R430) -/

theorem State.checkpoint_tablesWf {s : State} {f n : Nat} {desc : Bytes} (h : s.tablesWf) :
    (s.checkpoint f n desc).tablesWf := by
  unfold State.checkpoint
  extract_lets _ s1
  have hs1 : s1.tablesWf := takeJob_tablesWf h
  exact ite_tablesWf h (ite_tablesWf (jobDone_tablesWf hs1) (ite_tablesWf (jobDone_tablesWf hs1) (ask_tablesWf
      (updFn_tablesWf hs1))))

theorem State.ckptDone_tablesWf {s : State} {f n d code result : Nat} (h : s.tablesWf) :
    (s.ckptDone f n d code result).tablesWf := by
  unfold State.ckptDone
  extract_lets s1
  have hs1 : s1.tablesWf := jobDone_tablesWf h
  exact ite_tablesWf (ringGone_tablesWf hs1) hs1

theorem State.checkpointOn_tablesWf {s : State} {f : Nat} (h : s.tablesWf) : (s.checkpointOn f).tablesWf := by
  unfold State.checkpointOn
  split
  · extract_lets s0 _ _ s1
    have hs0 : s0.tablesWf := updFn_tablesWf h
    have hs1 : s1.tablesWf := foldl_tablesWf (fun _ hs _ => pagesBack_tablesWf hs) (foldl_tablesWf (fun _ hs _ =>
        writeBack_tablesWf hs) hs0)
    refine ite_tablesWf (ckptDone_tablesWf hs0) (ite_tablesWf h ?_)
    split
    next s11 e =>
      have hs11 : s11.tablesWf := snd_tablesWf e (draw_tablesWf hs1)
      extract_lets
      exact ite_tablesWf (ckptDone_tablesWf hs11) (ckptDone_tablesWf (hostPut_tablesWf hs11))
  · exact h

theorem State.checkpointDrawn_tablesWf {s : State} {f : Nat} {ws : List Word} (h : s.tablesWf) :
    (s.checkpointDrawn f ws).tablesWf :=
  checkpointOn_tablesWf (updFn_tablesWf h)

theorem State.checkpointsOn_tablesWf {s : State} (h : s.tablesWf) : s.checkpointsOn.tablesWf :=
  foldl_tablesWf (fun _ hs _ => checkpointOn_tablesWf hs) h

theorem State.restoreTile_tablesWf {s : State} {c : Ckpt} {t : Nat} {g : TileTag} (h : s.tablesWf) :
    (s.restoreTile c t g).tablesWf := by
  unfold State.restoreTile
  extract_lets _ s1
  have hs1 : s1.tablesWf := wrote_tablesWf (setTag_tablesWf h)
  exact putTile_tablesWf hs1

theorem State.restoreTiles_tablesWf {s : State} {c : Ckpt} (h : s.tablesWf) : (s.restoreTiles c).tablesWf :=
  foldl_tablesWf (fun _ hs _ => restoreTile_tablesWf hs) h

theorem State.redraw_tablesWf {s : State} {f : Nat} {r : Round} (h : s.tablesWf) : (s.redraw f r).tablesWf := by
  unfold State.redraw
  exact ite_tablesWf (ask_tablesWf h) h

theorem State.restore_tablesWf {s : State} {f : Nat} {c : Ckpt} (h : s.tablesWf) : (s.restore f c).tablesWf := by
  unfold State.restore
  extract_lets s1 s2 s3
  have hs1 : s1.tablesWf := updFn_tablesWf (foldl_tablesWf (fun _ hs _ => ctrForce_tablesWf hs)
      (restoreTiles_tablesWf h))
  have hs2 : s2.tablesWf := foldl_tablesWf (fun _ hs _ => updSpin_tablesWf hs) hs1
  clear_value s2
  have hs3 : s3.tablesWf := hs2
  exact foldl_tablesWf (fun _ hs _ => redraw_tablesWf hs) hs3

theorem State.resumeCkpt_tablesWf {s : State} {f n : Nat} {desc : Bytes} {rec_ : Option Bytes} (h : s.tablesWf) :
    (s.resumeCkpt f n desc rec_).tablesWf := by
  unfold State.resumeCkpt
  refine job_tablesWf h ?_
  intro _ _ u hu
  extract_lets
  exact ite_snd_tablesWf hu (restore_tablesWf hu)

theorem State.leafDigests_tablesWf {s : State} {f n : Nat} {desc : Bytes} (h : s.tablesWf) :
    (s.leafDigests f n desc).tablesWf := by
  unfold State.leafDigests
  extract_lets _ s1
  have hs1 : s1.tablesWf := takeJob_tablesWf h
  exact ite_tablesWf h (ite_tablesWf (jobDone_tablesWf hs1) (jobDone_tablesWf (hostPut_tablesWf hs1)))

/-! ## What ends service (R398, R408, R418, R419) -/

theorem State.zeroAllKeys_tablesWf {s : State} (h : s.tablesWf) : s.zeroAllKeys.tablesWf := by
  unfold State.zeroAllKeys
  extract_lets _ s1
  have hs1 : s1.tablesWf := h
  exact foldl_tablesWf (fun _ hs _ => wr_tablesWf (clearAssets_tablesWf hs)) hs1

theorem State.failed_tablesWf {s : State} {code detail : Nat} (h : s.tablesWf) : (s.failed code detail).tablesWf := by
  unfold State.failed
  extract_lets src
  have hsrc : src.tablesWf := wr_tablesWf (wr_tablesWf (wr_tablesWf h))
  clear_value src
  exact hsrc

theorem State.bootFail_tablesWf {s : State} {code detail : Nat} (h : s.tablesWf) :
    (s.bootFail code detail).tablesWf := by
  unfold State.bootFail
  extract_lets s1
  have hs1 : s1.tablesWf := wr_tablesWf (failed_tablesWf (zeroAllKeys_tablesWf h))
  clear_value s1
  exact hs1

theorem State.fatal_tablesWf {s : State} {code : Nat} {clk : Bool} (h : s.tablesWf) :
    (s.fatal code clk).tablesWf := by
  unfold State.fatal
  refine ite_tablesWf h ?_
  extract_lets s1 _ s2
  have hs1 : s1.tablesWf := ite_tablesWf (raiseAll_tablesWf h) h
  clear_value s1
  have hs2 : s2.tablesWf := zeroAllKeys_tablesWf hs1
  exact failed_tablesWf (wr_tablesWf (wr_tablesWf (wr_tablesWf hs2)))

/-- The definition is unfolded as a function: with its arguments the kernel would count down from 0x800000 (R418). -/
theorem State.remapTile_tablesWf {s : State} {f t : Nat} (h : s.tablesWf) : (s.remapTile f t).tablesWf := by
  generalize hF : @State.remapTile = F
  delta State.remapTile at hF
  subst hF
  beta_reduce
  generalize s.farFrom (s.farTop - 0x800000) = far
  split
  · split
    next d s1 e =>
      have hs1 : s1.tablesWf := snd_tablesWf e h
      exact tiles_tablesWf (setTag_tablesWf hs1)
  · exact wipeTile_tablesWf (unstageGone_tablesWf (revokeTiles_tablesWf h))

theorem State.remapAll_tablesWf {s : State} {f : Nat} (h : s.tablesWf) : (s.remapAll f).tablesWf :=
  foldl_tablesWf (fun _ hs _ => remapTile_tablesWf hs) h

theorem State.tierLost_tablesWf {s : State} (h : s.tablesWf) : s.tierLost.tablesWf := by
  unfold State.tierLost
  refine ite_tablesWf h ?_
  extract_lets _ s1 _ s2 s3 s4
  have hs1 : s1.tablesWf := raiseAll_tablesWf (wr_tablesWf (wr_tablesWf h))
  have hs2 : s2.tablesWf := foldl_tablesWf (fun _ hs _ => abandonAll_tablesWf hs) hs1
  have hs3 : s3.tablesWf := foldl_tablesWf (fun _ hs _ => discardStage_tablesWf hs) hs2
  clear_value s3
  have hs4 : s4.tablesWf := hs3
  exact foldl_tablesWf (fun _ hs _ => remapAll_tablesWf hs) hs4

theorem State.packageLost_tablesWf {s : State} {p : Nat} (h : s.tablesWf) : (s.packageLost p).tablesWf := by
  unfold State.packageLost
  extract_lets _ s1 _ s2
  have hs1 : s1.tablesWf := wr_tablesWf (wr_tablesWf h)
  have hs2 : s2.tablesWf := raiseAll_tablesWf hs1
  exact foldl_tablesWf (fun _ hs _ => abandonAll_tablesWf hs) hs2

/-! ## The random bit generator (R312 to R325) -/

theorem State.updRng_tablesWf {s : State} {g : Rng → Rng} (h : s.tablesWf) : (s.updRng g).tablesWf := h

theorem State.updSource_tablesWf {s : State} {k : Nat} {g : Source → Source} (h : s.tablesWf) :
    (s.updSource k g).tablesWf :=
  updRng_tablesWf h

theorem State.startSource_tablesWf {s : State} {k : Nat} (h : s.tablesWf) : (s.startSource k).tablesWf :=
  updSource_tablesWf h

theorem State.collect_tablesWf {s : State} (h : s.tablesWf) : s.collect.tablesWf := updRng_tablesWf h

theorem State.collectIfOk_tablesWf {s : State} (h : s.tablesWf) : s.collectIfOk.tablesWf := by
  unfold State.collectIfOk
  extract_lets
  exact ite_tablesWf (collect_tablesWf h) h

theorem State.startEntropy_tablesWf {s : State} (h : s.tablesWf) : s.startEntropy.tablesWf :=
  foldl_tablesWf (fun _ hs _ => startSource_tablesWf hs) (wr_tablesWf h)

theorem State.sourceSettled_tablesWf {s : State} {k : Nat} (h : s.tablesWf) : (s.sourceSettled k).tablesWf := by
  unfold State.sourceSettled
  extract_lets
  exact ite_tablesWf (updSource_tablesWf h) h

theorem State.startupDone_tablesWf {s : State} {k : Nat} (h : s.tablesWf) : (s.startupDone k).tablesWf := by
  unfold State.startupDone
  extract_lets
  exact ite_tablesWf (collectIfOk_tablesWf (updSource_tablesWf h)) h

theorem State.softWord_tablesWf {s : State} {r : Req} {w : Word} {code : Nat} (h : s.tablesWf) :
    (s.softWord r w code).tablesWf :=
  emit_tablesWf (updRng_tablesWf h)

theorem State.idleWord_tablesWf {s : State} {r : Req} (h : s.tablesWf) : (s.idleWord r).tablesWf :=
  bump_tablesWf (softWord_tablesWf h)

theorem State.idleReads_tablesWf {s : State} (h : s.tablesWf) : s.idleReads.tablesWf := by
  unfold State.idleReads
  refine foldl_tablesWf ?_ (updRng_tablesWf h)
  intro u hu _
  split
  · exact idleWord_tablesWf hu
  · exact hu

theorem State.haltIfDry_tablesWf {s : State} (h : s.tablesWf) : s.haltIfDry.tablesWf := by
  unfold State.haltIfDry
  exact ite_tablesWf (noEntropy_tablesWf (idleReads_tablesWf (wr_tablesWf h))) h

theorem State.goDead_tablesWf {s : State} (h : s.tablesWf) : s.goDead.tablesWf := by
  unfold State.goDead
  refine ite_tablesWf (bootFail_tablesWf h) ?_
  extract_lets _ s1 s2
  have hs1 : s1.tablesWf := idleReads_tablesWf (raise_tablesWf (wr_tablesWf h))
  have hs2 : s2.tablesWf := updRng_tablesWf hs1
  exact foldl_tablesWf (fun _ hs _ => ite_tablesWf (abandon_tablesWf hs) hs) hs2

theorem State.failLog_tablesWf {s : State} {k : Nat} {test : RngTest} {startup : Bool} (h : s.tablesWf) :
    (s.failLog k test startup).tablesWf := by
  unfold State.failLog
  extract_lets s1
  have hs1 : s1.tablesWf := bump_tablesWf h
  exact capture_tablesWf hs1

theorem State.healthFail_tablesWf {s : State} {k : Nat} {test : RngTest} (h : s.tablesWf) :
    (s.healthFail k test).tablesWf := by
  unfold State.healthFail
  extract_lets _ s1 s2 s21
  have hs1 : s1.tablesWf := updRng_tablesWf (failLog_tablesWf h)
  have hs2 : s2.tablesWf := ite_tablesWf (updRng_tablesWf (wr_tablesWf (raise_tablesWf hs1))) hs1
  have hs21 : s21.tablesWf := updSource_tablesWf hs1
  exact ite_tablesWf h (ite_tablesWf (haltIfDry_tablesWf (startSource_tablesWf hs2)) (ite_tablesWf
      (startSource_tablesWf (updSource_tablesWf hs1)) (ite_tablesWf (goDead_tablesWf hs21) (collectIfOk_tablesWf
      hs21))))

theorem State.collectionDone_tablesWf {s : State} (h : s.tablesWf) : s.collectionDone.tablesWf := by
  unfold State.collectionDone
  refine ite_tablesWf h ?_
  extract_lets s1
  have hs1 : s1.tablesWf := ite_tablesWf (bump_tablesWf h) h
  exact updRng_tablesWf (wr_tablesWf hs1)

theorem State.reseedTimer_tablesWf {s : State} (h : s.tablesWf) : s.reseedTimer.tablesWf := by
  unfold State.reseedTimer
  extract_lets
  exact ite_tablesWf (collect_tablesWf h) h

theorem State.generate_tablesWf {s : State} (h : s.tablesWf) : s.generate.tablesWf := by
  unfold State.generate
  exact ite_tablesWf h (updRng_tablesWf h)

theorem State.identityDrawn_tablesWf {s : State} {f : Nat} {ws : List Word} (h : s.tablesWf) :
    (s.identityDrawn f ws).tablesWf := by
  unfold State.identityDrawn
  extract_lets
  exact ite_tablesWf (updFn_tablesWf h) (ask_tablesWf h)

theorem State.slotDrawn_tablesWf {s : State} {slot : Nat} {ws : List Word} (h : s.tablesWf) :
    (s.slotDrawn slot ws).tablesWf := by
  unfold State.slotDrawn
  extract_lets
  exact ite_tablesWf h (wr_tablesWf (setSlot_tablesWf h))

theorem State.lmsDrawn_tablesWf {s : State} {ws : List Word} (h : s.tablesWf) : (s.lmsDrawn ws).tablesWf := by
  unfold State.lmsDrawn
  split
  next s1 e =>
    have hs1 : s1.tablesWf := snd_tablesWf e (draw_tablesWf h)
    exact setSlot_tablesWf hs1

theorem State.ctxDrawn_tablesWf {s : State} {ws : List Word} (h : s.tablesWf) : (s.ctxDrawn ws).tablesWf :=
  nalam_tablesWf h

theorem State.wordsCame_tablesWf {s : State} {j id : Nat} (h : s.tablesWf) : (s.wordsCame j id).tablesWf := by
  unfold State.wordsCame
  exact ite_tablesWf h (updSpin_tablesWf h)

theorem State.rngDone_tablesWf {s : State} {q : RngReq} (h : s.tablesWf) : (s.rngDone q).tablesWf := by
  unfold State.rngDone
  split
  · exact identityDrawn_tablesWf h
  · exact lmsDrawn_tablesWf h
  · exact ctxDrawn_tablesWf h
  · exact slotDrawn_tablesWf h
  · exact handshakeServed_tablesWf h
  · exact nonceServed_tablesWf h
  · exact wr_tablesWf h
  · exact remasked_tablesWf h
  · exact roundDrawn_tablesWf h
  · exact checkpointDrawn_tablesWf h
  · exact wordsCame_tablesWf h
  · exact wordsCame_tablesWf h
  · exact softWord_tablesWf h

theorem State.serveWord_tablesWf {s : State} (h : s.tablesWf) : s.serveWord.tablesWf := by
  unfold State.serveWord
  refine ite_tablesWf h ?_
  split
  · split
    · exact h
    · extract_lets _ s1
      have hs1 : s1.tablesWf := updRng_tablesWf h
      exact haltIfDry_tablesWf (ite_tablesWf (rngDone_tablesWf hs1) hs1)
  · exact h

theorem State.rngData_tablesWf {s : State} {r : Req} {addr : Nat} (h : s.tablesWf) : (s.rngData r addr).tablesWf := by
  unfold State.rngData
  extract_lets
  exact ite_tablesWf h (ite_tablesWf (accErr_tablesWf h) (ite_tablesWf (accErr_tablesWf (emit_tablesWf h))
      (ite_tablesWf (idleWord_tablesWf h) (ask_tablesWf h))))

/-! ## The host's side (R369 to R390) -/

theorem State.countSnap_tablesWf {s : State} {f : Nat} (h : s.tablesWf) : (s.countSnap f).tablesWf := by
  unfold State.countSnap
  refine ite_tablesWf h ?_
  extract_lets s1
  have hs1 : s1.tablesWf := bump_tablesWf h
  clear_value s1
  exact hs1

theorem State.snap_tablesWf {s : State} {r : Req} (h : s.tablesWf) : (s.snap r).tablesWf := by
  unfold State.snap
  refine privCmd_tablesWf h ?_
  intro u hu
  extract_lets s1
  have hs1 : s1.tablesWf := bump_tablesWf hu
  exact foldl_tablesWf (fun _ hs _ => countSnap_tablesWf hs) hs1

theorem State.fsnap_tablesWf {s : State} {f : Nat} (h : s.tablesWf) : (s.fsnap f).tablesWf := by
  unfold State.fsnap
  refine funcCmd_tablesWf h ?_
  intro u hu
  extract_lets
  exact countSnap_tablesWf hu

theorem State.sendPending_tablesWf {s : State} {f : Nat} (h : s.tablesWf) : (s.sendPending f).tablesWf := by
  unfold State.sendPending
  exact foldl_tablesWf (fun _ hs _ => ite_tablesWf (emit_tablesWf (wr_tablesWf hs)) hs) h

theorem State.dmaResume_tablesWf {s : State} {f : Nat} (h : s.tablesWf) : (s.dmaResume f).tablesWf := by
  unfold State.dmaResume
  refine ite_tablesWf h ?_
  extract_lets _ s1 s2
  have hs1 : s1.tablesWf := updFn_tablesWf h
  have hs2 : s2.tablesWf := foldl_tablesWf (fun _ hs _ => hostPut_tablesWf hs) hs1
  exact sendPending_tablesWf (foldl_tablesWf (fun _ hs _ => raiseAt_tablesWf hs) hs2)

theorem State.linkLost_tablesWf {s : State} (h : s.tablesWf) : s.linkLost.tablesWf := by
  unfold State.linkLost
  exact ite_tablesWf h (raise_tablesWf (bump_tablesWf h))

theorem State.linkBack_tablesWf {s : State} (h : s.tablesWf) : s.linkBack.tablesWf := by
  unfold State.linkBack
  exact ite_tablesWf h (foldl_tablesWf (fun _ hs _ => dmaResume_tablesWf hs) h)

theorem State.ideReq_tablesWf {s : State} {f : Nat} (h : s.tablesWf) : (s.ideReq f).tablesWf := by
  unfold State.ideReq
  extract_lets
  refine funcCmd_tablesWf h ?_
  intro u hu
  refine ite_tablesWf (accErr_tablesWf hu) (ite_tablesWf ?_ hu)
  extract_lets src
  have hsrc : src.tablesWf := wr_tablesWf hu
  clear_value src
  exact hsrc

theorem State.ideFail_tablesWf {s : State} {f : Nat} (h : s.tablesWf) : (s.ideFail f).tablesWf := by
  unfold State.ideFail
  refine ite_tablesWf h ?_
  extract_lets s1
  have hs1 : s1.tablesWf := updFn_tablesWf h
  exact ite_tablesWf (raise_tablesWf (updFn_tablesWf hs1)) hs1

theorem State.ideKm_tablesWf {s : State} {f : Nat} {q : SpdmReq} (h : s.tablesWf) : (s.ideKm f q).tablesWf := by
  unfold State.ideKm
  refine spdm_tablesWf h ?_
  intro u hu
  extract_lets
  exact ite_tablesWf (spdmError_tablesWf hu) (spdmAnswer_tablesWf (dmaResume_tablesWf (updFn_tablesWf hu)))

theorem State.resetRegs_tablesWf {s : State} {f : Nat} (h : s.tablesWf) : (s.resetRegs f).tablesWf := by
  obtain ⟨hregs, hrest⟩ := tablesWf_iff.1 h
  exact tablesWf_iff.2 ⟨rising_filter _ _ hregs, hrest⟩

theorem State.cancelUnits_tablesWf {s : State} {f : Nat} (h : s.tablesWf) : (s.cancelUnits f).tablesWf := by
  unfold State.cancelUnits
  extract_lets _ _ s1 _ s2 s3
  have hs1 : s1.tablesWf := foldl_tablesWf (fun _ hs _ => unloadSpin_tablesWf hs) h
  clear_value s1
  have hs2 : s2.tablesWf := hs1
  have hs3 : s3.tablesWf := foldl_tablesWf (fun _ hs _ => ite_tablesWf (discardStage_tablesWf hs) (unstage_tablesWf
      hs)) hs2
  exact foldl_tablesWf (fun _ hs _ => ite_tablesWf (pageOut_tablesWf hs) (dropPages_tablesWf hs)) hs3

theorem State.cutNetwork_tablesWf {s : State} {f code : Nat} (h : s.tablesWf) : (s.cutNetwork f code).tablesWf := by
  unfold State.cutNetwork
  extract_lets s1 s2
  have hs1 : s1.tablesWf := foldl_tablesWf (fun _ hs _ => closeWindow_tablesWf hs) h
  clear_value s1
  have hs2 : s2.tablesWf := hs1
  exact unpinTo_tablesWf (qpErrorAll_tablesWf hs2)

theorem State.startReset_tablesWf {s0 : State} {f code : Nat} {byGo : Bool} (h : s0.tablesWf) :
    (s0.startReset f code byGo).tablesWf := by
  unfold State.startReset
  extract_lets s s1 s2 _ s3
  have hs : s.tablesWf := postAll_tablesWf h
  have hs1 : s1.tablesWf := wr_tablesWf (updFn_tablesWf hs)
  have hs2 : s2.tablesWf := cutNetwork_tablesWf (cancelUnits_tablesWf (abandonAll_tablesWf hs1))
  have hs3 : s3.tablesWf := foldl_tablesWf (fun _ hs3 _ => ctrForce_tablesWf hs3) hs2
  exact ite_tablesWf (updFn_tablesWf hs) (wr_tablesWf (resetRegs_tablesWf (updFn_tablesWf hs3)))

theorem State.flr_tablesWf {s : State} {f : Nat} (h : s.tablesWf) : (s.flr f).tablesWf := by
  unfold State.flr
  refine ite_tablesWf h (ite_tablesWf (startReset_tablesWf h) ?_)
  extract_lets
  exact foldl_tablesWf (fun _ hs _ => updFn_tablesWf (startReset_tablesWf hs)) (startReset_tablesWf h)

theorem State.frGo_tablesWf {s : State} {r : Req} (h : s.tablesWf) : (s.frGo r).tablesWf := by
  unfold State.frGo
  refine privCmd_tablesWf h ?_
  intro u hu
  extract_lets
  exact ite_tablesWf (wr_tablesWf hu) (startReset_tablesWf (wr_tablesWf (wr_tablesWf hu)))

theorem State.resetDone_tablesWf {s : State} {f : Nat} (h : s.tablesWf) : (s.resetDone f).tablesWf := by
  unfold State.resetDone
  refine ite_tablesWf h ?_
  extract_lets _ s1 s2 s3
  have hs1 : s1.tablesWf := foldl_tablesWf (fun _ hs _ => wipeTile_tablesWf hs) (dropLeaves_tablesWf h)
  have hs2 : s2.tablesWf := wr_tablesWf hs1
  have hs3 : s3.tablesWf := ite_tablesWf (wr_tablesWf hs2) hs2
  exact wr_tablesWf (updFn_tablesWf hs3)

theorem State.vfEnable_tablesWf {s : State} {num : Nat} (h : s.tablesWf) : (s.vfEnable num).tablesWf := by
  unfold State.vfEnable
  refine ite_tablesWf h ?_
  extract_lets _ s1
  have hs1 : s1.tablesWf := foldl_tablesWf (fun _ hs _ => updFn_tablesWf (ite_tablesWf (startReset_tablesWf hs) hs)) h
  exact foldl_tablesWf (fun _ hs _ => ite_tablesWf hs (wr_tablesWf (updFn_tablesWf hs))) hs1

theorem State.evtTail_tablesWf {s : State} {f v : Nat} (h : s.tablesWf) : (s.evtTail f v).tablesWf :=
  funcCmd_tablesWf h (fun _ hs => updFn_tablesWf (wr_tablesWf hs))

/-! ## Physical spindles (R409 to R415, R435) -/

theorem State.updPhys_tablesWf {s : State} {p : Nat} {g : Phys → Phys} (h : s.tablesWf) : (s.updPhys p g).tablesWf :=
  h

theorem State.enterRecovery_tablesWf {s : State} {f : Nat} (h : s.tablesWf) : (s.enterRecovery f).tablesWf := by
  unfold State.enterRecovery
  exact ite_tablesWf (wr_tablesWf h) h

theorem State.leaveRecovery_tablesWf {s : State} {f : Nat} (h : s.tablesWf) : (s.leaveRecovery f).tablesWf := by
  unfold State.leaveRecovery
  exact ite_tablesWf (wr_tablesWf h) h

theorem State.forOwner_tablesWf {s : State} {j : Nat} {g : Nat → State → State} (h : s.tablesWf)
    (hg : ∀ x0 u1, u1.tablesWf → (g x0 u1).tablesWf) : (s.forOwner j g).tablesWf := by
  unfold State.forOwner
  split
  · exact hg _ _ h
  · exact h

theorem State.countSpares_tablesWf {s : State} (h : s.tablesWf) : s.countSpares.tablesWf := wr_tablesWf h

theorem State.testInvalid_tablesWf {s : State} (h : s.tablesWf) : s.testInvalid.tablesWf := by
  unfold State.testInvalid
  extract_lets s1 src
  have hs1 : s1.tablesWf := wr_tablesWf (wr_tablesWf (bump_tablesWf h))
  have hsrc : src.tablesWf := wr_tablesWf (wr_tablesWf hs1)
  clear_value src
  exact countSpares_tablesWf hsrc

theorem State.timeshare_tablesWf {s : State} {j f p : Nat} (h : s.tablesWf) : (s.timeshare j f p).tablesWf := by
  unfold State.timeshare
  extract_lets s1
  have hs1 : s1.tablesWf := bump_tablesWf (wr_tablesWf (updPhys_tablesWf h))
  exact updSpin_tablesWf (raiseAll_tablesWf hs1)

theorem State.rehome_tablesWf {s : State} {j : Nat} (h : s.tablesWf) : (s.rehome j).tablesWf := by
  unfold State.rehome
  extract_lets s0 s1
  have hs0 : s0.tablesWf := updSpin_tablesWf h
  have hs1 : s1.tablesWf := ite_tablesWf (testInvalid_tablesWf hs0) hs0
  split
  · exact forOwner_tablesWf (countSpares_tablesWf (updPhys_tablesWf hs1)) (fun _ _ hs => enterRecovery_tablesWf hs)
  · refine forOwner_tablesWf hs1 ?_
    intro _ u hu
    split
    · exact timeshare_tablesWf hu
    · exact abandonAll_tablesWf (raiseAll_tablesWf hu)

theorem State.failSpindle_tablesWf {s : State} {p code : Nat} (h : s.tablesWf) : (s.failSpindle p code).tablesWf := by
  unfold State.failSpindle
  extract_lets _ _ s1 s2
  have hs1 : s1.tablesWf := updPhys_tablesWf h
  have hs2 : s2.tablesWf := ite_tablesWf (wr_tablesWf hs1) hs1
  exact ite_tablesWf (foldl_tablesWf (fun _ hs _ => rehome_tablesWf hs) hs2) (fatal_tablesWf hs2)

theorem State.mismatch_tablesWf {s : State} {p : Nat} (h : s.tablesWf) : (s.mismatch p).tablesWf :=
  raise_tablesWf (bump_tablesWf (bump_tablesWf (bump_tablesWf h)))

theorem State.residueFail_tablesWf {s : State} {j : Nat} {cause : ResidueCause} (h : s.tablesWf) :
    (s.residueFail j cause).tablesWf := by
  unfold State.residueFail
  split
  · exact h
  · extract_lets _ _ s1
    have hs1 : s1.tablesWf := updPhys_tablesWf (mismatch_tablesWf h)
    refine ite_tablesWf h ?_
    split
    · exact failSpindle_tablesWf (raise_tablesWf h)
    · exact ite_tablesWf h (ite_tablesWf (failSpindle_tablesWf hs1) hs1)
    · exact ite_tablesWf h (failSpindle_tablesWf (mismatch_tablesWf h))

/-! ## From power to service (R391 to R404) -/

theorem State.fullReset_tablesWf {s : State} : s.fullReset.tablesWf :=
  tablesWf_iff.2 (tablesWf_iff.1 reset_memWf.2)

theorem State.fromOtp_tablesWf {s : State} (h : s.tablesWf) : s.fromOtp.tablesWf := by
  unfold State.fromOtp
  extract_lets _ s1 s2 s3
  have hs1 : s1.tablesWf := wr_tablesWf (wr_tablesWf (wr_tablesWf (wr_tablesWf (wr_tablesWf h))))
  have hs2 : s2.tablesWf := wr_tablesWf (wr_tablesWf (wr_tablesWf (wr_tablesWf (wr_tablesWf hs1))))
  have hs3 : s3.tablesWf := wr_tablesWf (foldl_tablesWf (fun _ hs _ => wr_tablesWf hs) hs2)
  clear_value s3
  exact hs3

theorem State.powerUp_tablesWf {s : State} (h : s.tablesWf) : s.powerUp.tablesWf := by
  unfold State.powerUp
  exact ite_tablesWf h (fromOtp_tablesWf h)

theorem State.holdSlot_tablesWf {s : State} {i : Nat} {a : KeyAttr} {v : Nat} (h : s.tablesWf) :
    (s.holdSlot i a v).tablesWf := by
  unfold State.holdSlot
  split
  next s1 e =>
    have hs1 : s1.tablesWf := snd_tablesWf e (draw_tablesWf h)
    exact setSlot_tablesWf hs1

theorem State.pllLock_tablesWf {s : State} (h : s.tablesWf) : s.pllLock.tablesWf := by
  unfold State.pllLock
  refine ite_tablesWf h ?_
  extract_lets s1
  have hs1 : s1.tablesWf := holdSlot_tablesWf (wr_tablesWf (wr_tablesWf (wr_tablesWf h)))
  exact ite_tablesWf (bootFail_tablesWf hs1) (wr_tablesWf hs1)

theorem State.pllFail_tablesWf {s : State} (h : s.tablesWf) : s.pllFail.tablesWf := by
  unfold State.pllFail
  exact ite_tablesWf (bootFail_tablesWf h) h

theorem State.doorbell_tablesWf {s : State} {r : Req} (h : s.tablesWf) : (s.doorbell r).tablesWf := by
  unfold State.doorbell
  extract_lets
  exact ite_tablesWf h (ite_tablesWf (wr_tablesWf h) (wr_tablesWf h))

theorem State.holdImage_tablesWf {s : State} {b : Bytes} (h : s.tablesWf) : (s.holdImage b).tablesWf := wr_tablesWf h

theorem State.fwRanges_tablesWf {s : State} (h : s.tablesWf) : s.fwRanges.tablesWf := by
  unfold State.fwRanges
  extract_lets
  exact wr_tablesWf (wr_tablesWf (wr_tablesWf (wr_tablesWf h)))

theorem State.deriveKeys_tablesWf {s : State} (h : s.tablesWf) : s.deriveKeys.tablesWf := by
  unfold State.deriveKeys
  extract_lets root s1
  have hs1 : s1.tablesWf := holdSlot_tablesWf (holdSlot_tablesWf h)
  exact wr_tablesWf (nalam_tablesWf hs1)

theorem State.imageArrival_tablesWf {s : State} {b : Bytes} (h : s.tablesWf) : (s.imageArrival b).tablesWf := by
  unfold State.imageArrival
  refine ite_tablesWf h ?_
  extract_lets src n s1 c
  have hs1 : s1.tablesWf := nalam_tablesWf (s := src) (wr_tablesWf (wr_tablesWf (wr_tablesWf h)))
  refine ite_tablesWf (bootFail_tablesWf hs1) ?_
  split
  next d s2 e =>
    have hs2 : s2.tablesWf := snd_tablesWf e (draw_tablesWf hs1)
    exact ite_tablesWf (bootFail_tablesWf hs2)
      (startEntropy_tablesWf (wr_tablesWf (deriveKeys_tablesWf (holdImage_tablesWf hs2))))

theorem State.imageTimeout_tablesWf {s : State} (h : s.tablesWf) : s.imageTimeout.tablesWf := by
  unfold State.imageTimeout
  exact ite_tablesWf (bootFail_tablesWf h) h

theorem State.bootKey_tablesWf {s : State} (h : s.tablesWf) : s.bootKey.tablesWf := by
  unfold State.bootKey
  refine ite_tablesWf (wr_tablesWf h) ?_
  extract_lets
  exact ask_tablesWf (wr_tablesWf h)

theorem State.bootSpindle_tablesWf {s : State} {p : Nat} (h : s.tablesWf) : (s.bootSpindle p).tablesWf := by
  unfold State.bootSpindle
  extract_lets _ s1
  have hs1 : s1.tablesWf := updPhys_tablesWf h
  refine ite_tablesWf hs1 ?_
  split
  · exact updPhys_tablesWf hs1
  · exact updSpin_tablesWf hs1

theorem State.softRepairs_tablesWf {s : State} {n : Nat} (h : s.tablesWf) : (s.softRepairs n).tablesWf := h

theorem State.bootCheck_tablesWf {s : State} {c : BistResult} (h : s.tablesWf) : (s.bootCheck c).tablesWf := by
  unfold State.bootCheck
  refine ite_tablesWf h ?_
  extract_lets
  exact countSpares_tablesWf (foldl_tablesWf (fun _ hs _ => bootSpindle_tablesWf hs) (softRepairs_tablesWf h))

theorem State.seededAtBoot_tablesWf {s : State} {c : BistResult} (h : s.tablesWf) : (s.seededAtBoot c).tablesWf := by
  unfold State.seededAtBoot
  refine ite_tablesWf h ?_
  extract_lets src _ _ _ s1 s2
  have hsrc : src.tablesWf := fwRanges_tablesWf (wr_tablesWf h)
  clear_value src
  have hs1 : s1.tablesWf := hsrc
  have hs2 : s2.tablesWf := bootCheck_tablesWf (wr_tablesWf hs1)
  exact ite_tablesWf (ask_tablesWf (bootKey_tablesWf hs2)) (bootFail_tablesWf hs2)

theorem State.tags_filter_tablesWf {s : State} {c : Nat × TileTag → Bool} (h : s.tablesWf) :
    { s with tags := s.tags.filter c }.tablesWf := by
  obtain ⟨hregs, htags, hrest⟩ := tablesWf_iff.1 h
  exact tablesWf_iff.2 ⟨hregs, Sparse.filter_wf _ _ _ htags, hrest⟩

theorem State.creelReady_tablesWf {s : State} {tier0 tier1 : Bool} (h : s.tablesWf) :
    (s.creelReady tier0 tier1).tablesWf := by
  unfold State.creelReady
  extract_lets s1
  have hs1 : s1.tablesWf := wr_tablesWf (wr_tablesWf (tags_filter_tablesWf (s := s) h))
  exact ite_tablesWf h (ite_tablesWf (bootFail_tablesWf (wr_tablesWf h)) (ite_tablesWf hs1 (tierLost_tablesWf hs1)))

theorem State.farReadyBoot_tablesWf {s : State} {fast slow : Nat} (h : s.tablesWf) :
    (s.farReadyBoot fast slow).tablesWf := by
  unfold State.farReadyBoot
  refine ite_tablesWf h ?_
  extract_lets
  exact wr_tablesWf (foldl_tablesWf (fun _ hs _ => wr_tablesWf (wr_tablesWf (wr_tablesWf hs))) h)

theorem State.attestReady_tablesWf {s : State} (h : s.tablesWf) : s.attestReady.tablesWf := by
  unfold State.attestReady
  extract_lets pub seed
  exact ite_tablesWf h (ite_tablesWf (wr_tablesWf h) (ite_tablesWf h
    (wr_tablesWf (wr_tablesWf (wr_tablesWf (nalam_tablesWf h))))))

theorem State.portsReady_tablesWf {s : State} {up : Nat} (h : s.tablesWf) : (s.portsReady up).tablesWf := by
  unfold State.portsReady
  extract_lets
  exact ite_tablesWf h (wr_tablesWf (foldl_tablesWf (fun _ hs _ => ite_tablesWf (linkUp_tablesWf hs) hs) h))

theorem State.fwReady_tablesWf {s : State} (h : s.tablesWf) : s.fwReady.tablesWf := by
  unfold State.fwReady
  exact ite_tablesWf (wr_tablesWf h) h

theorem State.startFunction_tablesWf {s : State} {f : Nat} (h : s.tablesWf) : (s.startFunction f).tablesWf := by
  unfold State.startFunction
  extract_lets s1
  have hs1 : s1.tablesWf := wr_tablesWf h
  exact wr_tablesWf (updFn_tablesWf hs1)

theorem State.declareReady_tablesWf {s : State} (h : s.tablesWf) : s.declareReady.tablesWf := by
  unfold State.declareReady
  refine ite_tablesWf h ?_
  extract_lets s1 src _ s2
  have hs1 : s1.tablesWf := wr_tablesWf (wr_tablesWf (wr_tablesWf h))
  have hsrc : src.tablesWf := wr_tablesWf (wr_tablesWf hs1)
  clear_value src
  have hs2 : s2.tablesWf := hsrc
  exact foldl_tablesWf (fun _ hs _ => startFunction_tablesWf hs) hs2

theorem State.bootLate_tablesWf {s : State} (h : s.tablesWf) : s.bootLate.tablesWf := by
  unfold State.bootLate
  extract_lets
  exact ite_tablesWf (bootFail_tablesWf h) h

theorem State.attach_tablesWf {s : State} {f : Nat} (h : s.tablesWf) : (s.attach f).tablesWf := by
  unfold State.attach
  refine funcCmd_tablesWf h ?_
  intro u hu
  refine ite_tablesWf hu ?_
  split
  · exact raiseOwn_tablesWf (wr_tablesWf hu)
  · exact wr_tablesWf (wr_tablesWf (wr_tablesWf hu))

theorem State.goService_tablesWf {s : State} {f : Nat} (h : s.tablesWf) : (s.goService f).tablesWf := by
  unfold State.goService
  exact funcCmd_tablesWf h (fun _ hs => ite_tablesWf (wr_tablesWf hs) (ite_tablesWf (wr_tablesWf hs) hs))

theorem State.warmGo_tablesWf {s : State} {r : Req} {img : Option Bytes} (h : s.tablesWf) :
    (s.warmGo r img).tablesWf := by
  unfold State.warmGo
  refine privCmd_tablesWf h ?_
  intro u hu
  refine ite_tablesWf hu ?_
  split
  · exact wr_tablesWf hu
  · extract_lets _ _ src
    have hsrc : src.tablesWf := wr_tablesWf (wr_tablesWf hu)
    clear_value src
    exact ite_tablesWf (wr_tablesWf hu) hsrc

theorem State.warmVerified_tablesWf {s : State} {b : Bytes} (h : s.tablesWf) : (s.warmVerified b).tablesWf := by
  unfold State.warmVerified
  split
  · exact h
  · refine ite_tablesWf h ?_
    extract_lets s1 s2 _ s3
    have hs1 : s1.tablesWf := foldl_tablesWf (fun _ hs _ => startReset_tablesWf hs) h
    have hs2 : s2.tablesWf := foldl_tablesWf (fun _ hs _ => releaseSlot_tablesWf hs) hs1
    clear_value s2
    have hs3 : s3.tablesWf := hs2
    exact ite_tablesWf (bootFail_tablesWf hs3) (wr_tablesWf (wr_tablesWf (wr_tablesWf (wr_tablesWf (fwRanges_tablesWf
        (holdImage_tablesWf hs3))))))

theorem State.hostFail_tablesWf {s : State} {k : HostOp} (h : s.tablesWf) : (s.hostFail k).tablesWf := by
  unfold State.hostFail
  split
  · exact loadImage_tablesWf h
  · exact ite_tablesWf (ringFail_tablesWf (wr_tablesWf h)) h
  · split
    · exact job_tablesWf h (fun _ _ _ hs => hs)
    · exact h
  · exact ite_tablesWf (wr_tablesWf (wr_tablesWf h)) h
  · exact ite_tablesWf (bootFail_tablesWf h) h
  · refine ite_tablesWf ?_ h
    split
    · exact ite_tablesWf (twrFire_tablesWf h) h
    · exact h

/-! ## Faults and repair (R69, R412 to R424) -/

theorem State.substituted_tablesWf {s : State} {j : Nat} (h : s.tablesWf) : (s.substituted j).tablesWf := by
  unfold State.substituted
  refine ite_tablesWf h ?_
  extract_lets s1 s2
  have hs1 : s1.tablesWf := bump_tablesWf (updSpin_tablesWf h)
  have hs2 : s2.tablesWf := forOwner_tablesWf (raise_tablesWf hs1) (fun _ _ hs => leaveRecovery_tablesWf hs)
  exact ite_tablesWf (forOwner_tablesWf (updSpin_tablesWf hs2) (fun _ _ hs => settleBusy_tablesWf hs)) hs2

theorem State.journalAt_tablesWf {s : State} {j : Nat} (h : s.tablesWf) : (s.journalAt j).tablesWf := by
  unfold State.journalAt
  exact ite_tablesWf (updSpin_tablesWf h) h

theorem State.ccFail_tablesWf {s : State} {core : Nat} (h : s.tablesWf) : (s.ccFail core).tablesWf := by
  unfold State.ccFail
  refine ite_tablesWf h ?_
  extract_lets _ src _ s1 _ s2 s3 s4
  have hsrc : src.tablesWf := bump_tablesWf h
  clear_value src
  have hs1 : s1.tablesWf := hsrc
  have hs2 : s2.tablesWf := foldl_tablesWf (fun _ hs _ => foldl_tablesWf (fun _ hs2 _ => ite_tablesWf hs2
      (wr_tablesWf (wr_tablesWf hs2))) hs) hs1
  have hs3 : s3.tablesWf := foldl_tablesWf (fun _ hs _ => raise_tablesWf hs) hs2
  have hs4 : s4.tablesWf := foldl_tablesWf (fun _ hs _ => abandonAll_tablesWf hs) hs3
  exact ite_tablesWf (fatal_tablesWf hs4) hs4

theorem State.nalamHang_tablesWf {s : State} (h : s.tablesWf) : s.nalamHang.tablesWf := by
  unfold State.nalamHang
  exact ite_tablesWf (fatal_tablesWf h) h

theorem State.clockLost_tablesWf {s : State} {ref : ClockRef} (h : s.tablesWf) : (s.clockLost ref).tablesWf := by
  unfold State.clockLost
  refine ite_tablesWf h ?_
  extract_lets s1 s2
  have hs1 : s1.tablesWf := bump_tablesWf h
  have hs2 : s2.tablesWf := wr_tablesWf hs1
  split
  · exact fatal_tablesWf (wr_tablesWf hs1)
  · exact fatal_tablesWf (wr_tablesWf hs1)
  · exact linkLost_tablesWf (wr_tablesWf hs1)
  · exact ite_tablesWf (syncLost_tablesWf hs2) hs2
  · exact portDown_tablesWf hs1

theorem State.bookFails_tablesWf {s : State} {book f : Nat} {bad all : Bool} (h : s.tablesWf) :
    (s.bookFails book f bad all).tablesWf := by
  unfold State.bookFails
  extract_lets clear s1
  have hclear : clear.tablesWf := h
  have hs1 : s1.tablesWf := raiseAll_tablesWf (bump_tablesWf hclear)
  exact ite_tablesWf hclear (ite_tablesWf (ite_tablesWf (abandonAll_tablesWf hs1) hs1) h)

theorem State.bookAudit_tablesWf {s : State} (h : s.tablesWf) : s.bookAudit.tablesWf := by
  unfold State.bookAudit
  refine ite_tablesWf h ?_
  extract_lets s1
  have hs1 : s1.tablesWf := foldl_tablesWf (fun _ hs _ => bookFails_tablesWf hs) h
  exact bookFails_tablesWf (bookFails_tablesWf hs1)

theorem State.creelScrub_tablesWf {s : State} {t : Nat} (h : s.tablesWf) : (s.creelScrub t).tablesWf := by
  unfold State.creelScrub
  refine ite_tablesWf h ?_
  extract_lets _ src
  have hsrc : src.tablesWf := ite_tablesWf (eccRead_tablesWf h) (verify_tablesWf h)
  clear_value src
  exact ite_tablesWf h hsrc

theorem State.scrubFoldHold_tablesWf {s : State} {t : Nat} (h : s.tablesWf) : (s.scrubFoldHold t).tablesWf := by
  unfold State.scrubFoldHold
  exact ite_tablesWf (land_tablesWf h) h

theorem State.farScrub_tablesWf {s : State} {t : Nat} (h : s.tablesWf) : (s.farScrub t).tablesWf := by
  unfold State.farScrub
  extract_lets _ src far u src1
  have hsrc : src.tablesWf := setTag_tablesWf h
  clear_value src
  have hfar : far.tablesWf := hsrc
  have hu : u.tablesWf := verify_tablesWf hfar
  have hsrc1 : src1.tablesWf := setTag_tablesWf hu
  clear_value src1
  exact ite_tablesWf hsrc1 h

theorem State.stageFails_tablesWf {s : State} {f t bad : Nat} (h : s.tablesWf) : (s.stageFails f t bad).tablesWf := by
  unfold State.stageFails
  refine foldl_tablesWf ?_ h
  intro u hu _
  extract_lets
  exact trap_tablesWf hu

theorem State.stageSlot_tablesWf {s : State} {f t : Nat} (h : s.tablesWf) : (s.stageSlot f t).2.tablesWf := by
  unfold State.stageSlot
  extract_lets
  split
  · exact h
  · split
    · extract_lets s1
      have hs1 : s1.tablesWf := writeBack_tablesWf h
      exact ite_snd_tablesWf (stageFails_tablesWf hs1) (unstage_tablesWf hs1)
    · exact foldl_tablesWf (fun _ hs _ => pageOut_tablesWf (pageBack_tablesWf hs)) h
    · exact h

theorem State.pageSlot_tablesWf {s : State} {f t : Nat} (h : s.tablesWf) : (s.pageSlot f t).2.tablesWf := by
  unfold State.pageSlot
  extract_lets
  split
  · exact h
  · split
    next s1 e =>
      have hs1 : s1.tablesWf := snd_tablesWf e (stageSlot_tablesWf h)
      exact hs1
    next s1 e =>
      have hs1 : s1.tablesWf := snd_tablesWf e (stageSlot_tablesWf h)
      split
      · exact hs1
      · extract_lets s2
        have hs2 : s2.tablesWf := pageBack_tablesWf hs1
        clear_value s2
        exact hs2

theorem State.pageIn_tablesWf {s : State} {f t p : Nat} (h : s.tablesWf) : (s.pageIn f t p).tablesWf := by
  unfold State.pageIn
  refine ite_tablesWf h ?_
  split
  next s1 e =>
    have hs1 : s1.tablesWf := snd_tablesWf e (pageSlot_tablesWf h)
    exact hs1
  next s1 e =>
    have hs1 : s1.tablesWf := snd_tablesWf e (pageSlot_tablesWf h)
    extract_lets _ src
    have hsrc : src.tablesWf := bump_tablesWf hs1
    clear_value src
    exact hsrc

theorem State.stage_tablesWf {s : State} {f t : Nat} (h : s.tablesWf) : (s.stage f t).tablesWf := by
  unfold State.stage
  refine ite_tablesWf h (ite_tablesWf (foldl_tablesWf (fun _ hs _ => pageIn_tablesWf hs) h) (ite_tablesWf h ?_))
  split
  next s1 e =>
    have hs1 : s1.tablesWf := snd_tablesWf e (stageSlot_tablesWf (dropPages_tablesWf h))
    exact hs1
  next s1 e =>
    have hs1 : s1.tablesWf := snd_tablesWf e (stageSlot_tablesWf (dropPages_tablesWf h))
    split
    next s2 e1 =>
      have hs2 : s2.tablesWf := snd_tablesWf e1 (verify_tablesWf hs1)
      refine ite_tablesWf (stageFails_tablesWf hs2) ?_
      extract_lets _ src u
      have hsrc : src.tablesWf := lockBytes_tablesWf hs2
      clear_value src
      have hu : u.tablesWf := hsrc
      exact putTile_tablesWf hu

/-! ## The register file (R374 to R377) -/

theorem State.access_tablesWf {s : State} {r : Req} {a n : Nat} {dead : State → State}
    {body : Page → Nat → Nat → Nat → State} (h : s.tablesWf) (hdead : ∀ u, u.tablesWf → (dead u).tablesWf)
    (hbody : ∀ x0 x1 x2 x3, (body x0 x1 x2 x3).tablesWf) : (s.access r a n dead body).tablesWf := by
  unfold State.access
  refine ite_tablesWf h (ite_tablesWf (accErr_tablesWf h) (ite_tablesWf (hdead _ h) (ite_tablesWf (accErr_tablesWf
      (hdead _ h)) ?_)))
  split
  · exact accErr_tablesWf (hdead _ h)
  · extract_lets
    exact ite_tablesWf (hdead _ h) (ite_tablesWf (accErr_tablesWf (hdead _ h)) (ite_tablesWf (accErr_tablesWf (hdead
        _ h)) (hbody _ _ _ _)))

theorem State.afterWrite_tablesWf {s : State} {f : Fld} {i : Nat} (h : s.tablesWf) : (s.afterWrite f i).tablesWf := by
  unfold State.afterWrite
  exact ite_tablesWf (foldl_tablesWf (fun _ hs _ => startSource_tablesWf hs) (updRng_tablesWf h)) (ite_tablesWf
      (ite_tablesWf (sendPending_tablesWf h) h) (ite_tablesWf (rotateAll_tablesWf (foldl_tablesWf (fun _ hs _ =>
      wr_tablesWf hs) h)) (ite_tablesWf (rotateAll_tablesWf h) h)))

theorem State.clearBit_tablesWf {s : State} {f : Fld} {i : Nat} (h : s.tablesWf) : (s.clearBit f i).tablesWf := by
  obtain ⟨hregs, hrest⟩ := tablesWf_iff.1 h
  unfold State.clearBit
  extract_lets k
  refine ite_tablesWf h ?_
  split
  · exact tablesWf_iff.2 ⟨rising_setAll _ _ hregs, hrest⟩
  · exact wr_tablesWf h

theorem State.writeField_tablesWf {s : State} {r : Req} {a view : Nat} {f : Fld} {i j m v : Nat} (h : s.tablesWf) :
    (s.writeField r a view f i j m v).tablesWf := by
  unfold State.writeField
  extract_lets _ _ put src
  have hput : ∀ x0, (put x0).tablesWf := fun _ => afterWrite_tablesWf (wr_tablesWf h)
  have hsrc : src.tablesWf := hput _
  clear_value src
  split
  · exact hput _
  · exact ite_tablesWf (accErr_tablesWf h) (hput _)
  · exact ite_tablesWf h (ite_tablesWf (accErr_tablesWf h) hsrc)
  · exact ite_tablesWf h (clearBit_tablesWf h)
  · exact ite_tablesWf h (hput _)
  · exact h
  · exact h

theorem State.regWrite_tablesWf {s : State} {r : Req} {a n v : Nat} (h : s.tablesWf) :
    (s.regWrite r a n v).tablesWf := by
  unfold State.regWrite
  refine access_tablesWf h (fun _ hs => hs) ?_
  intro _ _ _ _
  extract_lets _ _ s1
  have hs1 : s1.tablesWf := by
    unfold s1
    refine foldl_tablesWf ?_ h
    intro u hu _
    split
    · exact writeField_tablesWf hu
  exact ite_tablesWf (accErr_tablesWf hs1) hs1

theorem State.readDead_tablesWf {s : State} {r : Req} {a : Nat} (h : s.tablesWf) : (s.readDead r a).tablesWf :=
  emit_tablesWf h

theorem State.takeCount_tablesWf {s : State} {f : Fld} {i j : Nat} (h : s.tablesWf) :
    (s.takeCount f i j).tablesWf := by
  unfold State.takeCount
  extract_lets
  split
  · exact wr_tablesWf h
  · extract_lets s1
    have hs1 : s1.tablesWf := wr_tablesWf h
    clear_value s1
    exact hs1

theorem State.readClear_tablesWf {s : State} {r : Req} {a : Nat} (h : s.tablesWf) : (s.readClear r a).tablesWf := by
  unfold State.readClear
  refine access_tablesWf h (fun _ hs => readDead_tablesWf hs) ?_
  intro _ _ _ _
  extract_lets _ _ s1 s2
  have hs1 : s1.tablesWf := emit_tablesWf h
  have hs2 : s2.tablesWf := ite_tablesWf hs1 (foldl_tablesWf (fun _ hs _ => takeCount_tablesWf hs) hs1)
  exact ite_tablesWf (ite_tablesWf h (emit_tablesWf h)) (ite_tablesWf (emit_tablesWf h) (ite_tablesWf
      (accErr_tablesWf hs2) hs2))

/-! ## The weir (R453 to R458) -/

theorem State.breakTest_tablesWf {s : State} (h : s.tablesWf) : s.breakTest.tablesWf := by
  unfold State.breakTest
  exact ite_tablesWf h h

theorem State.setStep_tablesWf {s : State} {k : Nat} (h : s.tablesWf) : (s.setStep k).tablesWf := by
  unfold State.setStep
  extract_lets src
  have hsrc : src.tablesWf := breakTest_tablesWf (bump_tablesWf (wr_tablesWf h))
  clear_value src
  exact hsrc

theorem State.moveVid_tablesWf {s : State} {goal : Nat} {up : Option Nat} (h : s.tablesWf) :
    (s.moveVid goal up).tablesWf := by
  unfold State.moveVid
  extract_lets src
  have hsrc : src.tablesWf := wr_tablesWf h
  clear_value src
  exact hsrc

theorem State.trip_tablesWf {s : State} {temp : Nat} (h : s.tablesWf) : (s.trip temp).tablesWf := by
  unfold State.trip
  exact ite_tablesWf (bootFail_tablesWf (raise_tablesWf h)) h

theorem State.countStep_tablesWf {s : State} (h : s.tablesWf) : s.countStep.tablesWf := by
  unfold State.countStep
  extract_lets _ _ _ src
  have hsrc : src.tablesWf := bump_tablesWf h
  clear_value src
  exact ite_tablesWf h hsrc

theorem State.weirSample_tablesWf {s : State} {temps : List Nat} {power : Nat} (h : s.tablesWf) :
    (s.weirSample temps power).tablesWf := by
  unfold State.weirSample
  refine ite_tablesWf h ?_
  extract_lets _ _ _ _ _ src _ s1 s2
  have hsrc : src.tablesWf := countStep_tablesWf (wr_tablesWf (wr_tablesWf (wr_tablesWf h)))
  clear_value src
  have hs1 : s1.tablesWf := hsrc
  have hs2 : s2.tablesWf := ite_tablesWf (breakTest_tablesWf hs1) hs1
  exact ite_tablesWf (trip_tablesWf hs2) (ite_tablesWf (ite_tablesWf (moveVid_tablesWf hs2) hs2) (ite_tablesWf hs2
      (ite_tablesWf (moveVid_tablesWf (setStep_tablesWf hs2)) (moveVid_tablesWf hs2))))

theorem State.vidStep_tablesWf {s : State} (h : s.tablesWf) : s.vidStep.tablesWf := by
  unfold State.vidStep
  refine ite_tablesWf h ?_
  extract_lets _ _ _ src _ s1
  have hsrc : src.tablesWf := wr_tablesWf (wr_tablesWf h)
  clear_value src
  have hs1 : s1.tablesWf := wr_tablesWf h
  refine ite_tablesWf hsrc ?_
  split
  · exact setStep_tablesWf hs1
  · exact hs1

/-! ## Built-in self-test (R436 to R447) -/

theorem State.bistCmd_tablesWf {s : State} {r : Req} {body : State → State} (h : s.tablesWf)
    (hbody : ∀ u, u.tablesWf → (body u).tablesWf) : (s.bistCmd r body).tablesWf := by
  unfold State.bistCmd
  extract_lets
  exact ite_tablesWf h (ite_tablesWf (accErr_tablesWf h) (ite_tablesWf (accErr_tablesWf h) (ite_tablesWf h (hbody _
      h))))

theorem State.bistRefuse_tablesWf {s : State} (h : s.tablesWf) : s.bistRefuse.tablesWf := wr_tablesWf h

theorem State.bistStart_tablesWf {s : State} {kind target : Nat} (h : s.tablesWf) :
    (s.bistStart kind target).tablesWf := by
  unfold State.bistStart
  extract_lets src
  have hsrc : src.tablesWf := wr_tablesWf (wr_tablesWf (wr_tablesWf (wr_tablesWf (wr_tablesWf h))))
  clear_value src
  exact hsrc

theorem State.wipeAll_tablesWf {s : State} (h : s.tablesWf) : s.wipeAll.tablesWf := by
  unfold State.wipeAll
  extract_lets s1
  have hs1 : s1.tablesWf := zeroAllKeys_tablesWf h
  clear_value s1
  obtain ⟨hregs, -, -, hrest⟩ := tablesWf_iff.1 hs1
  exact tablesWf_iff.2 ⟨rising_filter _ _ hregs, rfl, rfl, hrest⟩

theorem State.bistFull_tablesWf {s : State} {r : Req} (h : s.tablesWf) : (s.bistFull r).tablesWf := by
  unfold State.bistFull
  refine bistCmd_tablesWf h ?_
  intro u hu
  refine ite_tablesWf (bistRefuse_tablesWf hu) ?_
  extract_lets s1
  have hs1 : s1.tablesWf := wipeAll_tablesWf (bistStart_tablesWf hu)
  clear_value s1
  exact hs1

theorem State.fieldTest_tablesWf {s : State} {p : Nat} (h : s.tablesWf) : (s.fieldTest p).tablesWf := by
  unfold State.fieldTest
  extract_lets _ s1
  have hs1 : s1.tablesWf := by
    unfold s1
    refine ite_tablesWf ?_ h
    split
    · exact updPhys_tablesWf (updPhys_tablesWf h)
    · exact h
  exact countSpares_tablesWf (bistStart_tablesWf hs1)

theorem State.fieldNow_tablesWf {s : State} {r : Req} {p : Nat} (h : s.tablesWf) : (s.fieldNow_ r p).tablesWf := by
  unfold State.fieldNow_
  refine bistCmd_tablesWf h ?_
  intro u hu
  refine ite_tablesWf (bistRefuse_tablesWf hu) ?_
  split
  · exact fieldTest_tablesWf hu
  · exact bistRefuse_tablesWf hu

theorem State.fieldRotation_tablesWf {s : State} (h : s.tablesWf) : s.fieldRotation.tablesWf := by
  unfold State.fieldRotation
  extract_lets
  refine ite_tablesWf h ?_
  split
  · exact fieldTest_tablesWf h
  · exact h

theorem State.fuseRepair_tablesWf {s : State} {r : Req} (h : s.tablesWf) : (s.fuseRepair r).tablesWf := by
  unfold State.fuseRepair
  refine bistCmd_tablesWf h ?_
  intro u hu
  extract_lets
  exact ite_tablesWf (bistRefuse_tablesWf hu) (ite_tablesWf (wr_tablesWf hu) (wr_tablesWf hu))

theorem State.bistLog_tablesWf {s : State} {b : BistResult} (h : s.tablesWf) : (s.bistLog b).tablesWf :=
  wr_tablesWf (softRepairs_tablesWf (wr_tablesWf h))

theorem State.fullDone_tablesWf {s : State} {b : BistResult} (h : s.tablesWf) : (s.fullDone b).tablesWf := by
  unfold State.fullDone
  extract_lets s1 _ _ s2 s3 s4 src
  have hs1 : s1.tablesWf := wr_tablesWf (wr_tablesWf (wr_tablesWf (bistLog_tablesWf h)))
  have hs2 : s2.tablesWf := countSpares_tablesWf (foldl_tablesWf (fun _ hs _ => bootSpindle_tablesWf hs) hs1)
  have hs3 : s3.tablesWf := ite_tablesWf hs2 (wr_tablesWf hs2)
  have hs4 : s4.tablesWf := ite_tablesWf hs3 (wr_tablesWf (wr_tablesWf hs3))
  have hsrc : src.tablesWf := wr_tablesWf (wr_tablesWf (wr_tablesWf hs4))
  clear_value src
  exact hsrc

theorem State.fieldDone_tablesWf {s : State} {b : BistResult} (h : s.tablesWf) : (s.fieldDone b).tablesWf := by
  unfold State.fieldDone
  extract_lets _ _ s1 s2 _ s3
  have hs1 : s1.tablesWf := wr_tablesWf (wr_tablesWf (wr_tablesWf (bistLog_tablesWf h)))
  have hs2 : s2.tablesWf := wr_tablesWf (wr_tablesWf (wr_tablesWf hs1))
  clear_value s2
  have hs3 : s3.tablesWf := hs2
  exact countSpares_tablesWf (ite_tablesWf hs3 (raise_tablesWf (bump_tablesWf (updPhys_tablesWf hs3))))

theorem State.bistEnd_tablesWf {s : State} {b : BistResult} (h : s.tablesWf) : (s.bistEnd b).tablesWf := by
  unfold State.bistEnd
  refine ite_tablesWf h (ite_tablesWf (ite_tablesWf (testInvalid_tablesWf h) ?_) (ite_tablesWf (fieldDone_tablesWf h)
      (fullDone_tablesWf h)))
  extract_lets src
  have hsrc : src.tablesWf := wr_tablesWf h
  clear_value src
  exact hsrc

/-! ## Freeze and the TAP (R431 to R433) -/

theorem State.freeze_tablesWf {s : State} (h : s.tablesWf) : s.freeze.tablesWf := by
  unfold State.freeze
  refine ite_tablesWf h ?_
  extract_lets _ s1
  have hs1 : s1.tablesWf := h
  exact ite_tablesWf (wr_tablesWf hs1) hs1

theorem State.freezeZeroised_tablesWf {s : State} (h : s.tablesWf) : s.freezeZeroised.tablesWf := by
  unfold State.freezeZeroised
  extract_lets s1 s2 src
  have hs1 : s1.tablesWf := zeroAllKeys_tablesWf h
  have hs2 : s2.tablesWf :=
    foldl_tablesWf (fun _ hu _ => zeroLz_tablesWf hu) (foldl_tablesWf (fun _ hu _ => zeroTile_tablesWf hu) hs1)
  have hsrc : src.tablesWf := wr_tablesWf hs2
  clear_value s2
  refine ite_tablesWf h (wr_tablesWf ?_)
  exact hsrc

theorem State.tapShow_tablesWf {s : State} {ir tdo : Nat} (h : s.tablesWf) : (s.tapShow ir tdo).tablesWf := h

theorem State.sample_tablesWf {s : State} (h : s.tablesWf) : s.sample.tablesWf := by
  unfold State.sample
  split
  next s1 e =>
    have hs1 : s1.tablesWf := snd_tablesWf e (draw_tablesWf h)
    extract_lets src
    have hsrc : src.tablesWf := tapShow_tablesWf hs1
    clear_value src
    exact hsrc

theorem State.extest_tablesWf {s : State} (h : s.tablesWf) : s.extest.tablesWf := by
  unfold State.extest
  exact ite_tablesWf (tapShow_tablesWf h) h

theorem State.debugToken_tablesWf {s : State} {t : Bytes} (h : s.tablesWf) : (s.debugToken t).tablesWf := by
  unfold State.debugToken
  extract_lets _ s0 s1
  have hs0 : s0.tablesWf := h
  have hs1 : s1.tablesWf := ask_tablesWf hs0
  clear_value s1
  exact ite_tablesWf hs0 (ite_tablesWf hs1 (raise_tablesWf hs1))

theorem State.freezeAddr_tablesWf {s : State} {a : Nat} (h : s.tablesWf) : (s.freezeAddr a).tablesWf := h

theorem State.tapRead_tablesWf {s : State} {a : Nat} (h : s.tablesWf) : (s.tapRead a).2.tablesWf := by
  unfold State.tapRead
  extract_lets
  split
  · exact h
  · exact h
  · exact h
  · split
    next s1 e =>
      have hs1 : s1.tablesWf := snd_tablesWf e (draw_tablesWf h)
      exact hs1

theorem State.freezeData_tablesWf {s : State} (h : s.tablesWf) : s.freezeData.tablesWf := by
  unfold State.freezeData
  extract_lets _ s0
  have hs0 : s0.tablesWf := h
  refine ite_tablesWf hs0 ?_
  split
  next s1 e =>
    have hs1 : s1.tablesWf := snd_tablesWf e (ite_snd_tablesWf (tapRead_tablesWf hs0) hs0)
    exact hs1

/-! ## Retirement of unit instructions (R186 to R190) -/

theorem State.forgetFail_tablesWf {s : State} {f r lz slot : Nat} (h : s.tablesWf) :
    (s.forgetFail f r lz slot).tablesWf := by
  unfold State.forgetFail
  extract_lets
  exact h

theorem State.rejectEntry_tablesWf {s : State} {f : Nat} {e : UnitEntry} (h : s.tablesWf) :
    (s.rejectEntry f e).tablesWf := by
  unfold State.rejectEntry
  split
  · split
    · exact h
    · exact forgetFail_tablesWf (rejectMsg_tablesWf (ite_tablesWf (zeroLz_tablesWf h) h))
  · exact h

theorem State.leave_tablesWf {s : State} {j : Nat} {e : UnitEntry} (h : s.tablesWf) : (s.leave j e).tablesWf := by
  unfold State.leave
  extract_lets s1
  have hs1 : s1.tablesWf := updSpin_tablesWf h
  exact ite_tablesWf (trapLate_tablesWf hs1) hs1

theorem State.expandDone_tablesWf {s : State} {f : Nat} {e : UnitEntry} (h : s.tablesWf) :
    (s.expandDone f e).tablesWf := by
  unfold State.expandDone
  split
  · exact h
  · exact masksCancelled_tablesWf (updRound_tablesWf h)

theorem State.retireOf_tablesWf {s : State} {f j : Nat} {e : UnitEntry} (h : s.tablesWf) :
    (s.retireOf f j e).tablesWf := by
  unfold State.retireOf
  split
  · split
    · refine ite_tablesWf ?_ (leave_tablesWf h)
      split
      · exact h
      · exact leave_tablesWf (releaseRun_tablesWf h)
    · exact leave_tablesWf h
  · split
    · refine ite_tablesWf (ite_tablesWf ?_ h) (leave_tablesWf h)
      split
      next s1 e1 =>
        have hs1 : s1.tablesWf := snd_tablesWf e1 (applyRun_tablesWf h)
        exact leave_tablesWf hs1
    · exact leave_tablesWf h
  · refine ite_tablesWf ?_ (leave_tablesWf (rejectEntry_tablesWf h))
    split
    · exact ite_tablesWf h (leave_tablesWf (finishQuery_tablesWf h))
    · exact leave_tablesWf h
  · exact ite_tablesWf (leave_tablesWf (foldl_tablesWf (fun _ hs _ => finishQuery_tablesWf hs) h)) h
  · split
    · exact ite_tablesWf (noiseDone_tablesWf (leave_tablesWf h)) (leave_tablesWf h)
    · exact leave_tablesWf h
  · split
    · exact ite_tablesWf (expandDone_tablesWf (leave_tablesWf h)) (leave_tablesWf h)
    · exact leave_tablesWf h
  · exact leave_tablesWf (rejectEntry_tablesWf h)

theorem State.unitRetire_tablesWf {s : State} {j i : Nat} (h : s.tablesWf) : (s.unitRetire j i).tablesWf := by
  unfold State.unitRetire
  split
  · exact h
  · refine ite_tablesWf h ?_
    split
    · exact retireOf_tablesWf h
    · exact leave_tablesWf h

theorem State.endCycle_tablesWf {s : State} (h : s.tablesWf) : s.endCycle.tablesWf := by
  unfold State.endCycle
  refine ite_tablesWf h (creditAll_tablesWf (checkpointsOn_tablesWf ?_))
  extract_lets src
  have hsrc : src.tablesWf := armTwrs_tablesWf (postAll_tablesWf h)
  clear_value src
  exact hsrc

/-! ## The scalar class (R178, R180, R185, R206) -/

theorem State.scalar_tablesWf {s : State} {j op : Nat} {g : Spindle → Nat → Spindle} (h : s.tablesWf) :
    (s.scalar j op g).tablesWf :=
  issue_tablesWf h (fun _ _ _ hs => advance_tablesWf (updSpin_tablesWf hs))

theorem State.aluR_tablesWf {s : State} {j op : Nat} {f : Word → Word → Word} (h : s.tablesWf) :
    (s.aluR j op f).tablesWf :=
  scalar_tablesWf h

theorem State.aluI_tablesWf {s : State} {j op : Nat} {f : Word → Word → Word} (h : s.tablesWf) :
    (s.aluI j op f).tablesWf :=
  scalar_tablesWf h

theorem State.cmpR_tablesWf {s : State} {j op : Nat} {f : Word → Word → Bool} (h : s.tablesWf) :
    (s.cmpR j op f).tablesWf :=
  scalar_tablesWf h

theorem State.cmpI_tablesWf {s : State} {j op : Nat} {f : Word → Word → Bool} (h : s.tablesWf) :
    (s.cmpI j op f).tablesWf :=
  scalar_tablesWf h

theorem State.predR_tablesWf {s : State} {j op : Nat} {f : Bool → Bool → Bool} (h : s.tablesWf) :
    (s.predR j op f).tablesWf :=
  scalar_tablesWf h

theorem State.load_tablesWf {s : State} {j op n : Nat} {put : Spindle → Nat → Nat → Spindle} (h : s.tablesWf) :
    (s.load j op n put).tablesWf := by
  unfold State.load
  refine issue_tablesWf h ?_
  intro _ _ u hu
  extract_lets
  exact ite_tablesWf (advance_tablesWf (updSpin_tablesWf hu)) (trapHere_tablesWf hu)

theorem State.store_tablesWf {s : State} {j op n : Nat} {val : Spindle → Nat → Nat} (h : s.tablesWf) :
    (s.store j op n val).tablesWf := by
  unfold State.store
  refine issue_tablesWf h ?_
  intro _ _ u hu
  extract_lets
  exact ite_tablesWf (advance_tablesWf (updSpin_tablesWf hu)) (trapHere_tablesWf hu)

theorem State.storeQ_tablesWf {s : State} {j : Nat} (h : s.tablesWf) : (s.storeQ j).tablesWf := by
  unfold State.storeQ
  refine issue_tablesWf h ?_
  intro _ _ u hu
  extract_lets
  refine ite_tablesWf (trapHere_tablesWf hu) ?_
  split
  · exact trapHere_tablesWf hu
  · exact ite_tablesWf (advance_tablesWf (updSpin_tablesWf hu)) (trapHere_tablesWf hu)

theorem State.sysr_tablesWf {s : State} {j : Nat} (h : s.tablesWf) : (s.sysr j).tablesWf := by
  unfold State.sysr
  refine issue_tablesWf h ?_
  intro _ _ u hu
  extract_lets
  exact advance_tablesWf (updSpin_tablesWf hu)

theorem State.branch_tablesWf {s : State} {j : Nat} (h : s.tablesWf) : (s.branch j).tablesWf :=
  issue_tablesWf h (fun _ _ _ hs => updSpin_tablesWf (advance_tablesWf hs))

/-! ## A step -/

/-- A command's answer keeps the canonical form: when it is a next state, that state is in canonical form. -/
def Answers (r : Res) : Prop := ∀ t, r = .next t → t.tablesWf = true

theorem next_answers {t : State} (h : t.tablesWf) : Answers (.next t) := by
  intro u e
  cases e
  exact h

theorem stop_answers {r : Fault} : Answers (.fault r) := by
  intro u e
  cases e

/-- A rail out of tolerance stops the device, or changes nothing (R457). -/
theorem State.railFault_answers {s : State} {r : Rail} (h : s.tablesWf) : Answers (s.railFault r) := by
  unfold State.railFault
  split
  · exact next_answers h
  · exact stop_answers

/-- Every command keeps the canonical form. -/
theorem State.exec_answers {c : Instr} {s : State} (h : s.tablesWf) : Answers (exec c s) := by
  cases c with
  | registerWrite => exact next_answers (regWrite_tablesWf h)
  | counterReadClear => exact next_answers (readClear_tablesWf h)
  | add | sub | and | or | xor | sll | srl | sra | mul | mulhu => exact next_answers (aluR_tablesWf h)
  | cmpeq | cmplt | cmpltu => exact next_answers (cmpR_tablesWf h)
  | sel | movp => exact next_answers (scalar_tablesWf h)
  | pand | por | pxor => exact next_answers (predR_tablesWf h)
  | addi | andi | ori | xori | slli | srli | srai | lih => exact next_answers (aluI_tablesWf h)
  | cmpeqi | cmplti | cmpltui => exact next_answers (cmpI_tablesWf h)
  | ld1 | ld2 | ld4 | ld8 | ld16 => exact next_answers (load_tablesWf h)
  | st1 | st2 | st4 | st8 => exact next_answers (store_tablesWf h)
  | st16 => exact next_answers (storeQ_tablesWf h)
  | sysr => exact next_answers (sysr_tablesWf h)
  | br => exact next_answers (branch_tablesWf h)
  | fold => exact next_answers (fold_tablesWf h)
  | foldSegmentRetire => exact next_answers (segRetire_tablesWf h)
  | foldr => exact next_answers (foldr_tablesWf h)
  | directoryPageFetch => exact next_answers (pageFetch_tablesWf h)
  | zero => exact next_answers (zero_tablesWf h)
  | copy => exact next_answers (copy_tablesWf h)
  | drain => exact next_answers (drain_tablesWf h)
  | drainCombine => exact next_answers (drainCombine_tablesWf h)
  | drainRead => exact next_answers (drainRead_tablesWf h)
  | chkt => exact next_answers (chkt_tablesWf h)
  | takeD => exact next_answers (takeD_tablesWf h)
  | takeWake => exact next_answers (ite_tablesWf (takeD_tablesWf h) h)
  | takeO => exact next_answers (takeO_tablesWf h)
  | takeS => exact next_answers (takeS_tablesWf h)
  | takeA => exact next_answers (takeA_tablesWf h)
  | expand => exact next_answers (expand_tablesWf h)
  | seedrec => exact next_answers (seedrec_tablesWf h)
  | prgh => exact next_answers (prgh_tablesWf h)
  | openMsg => exact next_answers (openMsg_tablesWf h)
  | ntt => exact next_answers (ntt_tablesWf h)
  | intt => exact next_answers (intt_tablesWf h)
  | pmul => exact next_answers (pmul_tablesWf h)
  | padd => exact next_answers (padd_tablesWf h)
  | auto => exact next_answers (auto_tablesWf h)
  | modup => exact next_answers (modup_tablesWf h)
  | moddn => exact next_answers (moddn_tablesWf h)
  | resc => exact next_answers (resc_tablesWf h)
  | ksw => exact next_answers (ksw_tablesWf h)
  | lutr => exact next_answers (lutr_tablesWf h)
  | decode => exact next_answers (decode_tablesWf h)
  | noise => exact next_answers (noise_tablesWf h)
  | clip => exact next_answers (clip_tablesWf h)
  | clipFinish => exact next_answers (clipFinish_tablesWf h)
  | apply => exact next_answers (apply_tablesWf h)
  | release => exact next_answers (release_tablesWf h)
  | releaseTrailerDone => exact next_answers (trailerDone_tablesWf h)
  | gate => exact next_answers (gate_tablesWf h)
  | gateRelease => exact next_answers (gateRelease_tablesWf h)
  | gateTimeout => exact next_answers (gateTimeout_tablesWf h)
  | waitc => exact next_answers (waitc_tablesWf h)
  | waitTimeout => exact next_answers (waitTimeout_tablesWf (postAll_tablesWf h))
  | signal => exact next_answers (signal_tablesWf h)
  | signalApply => exact next_answers (signalApply_tablesWf h)
  | fence => exact next_answers (fence_tablesWf h)
  | trap => exact next_answers (trapInsn_tablesWf h)
  | trapReturn => exact next_answers (trapReturn_tablesWf h)
  | halt => exact next_answers (halt_tablesWf h)
  | haltDone => exact next_answers (haltDone_tablesWf h)
  | step => exact next_answers (step_tablesWf h)
  | stepSetround => exact next_answers (stepSet_tablesWf h)
  | lockkeeperWatchdog => exact next_answers (lockkeeperWatchdog_tablesWf h)
  | load => exact next_answers (loadImage_tablesWf h)
  | start => exact next_answers (start_tablesWf h)
  | stop => exact next_answers (stop_tablesWf h)
  | spindleStopped => exact next_answers (spindleStopped_tablesWf h)
  | resume => exact next_answers (resume_tablesWf h)
  | unload => exact next_answers (unload_tablesWf h)
  | openRound => exact next_answers (jobOpen_tablesWf h)
  | roundEnterOpen => exact next_answers (roundEnterOpen_tablesWf h)
  | periodicRoundOpen => exact next_answers (periodicNext_tablesWf h)
  | roundGuardTimer => exact next_answers (guardTimer_tablesWf (postAll_tablesWf h))
  | roundDeadline => exact next_answers (roundDeadline_tablesWf (postAll_tablesWf h))
  | candidatesResolved => exact next_answers (candidatesResolved_tablesWf h)
  | unmaskTimeout => exact next_answers (unmaskTimeout_tablesWf (postAll_tablesWf h))
  | abandonRound => exact next_answers (jobAbandon_tablesWf h)
  | roundStatus => exact next_answers (jobStatus_tablesWf h)
  | hostSubmit => exact next_answers (jobSubmit_tablesWf h)
  | applyRound => exact next_answers (jobApply_tablesWf h)
  | setDest => exact next_answers (jobSetDest_tablesWf h)
  | releaseDestTimeout => exact next_answers (destTimeout_tablesWf h)
  | nop => exact next_answers (jobNop_tablesWf h)
  | createQp => exact next_answers (job_tablesWf h (fun _ _ _ hs => createQp_tablesWf hs))
  | qpClose => exact next_answers (qpClose_tablesWf h)
  | qpDestroy => exact next_answers (qpDestroy_tablesWf h)
  | qpPin => exact next_answers (qpPin_tablesWf h)
  | qpUnpin => exact next_answers (qpUnpin_tablesWf h)
  | qpBind => exact next_answers (qpBind_tablesWf h)
  | checkpoint => exact next_answers (checkpoint_tablesWf h)
  | checkpointResume => exact next_answers (resumeCkpt_tablesWf h)
  | leafDigests => exact next_answers (leafDigests_tablesWf h)
  | contribution => exact next_answers (ite_tablesWf h (complete_tablesWf h))
  | recoveryMessage => exact next_answers (ite_tablesWf (complete_tablesWf h) h)
  | committeeReturn => exact next_answers (ite_tablesWf (committeeReturn_tablesWf h) h)
  | nlTimeout => exact next_answers (nlTimeout_tablesWf (postAll_tablesWf h))
  | partialDecryption => exact next_answers (ite_tablesWf (partialMsg_tablesWf h) h)
  | partialDecryptTimeout => exact next_answers (partialTimeout_tablesWf (postAll_tablesWf h))
  | canonicalPassDone => exact next_answers (canonicalDone_tablesWf h)
  | cohortMessage => exact next_answers (ite_tablesWf (cohortMessage_tablesWf h) h)
  | childWaitExpiry => exact next_answers (childWait_tablesWf (postAll_tablesWf h))
  | partialDigestDone => exact next_answers (partialDigest_tablesWf h)
  | hello => exact next_answers (hello_tablesWf h)
  | accept => exact next_answers (accept_tablesWf h)
  | refuse => exact next_answers (refuse_tablesWf h)
  | handshakeRetry => exact next_answers (handshakeRetry_tablesWf h)
  | send | write | ack | nak | close => exact next_answers (packetIn_tablesWf h)
  | kztPacketTransmit => exact next_answers (transmit_tablesWf h)
  | ackTimer => exact next_answers (ackTimer_tablesWf h)
  | rtoExpiry => exact next_answers (rtoExpiry_tablesWf h)
  | pathSuspectExpiry => exact next_answers (pathClear_tablesWf h)
  | creditProbe => exact next_answers (probe_tablesWf h)
  | drainingTimeout => exact next_answers (drainLate_tablesWf h)
  | contextFetchDone => exact next_answers (fetched_tablesWf h)
  | fetchTimeout => exact next_answers (fetchLate_tablesWf h)
  | portDown => exact next_answers (portDown_tablesWf h)
  | portUp => exact next_answers (portUp_tablesWf h)
  | openWin => exact next_answers (xrecord_tablesWf h (fun _ _ hs => openWindow_tablesWf hs))
  | revokeWin => exact next_answers (xarg_tablesWf h (fun _ _ hs => revokeWindow_tablesWf hs))
  | postTwr => exact next_answers (xrecord_tablesWf h (fun _ _ hs => postTwr_tablesWf hs))
  | cancelTwr => exact next_answers (xarg_tablesWf h (fun _ _ hs => cancelTwr_tablesWf hs))
  | twrFire => exact next_answers (twrFire_tablesWf h)
  | ctrVal => exact next_answers (ctrVal_tablesWf h)
  | syncEpoch => exact next_answers (syncEpoch_tablesWf h)
  | syncMarker => exact next_answers (marker_tablesWf h)
  | syncMarkerTimeout => exact next_answers (markerLate_tablesWf h)
  | plyForm => exact next_answers (plyForm_tablesWf h)
  | plyDissolve => exact next_answers (plyDissolve_tablesWf h)
  | plyAsset | plyOpen | plyCohort | plyVerdict | plyShare | plyReturn | plyDigest | plyDone =>
    exact next_answers (plyCmd_tablesWf h)
  | plyLateSlotExpiry => exact next_answers (plyLate_tablesWf (postAll_tablesWf h))
  | plyHeartbeat => exact next_answers (plyBeat_tablesWf h)
  | plyPartnerLost => exact next_answers (plyLost_tablesWf (postAll_tablesWf h))
  | rngSourceSettled => exact next_answers (sourceSettled_tablesWf h)
  | rngStartupTestDone => exact next_answers (startupDone_tablesWf h)
  | rngHealthFail => exact next_answers (healthFail_tablesWf h)
  | rngCollectionDone => exact next_answers (collectionDone_tablesWf h)
  | reseedTimer => exact next_answers (reseedTimer_tablesWf h)
  | generateRequest => exact next_answers (generate_tablesWf h)
  | rngWordServe => exact next_answers (serveWord_tablesWf h)
  | rngData => exact next_answers (rngData_tablesWf h)
  | assign => exact next_answers (assign_tablesWf h)
  | keyRelease => exact next_answers (keyRelease_tablesWf h)
  | keyZero => exact next_answers (keyZero_tablesWf h)
  | lcVoid => exact next_answers (lcVoid_tablesWf h)
  | fkeyZero => exact next_answers (fkeyZero_tablesWf h)
  | rollbackCommit => exact next_answers (rollback_tablesWf h)
  | lifecycleTransition => exact next_answers (lifecycle_tablesWf h)
  | remask => exact next_answers (remask_tablesWf h)
  | getVersion | getCapabilities | negotiateAlgorithms | getDigests | heartbeat | keyUpdate =>
    exact next_answers (spdm_tablesWf h (fun _ hs => spdmAnswer_tablesWf hs))
  | getCertificate =>
    exact next_answers (spdm_tablesWf h (fun _ hs => ite_tablesWf (spdmAnswer_tablesWf hs) (spdmError_tablesWf hs)))
  | challenge => exact next_answers (spdm_tablesWf h (fun _ hs => spdmNonce_tablesWf hs))
  | getMeasurements => exact next_answers (measurements_tablesWf h)
  | keyExchange => exact next_answers (keyExchange_tablesWf h)
  | finish => exact next_answers (finishSession_tablesWf h)
  | endSession => exact next_answers (endSession_tablesWf h)
  | kem => exact next_answers (asset_tablesWf h (fun _ _ hs => plain2_tablesWf (installKem_tablesWf hs)))
  | bind => exact next_answers (asset_tablesWf h (fun _ _ hs => plain2_tablesWf (installBind_tablesWf hs)))
  | policy => exact next_answers (asset_tablesWf h (fun _ _ hs => plain2_tablesWf (installPolicy_tablesWf hs)))
  | joinList => exact next_answers (asset_tablesWf h (fun _ _ hs => plain2_tablesWf (installJoin_tablesWf hs)))
  | evk => exact next_answers (asset_tablesWf h (fun _ _ hs => installEvk_tablesWf hs))
  | committeeKey => exact next_answers (asset_tablesWf h (fun _ _ hs => installCommittee_tablesWf hs))
  | noiseSeed => exact next_answers (asset_tablesWf h (fun _ _ hs => plain2_tablesWf (installNoise_tablesWf hs)))
  | memKey => exact next_answers (asset_tablesWf h (fun _ _ hs => plain2_tablesWf (installMem_tablesWf hs)))
  | checkpointKey => exact next_answers (asset_tablesWf h (fun _ _ hs => plain2_tablesWf (installCkpt_tablesWf hs)))
  | mctpControl => exact next_answers (mctp_tablesWf h)
  | partCmd => exact next_answers (partCmd_tablesWf h)
  | memKeyInitDone => exact next_answers (memInitDone_tablesWf h)
  | memRotationSweep => exact next_answers (memSweep_tablesWf h)
  | ringCreate => exact next_answers (ringCreate_tablesWf h)
  | ringDestroy => exact next_answers (ringDestroy_tablesWf h)
  | sqTail => exact next_answers (sqTail_tablesWf h)
  | cqHead => exact next_answers (cqHead_tablesWf h)
  | flr => exact next_answers (flr_tablesWf h)
  | frGo => exact next_answers (frGo_tablesWf h)
  | functionResetDone => exact next_answers (resetDone_tablesWf h)
  | snapCmd => exact next_answers (snap_tablesWf h)
  | fsnapCmd => exact next_answers (fsnap_tablesWf h)
  | ideReq => exact next_answers (ideReq_tablesWf h)
  | ideStreamFailed => exact next_answers (ideFail_tablesWf h)
  | pcieLinkDown => exact next_answers (linkLost_tablesWf h)
  | pcieLinkUp => exact next_answers (linkBack_tablesWf h)
  | perstNAssert => exact next_answers fullReset_tablesWf
  | perstNRelease => exact next_answers (powerUp_tablesWf h)
  | fwDoorbell => exact next_answers (doorbell_tablesWf h)
  | fwImageArrival => exact next_answers (imageArrival_tablesWf h)
  | fwImageTimeout => exact next_answers (imageTimeout_tablesWf h)
  | drbgSeededAtBoot => exact next_answers (seededAtBoot_tablesWf h)
  | creelDone => exact next_answers (creelReady_tablesWf h)
  | farDone => exact next_answers (farReadyBoot_tablesWf h)
  | attestDone => exact next_answers (attestReady_tablesWf h)
  | portsDone => exact next_answers (portsReady_tablesWf h)
  | fwinitDone => exact next_answers (fwReady_tablesWf h)
  | ready => exact next_answers (declareReady_tablesWf h)
  | bootTimeout => exact next_answers (bootLate_tablesWf h)
  | attach => exact next_answers (attach_tablesWf h)
  | goService => exact next_answers (goService_tablesWf h)
  | warmGo => exact next_answers (warmGo_tablesWf h)
  | warmImageVerified => exact next_answers (warmVerified_tablesWf h)
  | residueCheckFail => exact next_answers (residueFail_tablesWf h)
  | spareSubstituted => exact next_answers (substituted_tablesWf h)
  | journalPoint => exact next_answers (journalAt_tablesWf h)
  | ccWatchdog => exact next_answers (ccFail_tablesWf h)
  | nalamWatchdog => exact next_answers (nalamHang_tablesWf h)
  | clockLoss => exact next_answers (clockLost_tablesWf h)
  | creelTierLost => exact next_answers (ite_tablesWf (tierLost_tablesWf h) h)
  | farPackageLost => exact next_answers (ite_tablesWf (packageLost_tablesWf h) h)
  | bookAudit => exact next_answers (bookAudit_tablesWf h)
  | creelScrub => exact next_answers (creelScrub_tablesWf h)
  | scrubFoldHold => exact next_answers (scrubFoldHold_tablesWf h)
  | farScrub => exact next_answers (farScrub_tablesWf h)
  | stagingDone => exact next_answers (stage_tablesWf h)
  | frzNAssert => exact next_answers (freeze_tablesWf h)
  | freezeZeroiseDone => exact next_answers (freezeZeroised_tablesWf h)
  | bypass | idcode => exact next_answers (tapShow_tablesWf h)
  | samplePreload => exact next_answers (sample_tablesWf h)
  | extest => exact next_answers (extest_tablesWf h)
  | dbgToken => exact next_answers (debugToken_tablesWf h)
  | frzAddr => exact next_answers (freezeAddr_tablesWf h)
  | frzData => exact next_answers (freezeData_tablesWf h)
  | full => exact next_answers (bistFull_tablesWf h)
  | fieldNow => exact next_answers (fieldNow_tablesWf h)
  | fuseRepair => exact next_answers (fuseRepair_tablesWf h)
  | fieldSelfTest => exact next_answers (fieldRotation_tablesWf h)
  | bistDone => exact next_answers (bistEnd_tablesWf h)
  | weirSample => exact next_answers (weirSample_tablesWf h)
  | vidStep => exact next_answers (vidStep_tablesWf h)
  | thermalTrip => exact next_answers (trip_tablesWf h)
  | railFault r => exact State.railFault_answers (r := r) h
  | unitInstructionRetire => exact next_answers (unitRetire_tablesWf h)
  | rootPllLock => exact next_answers (pllLock_tablesWf h)
  | rootPllFail => exact next_answers (pllFail_tablesWf h)
  | vfEnable => exact next_answers (vfEnable_tablesWf h)
  | ideKm => exact next_answers (ideKm_tablesWf h)
  | evtTail => exact next_answers (evtTail_tablesWf h)
  | hostAccessFail => exact next_answers (hostFail_tablesWf h)
  | partitionRevocationDone => exact next_answers (revocationDone_tablesWf h)
  | plyRangeExchange => exact next_answers (plyExchange_tablesWf h)

/-- Settles O59: a command keeps the seven tables, one operation at a time, and so does a cycle of an idle block. -/
theorem stepKeepsTables : Obligations.StepKeepsTables := by
  unfold Obligations.StepKeepsTables
  intro s t h e
  unfold step at e
  split at e
  next =>
    cases e
    exact State.endCycle_tablesWf h
  next c rest _ => exact State.exec_answers (s := { s with pending := rest }) h t e

end Sys2Proof.Machine

namespace Sys2Proof.Machine
open Sys2Proof

/-! # Register pages (R10, R11, R374 to R377) -/

/-! ## Where an access of the register file ends (R370, R375) -/

/-- An access of 4 or 8 bytes at its alignment. -/
theorem access_sized {a n : Nat} (hn : n = 4 ∨ n = 8) (ha : a % n = 0) :
    ((n != 4 && n != 8) || a % n != 0) = false := by
  rcases hn with rfl | rfl <;> simp [ha]

section
variable {s : State} {r : Req} {a n : Nat} {dead : State → State} {body : Page → Nat → Nat → Nat → State}
  (hbus : s.onBus r = true) (hout : s.outside r = false) (hreset : s.inReset r = false) (hmap : s.mappedAt r a = true)
include hbus hout hreset hmap

/-- An access of another size than 4 or 8 bytes, or off its alignment. -/
theorem State.access_missized (h : (n ≠ 4 ∧ n ≠ 8) ∨ a % n ≠ 0) :
    s.access r a n dead body = (dead s).accErr r 0x0703 a := by
  have hbad : ((n != 4 && n != 8) || a % n != 0) = true := by simpa using h
  simp [State.access, hbus, hout, hreset, hmap, hbad]

variable (hn : n = 4 ∨ n = 8) (ha : a % n = 0)
include hn ha

/-- An address that names no page. -/
theorem State.access_noPage (hp : reqPage r a = none) : s.access r a n dead body = (dead s).accErr r 0x0703 a := by
  simp [State.access, hbus, hout, hreset, hmap, access_sized hn ha, hp]

variable {p : Page} {i : Nat} (hp : reqPage r a = some (p, i))
include hp

/-- A page the grade lacks. -/
theorem State.access_disabled (he : s.enabledPage p i = false) : s.access r a n dead body = dead s := by
  simp [State.access, hbus, hout, hreset, hmap, access_sized hn ha, hp, he]

variable (he : s.enabledPage p i = true)
include he

/-- Another function's page, from PF0 (R374). -/
theorem State.access_foreign (hf : foreign r p i (a % 0x4000) = true) :
    s.access r a n dead body = (dead s).accErr r 0x0702 a := by
  simp [State.access, hbus, hout, hreset, hmap, access_sized hn ha, hp, he, hf]

variable (hf : foreign r p i (a % 0x4000) = false)
include hf

/-- An offset that names no register. -/
theorem State.access_noReg (hr : isReg p i (a % 0x4000) = false) :
    s.access r a n dead body = (dead s).accErr r 0x0703 a := by
  simp [State.access, hbus, hout, hreset, hmap, access_sized hn ha, hp, he, hf, hr]

/-- An access that reaches a register acts on it. -/
theorem State.access_reg (hr : isReg p i (a % 0x4000) = true) :
    s.access r a n dead body = body p i (a % 0x4000) (a % 0x10000 / 0x4000) := by
  simp [State.access, hbus, hout, hreset, hmap, access_sized hn ha, hp, he, hf, hr]

end

/-! ## Writes and clearing reads of the registers an access reaches (R10, R11, R377) -/

/-- No field of access P is out of reach: the requester is privileged, or there is none. -/
theorem not_denied {priv : Bool} {fs : List (Fld × Nat)} (h : priv = true ∨ fs.all (fun x => !x.1.priv) = true) :
    (!priv && fs.any (fun x => x.1.priv)) = false := by
  rcases h with h | h
  · simp [h]
  · simpa using fun _ => by simpa using h

section
variable {s : State} {r : Req} {a : Nat} {p : Page} {i : Nat}
  (hbus : s.onBus r = true) (hout : s.outside r = false) (hreset : s.inReset r = false) (hmap : s.mappedAt r a = true)
  (hp : reqPage r a = some (p, i)) (he : s.enabledPage p i = true) (hf : foreign r p i (a % 0x4000) = false)
  (hr : isReg p i (a % 0x4000) = true)
include hbus hout hreset hmap hp he hf hr

/-- A write with no field out of reach writes every field that has no command of its own. -/
theorem State.regWrite_allowed {n v : Nat} (hn : n = 4 ∨ n = 8) (ha : a % n = 0)
    (hd : s.privileged r = true ∨ (fieldsAt p i (a % 0x4000) n).all (fun x => !x.1.priv) = true) :
    s.regWrite r a n v = ((fieldsAt p i (a % 0x4000) n).filter (fun x => !ownRow.contains x.1)).foldl
      (fun s x => s.writeField r a (a % 0x10000 / 0x4000) x.1 i x.2 (x.1.part x.2 (a % 0x4000) n v).1
        (x.1.part x.2 (a % 0x4000) n v).2) s := by
  rw [State.regWrite, State.access_reg hbus hout hreset hmap hn ha hp he hf hr]
  simp only [not_denied hd, Bool.and_false, Bool.not_false, Bool.and_true, Bool.false_eq_true, if_false]

/-- A write with a field of access P, from an ordinary requester, writes the others and is logged (R10). -/
theorem State.regWrite_denied {n v : Nat} (hn : n = 4 ∨ n = 8) (ha : a % n = 0) (hpriv : s.privileged r = false)
    (hd : (fieldsAt p i (a % 0x4000) n).any (fun x => x.1.priv) = true) :
    s.regWrite r a n v = (((fieldsAt p i (a % 0x4000) n).filter (fun x => !ownRow.contains x.1 && !x.1.priv)).foldl
      (fun s x => s.writeField r a (a % 0x10000 / 0x4000) x.1 i x.2 (x.1.part x.2 (a % 0x4000) n v).1
        (x.1.part x.2 (a % 0x4000) n v).2) s).accErr r 0x0702 a := by
  rw [State.regWrite, State.access_reg hbus hout hreset hmap hn ha hp he hf hr]
  simp only [hpriv, hd, Bool.not_false, Bool.and_true, if_true]

variable (ha : a % 8 = 0) (hrng : p ≠ .rng)
include ha hrng

/-- A clearing read with no field out of reach clears every counter in the normal view (R377). -/
theorem State.readClear_allowed
    (hd : s.privileged r = true ∨ (fieldsAt p i (a % 0x4000) 8).all (fun x => !x.1.priv) = true) :
    s.readClear r a =
      (let s1 := s.emit (.read a (s.readWord p i (a % 0x4000) (s.privileged r) + s.secureBit r p (a % 0x4000)))
       if a % 0x10000 / 0x4000 = 0 then
         ((fieldsAt p i (a % 0x4000) 8).filter (fun x => x.1.acc == .rc)).foldl (fun s x => s.takeCount x.1 i x.2) s1
       else s1) := by
  rw [State.readClear, State.access_reg hbus hout hreset hmap (.inr rfl) ha hp he hf hr]
  simp only [not_denied hd, hrng, false_and, if_false, Bool.and_false, Bool.not_false, Bool.and_true, Bool.false_eq_true,
    ne_eq, ite_not]

/-- A clearing read with a field of access P, from an ordinary requester, clears the others and is logged (R10). -/
theorem State.readClear_denied (hpriv : s.privileged r = false)
    (hd : (fieldsAt p i (a % 0x4000) 8).any (fun x => x.1.priv) = true) :
    s.readClear r a =
      (let s1 := s.emit (.read a (s.readWord p i (a % 0x4000) (s.privileged r) + s.secureBit r p (a % 0x4000)))
       if a % 0x10000 / 0x4000 = 0 then
         ((fieldsAt p i (a % 0x4000) 8).filter (fun x => x.1.acc == .rc && !x.1.priv)).foldl
           (fun s x => s.takeCount x.1 i x.2) s1
       else s1).accErr r 0x0702 a := by
  rw [State.readClear, State.access_reg hbus hout hreset hmap (.inr rfl) ha hp he hf hr]
  simp only [hpriv, hd, hrng, false_and, if_false, Bool.not_false, Bool.and_true, if_true, ne_eq, ite_not]

end

/-! ## A field by its access code (R10, R11, R376) -/

section
variable {s : State} {r : Req} {a view i j m v : Nat} {f : Fld}

theorem State.writeField_readOnly (h : f.acc = .ro ∨ f.acc = .rc) : s.writeField r a view f i j m v = s := by
  rcases h with h | h <;> simp [State.writeField, h]

/-- A bit that nothing has set in this CLK_CTL cycle is cleared (R377). -/
theorem State.writeField_w1c (h : f.acc = .w1c) (hv : v ≠ 0) (hset : s.ctl.set.contains (f.key i 0) = false)
    (hnext : s.ctl.next.find? (fun p => p.1 == f.key i 0) = none) : s.writeField r a 0 f i j m v = s.wr f 0 i := by
  have hset : f.key i 0 ∉ s.ctl.set := by simpa using hset
  simp [State.writeField, h, hv, State.clearBit, hset, hnext]

theorem State.writeField_w1c_zero (h : f.acc = .w1c) : s.writeField r a 0 f i j m 0 = s := by
  simp [State.writeField, h]

theorem State.writeField_rwl_locked (h : f.acc = .rwl) (hl : s.locked f = true) :
    s.writeField r a view f i j m v = s.accErr r 0x0701 a := by simp [State.writeField, h, hl]

theorem State.writeField_rwl (h : f.acc = .rwl) (hl : s.locked f = false) :
    s.writeField r a view f i j m v =
      (s.wr f (s.fixed f (aliasValue view (s.rd f i j) m v)) i j).afterWrite f i := by simp [State.writeField, h, hl]

theorem State.writeField_wot_again (h : f.acc = .wot) (hw : s.wot.contains (f.key i j) = true) :
    s.writeField r a 0 f i j m v = s.accErr r 0x0701 a := by
  have hw : f.key i j ∈ s.wot := by simpa using hw
  simp [State.writeField, h, hw]

theorem State.writeField_wot_first (h : f.acc = .wot) (hw : s.wot.contains (f.key i j) = false) :
    s.writeField r a 0 f i j m v =
      { (s.wr f (s.fixed f (aliasValue 0 (s.rd f i j) m v)) i j).afterWrite f i with wot := f.key i j :: s.wot } := by
  have hw : f.key i j ∉ s.wot := by simpa using hw
  simp [State.writeField, h, hw]

theorem State.writeField_rw (h : f.acc = .rw) :
    s.writeField r a view f i j m v =
      (s.wr f (s.fixed f (aliasValue view (s.rd f i j) m v)) i j).afterWrite f i := by simp [State.writeField, h]

theorem State.writeField_wo_alias (h : f.acc = .wo) (hview : view ≠ 0) : s.writeField r a view f i j m v = s := by
  simp [State.writeField, h, hview]

/-- A counter that has not changed in this CLK_CTL cycle is read and cleared to 0 (R377). -/
theorem State.takeCount_unchanged (h : s.ctl.was.lookup (f.key i j) = none) : s.takeCount f i j = s.wr f 0 i j := by
  simp [State.takeCount, h]

end

/-- The three aliases set, clear and toggle the bits written 1, and leave the others (R376). -/
theorem bit_aliasValue (cur m v b : Nat) :
    bit (aliasValue 1 cur m v) b = (bit cur b || bit v b) ∧ bit (aliasValue 2 cur m v) b = (bit cur b && !bit v b) ∧
      bit (aliasValue 3 cur m v) b = xor (bit cur b) (bit v b) := by
  refine ⟨Nat.testBit_or .., ?_, Nat.testBit_xor ..⟩
  show (cur ^^^ (cur &&& v)).testBit b = _
  rw [Nat.testBit_xor, Nat.testBit_and]
  cases h : cur.testBit b <;> simp [bit, h]

/-- A register field reads as what was last written. -/
theorem State.wr_rd_same {s : State} {f : Fld} {v i j : Nat} (h : s.tablesWf) :
    (s.wr f v i j).rd f i j = v % 2 ^ f.w :=
  rising_get_set _ _ _ _ (State.tablesWf_iff.1 h).1

/-- Settles O56: where an access ends, what it does to the fields it reaches, and what a field reads as afterwards. -/
theorem registerPages : Obligations.RegisterPages := by
  unfold Obligations.RegisterPages
  refine ⟨?access, ?field, ?readBack⟩
  case access =>
    intro s r a n v hbus hout hreset hmap
    refine ⟨⟨fun h4 h8 => ?_, fun _ ha => ?_, fun hn ha hp => ?_⟩, fun p i hp => ⟨fun hn ha he => ?_, fun ha he => ?_,
      fun hn ha he => ⟨fun hf => ?_, fun hf hr => ?_, fun hf hr hd => ?_, fun hf hr hpriv hd => ?_⟩,
      fun ha he hf hr hrng => ⟨fun hd => ?_, fun hpriv hd => ?_⟩⟩⟩ <;> refine congrArg Host.Outcome.next ?_
    · exact State.access_missized hbus hout hreset hmap (.inl ⟨h4, h8⟩)
    · exact State.access_missized hbus hout hreset hmap (.inr ha)
    · exact State.access_noPage hbus hout hreset hmap hn ha hp
    · exact State.access_disabled hbus hout hreset hmap hn ha hp he
    · exact State.access_disabled hbus hout hreset hmap (.inr rfl) ha hp he
    · exact State.access_foreign hbus hout hreset hmap hn ha hp he hf
    · exact State.access_noReg hbus hout hreset hmap hn ha hp he hf hr
    · exact State.regWrite_allowed hbus hout hreset hmap hp he hf hr hn ha hd
    · exact State.regWrite_denied hbus hout hreset hmap hp he hf hr hn ha hpriv hd
    · exact State.readClear_allowed hbus hout hreset hmap hp he hf hr ha hrng hd
    · exact State.readClear_denied hbus hout hreset hmap hp he hf hr ha hrng hpriv hd
  case field =>
    intro s r a view i j m v f
    refine ⟨State.writeField_readOnly, State.writeField_w1c, fun h hv => ?_, State.writeField_rwl_locked,
      State.writeField_rwl, State.writeField_wot_again, State.writeField_wot_first, State.writeField_rw,
      State.writeField_wo_alias, State.takeCount_unchanged, fun b hb => ?_, fun b hb => ?_⟩
    · rw [hv]
      exact State.writeField_w1c_zero h
    · simp [bit_aliasValue, hb]
    · simp [bit_aliasValue, hb]
  case readBack =>
    intro s f v i j h
    exact ⟨State.wr_rd_same h, State.wr_tablesWf h, fun g k l hk => State.wr_rd_ne s f g v i j k l hk⟩

end Sys2Proof.Machine

namespace Sys2Proof.Machine
open Sys2Proof

/-! # Version negotiation (R18 to R20) -/

section
variable {a b c d v : Nat}

/-- A version comes out of two well-formed ranges that meet, and it is the lower maximum (R20). Of a well-formed range only the
lower end need be compared with the reserved version 0 (R19): the upper end is not below it. -/
theorem negotiate_eq_some_iff :
    negotiate a b c d = some v ↔ (0 < a ∧ 0 < c ∧ a ≤ b ∧ c ≤ d) ∧ max a c ≤ min b d ∧ min b d = v := by
  unfold negotiate
  split
  case isTrue malformed =>
    simp only [Bool.or_eq_true, decide_eq_true_eq] at malformed
    simp only [reduceCtorEq, false_iff]
    omega
  case isFalse wellFormed =>
    simp only [Bool.or_eq_true, decide_eq_true_eq] at wellFormed
    have hranges : 0 < a ∧ 0 < c ∧ a ≤ b ∧ c ≤ d := by omega
    split
    case isTrue disjoint => simp [disjoint.not_ge]
    case isFalse meet => simp [hranges, not_lt.1 meet]

/-- The versions of both ranges are those from the higher minimum to the lower maximum (R20), so the highest of them is the
lower maximum, when there is one. -/
theorem isGreatest_commonVersions_iff :
    IsGreatest (Set.Icc a b ∩ Set.Icc c d) v ↔ max a c ≤ min b d ∧ min b d = v := by
  rw [Set.Icc_inter_Icc]
  constructor
  · intro hv
    have hmeet : max a c ≤ min b d := hv.1.1.trans hv.1.2
    exact ⟨hmeet, (isGreatest_Icc hmeet).unique hv⟩
  · rintro ⟨hmeet, rfl⟩
    exact isGreatest_Icc hmeet

/-- The negotiated version of two well-formed ranges is the greatest of their common versions. -/
theorem negotiate_eq_some_iff_isGreatest :
    negotiate a b c d = some v ↔
      (0 < a ∧ 0 < c ∧ a ≤ b ∧ c ≤ d) ∧ IsGreatest (Set.Icc a b ∩ Set.Icc c d) v := by
  rw [negotiate_eq_some_iff, isGreatest_commonVersions_iff]

end

/-- Settles O34: what negotiation answers is the greatest element of the two ranges' intersection, written out. -/
theorem negotiation : Obligations.Negotiation := by
  unfold Obligations.Negotiation
  intro a b c d v
  rw [negotiate_eq_some_iff_isGreatest]
  simp only [IsGreatest, upperBounds, Set.mem_inter_iff, Set.mem_Icc, Set.mem_ofPred_eq, and_imp, and_assoc]

end Sys2Proof.Machine

/-! # Every step keeps the byte memories canonical, and only burns fuses

One lemma for each operation of the model, in the order of the model's text: what it leaves comes from a state `base` with
the byte memories still in canonical form (R49, R53, R178, R372) and no fuse cleared (R328, R342, R343, R440). The two
invariants share one walk. Few operations write a byte or a fuse; the others are made of them, so a proof names the operations
it is made of, and both sides of every choice. -/

namespace Sys2Proof.Machine
open Sys2Proof

/-! ## What is kept -/

/-- The fuses of `p` are those of `o` and what has been burned since. -/
def Otp.BurnsTo (o p : Otp) : Prop :=
  (∀ b, bit o.lc b = true → bit p.lc b = true) ∧ o.svn ≤ p.svn ∧ o.boots ≤ p.boots ∧
    (∃ l, p.repairs = o.repairs ++ l) ∧ p.dieId = o.dieId ∧ p.gradeE = o.gradeE ∧ p.anchor = o.anchor

theorem Otp.BurnsTo.refl (o : Otp) : o.BurnsTo o :=
  ⟨fun _ hb => hb, le_rfl, le_rfl, ⟨[], (List.append_nil _).symm⟩, rfl, rfl, rfl⟩

theorem Otp.BurnsTo.trans {o p q : Otp} (h : o.BurnsTo p) (h' : p.BurnsTo q) : o.BurnsTo q := by
  obtain ⟨hlc, hsvn, hboots, ⟨l, hl⟩, hdie, hgrade, hanchor⟩ := h
  obtain ⟨hlc', hsvn', hboots', ⟨l', hl'⟩, hdie', hgrade', hanchor'⟩ := h'
  exact ⟨fun b hb => hlc' b (hlc b hb), hsvn.trans hsvn', hboots.trans hboots',
    ⟨l ++ l', by rw [hl', hl, List.append_assoc]⟩, hdie'.trans hdie, hgrade'.trans hgrade, hanchor'.trans hanchor⟩

/-- State `s` comes from `base` with the byte memories still in canonical form and no fuse cleared. -/
def State.Kept (s base : State) : Prop := (base.memWf = true → s.memWf = true) ∧ base.otp.BurnsTo s.otp

theorem State.Kept.refl (s : State) : s.Kept s := ⟨id, Otp.BurnsTo.refl _⟩

/-- The scratch memories of a list of spindles are in canonical form. -/
def ScratchWf (l : List Spindle) : Prop := ∀ x ∈ l, Sparse.wf 0 x.scratch = true

/-- The byte memories of the canonical form. -/
theorem State.memWf_iff {s : State} : s.memWf = true ↔ Sparse.wf 0 s.tiles = true ∧ Sparse.wf 0 s.host = true ∧
    ScratchWf s.spindles ∧ ∀ c ∈ s.ckpts, ∀ p ∈ c.spindles, Sparse.wf 0 p.2.scratch = true := by
  simp only [State.memWf, ScratchWf, Bool.and_eq_true, List.all_eq_true, and_assoc]

/-- A spindle of a state whose scratch memories are canonical has a canonical one, whether its number names one or not. -/
theorem State.spin_scratch_wf {s : State} (h : ScratchWf s.spindles) (j : Nat) : Sparse.wf 0 (s.spin j).scratch = true := by
  unfold State.spin
  rw [List.getD_eq_getElem?_getD]
  cases hj : s.spindles[j]? with
  | none => rfl
  | some x => exact h x (List.mem_of_getElem? hj)

section
variable {base : State}

-- In parallel, hundreds of these short proofs wait on each other, each on a stack of its own: one after another is as fast.
set_option Elab.async false

/-! ## The writes: tiles, host memory, scratch, checkpoints and fuses -/

/-- The tiles are written in a way that keeps the canonical form. -/
theorem State.tiles_kept {s : State} {m : List Host.Cell} (h : s.Kept base)
    (hm : Sparse.wf 0 s.tiles = true → Sparse.wf 0 m = true) : ({ s with tiles := m } : State).Kept base := by
  refine ⟨fun hb => ?_, h.2⟩
  obtain ⟨htiles, hrest⟩ := memWf_iff.1 (h.1 hb)
  exact memWf_iff.2 ⟨hm htiles, hrest⟩

theorem State.writeTiles_kept {s : State} {a : Nat} {bs : Bytes} (h : s.Kept base) :
    ({ s with tiles := writeBytes s.tiles a bs } : State).Kept base :=
  tiles_kept h (writeBytes_wf _ _ _)

theorem State.filterTiles_kept {s : State} {c : Host.Cell → Bool} (h : s.Kept base) :
    ({ s with tiles := s.tiles.filter c } : State).Kept base :=
  tiles_kept h (Sparse.filter_wf 0 _ c)

theorem State.writeHost_kept {s : State} {a : Nat} {bs : Bytes} (h : s.Kept base) :
    ({ s with host := writeBytes s.host a bs } : State).Kept base := by
  refine ⟨fun hb => ?_, h.2⟩
  obtain ⟨htiles, hhost, hrest⟩ := memWf_iff.1 (h.1 hb)
  exact memWf_iff.2 ⟨htiles, writeBytes_wf _ _ _ hhost, hrest⟩

/-- The spindles change, each scratch memory in canonical form again. -/
theorem State.spindles_kept {s : State} {l : List Spindle} (h : s.Kept base) (hl : ScratchWf s.spindles → ScratchWf l) :
    ({ s with spindles := l } : State).Kept base := by
  refine ⟨fun hb => ?_, h.2⟩
  obtain ⟨htiles, hhost, hscratch, hckpts⟩ := memWf_iff.1 (h.1 hb)
  exact memWf_iff.2 ⟨htiles, hhost, hl hscratch, hckpts⟩

theorem State.ckpts_append_kept {s : State} {c : Ckpt} (h : s.Kept base)
    (hc : ScratchWf s.spindles → ∀ p ∈ c.spindles, Sparse.wf 0 p.2.scratch = true) :
    ({ s with ckpts := s.ckpts ++ [c] } : State).Kept base := by
  refine ⟨fun hb => ?_, h.2⟩
  obtain ⟨htiles, hhost, hscratch, hckpts⟩ := memWf_iff.1 (h.1 hb)
  refine memWf_iff.2 ⟨htiles, hhost, hscratch, fun d hd => ?_⟩
  rcases List.mem_append.1 hd with hd | hd
  · exact hckpts d hd
  · exact List.mem_singleton.1 hd ▸ hc hscratch

theorem State.burn_kept {s : State} {o : Otp} (h : s.Kept base) (ho : s.otp.BurnsTo o) :
    ({ s with otp := o } : State).Kept base := ⟨h.1, h.2.trans ho⟩

/-! ## Changes of spindles -/

/-- A change of a spindle that leaves a canonical scratch memory canonical. -/
def KeepsScratch (g : Spindle → Spindle) : Prop :=
  ∀ x, Sparse.wf 0 x.scratch = true → Sparse.wf 0 (g x).scratch = true

theorem updAt_scratchWf {g : Spindle → Spindle} (hg : KeepsScratch g) {l : List Spindle} {j : Nat} (h : ScratchWf l) :
    ScratchWf (updAt l j g) := by
  induction l generalizing j with
  | nil => exact h
  | cons y l ih =>
    obtain ⟨hy, hl⟩ := List.forall_mem_cons.1 h
    cases j with
    | zero => exact List.forall_mem_cons.2 ⟨hg y hy, hl⟩
    | succ j => exact List.forall_mem_cons.2 ⟨hy, ih hl⟩

theorem State.updSpin_kept {s : State} {j : Nat} {g : Spindle → Spindle} (h : s.Kept base)
    (hg : KeepsScratch g := by exact fun _ hx => hx) : (s.updSpin j g).Kept base :=
  spindles_kept h (updAt_scratchWf hg)

/-- Spindles rebuilt by number, each from the one of its number. -/
theorem State.mapSpin_scratchWf {s : State} {n : Nat} {g : Nat → Spindle}
    (hg : ∀ j, Sparse.wf 0 (s.spin j).scratch = true → Sparse.wf 0 (g j).scratch = true) (h : ScratchWf s.spindles) :
    ScratchWf ((List.range n).map g) := by
  intro x hx
  obtain ⟨j, -, rfl⟩ := List.mem_map.1 hx
  exact hg j (spin_scratch_wf h j)

@[simp] theorem Spindle.setS_scratch (x : Spindle) (i : Nat) (v : Word) : (x.setS i v).scratch = x.scratch := by
  unfold Spindle.setS
  split <;> rfl

@[simp] theorem Spindle.setP_scratch (x : Spindle) (i : Nat) (v : Bool) : (x.setP i v).scratch = x.scratch := by
  unfold Spindle.setP
  split <;> rfl

@[simp] theorem Spindle.setQ_scratch (x : Spindle) (i : Nat) (v : QWord) : (x.setQ i v).scratch = x.scratch := rfl

@[simp] theorem Spindle.stopped_scratch (x : Spindle) (now : Nat) : (x.stopped now).scratch = x.scratch := by
  unfold Spindle.stopped
  split <;> rfl

/-- A run of pokes keeps the scratch memory canonical. -/
theorem foldl_poke_scratch_wf {α : Type} {addr : Spindle → α → Nat} {bytes : Spindle → α → Bytes} (l : List α) {x : Spindle}
    (h : Sparse.wf 0 x.scratch = true) :
    Sparse.wf 0 (l.foldl (fun x a => x.poke (addr x a) (bytes x a)) x).scratch = true := by
  induction l generalizing x with
  | nil => exact h
  | cons a l ih => exact ih (x.poke_wf _ _ h)

theorem Spindle.retire_scratch_wf {x : Spindle} {e : UnitEntry} {now : Nat} (h : Sparse.wf 0 x.scratch = true) :
    Sparse.wf 0 (x.retire e now).scratch = true := by
  have hx1 := foldl_poke_scratch_wf (addr := fun _ p => p.1) (bytes := fun _ p => p.2) e.writes h
  unfold Spindle.retire
  extract_lets w x1 x2 x3
  have hx2 : x2.scratch = x1.scratch := by
    unfold x2
    split <;> rfl
  have hx3 : x3.scratch = x2.scratch := by
    unfold x3
    split <;> simp
  show Sparse.wf 0 x3.scratch = true
  rw [hx3, hx2]
  exact hx1

/-- A run of writes keeps the canonical form. -/
theorem setAll_wf (l m : List Host.Cell) (h : Sparse.wf 0 m = true) :
    Sparse.wf 0 (l.foldl (fun m q => Sparse.set 0 m q.1 q.2) m) = true := by
  induction l generalizing m with
  | nil => exact h
  | cons q l ih => exact ih _ (Sparse.set_wf 0 m q.1 q.2 h)

/-- A checkpoint saves spindles of the state. -/
theorem State.ckptOf_scratch_wf {s : State} {f id : Nat} (h : ScratchWf s.spindles) {p : Nat × Spindle}
    (hp : p ∈ (s.ckptOf f id).spindles) : Sparse.wf 0 p.2.scratch = true := by
  obtain ⟨j, -, rfl⟩ := List.mem_map.1 hp
  exact spin_scratch_wf h j

/-! ## The shapes of a command: a choice, a run of steps, a pair, an option -/

/-- Both sides of a choice are kept, whichever is taken. -/
theorem ite_kept {c : Prop} [Decidable c] {t u : State} (ht : t.Kept base) (hu : u.Kept base) :
    (if c then t else u).Kept base := by split <;> assumption

/-- The same for an answer that carries a state. -/
theorem ite_snd_kept {α : Type} {c : Prop} [Decidable c] {p q : α × State} (hp : p.2.Kept base) (hq : q.2.Kept base) :
    (if c then p else q).2.Kept base := by split <;> assumption

/-- A run of steps that each keep what they find keeps it. -/
theorem foldl_kept {α : Type} {g : State → α → State} {l : List α} {s : State}
    (hg : ∀ u, u.Kept base → ∀ a, (g u a).Kept base) (h : s.Kept base) : (l.foldl g s).Kept base :=
  State.foldl_keeps (·.Kept base) g (fun u a hu => hg u hu a) l s h

/-- An answer that carries a kept state. -/
theorem pair_kept {α : Type} {a : α} {u : State} (h : u.Kept base) : (a, u).2.Kept base := h

/-- The state of an answer taken apart. -/
theorem snd_kept {α : Type} {p : α × State} {a : α} {u : State} (e : p = (a, u)) (h : p.2.Kept base) : u.Kept base := by
  subst e; exact h

/-- The state of a threefold answer taken apart. -/
theorem snd_snd_kept {α β : Type} {p : α × β × State} {a : α} {b : β} {u : State} (e : p = (a, b, u))
    (h : p.2.2.Kept base) : u.Kept base := by subst e; exact h

/-- The state of a fourfold answer taken apart. -/
theorem snd_snd_snd_kept {α β γ : Type} {p : α × β × γ × State} {a : α} {b : β} {c : γ} {u : State}
    (e : p = (a, b, c, u)) (h : p.2.2.2.Kept base) : u.Kept base := by subst e; exact h

/-! ## Named operations over State: fields, hosts, lock counters, events and traps (R10, R191, R260, R281, R377) -/

theorem State.wr_kept {s : State} {f : Fld} {v i j : Nat} (h : s.Kept base) : (s.wr f v i j).Kept base := h

theorem State.noteWas_kept {s : State} {f : Fld} {i j : Nat} (h : s.Kept base) : (s.noteWas f i j).Kept base := by
  unfold State.noteWas
  exact ite_kept h h

theorem State.bump_kept {s : State} {f : Fld} {i n j : Nat} (h : s.Kept base) : (s.bump f i n j).Kept base :=
  wr_kept (noteWas_kept h)

theorem State.flag_kept {s : State} {f : Fld} {i : Nat} (h : s.Kept base) : (s.flag f i).Kept base := by
  unfold State.flag
  extract_lets s1
  have hs1 : s1.Kept base := wr_kept h
  clear_value s1
  exact hs1

theorem State.capture_kept {s : State} {valid : Fld} {vs : List (Fld × Nat)} {i : Nat} (h : s.Kept base) :
    (s.capture valid vs i).Kept base := by
  unfold State.capture
  exact ite_kept h (flag_kept (foldl_kept (fun _ hs _ => wr_kept hs) h))

theorem State.updFn_kept {s : State} {f : Nat} {g : Func → Func} (h : s.Kept base) : (s.updFn f g).Kept base := h

theorem State.nalam_kept {s : State} {n : Nalam} (h : s.Kept base) : { s with nalam := n }.Kept base := h

theorem State.updRound_kept {s : State} {f r : Nat} {g : Round → Round} (h : s.Kept base) :
    (s.updRound f r g).Kept base :=
  h

theorem State.updQp_kept {s : State} {n : Nat} {g : Qp → Qp} (h : s.Kept base) : (s.updQp n g).Kept base := h

theorem State.draw_kept {s : State} (h : s.Kept base) : s.draw.2.Kept base := h

theorem State.emit_kept {s : State} {o : Out} (h : s.Kept base) : (s.emit o).Kept base := h

theorem State.hostPut_kept {s : State} {f a : Nat} {bs : Bytes} (h : s.Kept base) :
    (s.hostPut f a bs).Kept base := by
  unfold State.hostPut
  exact ite_kept (writeHost_kept h) (ite_kept h (updFn_kept h))

theorem State.sendVec_kept {s : State} {f v : Nat} (h : s.Kept base) : (s.sendVec f v).Kept base := by
  unfold State.sendVec
  exact ite_kept h (ite_kept (wr_kept h) (emit_kept h))

theorem State.ctrPut_kept {s : State} {f c v : Nat} (h : s.Kept base) : (s.ctrPut f c v).Kept base := by
  unfold State.ctrPut
  split <;> exact h

theorem State.ctrNote_kept {s : State} {f c : Nat} {g : CtrCyc → CtrCyc} (h : s.Kept base) :
    (s.ctrNote f c g).Kept base := by
  unfold State.ctrNote
  split <;> exact h

theorem State.ctrSettle_kept {s : State} {f c : Nat} (h : s.Kept base) : (s.ctrSettle f c).Kept base := by
  unfold State.ctrSettle
  split
  · exact ctrPut_kept h
  · exact h

theorem State.ctrAdd_kept {s : State} {f c v : Nat} (h : s.Kept base) : (s.ctrAdd f c v).Kept base :=
  ctrPut_kept (ctrNote_kept h)

theorem State.ctrRaise_kept {s : State} {f c v : Nat} (h : s.Kept base) : (s.ctrRaise f c v).Kept base :=
  ctrSettle_kept (ctrNote_kept h)

theorem State.ctrWrite_kept {s : State} {f c v : Nat} (h : s.Kept base) : (s.ctrWrite f c v).Kept base :=
  ctrSettle_kept (ctrNote_kept h)

theorem State.ctrForce_kept {s : State} {d v : Nat} (h : s.Kept base) : (s.ctrForce d v).Kept base :=
  h

theorem State.evtShift_kept {s : State} {f h k : Nat} (hs : s.Kept base) : (s.evtShift f h k).Kept base := by
  unfold State.evtShift
  refine foldl_kept ?_ hs
  intro u hu _
  extract_lets
  exact hostPut_kept hu

theorem State.evtNotify_kept {s : State} {f : Nat} (h : s.Kept base) : (s.evtNotify f).Kept base := by
  unfold State.evtNotify
  exact ite_kept h (sendVec_kept (updFn_kept h))

theorem State.evtWindow_kept {s : State} {f code obj now : Nat} (h : s.Kept base) :
    (s.evtWindow f code obj now).Kept base :=
  updFn_kept h

theorem State.evtWrite_kept {s : State} {f code kind obj aux reps : Nat} {fatal : Bool} {now : Nat}
    (h : s.Kept base) : (s.evtWrite f code kind obj aux reps fatal now).Kept base := by
  unfold State.evtWrite
  extract_lets _ _ _ s1
  have hs1 : s1.Kept base := hostPut_kept (evtShift_kept h)
  exact evtNotify_kept (evtWindow_kept (wr_kept hs1))

theorem State.evtLose_kept {s : State} {f code obj : Nat} (h : s.Kept base) : (s.evtLose f code obj).Kept base :=
  updFn_kept (bump_kept h)

theorem State.evtOverwrite_kept {s : State} {f code kind obj aux reps now : Nat} (h : s.Kept base) :
    (s.evtOverwrite f code kind obj aux reps now).Kept base := by
  unfold State.evtOverwrite
  extract_lets _ s1
  have hs1 : s1.Kept base := hostPut_kept h
  exact evtNotify_kept (evtWindow_kept (bump_kept hs1))

theorem State.raiseAt_kept {s : State} {now f code kind obj aux : Nat} {fatal : Bool} (h : s.Kept base) :
    (s.raiseAt now f code kind obj aux fatal).Kept base := by
  unfold State.raiseAt
  refine ite_kept h (ite_kept (updFn_kept h) ?_)
  extract_lets
  exact ite_kept (updFn_kept h) (ite_kept (evtLose_kept h) (ite_kept (ite_kept
      (evtOverwrite_kept h) (evtLose_kept h)) (evtWrite_kept h)))

theorem State.raise_kept {s : State} {f code kind obj aux : Nat} {fatal : Bool} (h : s.Kept base) :
    (s.raise f code kind obj aux fatal).Kept base :=
  raiseAt_kept h

theorem State.raiseAll_kept {s : State} {fs : List Nat} {code kind obj : Nat} {fatal : Bool} (h : s.Kept base) :
    (s.raiseAll fs code kind obj fatal).Kept base :=
  foldl_kept (fun _ hs _ => raise_kept hs) h

theorem State.raiseOwn_kept {s : State} {f code kind obj : Nat} (h : s.Kept base) :
    (s.raiseOwn f code kind obj).Kept base := by
  unfold State.raiseOwn
  exact ite_kept (raise_kept h) (raise_kept (raise_kept h))

theorem State.raiseTrap_kept {s : State} {j code tile : Nat} (h : s.Kept base) :
    (s.raiseTrap j code tile).Kept base := by
  unfold State.raiseTrap
  split
  · exact h
  · exact ite_kept (raiseOwn_kept h) (raise_kept h)

theorem State.settleBusy_kept {s : State} {f : Nat} (h : s.Kept base) : (s.settleBusy f).Kept base := by
  unfold State.settleBusy
  exact ite_kept h (wr_kept (wr_kept h))

theorem State.trap_kept {s : State} {j code : Nat} {precise : Bool} {pc : Nat} {insn : Word}
    {step tile qreg : Nat} (h : s.Kept base) : (s.trap j code precise pc insn step tile qreg).Kept base := by
  unfold State.trap
  extract_lets _ _ _ _ s1
  have hs1 : s1.Kept base := updSpin_kept h (fun x hx => by dsimp only; exact x.poke_wf _ _ hx)
  exact settleBusy_kept (raiseTrap_kept hs1)

theorem State.trapLate_kept {s : State} {j code id pc : Nat} {insn : Word} {step tile qreg : Nat} (h : s.Kept base)
    : (s.trapLate j code id pc insn step tile qreg).Kept base := by
  unfold State.trapLate
  extract_lets s0
  have hs0 : s0.Kept base := updSpin_kept h
  exact ite_kept (updSpin_kept hs0 (fun x hx => by dsimp only; exact x.poke_wf _ _ hx)) (trap_kept hs0)

theorem State.accErr_kept {s : State} {r : Req} {code off : Nat} (h : s.Kept base) :
    (s.accErr r code off).Kept base := by
  unfold State.accErr
  extract_lets
  exact raise_kept (capture_kept (flag_kept h))

theorem State.funcCmd_kept {s : State} {f : Nat} {g : Fld} {j : Nat} {body : State → State} (h : s.Kept base)
    (hbody : ∀ u, u.Kept base → (body u).Kept base) : (s.funcCmd f g j body).Kept base := by
  unfold State.funcCmd
  exact ite_kept (hbody _ h) (ite_kept (accErr_kept h) h)

/-! ## Issue and the unit queues (R187 to R190) -/

theorem State.advance_kept {s : State} {j : Nat} (h : s.Kept base) : (s.advance j).Kept base := updSpin_kept h

theorem State.trapHere_kept {s : State} {j code w tile qreg : Nat} (h : s.Kept base) :
    (s.trapHere j code w tile qreg).Kept base :=
  trap_kept h

theorem State.issue_kept {s : State} {j : Nat} {key : Nat × Nat × Nat} {body : Nat → Nat → State → State}
    (h : s.Kept base) (hbody : ∀ x0 x1 u2, u2.Kept base → (body x0 x1 u2).Kept base) :
    (s.issue j key body).Kept base := by
  unfold State.issue
  refine ite_kept h ?_
  extract_lets
  split
  · exact trapHere_kept h
  · split
    · exact trapHere_kept h
    · exact ite_kept h (ite_kept (advance_kept h) (ite_kept h (hbody _ _ _ h)))

theorem State.enqueue_kept {s : State} {j w : Nat} {e : UnitEntry} (h : s.Kept base) :
    (s.enqueue j w e).Kept base :=
  advance_kept (updSpin_kept h)

/-! ## Tiles, tags, checksums, staging and flights (R49 to R71, R148) -/

theorem State.setTag_kept {s : State} {t : Nat} {g : TileTag} (h : s.Kept base) : (s.setTag t g).Kept base := h

theorem State.putFarPage_kept {s : State} {t p : Nat} {bs : Bytes} (h : s.Kept base) :
    (s.putFarPage t p bs).Kept base := by
  unfold State.putFarPage
  extract_lets
  exact (writeTiles_kept h :)

theorem State.setPage_kept {s : State} {t p : Nat} {bs : Bytes} (h : s.Kept base) :
    (s.setPage t p bs).Kept base := by
  unfold State.setPage
  split
  · exact (writeTiles_kept h :)
  · exact putFarPage_kept h

theorem State.putFar_kept {s : State} {t : Nat} {bs : Bytes} (h : s.Kept base) : (s.putFar t bs).Kept base :=
  foldl_kept (fun _ hs _ => setPage_kept hs) h

theorem State.putTile_kept {s : State} {t off : Nat} {bs : Bytes} (h : s.Kept base) :
    (s.putTile t off bs).Kept base := by
  unfold State.putTile
  refine ite_kept (foldl_kept (fun _ hs _ => setPage_kept hs) h) ?_
  extract_lets
  exact (writeTiles_kept h :)

theorem State.setElem_kept {s : State} {t eb i v : Nat} (h : s.Kept base) : (s.setElem t eb i v).Kept base :=
  putTile_kept h

theorem State.addElems_kept {s : State} {t eb m i : Nat} {l : List Nat} (h : s.Kept base) :
    (s.addElems t eb m i l).Kept base := by
  induction l generalizing s i with
  | nil =>
    unfold State.addElems
    exact h
  | cons x xs ih =>
    unfold State.addElems
    exact ih (setElem_kept h)

theorem State.setElems_kept {s : State} {t eb i : Nat} {l : List Nat} (h : s.Kept base) :
    (s.setElems t eb i l).Kept base := by
  induction l generalizing s i with
  | nil =>
    unfold State.setElems
    exact h
  | cons x xs ih =>
    unfold State.setElems
    exact ih (setElem_kept h)

theorem State.zeroTile_kept {s : State} {t : Nat} (h : s.Kept base) : (s.zeroTile t).Kept base := by
  unfold State.zeroTile
  exact ite_kept (putFar_kept h) (filterTiles_kept h :)

theorem State.eccWord_kept {s : State} {t w : Nat} {double : Bool} (h : s.Kept base) :
    (s.eccWord t w double).Kept base := by
  unfold State.eccWord
  extract_lets _ _ _ src src1
  have hsrc : src.Kept base := bump_kept h
  clear_value src
  have hsrc1 : src1.Kept base := bump_kept h
  clear_value src1
  exact ite_kept (ite_kept (raise_kept (capture_kept (bump_kept h))) hsrc) (ite_kept
      (raise_kept (capture_kept (bump_kept h))) hsrc1)

theorem State.eccSpan_kept {s : State} {t off n : Nat} (h : s.Kept base) : (s.eccSpan t off n).Kept base :=
  foldl_kept (fun _ hs _ => eccWord_kept hs) h

theorem State.eccTag_kept {s : State} {t : Nat} (h : s.Kept base) : (s.eccTag t).Kept base := by
  unfold State.eccTag
  refine ite_kept h (foldl_kept ?_ h)
  intro u hu _
  extract_lets s1
  have hs1 : s1.Kept base := eccWord_kept hu
  clear_value s1
  exact ite_kept hs1 hs1

theorem State.eccRead_kept {s : State} {t : Nat} (h : s.Kept base) : (s.eccRead t).Kept base :=
  eccSpan_kept (eccTag_kept h)

theorem State.csumFail_kept {s : State} {t src : Nat} (h : s.Kept base) : (s.csumFail t src).Kept base :=
  capture_kept (raise_kept h)

theorem State.verify_kept {s : State} {t src : Nat} (h : s.Kept base) : (s.verify t src).2.Kept base := by
  unfold State.verify
  extract_lets s1
  have hs1 : s1.Kept base := eccRead_kept h
  exact ite_snd_kept hs1 (pair_kept (csumFail_kept hs1))

theorem State.verifyAll_kept {s : State} {src : Nat} {l : List Nat} (h : s.Kept base) :
    (s.verifyAll src l).2.Kept base := by
  induction l generalizing s with
  | nil =>
    unfold State.verifyAll
    exact h
  | cons x xs ih =>
    unfold State.verifyAll
    split
    next s2 e =>
      have hs2 : s2.Kept base := snd_kept e (verify_kept h)
      split
      next s21 e1 =>
        have hs21 : s21.Kept base := snd_kept e1 (ih hs2)
        exact hs21

theorem State.takeOff_kept {s : State} {ts : List Nat} (h : s.Kept base) : (s.takeOff ts).Kept base := h

theorem State.rotated_kept {s : State} {f : Nat} (h : s.Kept base) : (s.rotated f).Kept base := by
  unfold State.rotated
  exact ite_kept (raise_kept (wr_kept (updFn_kept h))) h

theorem State.rekeyPages_kept {s : State} {t : Nat} {ps : List Nat} (h : s.Kept base) :
    (s.rekeyPages t ps).Kept base := by
  unfold State.rekeyPages
  refine ite_kept h ?_
  extract_lets _ _ _ s1 s2
  have hs1 : s1.Kept base := setTag_kept h
  have hs2 : s2.Kept base := foldl_kept (fun _ hu _ => putFarPage_kept hu) hs1
  exact rotated_kept (wr_kept hs2)

theorem State.farWritten_kept {s : State} {t : Nat} (h : s.Kept base) : (s.farWritten t).Kept base :=
  rekeyPages_kept h

theorem State.wrote_kept {s : State} {t : Nat} (h : s.Kept base) : (s.wrote t).Kept base := by
  unfold State.wrote
  split
  · exact h
  · exact ite_kept (rekeyPages_kept h) h

theorem State.lockBytes_kept {s : State} (h : s.Kept base) : s.lockBytes.Kept base :=
  foldl_kept (fun _ hs _ => bump_kept hs) h

theorem State.newEpoch_kept {s : State} {t : Nat} (h : s.Kept base) : (s.newEpoch t).Kept base := by
  unfold State.newEpoch
  extract_lets
  exact wrote_kept (setTag_kept (zeroTile_kept h))

theorem State.writeBack_kept {s : State} {t : Nat} (h : s.Kept base) : (s.writeBack t).Kept base := by
  unfold State.writeBack
  split
  · exact h
  · refine ite_kept h ?_
    split
    next s2 e =>
      have hs2 : s2.Kept base := snd_kept e (verify_kept h)
      refine ite_kept hs2 ?_
      extract_lets s21
      have hs21 : s21.Kept base := farWritten_kept (lockBytes_kept (putFar_kept hs2))
      clear_value s21
      exact hs21

theorem State.leaveSlot_kept {s : State} {g : Staged} (h : s.Kept base) : (s.leaveSlot g).Kept base :=
  setTag_kept h

theorem State.unstage_kept {s : State} {t : Nat} (h : s.Kept base) : (s.unstage t).Kept base := by
  unfold State.unstage
  extract_lets s1
  have hs1 : s1.Kept base := writeBack_kept h
  split
  · exact hs1
  · extract_lets src
    have hsrc : src.Kept base := leaveSlot_kept hs1
    clear_value src
    exact hsrc

theorem State.discardStage_kept {s : State} {t : Nat} (h : s.Kept base) : (s.discardStage t).Kept base := by
  unfold State.discardStage
  split
  · exact h
  · extract_lets src
    have hsrc : src.Kept base := setTag_kept (leaveSlot_kept h)
    clear_value src
    exact hsrc

theorem State.pageBack_kept {s : State} {g : PageCopy} (h : s.Kept base) : (s.pageBack g).Kept base := by
  unfold State.pageBack
  refine ite_kept h ?_
  extract_lets s1
  have hs1 : s1.Kept base := bump_kept (putFarPage_kept (rekeyPages_kept h))
  clear_value s1
  exact hs1

theorem State.pagesBack_kept {s : State} {t : Nat} (h : s.Kept base) : (s.pagesBack t).Kept base :=
  foldl_kept (fun _ hs _ => pageBack_kept hs) h

theorem State.pageOut_kept {s : State} {g : PageCopy} (h : s.Kept base) : (s.pageOut g).Kept base := by
  unfold State.pageOut
  extract_lets s1
  have hs1 : s1.Kept base := h
  exact ite_kept hs1 (setTag_kept hs1)

theorem State.dropPages_kept {s : State} {t : Nat} (h : s.Kept base) : (s.dropPages t).Kept base := by
  unfold State.dropPages
  extract_lets s1
  have hs1 : s1.Kept base := pagesBack_kept h
  exact foldl_kept (fun _ hs _ => pageOut_kept hs) hs1

theorem State.land_kept {s : State} {t : Nat} (h : s.Kept base) : (s.land t).Kept base := by
  unfold State.land
  extract_lets s1
  have hs1 : s1.Kept base := ite_kept (pagesBack_kept h) h
  exact ite_kept hs1 hs1

theorem State.zeroLz_kept {s : State} {lz n : Nat} (h : s.Kept base) : (s.zeroLz lz n).Kept base :=
  filterTiles_kept h

/-! ## Rounds: states, transitions and the status record (R80, R109, R205) -/

theorem State.putStatus_kept {s : State} {f r : Nat} (h : s.Kept base) : (s.putStatus f r).Kept base := by
  unfold State.putStatus
  split
  · exact ite_kept h (hostPut_kept h)
  · exact h

theorem State.progress_kept {s : State} {f r c : Nat} (h : s.Kept base) : (s.progress f r c).Kept base := by
  unfold State.progress
  extract_lets s1
  have hs1 : s1.Kept base := updRound_kept h
  split
  · exact ctrRaise_kept hs1
  · exact hs1

theorem State.enter_kept {s : State} {f r : Nat} {st : RState} (h : s.Kept base) : (s.enter f r st).Kept base :=
  putStatus_kept (progress_kept (updRound_kept h))

theorem State.raiseOnce_kept {s : State} {f r code : Nat} (h : s.Kept base) : (s.raiseOnce f r code).Kept base := by
  unfold State.raiseOnce
  split
  · exact h
  · exact ite_kept h (updRound_kept (raise_kept h))

theorem State.count_kept {s : State} {f r : Nat} {g : RoundCounts → RoundCounts} (h : s.Kept base) :
    (s.count f r g).Kept base :=
  updRound_kept h

theorem State.post_kept {s : State} {qpn : Nat} {owner : TxOwner} {data : Bytes} {write : Bool}
    {handle offset : Nat} (h : s.Kept base) : (s.post qpn owner data write handle offset).Kept base :=
  updQp_kept h

theorem State.twrFail_kept {s : State} {id cause : Nat} (h : s.Kept base) : (s.twrFail id cause).Kept base := by
  unfold State.twrFail
  split
  · exact h
  · extract_lets s1
    have hs1 : s1.Kept base := ite_kept (updRound_kept h) h
    clear_value s1
    exact raise_kept hs1

theorem State.twrFailRound_kept {s : State} {f r cause : Nat} (h : s.Kept base) :
    (s.twrFailRound f r cause).Kept base :=
  foldl_kept (fun _ hs _ => twrFail_kept hs) h

theorem State.abandon_kept {s : State} {f r code : Nat} (h : s.Kept base) : (s.abandon f r code).Kept base := by
  unfold State.abandon
  split
  · exact h
  · refine ite_kept h ?_
    extract_lets s1 s2 s3 s4 s5 _ s6 s7
    have hs1 : s1.Kept base := twrFailRound_kept h
    clear_value s1
    have hs2 : s2.Kept base := 
      (spindles_kept (l := s2.spindles) hs1 (mapSpin_scratchWf (fun _ hj => by split <;> exact hj)) :)
    have hs3 : s3.Kept base := foldl_kept (fun _ hs _ => newEpoch_kept hs) hs2
    have hs4 : s4.Kept base := zeroLz_kept hs3
    have hs5 : s5.Kept base := updRound_kept hs4
    clear_value s5
    have hs6 : s6.Kept base := hs5
    have hs7 : s7.Kept base := ite_kept (bump_kept hs6) hs6
    exact enter_kept hs7

theorem State.abandonAll_kept {s : State} {f code : Nat} {p : Round → Bool} (h : s.Kept base) :
    (s.abandonAll f code p).Kept base :=
  foldl_kept (fun _ hs _ => abandon_kept hs) h

theorem State.slotDone_kept {s : State} {f r slot lz : Nat} {scaled : Bool} (h : s.Kept base) :
    (s.slotDone f r slot lz scaled).Kept base := by
  unfold State.slotDone
  split
  · exact h
  · extract_lets s1
    have hs1 : s1.Kept base := updRound_kept h
    exact ite_kept (raiseOnce_kept hs1) hs1

theorem State.rejectMsg_kept {s : State} {f r slot lz code : Nat} (h : s.Kept base) :
    (s.rejectMsg f r slot lz code).Kept base :=
  raiseOnce_kept (updRound_kept h)

theorem State.dropLeaves_kept {s : State} {f : Nat} {gone : Nat → Bool} (h : s.Kept base) :
    (s.dropLeaves f gone).Kept base :=
  h

/-! ## Unmasking (R93 to R99) -/

theorem State.loadShareModulus_kept {s : State} {mode : Nat} (h : s.Kept base) :
    (s.loadShareModulus mode).Kept base :=
  h

theorem State.addTile_kept {s : State} {t eb m : Nat} {ds : List Nat} (h : s.Kept base) :
    (s.addTile t eb m ds).Kept base := by
  unfold State.addTile
  extract_lets
  exact wrote_kept (setTag_kept (addElems_kept h))

theorem State.addLogical_kept {s : State} {r : Round} {l : Nat} {d : Nat → ℤ} (h : s.Kept base) :
    (s.addLogical r l d).Kept base := by
  unfold State.addLogical
  extract_lets
  split
  · exact h
  · exact addTile_kept h

theorem State.addRound_kept {s : State} {r : Round} {d : Nat → ℤ} (h : s.Kept base) : (s.addRound r d).Kept base :=
  foldl_kept (fun _ hs _ => addLogical_kept hs) h

theorem State.expand0_kept {s : State} {r : Round} {owner kind secret : Nat} (h : s.Kept base) :
    (s.expand0 r owner kind secret).Kept base := by
  unfold State.expand0
  extract_lets
  refine ite_kept (addRound_kept h) (foldl_kept ?_ h)
  intro u hu _
  extract_lets
  exact ite_kept (addRound_kept hu) (addRound_kept hu)

theorem State.expandBlock_kept {s : State} {r : Round} {tag : Nat} {sigma : List Nat} {b : Nat} (h : s.Kept base) :
    (s.expandBlock r tag sigma b).Kept base := by
  unfold State.expandBlock
  extract_lets
  split
  · exact h
  · extract_lets _ s1
    have hs1 : s1.Kept base := addElems_kept h
    exact wrote_kept (setTag_kept hs1)

/-! ## Leaving CLOSED (R96, R172, R294) -/

theorem State.gateChecks_kept {s : State} {f r : Nat} (h : s.Kept base) : (s.gateChecks f r).Kept base := by
  unfold State.gateChecks
  split
  · exact h
  · refine ite_kept (abandon_kept h) (ite_kept (abandon_kept h) ?_)
    extract_lets
    exact progress_kept (updRound_kept h)

theorem State.toGated_kept {s : State} {f r : Nat} (h : s.Kept base) : (s.toGated f r).Kept base := by
  unfold State.toGated
  extract_lets s1
  have hs1 : s1.Kept base := enter_kept (updRound_kept h)
  split
  · exact hs1
  · refine ite_kept ?_ (gateChecks_kept hs1)
    extract_lets
    exact emit_kept (updRound_kept hs1)

theorem State.toUnmask_kept {s : State} {f r : Nat} (h : s.Kept base) : (s.toUnmask f r).Kept base := by
  unfold State.toUnmask
  extract_lets s1 s2
  have hs1 : s1.Kept base := updRound_kept h
  have hs2 : s2.Kept base := enter_kept hs1
  split
  · exact hs2
  · exact emit_kept hs2

theorem State.sealTiles_kept {s : State} {ts : List Nat} (h : s.Kept base) : (s.sealTiles ts).Kept base :=
  foldl_kept (fun _ hs _ => setTag_kept hs) h

theorem State.masksCancelled_kept {s : State} {f r : Nat} (h : s.Kept base) : (s.masksCancelled f r).Kept base := by
  unfold State.masksCancelled
  split
  · exact h
  · exact ite_kept (toGated_kept (sealTiles_kept h)) h

theorem State.stairCheck_kept {s : State} {f r : Nat} (h : s.Kept base) : (s.stairCheck f r).Kept base := by
  unfold State.stairCheck
  split
  · exact h
  · refine ite_kept h (ite_kept (abandon_kept h) ?_)
    extract_lets s1
    have hs1 : s1.Kept base := updRound_kept h
    refine ite_kept hs1 ?_
    split
    · exact ctrAdd_kept hs1
    · exact hs1

theorem State.settleIfFull_kept {s : State} {f r : Nat} (h : s.Kept base) : (s.settleIfFull f r).Kept base := by
  unfold State.settleIfFull
  split
  · exact h
  · exact ite_kept (stairCheck_kept (updRound_kept h)) h

theorem State.recordDone_kept {s : State} {f r : Nat} {credit : Nat × Nat} (h : s.Kept base) :
    (s.recordDone f r credit).Kept base :=
  settleIfFull_kept (updRound_kept (ctrAdd_kept h))

theorem State.dropRoundKeys_kept {s : State} {f r : Nat} (h : s.Kept base) : (s.dropRoundKeys f r).Kept base :=
  updRound_kept h

theorem State.leaveClosed_kept {s : State} {f r : Nat} (h : s.Kept base) : (s.leaveClosed f r).Kept base := by
  unfold State.leaveClosed
  split
  · exact h
  · refine ite_kept h ?_
    extract_lets s1
    have hs1 : s1.Kept base := dropRoundKeys_kept h
    exact ite_kept (masksCancelled_kept (toUnmask_kept hs1)) (toGated_kept hs1)

theorem State.candidatesResolved_kept {s : State} {f r : Nat} (h : s.Kept base) :
    (s.candidatesResolved f r).Kept base := by
  unfold State.candidatesResolved
  refine ite_kept h ?_
  extract_lets s1
  have hs1 : s1.Kept base := by
    unfold s1
    split
    · exact ite_kept (updRound_kept h) h
    · exact h
  exact leaveClosed_kept (stairCheck_kept (settleIfFull_kept hs1))

theorem State.released_kept {s : State} {f r : Nat} (h : s.Kept base) : (s.released f r).Kept base :=
  enter_kept (dropRoundKeys_kept h)

/-! ## Messages of the ply (R302 to R304) -/

theorem State.plySend_kept {s : State} {f type code round : Nat} {body : Bytes} (h : s.Kept base) :
    (s.plySend f type code round body).Kept base := by
  unfold State.plySend
  split
  · exact h
  · extract_lets _ _ _ s1
    have hs1 : s1.Kept base := h
    exact bump_kept (post_kept hs1)

theorem State.mirror_kept {s : State} {r : Round} {type : Nat} {body : Bytes} (h : s.Kept base) :
    (s.mirror r type body).Kept base := by
  unfold State.mirror
  exact ite_kept (plySend_kept h) h

theorem State.mirrorAgain_kept {s : State} {r : Round} {type : Nat} {body : Bytes} (h : s.Kept base) :
    (s.mirrorAgain r type body).Kept base := by
  unfold State.mirrorAgain
  split
  · exact h
  · extract_lets
    exact updQp_kept h

theorem State.verdict_kept {s : State} {f round code : Nat} (h : s.Kept base) :
    (s.verdict f round code).Kept base :=
  plySend_kept h

/-! ## Messages of a round (R83 to R91, R213) -/

theorem State.place_kept {s : State} {lz : Nat} {msg : Bytes} (h : s.Kept base) : (s.place lz msg).Kept base :=
  writeTiles_kept h

theorem State.refuseMsg_kept {s : State} {f r code : Nat} {g : RoundCounts → RoundCounts} (h : s.Kept base) :
    (s.refuseMsg f r code g).Kept base :=
  raiseOnce_kept (count_kept h)

theorem State.takeLate_kept {s : State} {f r : Nat} {m : Msg} (h : s.Kept base) : (s.takeLate f r m).Kept base := by
  unfold State.takeLate
  split
  · exact h
  · extract_lets
    exact ite_kept (updRound_kept h) (ite_kept (mirrorAgain_kept (updRound_kept h))
        (updRound_kept h))

theorem State.dedup_kept {s : State} {f r : Nat} {m : Msg} (h : s.Kept base) : (s.dedup f r m).Kept base := by
  unfold State.dedup
  split
  · exact h
  · extract_lets _ _ s0 s1
    have hs0 : s0.Kept base := updRound_kept h
    have hs1 : s1.Kept base := ite_kept (takeLate_kept hs0) (updRound_kept hs0)
    split
    · exact refuseMsg_kept h
    · exact ite_kept (updRound_kept h) (refuseMsg_kept h)
    · exact ite_kept (refuseMsg_kept h) (ite_kept (verdict_kept hs1) hs1)

theorem State.queueRecovery_kept {s : State} {f r : Nat} {m : Msg} {msg : Bytes} (h : s.Kept base) :
    (s.queueRecovery f r m msg).Kept base := by
  unfold State.queueRecovery
  split
  · exact h
  · exact ite_kept (refuseMsg_kept h) (mirror_kept (updRound_kept h))

theorem State.message_kept {s : State} {f : Nat} {bound window mirrored : Bool} {lz : Nat} {msg : Bytes}
    (h : s.Kept base) : (s.message f bound window mirrored lz msg).Kept base := by
  unfold State.message
  extract_lets hd named s1
  have hs1 : s1.Kept base := place_kept h
  clear_value named
  split
  · split
    · exact refuseMsg_kept h
    · exact raise_kept h
  · split
    · exact raise_kept (bump_kept h)
    · exact ite_kept h (ite_kept (refuseMsg_kept h) (ite_kept (refuseMsg_kept h)
        (ite_kept (queueRecovery_kept hs1) (dedup_kept hs1))))

theorem State.complete_kept {s : State} {f : Nat} {qp : Option Nat} {lz : Nat} {msg : Bytes} (h : s.Kept base) :
    (s.complete f qp lz msg).Kept base := by
  unfold State.complete
  exact ite_kept h (message_kept h)

theorem State.report_kept {s : State} {j w code : Nat} {op : UOp} {writes : List (Nat × Bytes)}
    {qdst : Option (Nat × Nat)} (h : s.Kept base) : (s.report j w code op writes qdst).Kept base :=
  enqueue_kept h

theorem State.takeD_kept {s : State} {j : Nat} (h : s.Kept base) : (s.takeD j).Kept base := by
  unfold State.takeD
  refine issue_kept h ?_
  intro _ _ u hu
  extract_lets
  refine ite_kept (trapHere_kept hu) ?_
  split
  · exact report_kept hu
  · extract_lets idle
    have hidle : idle.Kept base := report_kept hu
    refine ite_kept hidle ?_
    split
    · exact report_kept (updRound_kept hu)
    · exact ite_kept hidle (updSpin_kept hu)

theorem State.takeS_kept {s : State} {j : Nat} (h : s.Kept base) : (s.takeS j).Kept base := by
  unfold State.takeS
  refine issue_kept h ?_
  intro _ _ u hu
  extract_lets
  split
  · exact report_kept hu
  · exact report_kept (putStatus_kept hu)

theorem State.abandonCmd_kept {s : State} {f r code : Nat} (h : s.Kept base) :
    (s.abandonCmd f r code).Kept base := by
  unfold State.abandonCmd
  split
  · exact h
  · exact ite_kept h (ite_kept (updRound_kept h) (abandon_kept h))

theorem State.takeA_kept {s : State} {j : Nat} (h : s.Kept base) : (s.takeA j).Kept base := by
  unfold State.takeA
  refine issue_kept h ?_
  intro _ _ u hu
  extract_lets
  split
  · exact report_kept hu
  · exact ite_kept (report_kept hu) (report_kept (abandonCmd_kept hu))

/-! ## Mode 2 on a message (R102, R103, R161) -/

theorem State.updLive_kept {s : State} {f r lz : Nat} {g : Msg → Msg} (h : s.Kept base) :
    (s.updLive f r lz g).Kept base :=
  updRound_kept h

theorem State.unseal_kept {s : State} {x : Round} {m : Msg} (h : s.Kept base) : (s.unseal x m).2.Kept base := by
  unfold State.unseal
  split
  · exact h
  · extract_lets key iv aad ct s1
    have hs1 : s1.Kept base := writeTiles_kept h
    exact ite_snd_kept h (ite_snd_kept hs1 (ite_snd_kept hs1 (updLive_kept hs1)))

theorem State.clipMsg_kept {s : State} {x : Round} {m : Msg} (h : s.Kept base) : (s.clipMsg x m).Kept base := by
  unfold State.clipMsg
  extract_lets _ _ s1
  have hs1 : s1.Kept base := foldl_kept (fun _ hs _ => writeTiles_kept hs) h
  exact ite_kept (updLive_kept hs1) (updLive_kept h)

theorem State.sealed2_kept {s : State} {x : Round} {m : Msg} {clip : Bool} (h : s.Kept base) :
    (s.sealed2 x m clip).2.Kept base := by
  unfold State.sealed2
  extract_lets s0
  have hs0 : s0.Kept base := eccSpan_kept h
  split
  next s1 e =>
    have hs1 : s1.Kept base := snd_kept e (ite_snd_kept hs0 (unseal_kept hs0))
    exact ite_snd_kept hs1 (ite_snd_kept hs1 (clipMsg_kept hs1))

/-! ## The row directory (R142 to R145) -/

theorem State.retag_kept {s : State} {t : Nat} (h : s.Kept base) : (s.retag t).Kept base := setTag_kept h

theorem State.cacheBack_kept {s : State} {f r : Nat} {g : CachePage} (h : s.Kept base) :
    (s.cacheBack f r g).Kept base := by
  unfold State.cacheBack
  split
  · exact h
  · extract_lets _ _ s1
    have hs1 : s1.Kept base := retag_kept (putFarPage_kept (rekeyPages_kept h))
    exact ite_kept h (updRound_kept hs1)

theorem State.cachePage_kept {s : State} {f r page : Nat} (h : s.Kept base) : (s.cachePage f r page).Kept base := by
  unfold State.cachePage
  split
  · exact h
  · extract_lets _ _ s1 _ _ s2
    have hs1 : s1.Kept base := by
      unfold s1
      split
      · exact cacheBack_kept h
      · exact h
    have hs2 : s2.Kept base := retag_kept (putTile_kept hs1)
    exact ite_kept h (updRound_kept hs2)

theorem State.putEntry_kept {s : State} {f r e : Nat} (h : s.Kept base) : (s.putEntry f r e).Kept base := by
  unfold State.putEntry
  split
  · exact h
  · extract_lets
    split
    · extract_lets
      exact updRound_kept (retag_kept (putTile_kept h))
    · exact retag_kept (rekeyPages_kept (putTile_kept h))

theorem State.putDir_kept {s : State} {f r : Nat} {dir : List (Nat × DirEntry)} (h : s.Kept base) :
    (s.putDir f r dir).Kept base := by
  unfold State.putDir
  split
  · exact h
  · extract_lets
    exact foldl_kept (fun _ hs _ => putEntry_kept hs) (updRound_kept h)

theorem State.countRow_kept {s : State} {f r row n : Nat} (h : s.Kept base) : (s.countRow f r row n).Kept base := by
  unfold State.countRow
  split
  · exact h
  · exact putDir_kept h

theorem State.putResolved_kept {s : State} {f r : Nat} {x : Round} (h : s.Kept base) :
    (s.putResolved f r x).Kept base :=
  putDir_kept (updRound_kept h)

/-! ## Limbs of ciphertexts in tiles (R110 to R114) -/

theorem State.putCtTile_kept {s : State} {d : CtDesc} {k j c : Nat} {a : List Nat} (h : s.Kept base) :
    (s.putCtTile d k j c a).Kept base := by
  unfold State.putCtTile
  extract_lets _ s1
  have hs1 : s1.Kept base := setElems_kept h
  exact wrote_kept (setTag_kept hs1)

theorem State.putLimb_kept {s : State} {d : CtDesc} {k j : Nat} {cols a : List Nat} (h : s.Kept base) :
    (s.putLimb d k j cols a).Kept base :=
  foldl_kept (fun _ hs _ => putCtTile_kept hs) h

theorem State.putAll_kept {s : State} {d : CtDesc} {cols : List Nat} {vals : List (Nat × Nat × List Nat)}
    (h : s.Kept base) : (s.putAll d cols vals).Kept base :=
  foldl_kept (fun _ hs _ => putLimb_kept hs) h

/-! ## Sealed rotations (R361, R362) -/

theorem State.rotate_kept {s : State} {res : Nat} (h : s.Kept base) : (s.rotate res).Kept base := by
  unfold State.rotate
  extract_lets
  split <;> exact h

theorem State.rotateAll_kept {s : State} (h : s.Kept base) : s.rotateAll.Kept base :=
  foldl_kept (fun _ hs _ => rotate_kept hs) h

/-! ## What unit instructions share (R177, R189) -/

theorem State.unitOpE_kept {s : State} {j : Nat} {key : Nat × Nat × Nat} {ef : State → TOps → Nat → Nat}
    {regs : Nat → List (Nat × List Nat)} {body : TOps → State → State} (h : s.Kept base)
    (hbody : ∀ o u, u.Kept base → (body o u).Kept base) : (s.unitOpE j key ef regs body).Kept base := by
  unfold State.unitOpE
  refine issue_kept h ?_
  intro f w u hu
  extract_lets x o fault
  clear_value fault
  split
  · exact trapHere_kept hu
  · exact hbody o u hu

theorem State.unitOp_kept {s : State} {j : Nat} {key : Nat × Nat × Nat} {regs : Nat → List (Nat × List Nat)}
    {body : TOps → State → State} (h : s.Kept base) (hbody : ∀ x0 u1, u1.Kept base → (body x0 u1).Kept base) :
    (s.unitOp j key regs body).Kept base :=
  unitOpE_kept h hbody

theorem State.silent_kept {s : State} {j w : Nat} {op : UOp} {writes : List (Nat × Bytes)} {code : Nat}
    {round : Option Nat} {ops : List Nat} (h : s.Kept base) : (s.silent j w op writes code round ops).Kept base :=
  enqueue_kept h

theorem State.reportMsg_kept {s : State} {j w code : Nat} {op : UOp} {r : Round} {m : Msg} {fails : Bool}
    {parts : Nat} (h : s.Kept base) : (s.reportMsg j w code op r m fails parts).Kept base :=
  enqueue_kept h

theorem State.mark_kept {s : State} {j : Nat} {qs : List Nat} (h : s.Kept base) : (s.mark j qs).Kept base :=
  updSpin_kept h (fun _ hx => foldl_poke_scratch_wf qs hx)

theorem State.ctTrap_kept {s : State} {j code w : Nat} {srcs : List Nat} (h : s.Kept base) :
    (s.ctTrap j code w srcs).Kept base := by
  unfold State.ctTrap
  exact trapHere_kept (ite_kept (mark_kept h) h)

theorem State.polyRun_kept {s : State} {j w : Nat} {o : TOps} {srcs : List Nat} {srcDs : List CtDesc}
    {pre level : Nat} {res : CtDesc} {top : Bool} {cols : List Nat} {vals : State → List (Nat × Nat × List Nat)}
    {op : UOp} {prep : State → Bool × State} (h : s.Kept base) (hprep : ∀ u, u.Kept base → (prep u).2.Kept base) :
    (s.polyRun j w o srcs srcDs pre level res top cols vals op prep).Kept base := by
  unfold State.polyRun
  extract_lets
  refine ite_kept (ctTrap_kept h) (ite_kept h ?_)
  split
  next s2 e =>
    have hs2 : s2.Kept base := snd_kept e (hprep _ h)
    exact ite_kept (trap_kept hs2) (silent_kept (putAll_kept hs2))

/-! ## Requests to the random bit generator (R320, R324) -/

theorem State.noEntropy_kept {s : State} (h : s.Kept base) : s.noEntropy.Kept base := by
  unfold State.noEntropy
  refine ite_kept h ?_
  extract_lets _ src
  have hsrc : src.Kept base := raiseAll_kept h
  clear_value src
  exact hsrc

theorem State.ask_kept {s : State} {cls order words : Nat} {use : RngUse} (h : s.Kept base) :
    (s.ask cls order words use).Kept base := by
  unfold State.ask
  exact ite_kept h (noEntropy_kept h)

theorem State.askLoads_kept {s : State} {j n : Nat} {sampler : Bool} (h : s.Kept base) :
    (s.askLoads j n sampler).Kept base := by
  unfold State.askLoads
  extract_lets
  exact ite_kept (ask_kept h) (ask_kept h)

theorem State.deadRound_kept {s : State} {f r : Nat} (h : s.Kept base) : (s.deadRound f r).Kept base := by
  unfold State.deadRound
  exact ite_kept (abandon_kept h) h

/-! ## Evaluation keys and the key cache (R124, R125) -/

theorem State.evkEvict_kept {s : State} {f n k : Nat} (h : s.Kept base) : (s.evkEvict f n k).Kept base := by
  induction k generalizing s with
  | zero =>
    unfold State.evkEvict
    exact h
  | succ n ih =>
    unfold State.evkEvict
    refine ite_kept h ?_
    split
    · exact h
    · exact ih (updFn_kept h)

theorem State.evkCopy_kept {s : State} {src dst : Nat} (h : s.Kept base) : (s.evkCopy src dst).Kept base := by
  unfold State.evkCopy
  extract_lets
  exact wrote_kept (putTile_kept (setTag_kept h))

theorem State.evkRead_kept {s : State} {ts : List Nat} (h : s.Kept base) : (s.evkRead ts).2.Kept base :=
  verifyAll_kept (foldl_kept (fun _ hs _ => eccRead_kept hs) h)

theorem State.evkUse_kept {s : State} {f key l : Nat} (h : s.Kept base) : (s.evkUse f key l).2.Kept base := by
  unfold State.evkUse
  split
  · exact h
  · split
    · exact updFn_kept (foldl_kept (fun _ hs _ => eccRead_kept hs) h)
    · extract_lets _ s0
      have hs0 : s0.Kept base := updFn_kept h
      split
      next s2 e =>
        have hs2 : s2.Kept base := snd_kept e (evkRead_kept hs0)
        refine ite_snd_kept hs2 (ite_snd_kept hs2 ?_)
        extract_lets s21
        have hs21 : s21.Kept base := evkEvict_kept hs2
        exact updFn_kept (foldl_kept (fun _ hs _ => evkCopy_kept hs) hs21)

theorem State.evkUses_kept {s : State} {f : Nat} {l : List (Nat × Nat)} (h : s.Kept base) :
    (s.evkUses f l).2.Kept base := by
  induction l generalizing s with
  | nil =>
    unfold State.evkUses
    exact h
  | cons x xs ih =>
    unfold State.evkUses
    split
    next s2 e =>
      have hs2 : s2.Kept base := snd_kept e (evkUse_kept h)
      exact ite_snd_kept (ih hs2) hs2

theorem State.putWork_kept {s : State} {f j : Nat} {p : ParamSet} {l : Nat} {c : List (List Nat)} (h : s.Kept base)
    : (s.putWork f j p l c).Kept base := by
  unfold State.putWork
  extract_lets
  refine foldl_kept ?_ h
  intro u hu _
  extract_lets s1
  have hs1 : s1.Kept base := setElems_kept hu
  exact wrote_kept (setTag_kept hs1)

/-! ## The polynomial class (R119 to R123, R219 to R221) -/

theorem State.limbOp_kept {s : State} {j w : Nat} {o : TOps} {res : CtDesc → CtDesc}
    {g : State → CtDesc → Nat → Nat → List Nat} {op : UOp} (h : s.Kept base) : (s.limbOp j w o res g op).Kept base := by
  unfold State.limbOp
  extract_lets
  exact polyRun_kept h (fun _ hs => hs)

theorem State.ntt_kept {s : State} {j : Nat} (h : s.Kept base) : (s.ntt j).Kept base :=
  unitOp_kept h (fun _ _ hs => limbOp_kept hs)

theorem State.intt_kept {s : State} {j : Nat} (h : s.Kept base) : (s.intt j).Kept base :=
  unitOp_kept h (fun _ _ hs => limbOp_kept hs)

theorem State.auto_kept {s : State} {j : Nat} (h : s.Kept base) : (s.auto j).Kept base := by
  unfold State.auto
  refine unitOp_kept h ?_
  intro _ u hu
  extract_lets
  exact ite_kept (ctTrap_kept hu) (limbOp_kept hu)

theorem State.pmul_kept {s : State} {j : Nat} (h : s.Kept base) : (s.pmul j).Kept base := by
  unfold State.pmul
  extract_lets
  refine ite_kept (unitOp_kept h ?_) (ite_kept (unitOp_kept h ?_) (unitOp_kept h ?_))
  · intro x0 u hu
    extract_lets
    exact polyRun_kept hu (fun _ hs => hs)
  · intro x0 u hu
    extract_lets
    exact ite_kept (trapHere_kept hu) (limbOp_kept hu)
  · intro x0 u hu
    extract_lets
    exact limbOp_kept hu

theorem State.padd_kept {s : State} {j : Nat} (h : s.Kept base) : (s.padd j).Kept base := by
  unfold State.padd
  extract_lets
  refine ite_kept (unitOp_kept h ?_) (unitOp_kept h ?_)
  · intro x0 u hu
    extract_lets
    exact ite_kept (trapHere_kept hu) (ite_kept (ctTrap_kept hu) (limbOp_kept hu))
  · intro x0 u hu
    extract_lets
    exact polyRun_kept hu (fun _ hs => hs)

theorem State.modup_kept {s : State} {j : Nat} (h : s.Kept base) : (s.modup j).Kept base := by
  unfold State.modup
  refine unitOp_kept h ?_
  intro _ u hu
  extract_lets
  exact polyRun_kept hu (fun _ hs => hs)

theorem State.moddn_kept {s : State} {j : Nat} (h : s.Kept base) : (s.moddn j).Kept base := by
  unfold State.moddn
  refine unitOp_kept h ?_
  intro _ u hu
  extract_lets
  exact polyRun_kept hu (fun _ hs => hs)

theorem State.resc_kept {s : State} {j : Nat} (h : s.Kept base) : (s.resc j).Kept base := by
  unfold State.resc
  refine unitOp_kept h ?_
  intro _ u hu
  extract_lets
  exact polyRun_kept hu (fun _ hs => hs)

theorem State.ksw_kept {s : State} {j : Nat} (h : s.Kept base) : (s.ksw j).Kept base := by
  unfold State.ksw
  refine unitOp_kept h ?_
  intro _ u1 hu1
  extract_lets
  refine polyRun_kept hu1 ?_
  intro u hu
  split
  next s2 e =>
    have hs2 : s2.Kept base := snd_kept e (evkUse_kept hu)
    exact ite_kept (putWork_kept hs2) hs2

theorem State.lutr_kept {s : State} {j : Nat} (h : s.Kept base) : (s.lutr j).Kept base := by
  unfold State.lutr
  refine unitOp_kept h ?_
  intro _ u hu
  extract_lets _ _ _ _ _ _ _ _ _ _ _ _ _ _ _ put
  have hput : ∀ u0 : State, u0.Kept base → ∀ x1, (put u0 x1).Kept base := fun _ hs _ => putAll_kept hs
  refine ite_kept (trapHere_kept hu) (ite_kept (trapHere_kept hu) (ite_kept (ctTrap_kept hu)
      (ite_kept hu ?_)))
  split
  next s2 e =>
    have hs2 : s2.Kept base := snd_kept e (evkUses_kept hu)
    exact ite_kept (trap_kept hs2) (silent_kept (foldl_kept hput hs2))

/-! ## The mask class (R215 to R217) -/

theorem State.expandEntry_kept {s : State} {j : Nat} {o : TOps} {x : Round} (h : s.Kept base) :
    (s.expandEntry j o x).Kept base := by
  unfold State.expandEntry
  split
  · exact report_kept h
  · refine ite_kept h ?_
    extract_lets _ s1
    have hs1 : s1.Kept base := updRound_kept (expand0_kept h)
    exact enqueue_kept hs1

theorem State.expandParts_kept {s : State} {j : Nat} {o : TOps} {x : Round} (h : s.Kept base) :
    (s.expandParts j o x).Kept base := by
  unfold State.expandParts
  extract_lets
  split
  · exact report_kept h
  · refine ite_kept (report_kept h) (ite_kept h ?_)
    extract_lets s1 s2
    have hs1 : s1.Kept base := foldl_kept (fun _ hs _ => expandBlock_kept hs) h
    have hs2 : s2.Kept base := updRound_kept hs1
    exact deadRound_kept (enqueue_kept (askLoads_kept hs2))

theorem State.expand_kept {s : State} {j : Nat} (h : s.Kept base) : (s.expand j).Kept base := by
  unfold State.expand
  refine issue_kept h ?_
  intro _ _ u hu
  extract_lets
  refine ite_kept (trapHere_kept hu) ?_
  split
  · exact report_kept hu
  · exact ite_kept (report_kept hu) (ite_kept (report_kept hu) (ite_kept (expandParts_kept
      (loadShareModulus_kept hu)) (expandEntry_kept (loadShareModulus_kept hu))))

theorem State.seedRecords_kept {s : State} {x : Round} {m : Msg} (h : s.Kept base) :
    (s.seedRecords x m).2.Kept base := by
  unfold State.seedRecords
  split
  · extract_lets _ s1 s2 s3 s4 s5
    have hs1 : s1.Kept base := updRound_kept h
    have hs2 : s2.Kept base := ite_kept (raiseOnce_kept hs1) hs1
    have hs3 : s3.Kept base := ite_kept (raise_kept hs2) hs2
    have hs4 : s4.Kept base := ite_kept (raise_kept hs3) hs3
    have hs5 : s5.Kept base := by
      unfold s5
      split
      · exact ite_kept (progress_kept hs4) hs4
      · exact hs4
    exact hs5

theorem State.seedrec_kept {s : State} {j : Nat} (h : s.Kept base) : (s.seedrec j).Kept base := by
  unfold State.seedrec
  refine unitOp_kept h ?_
  intro _ u hu
  split
  · exact report_kept hu
  · refine ite_kept (report_kept hu) ?_
    split
    next s1 e =>
      have hs1 : s1.Kept base := snd_kept e (seedRecords_kept (loadShareModulus_kept hu))
      exact report_kept hs1

theorem State.prgh_kept {s : State} {j : Nat} (h : s.Kept base) : (s.prgh j).Kept base := by
  unfold State.prgh
  refine unitOp_kept h ?_
  intro _ u hu
  extract_lets _ _ _ _ _ _ _ src s1 _ s2
  have hsrc : src.Kept base := putAll_kept hu
  clear_value src
  have hs1 : s1.Kept base := hsrc
  have hs2 : s2.Kept base := ite_kept hs1 (askLoads_kept hs1)
  exact ite_kept (ctTrap_kept hu) (ite_kept (trapHere_kept hu) (ite_kept (report_kept hu)
      (ite_kept hu (report_kept hs2))))

/-! ## The release gate after its checks (R162 to R172, R222 to R226) -/

theorem State.noiseTile_kept {s : State} {r : Round} {tab : List Nat} {k l t : Nat} (h : s.Kept base) :
    (s.noiseTile r tab k l t).Kept base := by
  unfold State.noiseTile
  extract_lets
  exact ite_kept (ite_kept (addTile_kept h) h) (addTile_kept h)

theorem State.noiseStep5_kept {s : State} {r : Round} {tab : List Nat} {l : Nat} (h : s.Kept base) :
    (s.noiseStep5 r tab l).2.Kept base := by
  unfold State.noiseStep5
  extract_lets t key
  clear_value key
  split
  next ok s1 e =>
    have hs1 : s1.Kept base := snd_kept e (verify_kept h)
    refine ite_snd_kept hs1 ?_
    extract_lets leaf s2
    have hs2 : s2.Kept base := updRound_kept hs1
    split
    · exact ite_snd_kept hs2 (noiseTile_kept hs2)
    · exact hs2

theorem State.noiseTiles_kept {s : State} {r : Round} {tab l : List Nat} (h : s.Kept base) :
    (s.noiseTiles r tab l).2.Kept base := by
  induction l generalizing s with
  | nil =>
    unfold State.noiseTiles
    exact h
  | cons x xs ih =>
    unfold State.noiseTiles
    split
    next s2 e =>
      have hs2 : s2.Kept base := snd_kept e (noiseStep5_kept h)
      exact ite_snd_kept (ih hs2) hs2

theorem State.noise_kept {s : State} {j : Nat} (h : s.Kept base) : (s.noise j).Kept base := by
  unfold State.noise
  refine issue_kept h ?_
  intro _ _ u hu
  extract_lets
  split
  · exact trapHere_kept hu
  · refine ite_kept (trapHere_kept hu) (ite_kept (trapHere_kept hu) ?_)
    extract_lets
    refine ite_kept hu ?_
    split
    next s2 e =>
      have hs2 : s2.Kept base := snd_kept e (noiseTiles_kept hu)
      extract_lets s21 s3
      have hs21 : s21.Kept base := updRound_kept hs2
      have hs3 : s3.Kept base := enqueue_kept (ite_kept hs21 (askLoads_kept hs21))
      exact ite_kept (deadRound_kept hs3) (abandon_kept hs3)

theorem State.plyCompare_kept {s : State} {f r : Nat} (h : s.Kept base) : (s.plyCompare f r).Kept base := by
  unfold State.plyCompare
  split
  · exact h
  · split
    · exact ite_kept h (ite_kept (verdict_kept h) (abandon_kept (verdict_kept h)))
    · exact h

theorem State.plyFormed_kept {s : State} {f r digest : Nat} (h : s.Kept base) :
    (s.plyFormed f r digest).Kept base := by
  unfold State.plyFormed
  extract_lets s1
  have hs1 : s1.Kept base := updRound_kept h
  split
  · exact hs1
  · exact plyCompare_kept (mirror_kept hs1)

theorem State.noiseDone_kept {s : State} {f r : Nat} {ps : List Nat} (h : s.Kept base) :
    (s.noiseDone f r ps).Kept base := by
  unfold State.noiseDone
  extract_lets s1 s2
  have hs1 : s1.Kept base := updRound_kept h
  have hs2 : s2.Kept base := progress_kept (updRound_kept hs1)
  split
  · exact hs1
  · exact ite_kept (ite_kept (plyFormed_kept hs2) hs2) hs1

theorem State.putOutput_kept {s : State} {t : Nat} {g : TileTag} {bs : Bytes} (h : s.Kept base) :
    (s.putOutput t g bs).Kept base := by
  unfold State.putOutput
  extract_lets s1 _ _ s2
  have hs1 : s1.Kept base := putTile_kept (newEpoch_kept h)
  have hs2 : s2.Kept base := setTag_kept hs1
  exact wrote_kept (setTag_kept hs2)

theorem State.decodeTile_kept {s : State} {r : Round} {a b : Nat} (h : s.Kept base) :
    (s.decodeTile r a b).2.2.Kept base := by
  unfold State.decodeTile
  split
  next ok s1 e =>
    have hs1 : s1.Kept base := snd_kept e (verify_kept h)
    extract_lets g n mode err l hgt noisy bound drop es d s2 s3
    clear_value l
    have hs2 : s2.Kept base := putOutput_kept (updRound_kept hs1)
    have hs3 : s3.Kept base := by
      unfold s3
      split
      · exact updRound_kept hs2
      · exact hs2
    split
    · exact updRound_kept hs1
    · exact hs3

theorem State.decodeTiles_kept {s : State} {r : Round} {l : List (Nat × Nat)} (h : s.Kept base) :
    (s.decodeTiles r l).2.2.Kept base := by
  induction l generalizing s with
  | nil => exact h
  | cons p l ih =>
    rw [State.decodeTiles]
    exact pair_kept (pair_kept (ih (decodeTile_kept h)))

theorem State.stopRelease_kept {s : State} {f r code : Nat} (h : s.Kept base) :
    (s.stopRelease f r code).Kept base := by
  unfold State.stopRelease
  split
  · exact h
  · exact ite_kept (abandon_kept h) (updRound_kept h)

theorem State.decode_kept {s : State} {j : Nat} (h : s.Kept base) : (s.decode j).Kept base := by
  unfold State.decode
  refine unitOpE_kept h ?_
  intro o u hu
  extract_lets
  split
  · exact trapHere_kept hu
  · refine ite_kept (trapHere_kept hu) (ite_kept (trapHere_kept hu) (ite_kept (trapHere_kept
      hu) (ite_kept hu ?_)))
    split
    next s2 e =>
      have hs2 : s2.Kept base := snd_snd_kept e (decodeTiles_kept hu)
      extract_lets _ s21
      have hs21 : s21.Kept base := report_kept hs2
      exact ite_kept (stopRelease_kept hs21) hs21

theorem State.sendTo_kept {s : State} {r : Round} {d : Dest} {sp : Option Nat} {bs : Bytes} (h : s.Kept base) :
    (s.sendTo r d sp bs).Kept base := by
  unfold State.sendTo
  extract_lets s1
  have hs1 : s1.Kept base := by
    unfold s1
    split
    · exact hostPut_kept h
    · extract_lets s0
      have hs0 : s0.Kept base := post_kept h
      split
      · exact updSpin_kept hs0
      · exact hs0
    · exact h
  exact updRound_kept hs1

theorem State.release_kept {s : State} {j : Nat} (h : s.Kept base) : (s.release j).Kept base := by
  unfold State.release
  refine unitOp_kept h ?_
  intro _ u hu
  split
  · exact trapHere_kept hu
  · extract_lets _ _ _ _ _ _ s1
    have hs1 : s1.Kept base := enqueue_kept hu
    exact ite_kept (trapHere_kept hu) (ite_kept (trapHere_kept hu) (ite_kept hu (ite_kept
        (abandon_kept hs1) (updRound_kept hs1))))

theorem State.sendTiles_kept {s : State} {f r : Nat} {d : Dest} {sp l : Nat} {l1 : List (Nat × Bytes)}
    (h : s.Kept base) : (s.sendTiles f r d sp l l1).2.Kept base := by
  induction l1 generalizing s l with
  | nil =>
    unfold State.sendTiles
    exact h
  | cons x xs ih =>
    unfold State.sendTiles
    split
    · exact h
    · split
      next s2 e =>
        have hs2 : s2.Kept base := snd_kept e (verify_kept h)
        split
        · exact hs2
        · refine ite_snd_kept hs2 ?_
          extract_lets _ _ s21 s3
          have hs21 : s21.Kept base := sendTo_kept hs2
          have hs3 : s3.Kept base := updRound_kept hs21
          exact ih hs3

theorem State.sendCt_kept {s : State} {f r : Nat} {d : Dest} {sp i : Nat} (h : s.Kept base) :
    (s.sendCt f r d sp i).2.Kept base := by
  unfold State.sendCt
  split
  · exact h
  · extract_lets
    split
    next s2 e =>
      have hs2 : s2.Kept base := snd_kept e (verifyAll_kept h)
      refine ite_snd_kept hs2 ?_
      extract_lets _ _ s21
      have hs21 : s21.Kept base := sendTo_kept hs2
      exact updRound_kept hs21

theorem State.sendRows_kept {s : State} {f r : Nat} {d : Dest} {sp : Nat} (h : s.Kept base) :
    (s.sendRows f r d sp).Kept base := by
  unfold State.sendRows
  split
  · exact h
  · refine ite_kept h ?_
    extract_lets
    exact updRound_kept (sendTo_kept h)

theorem State.releaseRun_kept {s : State} {f r j : Nat} {e : UnitEntry} {d : Dest} (h : s.Kept base) :
    (s.releaseRun f r j e d).Kept base := by
  unfold State.releaseRun
  split
  · exact h
  · extract_lets _ s1
    have hs1 : s1.Kept base := sendRows_kept (updRound_kept h)
    split
    · exact abandon_kept h
    · exact updRound_kept h
    · split
      next s2 e1 =>
        have hs2 : s2.Kept base := snd_kept e1 (ite_snd_kept (sendCt_kept hs1) (sendTiles_kept hs1))
        exact ite_kept (stopRelease_kept hs2) (ite_kept (updRound_kept hs2) hs2)

theorem State.trailerDone_kept {s : State} {f r : Nat} (h : s.Kept base) : (s.trailerDone f r).Kept base := by
  unfold State.trailerDone
  split
  · exact h
  · refine ite_kept h ?_
    extract_lets _ _ s1
    have hs1 : s1.Kept base := ite_kept h (sendTo_kept h)
    refine ite_kept h ?_
    split
    · exact abandon_kept hs1
    · exact released_kept (mirror_kept hs1)

theorem State.destTimeout_kept {s : State} {f r : Nat} (h : s.Kept base) : (s.destTimeout f r).Kept base := by
  unfold State.destTimeout
  split
  · exact h
  · exact ite_kept (abandon_kept h) h

theorem State.putPlain_kept {s : State} {r : Round} {ms : List (List Nat)} (h : s.Kept base) :
    (s.putPlain r ms).Kept base := by
  unfold State.putPlain
  extract_lets
  refine foldl_kept ?_ h
  intro u hu _
  extract_lets _ _ s1
  have hs1 : s1.Kept base := setElems_kept (zeroTile_kept hu)
  exact wrote_kept (setTag_kept hs1)

theorem State.jointDone_kept {s : State} {f r : Nat} (h : s.Kept base) : (s.jointDone f r).Kept base := by
  unfold State.jointDone
  split
  · exact h
  · extract_lets
    exact ite_kept h (ite_kept (abandon_kept h) (gateChecks_kept (updRound_kept
        (putPlain_kept h))))

theorem State.partialOn_kept {s : State} {x : Round} {msg : Bytes} (h : s.Kept base) :
    (s.partialOn x msg).Kept base := by
  unfold State.partialOn
  extract_lets _ _ _ s1
  have hs1 : s1.Kept base := updRound_kept (count_kept h)
  exact ite_kept h (ite_kept (refuseMsg_kept h) (ite_kept (raise_kept (count_kept h))
      (ite_kept h (jointDone_kept (mirror_kept hs1)))))

theorem State.partialMsg_kept {s : State} {f qpn : Nat} {msg : Bytes} (h : s.Kept base) :
    (s.partialMsg f qpn msg).Kept base := by
  unfold State.partialMsg
  split
  · exact h
  · exact ite_kept h (partialOn_kept h)

theorem State.partialTimeout_kept {s : State} {f r : Nat} (h : s.Kept base) : (s.partialTimeout f r).Kept base := by
  unfold State.partialTimeout
  split
  · exact h
  · exact ite_kept (abandon_kept h) h

/-! ## APPLY (R46, R47, R227, R228) -/

theorem State.setRun_kept {s : State} {a : ApplyOp} {run : List Nat} {j x : Nat} (h : s.Kept base) :
    (s.setRun a run j x).Kept base :=
  setElem_kept h

theorem State.applyElem_kept {s : State} {a : ApplyOp} {sc t i : Nat} (h : s.Kept base) :
    (s.applyElem a sc t i).2.Kept base := by
  unfold State.applyElem
  extract_lets
  exact ite_snd_kept (setRun_kept (setRun_kept (setRun_kept h))) (setRun_kept (setRun_kept h))

theorem State.applyTile_kept {s : State} {a : ApplyOp} {sc t n i : Nat} (h : s.Kept base) :
    (s.applyTile a sc t n i).2.Kept base := by
  induction n generalizing s i with
  | zero => exact h
  | succ n ih =>
    rw [State.applyTile]
    exact pair_kept (ih (applyElem_kept h))

theorem State.resum_kept {s : State} {t : Nat} (h : s.Kept base) : (s.resum t).Kept base :=
  wrote_kept (setTag_kept h)

theorem State.applyTiles_kept {s : State} {a : ApplyOp} {sc : Nat} {l : List Nat} (h : s.Kept base) :
    (s.applyTiles a sc l).2.Kept base := by
  induction l generalizing s with
  | nil =>
    unfold State.applyTiles
    exact h
  | cons x xs ih =>
    unfold State.applyTiles
    split
    next s1 e =>
      have hs1 : s1.Kept base := snd_kept e (applyTile_kept h)
      extract_lets s2
      have hs2 : s2.Kept base := foldl_kept (fun _ hs _ => resum_kept hs) hs1
      split
      next s11 e1 =>
        have hs11 : s11.Kept base := snd_kept e1 (ih hs2)
        exact hs11

theorem State.apply_kept {s : State} {j : Nat} (h : s.Kept base) : (s.apply j).Kept base := by
  unfold State.apply
  refine unitOpE_kept h ?_
  intro o u hu
  extract_lets
  split
  · exact trapHere_kept hu
  · exact trapHere_kept hu
  · refine ite_kept (trapHere_kept hu) (ite_kept (trapHere_kept hu) (ite_kept (trapHere_kept
      hu) ?_))
    extract_lets
    exact ite_kept hu (enqueue_kept (updRound_kept hu))

theorem State.applyRun_kept {s : State} {r : Round} {e : UnitEntry} (h : s.Kept base) :
    (s.applyRun r e).2.Kept base := by
  unfold State.applyRun
  extract_lets
  exact applyTiles_kept h

/-! ## The sync class (R195, R229, R300) -/

theorem State.syncDone_kept {s : State} {j w code : Nat} (h : s.Kept base) : (s.syncDone j w code).Kept base :=
  advance_kept (updSpin_kept h (fun _ hx => by simpa using hx))

theorem State.waitc_kept {s : State} {j : Nat} (h : s.Kept base) : (s.waitc j).Kept base := by
  unfold State.waitc
  refine issue_kept h ?_
  intro _ _ u hu
  extract_lets
  refine ite_kept (syncDone_kept hu) (ite_kept (syncDone_kept hu) ?_)
  split
  · exact hu
  · exact updSpin_kept hu

theorem State.waitTimeout_kept {s : State} {j : Nat} (h : s.Kept base) : (s.waitTimeout j).Kept base := by
  unfold State.waitTimeout
  split
  · refine issue_kept h ?_
    intro _ _ u hu
    extract_lets
    exact ite_kept (syncDone_kept hu) (ite_kept (syncDone_kept hu) hu)
  · exact h

theorem State.signal_kept {s : State} {j : Nat} (h : s.Kept base) : (s.signal j).Kept base := by
  unfold State.signal
  refine issue_kept h ?_
  intro _ _ u hu
  extract_lets
  exact advance_kept (updSpin_kept hu)

theorem State.signalApply_kept {s : State} {j : Nat} (h : s.Kept base) : (s.signalApply j).Kept base := by
  unfold State.signalApply
  extract_lets
  split
  · exact ite_kept h (updSpin_kept (ctrAdd_kept h))
  · exact h

theorem State.fence_kept {s : State} {j : Nat} (h : s.Kept base) : (s.fence j).Kept base := by
  unfold State.fence
  refine issue_kept h ?_
  intro _ _ u hu
  extract_lets _ _ _ _ _ s1
  have hs1 : s1.Kept base := ite_kept (foldl_kept (fun _ hs _ => pagesBack_kept hs) (foldl_kept (fun _
      hs _ => writeBack_kept hs) hu)) hu
  refine ite_kept (updSpin_kept hu) ?_
  split
  · exact trap_kept hs1
  · exact advance_kept hs1

theorem State.gate_kept {s : State} {j : Nat} (h : s.Kept base) : (s.gate j).Kept base := by
  unfold State.gate
  refine issue_kept h ?_
  intro x0 _ u hu
  extract_lets _ _ s0 upd
  have hs0 : s0.Kept base := by
    unfold s0
    split
    · exact hu
    · exact updSpin_kept hu
  clear_value s0
  have hupd : ∀ x0, ∀ u1 : State, u1.Kept base → (upd x0 u1).Kept base := fun _ _ hs => hs
  refine ite_kept hs0 ?_
  split
  · exact hs0
  · exact ite_kept hs0 (ite_kept (hupd _ _ (raiseOwn_kept hs0)) (hupd _ _ hs0))

theorem State.leaveGate_kept {s : State} {j code : Nat} (h : s.Kept base) : (s.leaveGate j code).Kept base := by
  unfold State.leaveGate
  split
  · exact syncDone_kept h
  · exact h

theorem State.gateRelease_kept {s : State} {f n : Nat} (h : s.Kept base) : (s.gateRelease f n).Kept base := by
  unfold State.gateRelease
  split
  · exact h
  · refine ite_kept h ?_
    extract_lets s1
    have hs1 : s1.Kept base := foldl_kept (fun _ hs _ => leaveGate_kept hs) h
    exact ite_kept (bump_kept (raiseOwn_kept hs1)) hs1

theorem State.gateTimeout_kept {s : State} {j : Nat} (h : s.Kept base) : (s.gateTimeout j).Kept base := by
  unfold State.gateTimeout
  split
  · refine issue_kept h ?_
    intro _ _ u hu
    extract_lets
    split
    · exact ite_kept (gateRelease_kept hu) (ite_kept (syncDone_kept hu) hu)
    · exact ite_kept (syncDone_kept hu) hu
  · exact h

/-! ## The system class (R192, R196, R201, R230) -/

theorem State.trapInsn_kept {s : State} {j : Nat} (h : s.Kept base) : (s.trapInsn j).Kept base :=
  issue_kept h (fun _ _ _ hs => trapHere_kept hs)

theorem State.trapReturn_kept {s : State} {j : Nat} (h : s.Kept base) : (s.trapReturn j).Kept base := by
  unfold State.trapReturn
  refine issue_kept h ?_
  intro _ _ u hu
  extract_lets
  exact ite_kept (trapHere_kept hu) (updSpin_kept (advance_kept hu))

theorem State.halt_kept {s : State} {j : Nat} (h : s.Kept base) : (s.halt j).Kept base :=
  issue_kept h (fun _ _ _ hs => updSpin_kept hs)

theorem State.haltDone_kept {s : State} {j : Nat} (h : s.Kept base) : (s.haltDone j).Kept base := by
  unfold State.haltDone
  extract_lets
  exact ite_kept (updSpin_kept (advance_kept h)) h

theorem State.stepTo_kept {s : State} {j stepc : Nat} (h : s.Kept base) : (s.stepTo j stepc).Kept base :=
  updSpin_kept (advance_kept h)

theorem State.step_kept {s : State} {j : Nat} (h : s.Kept base) : (s.step j).Kept base := by
  unfold State.step
  refine issue_kept h ?_
  intro _ _ u hu
  extract_lets
  exact ite_kept (updSpin_kept hu) (ite_kept (trapHere_kept hu) (stepTo_kept hu))

theorem State.stepSet_kept {s : State} {j : Nat} (h : s.Kept base) : (s.stepSet j).Kept base := by
  unfold State.stepSet
  refine issue_kept h ?_
  intro _ _ u hu
  extract_lets
  exact ite_kept (updSpin_kept hu) (ite_kept (trapHere_kept hu) (stepTo_kept hu))

theorem State.lockkeeperWatchdog_kept {s : State} {j : Nat} (h : s.Kept base) :
    (s.lockkeeperWatchdog j).Kept base := by
  unfold State.lockkeeperWatchdog
  extract_lets
  exact ite_kept (trap_kept h) h

/-! ## Program images and program control (R198 to R201) -/

theorem State.loadOn_kept {s : State} {b : Bytes} {sel : List Nat} {firmware : Bool} (h : s.Kept base) :
    (s.loadOn b sel firmware).Kept base :=
  foldl_kept (fun _ hs _ => updSpin_kept hs (fun _ _ => writeBytes_wf [] 0 _ rfl)) h

theorem State.progDone_kept {s : State} {f code : Nat} (h : s.Kept base) : (s.progDone f code).Kept base := by
  unfold State.progDone
  extract_lets s1
  have hs1 : s1.Kept base := wr_kept (wr_kept h)
  exact ite_kept (raiseOwn_kept hs1) hs1

theorem State.progCmd_kept {s : State} {f : Nat} {body : State → State} (h : s.Kept base)
    (hbody : ∀ u, u.Kept base → (body u).Kept base) : (s.progCmd f body).Kept base := by
  unfold State.progCmd
  exact funcCmd_kept h (fun _ hs => ite_kept (flag_kept hs) (ite_kept (progDone_kept hs) (hbody _
      hs)))

theorem State.loadImage_kept {s : State} {f : Nat} {img : Option Bytes} (h : s.Kept base) :
    (s.loadImage f img).Kept base := by
  unfold State.loadImage
  refine progCmd_kept h ?_
  intro u hu
  split
  · exact progDone_kept hu
  · extract_lets
    exact ite_kept (progDone_kept hu) (progDone_kept (wr_kept (loadOn_kept hu)))

theorem State.onSelected_kept {s : State} {f : Nat} {from_ : List SpState} {g : Spindle → Spindle} (h : s.Kept base)
    (hg : KeepsScratch g := by exact fun _ hx => hx) : (s.onSelected f from_ g).Kept base := by
  unfold State.onSelected
  extract_lets
  exact ite_kept (progDone_kept h) (progDone_kept (foldl_kept (fun _ hs _ => updSpin_kept hs hg) h))

theorem State.start_kept {s : State} {f : Nat} (h : s.Kept base) : (s.start f).Kept base :=
  progCmd_kept h (fun _ hs => onSelected_kept hs)

theorem State.stop_kept {s : State} {f : Nat} (h : s.Kept base) : (s.stop f).Kept base := by
  unfold State.stop
  refine progCmd_kept h ?_
  intro u hu
  extract_lets
  exact ite_kept (progDone_kept hu) (settleBusy_kept (wr_kept (foldl_kept (fun _ hs _ =>
      updSpin_kept hs (fun _ hx => by simpa using hx)) hu)))

theorem State.spindleStopped_kept {s : State} {j : Nat} (h : s.Kept base) : (s.spindleStopped j).Kept base := by
  unfold State.spindleStopped
  extract_lets
  exact ite_kept (settleBusy_kept (updSpin_kept h)) h

theorem State.resume_kept {s : State} {f : Nat} (h : s.Kept base) : (s.resume f).Kept base :=
  progCmd_kept h (fun _ hs => onSelected_kept hs)

theorem State.unloadSpin_kept {s : State} {j : Nat} (h : s.Kept base) : (s.unloadSpin j).Kept base :=
  updSpin_kept h (fun _ hx => by
    split
    · exact hx
    · rfl)

theorem State.unload_kept {s : State} {f : Nat} (h : s.Kept base) : (s.unload f).Kept base := by
  unfold State.unload
  refine progCmd_kept h ?_
  intro u hu
  extract_lets
  exact ite_kept (progDone_kept hu) (settleBusy_kept (wr_kept (foldl_kept (fun _ hs _ =>
      unloadSpin_kept hs) hu)))

/-! ## Norm checks of mode 3 (R129 to R132) -/

theorem State.foldCt_kept {s : State} {d : CtDesc} {c : Ct} (h : s.Kept base) : (s.foldCt d c).Kept base := by
  unfold State.foldCt
  extract_lets
  refine foldl_kept ?_ h
  intro u hu _
  refine foldl_kept ?_ hu
  intro u1 hu1 _
  refine foldl_kept ?_ hu1
  intro u2 hu2 _
  extract_lets _ _ _ s1
  have hs1 : s1.Kept base := setTag_kept hu2
  exact addTile_kept hs1

theorem State.updQuery_kept {s : State} {f h : Nat} {g : Query → Query} (hs : s.Kept base) :
    (s.updQuery f h g).Kept base :=
  hs

theorem State.keepReturn_kept {s : State} {f r qid : Nat} {d : QDecision} (h : s.Kept base) :
    (s.keepReturn f r qid d).Kept base :=
  updRound_kept h

theorem State.decide_kept {s : State} {f h : Nat} {d : QDecision} (hs : s.Kept base) :
    (s.decide_ f h d).Kept base := by
  unfold State.decide_
  split
  · exact hs
  · extract_lets s1
    have hs1 : s1.Kept base := keepReturn_kept (updQuery_kept hs)
    split
    · exact ctrAdd_kept hs1
    · exact hs1

theorem State.startQuery_kept {s : State} {x : Round} {m : Msg} {h : Nat} {ctr : Option Nat} {key relin conj : Nat}
    (hs : s.Kept base) : (s.startQuery x m h ctr key relin conj).Kept base := by
  unfold State.startQuery
  extract_lets
  split
  next msg qid neg e =>
    extract_lets kept send q s1 s2
    have hs2 : s2.Kept base := updLive_kept (s := s1) hs
    clear_value kept
    refine ite_kept (decide_kept hs2) (ite_kept (decide_kept hs2) ?_)
    split
    · exact decide_kept hs2
    · exact ite_kept (post_kept hs2) hs2

theorem State.finishQuery_kept {s : State} {f h : Nat} (hs : s.Kept base) : (s.finishQuery f h).Kept base := by
  unfold State.finishQuery
  split
  · exact hs
  · extract_lets s0
    have hs0 : s0.Kept base := hs
    split
    · exact hs0
    · extract_lets _ _ _ s1 _ s11 _ s2
      have hs1 : s1.Kept base := foldl_kept (fun _ hs1 _ => foldCt_kept hs1) hs0
      have hs11 : s11.Kept base := evkUse_kept hs0
      have hs2 : s2.Kept base := foldl_kept (fun _ hs2 _ => foldCt_kept hs2) hs11
      exact ite_kept (slotDone_kept (updRound_kept hs1)) (slotDone_kept (updRound_kept
          (foldCt_kept hs2)))

theorem State.committeeReturn_kept {s : State} {f qpn : Nat} {msg : Bytes} (h : s.Kept base) :
    (s.committeeReturn f qpn msg).Kept base := by
  unfold State.committeeReturn
  split
  · exact raise_kept h
  · split
    · exact raise_kept h
    · exact ite_kept (raise_kept h) (decide_kept (mirror_kept h))

theorem State.nlExpire_kept {s : State} {f h : Nat} (hs : s.Kept base) : (s.nlExpire f h).Kept base := by
  unfold State.nlExpire
  split
  · exact hs
  · split
    · exact hs
    · extract_lets
      exact decide_kept (mirror_kept (raise_kept hs))

theorem State.nlTimeout_kept {s : State} {f handle : Nat} (h : s.Kept base) : (s.nlTimeout f handle).Kept base := by
  unfold State.nlTimeout
  exact ite_kept (nlExpire_kept h) h

/-! ## Opening a round (R75 to R78, R387) -/

theorem State.roundKeyed_kept {s : State} {f r seed scalar kem : Nat} (h : s.Kept base) :
    (s.roundKeyed f r seed scalar kem).Kept base := by
  unfold State.roundKeyed
  split
  · exact h
  · extract_lets _ _ s1
    have hs1 : s1.Kept base := updRound_kept h
    exact emit_kept hs1

theorem State.mirrorOpen_kept {s : State} {f r : Nat} (h : s.Kept base) : (s.mirrorOpen f r).Kept base := by
  unfold State.mirrorOpen
  split
  · exact h
  · exact mirror_kept h

theorem State.roundDrawn_kept {s : State} {f r : Nat} {ws : List Word} (h : s.Kept base) :
    (s.roundDrawn f r ws).Kept base := by
  unfold State.roundDrawn
  split
  · exact h
  · refine ite_kept (mirrorOpen_kept (roundKeyed_kept h)) ?_
    extract_lets
    exact ite_kept (mirrorOpen_kept (roundKeyed_kept h)) (ask_kept (updRound_kept h))

theorem State.takeOpen_kept {s : State} {f r : Nat} (h : s.Kept base) : (s.takeOpen f r).Kept base := by
  unfold State.takeOpen
  split
  · exact ite_kept h (ite_kept (verdict_kept (roundKeyed_kept h)) (verdict_kept (abandon_kept
      h)))
  · exact h

theorem State.zeroRound_kept {s : State} {f r : Nat} (h : s.Kept base) : (s.zeroRound f r).Kept base := by
  unfold State.zeroRound
  split
  · exact h
  · exact ite_kept h (updRound_kept (foldl_kept (fun _ hs _ => newEpoch_kept hs) h))

theorem State.clearDir_kept {s : State} {c : RoundCfg} (h : s.Kept base) : (s.clearDir c).Kept base := by
  unfold State.clearDir
  split
  · exact ite_kept (foldl_kept (fun _ hs _ => retag_kept (wrote_kept (zeroTile_kept hs))) h) h
  · exact h

theorem State.openAccepted_kept {s : State} {f : Nat} {c : RoundCfg} {basic : Bool} {ctr : Option Nat}
    {series lag deadline digest : Nat} (h : s.Kept base) :
    (s.openAccepted f c basic ctr series lag deadline digest).Kept base := by
  unfold State.openAccepted
  split
  · extract_lets _ _ _ src s1 s2 s3
    have hsrc : src.Kept base := dropLeaves_kept h
    clear_value src
    have hs1 : s1.Kept base := updFn_kept hsrc
    have hs2 : s2.Kept base := zeroRound_kept (clearDir_kept hs1)
    have hs3 : s3.Kept base := ite_kept (takeOpen_kept hs2) (ask_kept hs2)
    exact deadRound_kept hs3
  · exact h

theorem State.openRound_kept {s : State} {f : Nat} {rec_ : Bytes} {basic : Bool} {bound : Nat} {ctr : Option Nat}
    (h : s.Kept base) : (s.openRound f rec_ basic bound ctr).2.Kept base := by
  unfold State.openRound
  split
  · exact h
  · extract_lets
    exact ite_snd_kept (ite_kept (verdict_kept h) h) (openAccepted_kept h)

theorem State.roundEnterOpen_kept {s0 : State} {f r : Nat} (h : s0.Kept base) :
    (s0.roundEnterOpen f r).Kept base := by
  unfold State.roundEnterOpen
  extract_lets s
  have hs : s.Kept base := ite_kept (zeroRound_kept h) h
  split
  · exact hs
  · exact ite_kept (enter_kept hs) hs

theorem State.takeO_kept {s : State} {j : Nat} (h : s.Kept base) : (s.takeO j).Kept base := by
  unfold State.takeO
  refine issue_kept h ?_
  intro _ _ u hu
  extract_lets
  refine ite_kept (trapHere_kept hu) ?_
  split
  next s1 e =>
    have hs1 : s1.Kept base := snd_kept e (openRound_kept hu)
    exact report_kept hs1

/-! ## What time does to a round (R80, R105 to R108) -/

theorem State.guardTimer_kept {s : State} {f r : Nat} (h : s.Kept base) : (s.guardTimer f r).Kept base := by
  unfold State.guardTimer
  split
  · exact h
  · extract_lets
    exact ite_kept (enter_kept h) h

theorem State.applyCohort_kept {s : State} {f r : Nat} (h : s.Kept base) : (s.applyCohort f r).Kept base := by
  unfold State.applyCohort
  split
  · exact h
  · split
    · exact h
    · extract_lets _ _ _ s1
      have hs1 : s1.Kept base := updRound_kept h
      exact ite_kept (verdict_kept (abandon_kept h)) (ite_kept (verdict_kept hs1) hs1)

theorem State.resolveHold_kept {s : State} {f r : Nat} (h : s.Kept base) : (s.resolveHold f r).Kept base := by
  unfold State.resolveHold
  split
  · exact h
  · refine ite_kept (applyCohort_kept h) ?_
    extract_lets s1
    have hs1 : s1.Kept base := updRound_kept h
    exact ite_kept (mirror_kept (updRound_kept hs1)) (updRound_kept hs1)

theorem State.roundDeadline_kept {s : State} {f r : Nat} (h : s.Kept base) : (s.roundDeadline f r).Kept base := by
  unfold State.roundDeadline
  split
  · exact h
  · refine ite_kept h (ite_kept (ite_kept (verdict_kept (abandon_kept h)) (ite_kept
      (abandon_kept h) (ite_kept (abandon_kept h) (ite_kept (enter_kept h) (abandon_kept
      h))))) (ite_kept ?_ h))
    extract_lets s1
    have hs1 : s1.Kept base := resolveHold_kept (enter_kept h)
    exact ite_kept (abandon_kept hs1) hs1

theorem State.periodicOpen_kept {s : State} {f r : Nat} (h : s.Kept base) : (s.periodicOpen f r).Kept base := by
  unfold State.periodicOpen
  split
  · exact h
  · extract_lets _ _ _ _ s1
    have hs1 : s1.Kept base := updRound_kept h
    exact ite_kept h (ite_kept (raise_kept hs1) (openAccepted_kept hs1))

theorem State.unmaskTimeout_kept {s : State} {f r : Nat} (h : s.Kept base) : (s.unmaskTimeout f r).Kept base := by
  unfold State.unmaskTimeout
  split
  · exact h
  · exact ite_kept (abandon_kept h) h

/-! ## Command rings (R380 to R386) -/

theorem State.updRing_kept {s : State} {f n : Nat} {g : Ring → Ring} (h : s.Kept base) :
    (s.updRing f n g).Kept base :=
  updFn_kept h

theorem State.ringCmd_kept {s : State} {f n : Nat} {body : State → State} (h : s.Kept base)
    (hbody : ∀ u, u.Kept base → (body u).Kept base) : (s.ringCmd f n body).Kept base := by
  unfold State.ringCmd
  exact ite_kept h (funcCmd_kept h (fun _ hs => ite_kept hs (ite_kept (wr_kept hs) (hbody _ hs))))

theorem State.ringFail_kept {s : State} {f n code : Nat} (h : s.Kept base) : (s.ringFail f n code).Kept base :=
  raiseOwn_kept (wr_kept h)

theorem State.ringCreate_kept {s : State} {f n : Nat} (h : s.Kept base) : (s.ringCreate f n).Kept base := by
  unfold State.ringCreate
  refine ringCmd_kept h ?_
  intro u hu
  extract_lets
  refine ite_kept (ringFail_kept hu) ?_
  split
  · exact ringFail_kept hu
  · extract_lets s1
    have hs1 : s1.Kept base := wr_kept (wr_kept (wr_kept (wr_kept (wr_kept (wr_kept hu)))))
    exact updRing_kept hs1

theorem State.ringGone_kept {s : State} {f n : Nat} (h : s.Kept base) : (s.ringGone f n).Kept base :=
  updRing_kept (wr_kept (wr_kept h))

theorem State.ringDestroy_kept {s : State} {f n : Nat} (h : s.Kept base) : (s.ringDestroy f n).Kept base := by
  unfold State.ringDestroy
  exact ringCmd_kept h (fun _ hs => ite_kept hs (ite_kept (wr_kept hs) (ringGone_kept hs)))

theorem State.sqTail_kept {s : State} {f n v : Nat} (h : s.Kept base) : (s.sqTail f n v).Kept base := by
  unfold State.sqTail
  refine ite_kept h (funcCmd_kept h ?_)
  intro u hu
  extract_lets s1
  have hs1 : s1.Kept base := wr_kept hu
  exact ite_kept (ringFail_kept (wr_kept hs1)) hs1

theorem State.postHeld_kept {s : State} {f n : Nat} {l : List Bytes} (h : s.Kept base) :
    (s.postHeld f n l).Kept base := by
  induction l generalizing s with
  | nil =>
    unfold State.postHeld
    exact updRing_kept h
  | cons x xs ih =>
    unfold State.postHeld
    refine ite_kept (updRing_kept h) ?_
    extract_lets _ _ _ _ s1 s2
    have hs1 : s1.Kept base := updRing_kept (hostPut_kept h)
    have hs2 : s2.Kept base := ite_kept hs1 (sendVec_kept (updRing_kept hs1))
    exact ih hs2

theorem State.cqHead_kept {s : State} {f n v : Nat} (h : s.Kept base) : (s.cqHead f n v).Kept base := by
  unfold State.cqHead
  refine ite_kept h (funcCmd_kept h ?_)
  intro u hu
  extract_lets s1
  have hs1 : s1.Kept base := updRing_kept (wr_kept hu)
  exact postHeld_kept hs1

theorem State.takeJob_kept {s : State} {f n : Nat} (h : s.Kept base) : (s.takeJob f n).Kept base := by
  unfold State.takeJob
  extract_lets src
  have hsrc : src.Kept base := updFn_kept (wr_kept h)
  clear_value src
  exact hsrc

theorem State.jobDone_kept {s : State} {f n d code result : Nat} (h : s.Kept base) :
    (s.jobDone f n d code result).Kept base := by
  unfold State.jobDone
  exact ite_kept h (postHeld_kept h)

theorem State.job_kept {s : State} {f n : Nat} {desc : Bytes} {op : Nat} {want : Option Nat} {rec_ : Option Bytes}
    {body : Nat → Bytes → State → (Nat × Nat) × State} (h : s.Kept base)
    (hbody : ∀ x0 x1 u2, u2.Kept base → (body x0 x1 u2).2.Kept base) : (s.job f n desc op want rec_ body).Kept base := by
  unfold State.job
  extract_lets _ _ s1
  have hs1 : s1.Kept base := takeJob_kept h
  refine ite_kept h (ite_kept (jobDone_kept hs1) ?_)
  split
  · exact jobDone_kept hs1
  · split
    next s2 e =>
      have hs2 : s2.Kept base := snd_kept e (hbody _ _ _ hs1)
      exact jobDone_kept hs2

theorem State.job0_kept {s : State} {f n : Nat} {desc : Bytes} {op : Nat}
    {body : Nat → State → (Nat × Nat) × State} (h : s.Kept base)
    (hbody : ∀ x0 u1, u1.Kept base → (body x0 u1).2.Kept base) : (s.job0 f n desc op body).Kept base :=
  job_kept h (fun _ _ _ hs => hbody _ _ hs)

theorem State.jobNop_kept {s : State} {f n : Nat} {desc : Bytes} (h : s.Kept base) :
    (s.jobNop f n desc).Kept base := by
  unfold State.jobNop
  extract_lets
  exact ite_kept (job0_kept h (fun _ _ hs => hs)) (ite_kept h (job_kept h (fun _ _ _ hs => hs)))

theorem State.jobStatus_kept {s : State} {f n : Nat} {desc : Bytes} (h : s.Kept base) :
    (s.jobStatus f n desc).Kept base := by
  unfold State.jobStatus
  refine job0_kept h ?_
  intro _ u hu
  split
  · exact hu
  · exact putStatus_kept hu

theorem State.jobAbandon_kept {s : State} {f n : Nat} {desc : Bytes} (h : s.Kept base) :
    (s.jobAbandon f n desc).Kept base := by
  unfold State.jobAbandon
  refine job0_kept h ?_
  intro _ u hu
  extract_lets
  split
  · exact hu
  · exact ite_snd_kept (abandonCmd_kept hu) hu

theorem State.jobSetDest_kept {s : State} {f n : Nat} {desc : Bytes} (h : s.Kept base) :
    (s.jobSetDest f n desc).Kept base := by
  unfold State.jobSetDest
  exact job0_kept h (fun _ _ hs => ite_snd_kept hs (updFn_kept hs))

theorem State.jobSubmit_kept {s : State} {f n : Nat} {desc : Bytes} {rec_ : Option Bytes} (h : s.Kept base) :
    (s.jobSubmit f n desc rec_).Kept base := by
  unfold State.jobSubmit
  refine job_kept h ?_
  intro _ _ u hu
  split
  · exact message_kept hu
  · exact ite_snd_kept hu (message_kept hu)

theorem State.bindFirmware_kept {s : State} {f : Nat} (h : s.Kept base) : (s.bindFirmware f).Kept base := by
  unfold State.bindFirmware
  extract_lets _ s1
  have hs1 : s1.Kept base := loadOn_kept h
  exact foldl_kept (fun _ hs _ => updSpin_kept hs) hs1

theorem State.jobOpen_kept {s : State} {f n : Nat} {desc : Bytes} {rec_ : Option Bytes} (h : s.Kept base) :
    (s.jobOpen f n desc rec_).Kept base := by
  unfold State.jobOpen
  refine job_kept h ?_
  intro _ _ u hu
  split
  · exact hu
  · refine ite_snd_kept hu (ite_snd_kept hu ?_)
    split
    next s1 e =>
      have hs1 : s1.Kept base := snd_kept e (openRound_kept hu)
      exact ite_snd_kept hs1 (bindFirmware_kept hs1)

theorem State.periodicNext_kept {s : State} {f r : Nat} (h : s.Kept base) : (s.periodicNext f r).Kept base := by
  unfold State.periodicNext
  extract_lets _ s1
  have hs1 : s1.Kept base := periodicOpen_kept h
  refine ite_kept hs1 ?_
  split
  · exact ite_kept (abandon_kept hs1) (ite_kept (bindFirmware_kept hs1) (abandon_kept hs1))
  · exact hs1

theorem State.jobApply_kept {s : State} {f n : Nat} {desc : Bytes} {rec_ : Option Bytes} (h : s.Kept base) :
    (s.jobApply f n desc rec_).Kept base := by
  unfold State.jobApply
  refine job_kept h ?_
  intro _ _ u hu
  split
  · exact hu
  · extract_lets
    refine ite_snd_kept hu (ite_snd_kept hu (ite_snd_kept hu ?_))
    split
    next s1 e =>
      have hs1 : s1.Kept base := snd_kept e (applyTiles_kept hu)
      exact hostPut_kept hs1

/-! ## What both directions of a queue pair share (R235 to R246) -/

theorem State.sendCtl_kept {s : State} {qpn : Nat} {l : List CtlPkt} (h : s.Kept base) :
    (s.sendCtl qpn l).Kept base := by
  induction l generalizing s with
  | nil =>
    unfold State.sendCtl
    exact h
  | cons x xs ih =>
    unfold State.sendCtl
    split
    · exact h
    · split
      · split
        · exact h
        · extract_lets
          exact ih (bump_kept (emit_kept (updQp_kept h)))

theorem State.sendControl_kept {s : State} {qpn : Nat} {k : CtlPkt} (h : s.Kept base) :
    (s.sendControl qpn k).Kept base := by
  unfold State.sendControl
  split
  · exact h
  · exact sendCtl_kept (updQp_kept h)

theorem State.sendAck_kept {s : State} {qpn : Nat} (h : s.Kept base) : (s.sendAck qpn).Kept base := by
  unfold State.sendAck
  split
  · exact h
  · exact ite_kept h (updQp_kept (ite_kept h (sendControl_kept h)))

theorem State.sendNak_kept {s : State} {qpn seq code : Nat} (h : s.Kept base) :
    (s.sendNak qpn seq code).Kept base :=
  sendControl_kept h

theorem State.grant_kept {s u : State} {qpn : Nat} (h : s.Kept base) (e : s.grant qpn = some u) : u.Kept base := by
  unfold State.grant at e
  split at e
  · cases e
  · extract_lets room at e
    split at e
    · cases e
    · split at e
      · cases e
      · cases e
        exact updQp_kept h

theorem State.grantPass_kept {s : State} {l : List Nat} (h : s.Kept base) : (s.grantPass l).2.Kept base := by
  induction l generalizing s with
  | nil =>
    unfold State.grantPass
    exact h
  | cons x xs ih =>
    unfold State.grantPass
    extract_lets
    split
    · exact ih h
    next s1 e =>
      have hs1 : s1.Kept base := grant_kept h e
      exact ih (ite_kept (sendAck_kept hs1) hs1)

theorem State.credits_kept {s : State} {k : Nat} (h : s.Kept base) : (s.credits k).Kept base := by
  induction k generalizing s with
  | zero =>
    unfold State.credits
    exact h
  | succ n ih =>
    unfold State.credits
    split
    next s2 e =>
      have hs2 : s2.Kept base := snd_kept e (grantPass_kept h)
      exact ite_kept (ih hs2) hs2

theorem State.creditAll_kept {s : State} (h : s.Kept base) : s.creditAll.Kept base := by
  unfold State.creditAll
  exact ite_kept h (credits_kept h)

theorem State.forwarded_kept {s : State} {f r : Nat} (h : s.Kept base) : (s.forwarded f r).Kept base := by
  unfold State.forwarded
  split
  · exact h
  · refine ite_kept h ?_
    extract_lets s1 s2
    have hs1 : s1.Kept base := released_kept h
    have hs2 : s2.Kept base := by
      unfold s2
      split
      · exact ite_kept hs1 (post_kept hs1)
      · exact hs1
    exact ite_kept hs1 (mirror_kept hs2)

theorem State.roundDones_kept {s : State} {f r : Nat} (h : s.Kept base) : (s.roundDones f r).Kept base := by
  unfold State.roundDones
  extract_lets
  split
  · exact h
  · exact forwarded_kept h

theorem State.twrDoneCtr_kept {s : State} {w : Twr} (h : s.Kept base) : (s.twrDoneCtr w).Kept base := by
  unfold State.twrDoneCtr
  exact ite_kept h (ctrAdd_kept h)

theorem State.fwdDone_kept {s : State} {id : Nat} (h : s.Kept base) : (s.fwdDone id).Kept base := by
  unfold State.fwdDone
  split
  · exact h
  · refine ite_kept h ?_
    extract_lets s1 s2
    have hs1 : s1.Kept base := twrDoneCtr_kept h
    clear_value s1
    have hs2 : s2.Kept base := ite_kept hs1 hs1
    exact roundDones_kept hs2

theorem State.updTwr_kept {s : State} {id : Nat} {g : Twr → Twr} (h : s.Kept base) : (s.updTwr id g).Kept base := h

theorem State.txDone_kept {s : State} {k : TxOwner} (h : s.Kept base) : (s.txDone k).Kept base := by
  unfold State.txDone
  split
  · exact fwdDone_kept (updTwr_kept h)
  · split
    · extract_lets src
      have hsrc : src.Kept base := twrDoneCtr_kept h
      clear_value src
      exact hsrc
    · exact h
  · exact updSpin_kept h
  · exact updSpin_kept h
  · exact h

theorem State.txFail_kept {s : State} {code : Nat} {k : TxOwner} (h : s.Kept base) :
    (s.txFail code k).Kept base := by
  unfold State.txFail
  split
  · exact twrFail_kept h
  · exact twrFail_kept h
  · exact updSpin_kept h
  · exact updSpin_kept h
  · exact h

theorem State.qpEnd_kept {s : State} {qpn : Nat} {st : QpState} {code : Nat} (h : s.Kept base) :
    (s.qpEnd qpn st code).Kept base := by
  unfold State.qpEnd
  split
  · exact h
  · extract_lets s1 _ s2 s3 s4
    have hs1 : s1.Kept base := updQp_kept h
    clear_value s1
    have hs2 : s2.Kept base := hs1
    have hs3 : s3.Kept base := foldl_kept (fun _ hs _ => txFail_kept hs) hs2
    have hs4 : s4.Kept base := foldl_kept (fun _ hs _ => twrFail_kept hs) hs3
    exact ite_kept hs4 (raise_kept hs4)

theorem State.drainCheck_kept {s : State} {qpn : Nat} (h : s.Kept base) : (s.drainCheck qpn).Kept base := by
  unfold State.drainCheck
  split
  · exact h
  · exact ite_kept (qpEnd_kept h) h

theorem State.qpErrorAll_kept {s : State} {code : Nat} {p : Qp → Bool} (h : s.Kept base) :
    (s.qpErrorAll code p).Kept base :=
  foldl_kept (fun _ hs _ => qpEnd_kept hs) h

/-! ## The tile class, drains and combines (R62 to R68, R207 to R212) -/

theorem State.prepare_kept {s : State} {x : Round} {m : Msg} (h : s.Kept base) : (s.prepare x m).2.Kept base := by
  unfold State.prepare
  extract_lets done s1
  have hdone : ∀ u0 : State, u0.Kept base → (done u0).Kept base := fun _ hs => updLive_kept hs
  have hs1 : s1.Kept base := eccSpan_kept h
  refine ite_snd_kept h (ite_snd_kept ?_ (ite_snd_kept (ite_kept (hdone _ hs1) hs1) (ite_kept
      (hdone _ hs1) hs1)))
  split
  next s11 e =>
    have hs11 : s11.Kept base := snd_kept e (sealed2_kept h)
    exact ite_kept (hdone _ hs11) hs11

theorem State.payRead_kept {s : State} {c : RoundCfg} {m : Msg} {cursor n : Nat} (h : s.Kept base) :
    (s.payRead c m cursor n).Kept base := by
  unfold State.payRead
  extract_lets
  exact eccSpan_kept h

theorem State.exclude_kept {s u : State} {x : Round} {m : Msg} {ctr : Option Nat} {step : Nat} {r : Except Nat Nat}
    (h : s.Kept base) (e : s.exclude x m ctr step = some (r, u)) : u.Kept base := by
  unfold State.exclude at e
  split at e
  · cases e
  · extract_lets rk gk at e
    split at e
    · cases e
      exact h
    · split at e
      · cases e
        exact h
      · split at e
        next ok s1 es =>
          have hs1 : s1.Kept base := snd_kept es (ite_snd_kept h (evkUses_kept h))
          split at e
          · cases e
            exact hs1
          · cases e
            exact startQuery_kept hs1

theorem State.markAcc_kept {s : State} {f r : Nat} (h : s.Kept base) : (s.markAcc f r).Kept base :=
  updRound_kept h

theorem State.fold_kept {s : State} {j : Nat} (h : s.Kept base) : (s.fold j).Kept base := by
  unfold State.fold
  refine unitOpE_kept h ?_
  intro o u hu
  split
  · exact report_kept hu
  · refine ite_kept (report_kept hu) (ite_kept (report_kept hu) (ite_kept (ite_kept
      (report_kept hu) ?_) ?_))
    · extract_lets
      refine ite_kept (reportMsg_kept hu) ?_
      split
      · exact hu
      next s1 e =>
        have hs1 : s1.Kept base := exclude_kept hu e
        exact trapHere_kept hs1
      next s1 e =>
        have hs1 : s1.Kept base := exclude_kept hu e
        exact deadRound_kept (enqueue_kept (askLoads_kept hs1))
    · split
      next s1 e =>
        have hs1 : s1.Kept base := snd_kept e (prepare_kept hu)
        refine ite_kept (reportMsg_kept hs1) ?_
        extract_lets _ _ _ _ s2
        have hs2 : s2.Kept base := updLive_kept (takeOff_kept (payRead_kept hs1))
        exact ite_kept (reportMsg_kept hs1) (ite_kept (trapHere_kept hu) (ite_kept
            (trapHere_kept (markAcc_kept hu)) (ite_kept hu (reportMsg_kept (updSpin_kept hs2)))))

theorem State.touchStage_kept {s : State} {t : Nat} (h : s.Kept base) : (s.touchStage t).Kept base := h

theorem State.foldInto_kept {s : State} {f : Nat} {x : Round} {g : FoldSeg} (h : s.Kept base) :
    (s.foldInto f x g).Kept base := by
  unfold State.foldInto
  extract_lets _ _ _ _ _ _ _ s1 s2
  have hs1 : s1.Kept base := addElems_kept (eccSpan_kept (eccTag_kept h))
  have hs2 : s2.Kept base := wrote_kept (setTag_kept hs1)
  exact ite_kept (raise_kept hs2) hs2

theorem State.msgDone_kept {s : State} {x : Round} {m : Msg} (h : s.Kept base) : (s.msgDone x m).Kept base := by
  unfold State.msgDone
  extract_lets s1
  have hs1 : s1.Kept base := slotDone_kept h
  exact ite_kept (updRound_kept hs1) hs1

theorem State.combine_kept {s : State} {own : Option Round} {t : Nat} {g : TileTag} {data : Bytes}
    (h : s.Kept base) : (s.combine own t g data).2.Kept base := by
  unfold State.combine
  extract_lets _ _ _ _ _ _ _ _ _ s1 s2
  have hs1 : s1.Kept base := addElems_kept (eccRead_kept h)
  have hs2 : s2.Kept base := wrote_kept (setTag_kept hs1)
  exact ite_snd_kept h (ite_kept (raise_kept hs2) hs2)

theorem State.combineNow_kept {s : State} {f : Nat} {own : Option Nat} {t : Nat} {record : Bytes}
    {credit : Option (Nat × Nat)} (h : s.Kept base) : (s.combineNow f own t record credit).Kept base := by
  unfold State.combineNow
  extract_lets
  split
  next s1 e =>
    have hs1 : s1.Kept base := snd_kept e (ite_snd_kept (combine_kept h) (ite_kept (markAcc_kept
        h) h))
    refine ite_kept (raise_kept hs1) ?_
    split
    · exact recordDone_kept (updRound_kept hs1)
    · exact updRound_kept hs1
    · exact hs1

theorem State.settleCombines_kept {s : State} (h : s.Kept base) : s.settleCombines.Kept base :=
  foldl_kept (fun _ hs _ => combineNow_kept hs) h

theorem State.join_kept {s : State} {f : Nat} {own : Option Nat} {t e : Nat} {record : Bytes}
    {credit : Option (Nat × Nat)} (h : s.Kept base) : (s.join f own t e record credit).Kept base := by
  unfold State.join
  exact ite_kept (combineNow_kept h) h

theorem State.drainOver_kept {s : State} {d : DrainOut} (h : s.Kept base) : (s.drainOver d).Kept base :=
  updSpin_kept h

theorem State.settleZeros_kept {s : State} (h : s.Kept base) : s.settleZeros.Kept base := by
  unfold State.settleZeros
  exact foldl_kept (fun _ hs _ => ite_kept (drainOver_kept (newEpoch_kept hs)) hs) h

theorem State.settleTiles_kept {s : State} (h : s.Kept base) : s.settleTiles.Kept base :=
  settleCombines_kept (settleZeros_kept h)

theorem State.segRetire_kept {s : State} {j i : Nat} (h : s.Kept base) : (s.segRetire j i).Kept base := by
  unfold State.segRetire
  split
  · refine ite_kept h ?_
    extract_lets s1
    have hs1 : s1.Kept base := updSpin_kept h
    split
    · exact settleTiles_kept (land_kept hs1)
    · extract_lets _ s2 s3 s4
      have hs2 : s2.Kept base := touchStage_kept (foldInto_kept hs1)
      have hs3 : s3.Kept base := by
        unfold s3
        split
        · exact countRow_kept hs2
        · exact hs2
      have hs4 : s4.Kept base := settleTiles_kept (land_kept (updLive_kept hs3))
      split
      · exact ite_kept (msgDone_kept hs4) hs4
      · exact hs4
  · exact h

theorem State.drainRecord_kept {s : State} {j : Nat} {zero : Bool} {pairs : List (Nat × Nat)} (h : s.Kept base) :
    (s.drainRecord j zero pairs).Kept base :=
  foldl_kept (fun _ hu _ => hu) h

theorem State.zero_kept {s : State} {j : Nat} (h : s.Kept base) : (s.zero j).Kept base := by
  unfold State.zero
  refine unitOp_kept h ?_
  intro _ u hu
  extract_lets
  exact ite_kept (ctTrap_kept hu) (ite_kept (trapHere_kept hu) (settleTiles_kept
      (enqueue_kept (drainRecord_kept hu))))

theorem State.copyTile_kept {s : State} {src dst : Nat} (h : s.Kept base) : (s.copyTile src dst).Kept base := by
  unfold State.copyTile
  extract_lets _ s1 _ _ s2 s3
  have hs1 : s1.Kept base := newEpoch_kept h
  have hs2 : s2.Kept base := setTag_kept hs1
  have hs3 : s3.Kept base := wrote_kept (putTile_kept hs2)
  exact ite_kept (lockBytes_kept hs3) hs3

theorem State.copyAll_kept {s : State} {l : List (Nat × Nat)} (h : s.Kept base) : (s.copyAll l).2.Kept base := by
  induction l generalizing s with
  | nil =>
    unfold State.copyAll
    exact h
  | cons x xs ih =>
    unfold State.copyAll
    split
    next s2 e =>
      have hs2 : s2.Kept base := snd_kept e (verify_kept h)
      exact ite_snd_kept (ih (copyTile_kept hs2)) hs2

theorem State.copy_kept {s : State} {j : Nat} (h : s.Kept base) : (s.copy j).Kept base := by
  unfold State.copy
  refine unitOp_kept h ?_
  intro _ u hu
  extract_lets
  refine ite_kept (trapHere_kept hu) (ite_kept (ctTrap_kept hu) (ite_kept (ctTrap_kept hu)
      (ite_kept (trapHere_kept hu) (ite_kept (trapHere_kept hu) (ite_kept (trapHere_kept hu)
      (ite_kept (trapHere_kept hu) (ite_kept hu ?_)))))))
  split
  next s2 e =>
    have hs2 : s2.Kept base := snd_kept e (copyAll_kept hu)
    exact silent_kept hs2

theorem State.chkt_kept {s : State} {j : Nat} (h : s.Kept base) : (s.chkt j).Kept base := by
  unfold State.chkt
  refine unitOp_kept h ?_
  intro _ u hu
  extract_lets
  refine ite_kept hu ?_
  split
  next s2 e =>
    have hs2 : s2.Kept base := snd_kept e (verifyAll_kept hu)
    exact report_kept hs2

theorem State.drainEnded_kept {s : State} {t e : Nat} (h : s.Kept base) : (s.drainEnded t e).Kept base := h

theorem State.drainIssue_kept {s : State} {j : Nat} {o : TOps} {op : UOp} {pairs : List (Nat × Nat)} {qpn : Nat}
    (h : s.Kept base) : (s.drainIssue j o op pairs qpn).Kept base :=
  enqueue_kept (drainRecord_kept h)

theorem State.drain_kept {s : State} {j : Nat} (h : s.Kept base) : (s.drain j).Kept base := by
  unfold State.drain
  refine unitOp_kept h ?_
  intro _ u hu
  extract_lets
  refine ite_kept (trapHere_kept hu) ?_
  split
  · exact trapHere_kept hu
  · exact ite_kept hu (drainIssue_kept hu)

theorem State.drainCombine_kept {s : State} {j : Nat} (h : s.Kept base) : (s.drainCombine j).Kept base := by
  unfold State.drainCombine
  refine unitOp_kept h ?_
  intro _ u hu
  extract_lets
  exact ite_kept (trapHere_kept hu) (ite_kept (trapHere_kept hu) (ite_kept hu
      (drainIssue_kept hu)))

theorem State.drainTile_kept {s : State} {t : Nat} (h : s.Kept base) : (s.drainTile t).2.2.2.Kept base := by
  unfold State.drainTile
  extract_lets s0 _ _ _ s1
  have hs0 : s0.Kept base := eccRead_kept h
  have hs1 : s1.Kept base := newEpoch_kept hs0
  exact ite_kept hs1 (csumFail_kept hs1)

theorem State.drainRead_kept {s : State} {j : Nat} (h : s.Kept base) : (s.drainRead j).Kept base := by
  unfold State.drainRead
  split
  · split
    · exact h
    · refine ite_kept h ?_
      split
      next s1 e =>
        have hs1 : s1.Kept base := snd_snd_snd_kept e (drainTile_kept h)
        extract_lets s2
        have hs2 : s2.Kept base := drainEnded_kept (updSpin_kept hs1)
        exact ite_kept (trapLate_kept (settleTiles_kept hs2)) (ite_kept (settleTiles_kept
            (join_kept hs2)) (updSpin_kept (post_kept (settleTiles_kept hs2))))
  · exact h

theorem State.openMsg_kept {s : State} {j : Nat} (h : s.Kept base) : (s.openMsg j).Kept base := by
  unfold State.openMsg
  refine unitOp_kept h ?_
  intro _ u hu
  split
  · exact report_kept hu
  · refine ite_kept (report_kept hu) ?_
    split
    next s1 e =>
      have hs1 : s1.Kept base := snd_kept e (sealed2_kept hu)
      exact reportMsg_kept hs1

theorem State.reportClip_kept {s : State} {j w c : Nat} {x : Round} {m : Msg} (h : s.Kept base) :
    (s.reportClip j w c x m).Kept base :=
  enqueue_kept h

theorem State.clip_kept {s : State} {j : Nat} (h : s.Kept base) : (s.clip j).Kept base := by
  unfold State.clip
  refine unitOp_kept h ?_
  intro _ u hu
  split
  · exact report_kept hu
  · refine ite_kept (trapHere_kept hu) (ite_kept (report_kept hu) (ite_kept (ite_kept
      (trapHere_kept hu) ?_) (ite_kept (trapHere_kept hu) (ite_kept ?_ ?_))))
    · split
      next s1 e =>
        have hs1 : s1.Kept base := snd_kept e (sealed2_kept hu)
        exact reportClip_kept hs1
    · extract_lets
      exact report_kept hu
    · extract_lets
      refine ite_kept (reportClip_kept hu) ?_
      split
      · exact hu
      next s1 e =>
        have hs1 : s1.Kept base := exclude_kept hu e
        exact trapHere_kept hs1
      next s1 e =>
        have hs1 : s1.Kept base := exclude_kept hu e
        exact deadRound_kept (report_kept (askLoads_kept hs1))

theorem State.clipFinish_kept {s : State} {j : Nat} (h : s.Kept base) : (s.clipFinish j).Kept base := by
  unfold State.clipFinish
  refine unitOp_kept h ?_
  intro _ u hu
  extract_lets
  exact ite_kept (trapHere_kept hu) (enqueue_kept hu)

/-! ## Sparse rounds (R138 to R154, R218) -/

theorem State.foldRows_kept {s : State} {j : Nat} {o : TOps} {x : Round} {m : Msg} (h : s.Kept base) :
    (s.foldRows j o x m).Kept base := by
  unfold State.foldRows
  extract_lets _ _ _ _ s0 s1 s2
  have hs0 : s0.Kept base := takeOff_kept (eccSpan_kept h)
  have hs1 : s1.Kept base := updLive_kept hs0
  have hs2 : s2.Kept base := updSpin_kept hs1
  exact ite_kept (reportMsg_kept h) (ite_kept hs2 (reportMsg_kept hs2))

theorem State.resolve_kept {s : State} {j : Nat} {o : TOps} {x : Round} {m : Msg} {key : Nat} (h : s.Kept base) :
    (s.resolve j o x m key).Kept base := by
  unfold State.resolve
  extract_lets
  split
  · extract_lets s1
    have hs1 : s1.Kept base := updLive_kept (putResolved_kept h)
    split
    · exact updSpin_kept (updRound_kept hs1)
    · exact reportMsg_kept hs1
    · split
      · exact foldRows_kept hs1
      · exact hs1

theorem State.foldr_kept {s : State} {j : Nat} (h : s.Kept base) : (s.foldr j).Kept base := by
  unfold State.foldr
  refine unitOp_kept h ?_
  intro _ u hu
  split
  · exact report_kept hu
  · refine ite_kept (report_kept hu) ?_
    split
    · exact trapHere_kept hu
    · split
      next s1 e =>
        have hs1 : s1.Kept base := snd_kept e (prepare_kept hu)
        refine ite_kept (reportMsg_kept hs1) ?_
        split
        · exact resolve_kept hs1
        · exact hs1

theorem State.pageFetch_kept {s : State} {j : Nat} (h : s.Kept base) : (s.pageFetch j).Kept base := by
  unfold State.pageFetch
  split
  · exact h
  · split
    · exact h
    · exact foldr_kept (updRound_kept (cachePage_kept h))

theorem State.moveRows_kept {s : State} {r : Round} {rows : List (Nat × DirEntry)} (h : s.Kept base) :
    (s.moveRows r rows).Kept base := by
  unfold State.moveRows
  extract_lets _ _ _ s1
  have hs1 : s1.Kept base := foldl_kept (fun _ hs _ => zeroTile_kept hs) h
  exact foldl_kept (fun _ hs _ => setElems_kept hs) hs1

theorem State.blockTag_kept {s : State} {r : Round} {rows : List (Nat × DirEntry)} {x : Nat} (h : s.Kept base) :
    (s.blockTag r rows x).Kept base := by
  unfold State.blockTag
  extract_lets _ _ _ _ _ s1 _ s2
  have hs1 : s1.Kept base := setTag_kept h
  have hs2 : s2.Kept base := wrote_kept (setTag_kept hs1)
  exact ite_kept (raise_kept hs2) hs2

theorem State.canonical_kept {s : State} {f r : Nat} (h : s.Kept base) : (s.canonical f r).Kept base := by
  unfold State.canonical
  split
  · exact h
  · extract_lets s0
    have hs0 : s0.Kept base := foldl_kept (fun _ hs _ => dropPages_kept hs) h
    split
    next s2 e =>
      have hs2 : s2.Kept base := snd_kept e (verifyAll_kept hs0)
      refine ite_kept (abandon_kept hs2) ?_
      extract_lets s21 s3 s4 s5
      have hs21 : s21.Kept base := moveRows_kept hs2
      have hs3 : s3.Kept base := foldl_kept (fun _ hs _ => ite_kept (blockTag_kept hs) hs) hs21
      have hs4 : s4.Kept base := putDir_kept hs3
      have hs5 : s5.Kept base := foldl_kept (fun _ hs _ => cacheBack_kept hs) hs4
      exact updRound_kept hs5

theorem State.canonicalDone_kept {s : State} {f r : Nat} (h : s.Kept base) : (s.canonicalDone f r).Kept base := by
  unfold State.canonicalDone
  split
  · exact h
  · exact ite_kept h (leaveClosed_kept (stairCheck_kept (canonical_kept h)))

/-! ## The staircase at a parent (R293, R294, R307) -/

theorem State.cohortMessage_kept {s : State} {f qpn : Nat} {msg : Bytes} (h : s.Kept base) :
    (s.cohortMessage f qpn msg).Kept base := by
  unfold State.cohortMessage
  split
  · exact raise_kept h
  · extract_lets
    exact ite_kept (raise_kept h) (ite_kept (abandon_kept h) (settleIfFull_kept
        (updRound_kept h)))

theorem State.childWait_kept {s : State} {f r : Nat} (h : s.Kept base) : (s.childWait f r).Kept base := by
  unfold State.childWait
  split
  · exact h
  · extract_lets
    exact ite_kept (stairCheck_kept (updRound_kept h)) h

theorem State.resolveNow_kept {s : State} {f r key row : Nat} (h : s.Kept base) :
    (s.resolveNow f r key row).2.Kept base := by
  unfold State.resolveNow
  split
  · exact h
  · extract_lets s1
    have hs1 : s1.Kept base := foldl_kept (fun _ hs _ => cachePage_kept hs) h
    split
    · exact putResolved_kept hs1
    · exact hs1

theorem State.resolveAll_kept {s : State} {f r key : Nat} {l : List Nat} (h : s.Kept base) :
    (s.resolveAll f r key l).2.Kept base := by
  induction l generalizing s with
  | nil =>
    unfold State.resolveAll
    exact h
  | cons x xs ih =>
    unfold State.resolveAll
    split
    next s2 e =>
      have hs2 : s2.Kept base := snd_kept e (resolveNow_kept h)
      exact ite_snd_kept (ih hs2) hs2

theorem State.foldRow_kept {s : State} {f r row n : Nat} {elems : List Nat} (h : s.Kept base) :
    (s.foldRow f r row n elems).Kept base := by
  unfold State.foldRow
  split
  · exact h
  · extract_lets _ _ _ _ _ _ s1 _ s2
    have hs1 : s1.Kept base := addElems_kept h
    have hs2 : s2.Kept base := wrote_kept (setTag_kept hs1)
    exact countRow_kept hs2

theorem State.blockOver_kept {s : State} {f : Nat} {x : Round} {ovr : Bool} {t : Nat} (h : s.Kept base) :
    (s.blockOver f x ovr t).Kept base := by
  unfold State.blockOver
  extract_lets _ _ s1
  have hs1 : s1.Kept base := setTag_kept h
  exact ite_kept (raise_kept hs1) hs1

theorem State.foldBlock_kept {s : State} {f r i : Nat} {rows : List (Nat × Nat × Nat)} {rec_ : Bytes}
    {credit : Nat × Nat} (h : s.Kept base) : (s.foldBlock f r i rows rec_ credit).2.Kept base := by
  unfold State.foldBlock
  split
  · exact h
  · extract_lets
    split
    · exact raiseOnce_kept h
    · split
      next s2 e =>
        have hs2 : s2.Kept base := snd_kept e (resolveAll_kept h)
        refine ite_snd_kept (raiseOnce_kept hs2) ?_
        extract_lets s21
        have hs21 : s21.Kept base := foldl_kept (fun _ hs _ => foldRow_kept hs) hs2
        exact recordDone_kept (foldl_kept (fun _ hs _ => blockOver_kept hs) hs21)

theorem State.sparseRecord_kept {s : State} {f r qpn i : Nat} {rec_ : Bytes} {credit : Nat × Nat} (h : s.Kept base)
    : (s.sparseRecord f r qpn i rec_ credit).2.Kept base := by
  unfold State.sparseRecord
  split
  · exact h
  · split
    · exact foldBlock_kept h
    · exact updRound_kept h

theorem State.rowListMsg_kept {s : State} {f qpn : Nat} {x : Round} {msg : Bytes} (h : s.Kept base) :
    (s.rowListMsg f qpn x msg).Kept base := by
  unfold State.rowListMsg
  extract_lets
  split
  · exact raise_kept h
  · extract_lets s1
    have hs1 : s1.Kept base := updRound_kept h
    exact foldl_kept (fun _ hs _ => foldBlock_kept hs) hs1

theorem State.partialDigest_kept {s : State} {f r : Nat} (h : s.Kept base) : (s.partialDigest f r).Kept base := by
  unfold State.partialDigest
  split
  · exact h
  · refine ite_kept h ?_
    split
    next s2 e =>
      have hs2 : s2.Kept base := snd_kept e (verifyAll_kept h)
      refine ite_kept hs2 ?_
      extract_lets
      exact plyFormed_kept (updRound_kept hs2)

/-! ## Memory windows (R262 to R270) -/

theorem State.xrecord_kept {s : State} {f : Nat} {path : CmdPath} {op : Nat}
    {body : Bytes → State → (Nat × Nat) × State} (h : s.Kept base)
    (hbody : ∀ x0 u1, u1.Kept base → (body x0 u1).2.Kept base) : (s.xrecord f path op body).Kept base := by
  unfold State.xrecord
  split
  · refine funcCmd_kept h ?_
    intro u hu
    refine ite_kept (wr_kept hu) ?_
    split
    next s2 e =>
      have hs2 : s2.Kept base := snd_kept e (hbody _ _ hu)
      exact wr_kept (wr_kept hs2)
  · exact job_kept h (fun _ _ _ hs => hbody _ _ hs)

theorem State.xarg_kept {s : State} {f : Nat} {path : CmdPath} {op : Nat} {body : Nat → State → Nat × State}
    (h : s.Kept base) (hbody : ∀ x0 u1, u1.Kept base → (body x0 u1).2.Kept base) : (s.xarg f path op body).Kept base := by
  unfold State.xarg
  split
  · refine funcCmd_kept h ?_
    intro u hu
    refine ite_kept (wr_kept hu) ?_
    split
    next s1 e =>
      have hs1 : s1.Kept base := snd_kept e (hbody _ _ hu)
      exact wr_kept (wr_kept hs1)
  · refine job0_kept h ?_
    intro _ u1 hu1
    split
    next s1 e =>
      have hs1 : s1.Kept base := snd_kept e (hbody _ _ hu1)
      exact hs1

theorem State.openWindow_kept {s : State} {f : Nat} {b : Bytes} (h : s.Kept base) :
    (s.openWindow f b).2.Kept base := by
  unfold State.openWindow
  split
  · exact h
  · exact raise_kept h

theorem State.rxFail_kept {s : State} {qpn msn seq code : Nat} (h : s.Kept base) :
    (s.rxFail qpn msn seq code).Kept base :=
  sendNak_kept (updQp_kept h)

theorem State.failWindow_kept {s : State} {handle : Nat} (h : s.Kept base) : (s.failWindow handle).Kept base := by
  unfold State.failWindow
  extract_lets
  exact foldl_kept (fun _ hs _ => rxFail_kept hs) h

theorem State.closeWindow_kept {s : State} {w : Window} (h : s.Kept base) : (s.closeWindow w).Kept base := by
  unfold State.closeWindow
  extract_lets src
  have hsrc : src.Kept base := failWindow_kept h
  clear_value src
  exact hsrc

theorem State.revokeWindow_kept {s : State} {f handle : Nat} (h : s.Kept base) :
    (s.revokeWindow f handle).2.Kept base := by
  unfold State.revokeWindow
  split
  · exact h
  · exact closeWindow_kept h

theorem State.recordCsum_kept {s : State} {w : Window} {t : Nat} (h : s.Kept base) : (s.recordCsum w t).Kept base :=
  capture_kept (raise_kept h)

theorem State.record_kept {s : State} {w : Window} {qpn i : Nat} {rec_ : Bytes} (h : s.Kept base) :
    (s.record w qpn i rec_).2.Kept base := by
  unfold State.record
  extract_lets
  split
  · exact h
  · extract_lets
    exact ite_snd_kept h (ite_snd_kept (recordCsum_kept h) (ite_snd_kept (raise_kept h)
        (ite_snd_kept h (ite_snd_kept (sparseRecord_kept h) (join_kept h)))))

/-! ## Triggered work (R275 to R280) -/

theorem State.postTwr_kept {s : State} {f : Nat} {b : Bytes} (h : s.Kept base) : (s.postTwr f b).2.Kept base := by
  unfold State.postTwr
  split
  · extract_lets
    exact h
  · exact raise_kept h

theorem State.cancelTwr_kept {s : State} {f id : Nat} (h : s.Kept base) : (s.cancelTwr f id).2.Kept base := by
  unfold State.cancelTwr
  exact ite_snd_kept h (raise_kept h)

theorem State.forward_kept {s : State} {w : Twr} (h : s.Kept base) : (s.forward w).Kept base := by
  unfold State.forward
  extract_lets held k t list
  clear_value list
  refine ite_kept (ite_kept (fwdDone_kept (updTwr_kept h)) h) (ite_kept h ?_)
  split
  next s1 e =>
    have hs1 : s1.Kept base := snd_snd_snd_kept e (drainTile_kept h)
    refine ite_kept (twrFail_kept hs1) ?_
    extract_lets s2
    have hs2 : s2.Kept base := by
      unfold s2
      split
      · exact updTwr_kept (post_kept (settleTiles_kept hs1))
      · exact settleTiles_kept hs1
    exact updTwr_kept (post_kept hs2)

theorem State.twrSend_kept {s : State} {w : Twr} {data : Option Bytes} (h : s.Kept base) :
    (s.twrSend w data).Kept base := by
  unfold State.twrSend
  refine ite_kept h ?_
  extract_lets
  exact ite_kept (updTwr_kept (post_kept h)) (post_kept (twrFail_kept h))

theorem State.fireOne_kept {s : State} {w : Twr} (h : s.Kept base) : (s.fireOne w).Kept base := by
  unfold State.fireOne
  refine ite_kept ?_ (updTwr_kept h)
  extract_lets src
  have hsrc : src.Kept base := ctrAdd_kept h
  clear_value src
  exact hsrc

theorem State.armTwrs_kept {s : State} (h : s.Kept base) : s.armTwrs.Kept base := by
  unfold State.armTwrs
  refine foldl_kept ?_ h
  intro u hu _
  extract_lets src
  have hsrc : src.Kept base := updTwr_kept hu
  clear_value src
  exact hsrc

theorem State.twrOn_kept {s : State} {id : Nat} {data : Option Bytes} (h : s.Kept base) :
    (s.twrOn id data).Kept base := by
  unfold State.twrOn
  split
  · exact h
  · exact ite_kept h (ite_kept (forward_kept h) (twrSend_kept h))

theorem State.twrFire_kept {s : State} {id : Nat} {data : Option Bytes} (h : s.Kept base) :
    (s.twrFire id data).Kept base := by
  unfold State.twrFire
  split
  · exact h
  · split
    · exact h
    · exact ite_kept h (twrOn_kept (foldl_kept (fun _ hs _ => fireOne_kept hs) h))

theorem State.ctrVal_kept {s : State} {f v : Nat} (h : s.Kept base) : (s.ctrVal f v).Kept base := by
  unfold State.ctrVal
  exact funcCmd_kept h (fun _ hs => ctrWrite_kept hs)

/-! ## Privileged registers (R10, R11, R375) -/

theorem State.privCmd_kept {s : State} {r : Req} {off : Nat} {body : State → State} (h : s.Kept base)
    (hbody : ∀ u, u.Kept base → (body u).Kept base) : (s.privCmd r off body).Kept base := by
  unfold State.privCmd
  exact ite_kept h (ite_kept (accErr_kept h) (ite_kept (accErr_kept h) (hbody _ h)))

/-! ## Keys of the Nalam core (R334 to R339, R351) -/

theorem State.updSlot_kept {s : State} {i : Nat} {g : KeySlot → KeySlot} (h : s.Kept base) :
    (s.updSlot i g).Kept base :=
  h

theorem State.setSlot_kept {s : State} {i : Nat} {a : KeyAttr} {v m : Nat} (h : s.Kept base) :
    (s.setSlot i a v m).Kept base :=
  updSlot_kept h

theorem State.clearAssets_kept {s : State} {f : Nat} (h : s.Kept base) : (s.clearAssets f).Kept base := by
  unfold State.clearAssets
  extract_lets s1 _ s2
  have hs1 : s1.Kept base := updFn_kept h
  clear_value s1
  have hs2 : s2.Kept base := hs1
  exact wr_kept (wr_kept (wr_kept (wr_kept (wr_kept hs2))))

theorem State.zeroFkey_kept {s : State} {f code : Nat} (h : s.Kept base) : (s.zeroFkey f code).Kept base := by
  unfold State.zeroFkey
  extract_lets s1
  have hs1 : s1.Kept base := qpErrorAll_kept (abandonAll_kept h)
  exact wr_kept (clearAssets_kept hs1)

theorem State.zeroSlot_kept {s : State} {i code : Nat} (h : s.Kept base) : (s.zeroSlot i code).Kept base := by
  unfold State.zeroSlot
  extract_lets _ src _ s1
  have hsrc : src.Kept base := updSlot_kept h
  clear_value src
  have hs1 : s1.Kept base := hsrc
  exact ite_kept (zeroFkey_kept hs1) hs1

theorem State.releaseSlot_kept {s : State} {i code : Nat} (h : s.Kept base) : (s.releaseSlot i code).Kept base := by
  unfold State.releaseSlot
  extract_lets _ s1
  have hs1 : s1.Kept base := updSlot_kept (zeroSlot_kept h)
  exact ite_kept (wr_kept hs1) hs1

theorem State.keyWork_kept {s : State} (h : s.Kept base) : s.keyWork.Kept base := h

theorem State.keyCmd_kept {s : State} {r : Req} {body : State → Nat × State} (h : s.Kept base)
    (hbody : ∀ u, u.Kept base → (body u).2.Kept base) : (s.keyCmd r body).Kept base := by
  unfold State.keyCmd
  refine privCmd_kept h ?_
  intro u hu
  refine ite_kept hu ?_
  split
  next s1 e =>
    have hs1 : s1.Kept base := snd_kept e (hbody _ hu)
    exact wr_kept hs1

theorem State.assign_kept {s : State} {r : Req} {slot f : Nat} {toCC : Bool} (h : s.Kept base) :
    (s.assign r slot f toCC).Kept base := by
  unfold State.assign
  refine keyCmd_kept h ?_
  intro u hu
  refine ite_snd_kept hu (ite_snd_kept (pair_kept (updSlot_kept hu)) ?_)
  extract_lets s1
  have hs1 : s1.Kept base := wr_kept (updSlot_kept (clearAssets_kept hu))
  exact pair_kept (ask_kept (ask_kept hs1))

theorem State.keyRelease_kept {s : State} {r : Req} {slot : Nat} (h : s.Kept base) :
    (s.keyRelease r slot).Kept base := by
  unfold State.keyRelease
  exact keyCmd_kept h (fun _ hs => ite_snd_kept hs (keyWork_kept (releaseSlot_kept hs)))

theorem State.keyZero_kept {s : State} {r : Req} {slot : Nat} (h : s.Kept base) : (s.keyZero r slot).Kept base := by
  unfold State.keyZero
  exact keyCmd_kept h (fun _ hs => ite_snd_kept hs (keyWork_kept (zeroSlot_kept hs)))

theorem State.fkeyZero_kept {s : State} {f : Nat} (h : s.Kept base) : (s.fkeyZero f).Kept base := by
  unfold State.fkeyZero
  refine funcCmd_kept h ?_
  intro u hu
  refine ite_kept hu ?_
  split
  · exact zeroSlot_kept hu
  · exact hu

theorem State.transition_kept {s : State} {pattern : Nat} (h : s.Kept base) : (s.transition pattern).Kept base := by
  unfold State.transition
  extract_lets s1 s2 s3
  have hs1 : s1.Kept base := foldl_kept (fun _ hs _ => abandonAll_kept hs) h
  have hs2 : s2.Kept base := foldl_kept (fun _ hs _ => zeroSlot_kept hs) hs1
  have hs3 : s3.Kept base := foldl_kept (fun _ hs _ => updSlot_kept hs) hs2
  clear_value s3
  refine (burn_kept hs3 ?_ :)
  exact ⟨fun b hb => by simp [bit, Nat.testBit_or, show s3.otp.lc.testBit b = true from hb], le_rfl, le_rfl,
    ⟨[], (List.append_nil _).symm⟩, rfl, rfl, rfl⟩

theorem State.lcVoid_kept {s : State} {r : Req} (h : s.Kept base) : (s.lcVoid r).Kept base :=
  keyCmd_kept h (fun _ hs => transition_kept hs)

theorem State.lifecycle_kept {s : State} {t : Bytes} (h : s.Kept base) : (s.lifecycle t).Kept base := by
  unfold State.lifecycle
  refine ite_kept h ?_
  extract_lets s1
  have hs1 : s1.Kept base := ask_kept h
  split
  · exact transition_kept hs1
  · exact raise_kept hs1

theorem State.rollback_kept {s : State} {r : Req} (h : s.Kept base) : (s.rollback r).Kept base := by
  unfold State.rollback
  refine privCmd_kept h ?_
  intro u hu
  extract_lets
  exact wr_kept (burn_kept hu ⟨fun _ hb => hb, le_max_left .., le_rfl, ⟨[], (List.append_nil _).symm⟩, rfl, rfl, rfl⟩)

theorem State.remask_kept {s : State} (h : s.Kept base) : s.remask.Kept base := by
  unfold State.remask
  refine ite_kept h ?_
  extract_lets _ s1
  have hs1 : s1.Kept base := h
  exact ite_kept (ask_kept hs1) (bump_kept hs1)

theorem State.remasked_kept {s : State} {ws : List Word} (h : s.Kept base) : (s.remasked ws).Kept base :=
  foldl_kept (fun _ hs _ => updSlot_kept hs) h

/-! ## SPDM and MCTP (R344 to R350) -/

theorem State.updSession_kept {s : State} {f : Nat} {g : Session → Session} (h : s.Kept base) :
    (s.updSession f g).Kept base :=
  updFn_kept h

theorem State.spdmAnswer_kept {s : State} {f code : Nat} (h : s.Kept base) : (s.spdmAnswer f code).Kept base := by
  unfold State.spdmAnswer
  split
  next s1 e =>
    have hs1 : s1.Kept base := snd_kept e (draw_kept h)
    exact emit_kept hs1

theorem State.spdmError_kept {s : State} {f code : Nat} (h : s.Kept base) : (s.spdmError f code).Kept base :=
  raise_kept (spdmAnswer_kept h)

theorem State.spdm_kept {s : State} {f : Nat} {q : SpdmReq} {needs : Bool} {body : State → State} (h : s.Kept base)
    (hbody : ∀ u, u.Kept base → (body u).Kept base) : (s.spdm f q needs body).Kept base := by
  unfold State.spdm
  exact ite_kept h (ite_kept (spdmError_kept h) (hbody _ h))

theorem State.spdmNonce_kept {s : State} {f code words : Nat} {body : Bytes} (h : s.Kept base) :
    (s.spdmNonce f code words body).Kept base :=
  ask_kept h

theorem State.nonceServed_kept {s : State} {f code : Nat} {body : Bytes} {ws : List Word} (h : s.Kept base) :
    (s.nonceServed f code body ws).Kept base := by
  unfold State.nonceServed
  extract_lets
  split
  next s1 e =>
    have hs1 : s1.Kept base := snd_kept e (draw_kept h)
    exact ite_kept (emit_kept (updSession_kept hs1)) (emit_kept hs1)

theorem State.measurements_kept {s : State} {f : Nat} {q : SpdmReq} (h : s.Kept base) :
    (s.measurements f q).Kept base := by
  unfold State.measurements
  refine spdm_kept h ?_
  intro u hu
  refine ite_kept (spdmAnswer_kept hu) (ite_kept (spdmError_kept hu) (ite_kept
      (spdmError_kept hu) ?_))
  extract_lets _ _ s1 s2
  have hs1 : s1.Kept base := bump_kept (wr_kept hu)
  have hs2 : s2.Kept base := ite_kept (updSession_kept hs1) hs1
  exact spdmNonce_kept hs2

theorem State.keyExchange_kept {s : State} {f : Nat} {q : SpdmReq} (h : s.Kept base) :
    (s.keyExchange f q).Kept base := by
  unfold State.keyExchange
  refine spdm_kept h ?_
  intro u hu
  split
  next s1 e =>
    have hs1 : s1.Kept base := snd_kept e (draw_kept hu)
    extract_lets _ s2
    have hs2 : s2.Kept base := hs1
    exact spdmNonce_kept (updSession_kept hs2)

theorem State.finishSession_kept {s : State} {f : Nat} {q : SpdmReq} (h : s.Kept base) :
    (s.finishSession f q).Kept base := by
  unfold State.finishSession
  exact spdm_kept h (fun _ hs => ite_kept (spdmError_kept (updSession_kept hs)) (spdmAnswer_kept
      (updSession_kept hs)))

theorem State.endSession_kept {s : State} {f : Nat} {q : SpdmReq} (h : s.Kept base) :
    (s.endSession f q).Kept base :=
  spdm_kept h (fun _ hs => spdmAnswer_kept (updSession_kept hs))

theorem State.mctp_kept {s : State} {msg : Bytes} (h : s.Kept base) : (s.mctp msg).Kept base := by
  unfold State.mctp
  refine ite_kept h ?_
  extract_lets _ _ _ s1
  have hs1 : s1.Kept base := ite_kept h h
  refine ite_kept (ite_kept (emit_kept hs1) (ite_kept (emit_kept hs1) ?_)) (ite_kept ?_ h)
  · split
    next s11 e =>
      have hs11 : s11.Kept base := snd_kept e (draw_kept hs1)
      exact emit_kept hs11
  · split
    next s11 e =>
      have hs11 : s11.Kept base := snd_kept e (draw_kept h)
      exact emit_kept hs11

/-! ## Tenant assets (R157, R348, R349) -/

theorem State.assetAnswer_kept {s : State} {f code : Nat} (h : s.Kept base) : (s.assetAnswer f code).Kept base :=
  emit_kept h

theorem State.digestRaise_kept {s : State} {f code : Nat} (h : s.Kept base) : (s.digestRaise f code).Kept base := by
  unfold State.digestRaise
  exact ite_kept (raise_kept h) h

theorem State.keepAssets_kept {s1 s : State} {f : Nat} (h : s1.Kept base) :
    (s1.keepAssets s f).Kept base :=
  updFn_kept h

theorem State.asset_kept {s : State} {f kind : Nat} {m : Bytes} {install : Bytes → State → Nat × Bytes × State}
    (h : s.Kept base) (hinstall : ∀ x0 u1, u1.Kept base → (install x0 u1).2.2.Kept base) :
    (s.asset f kind m install).Kept base := by
  unfold State.asset
  refine ite_kept h ?_
  extract_lets
  refine ite_kept (assetAnswer_kept (bump_kept h)) ?_
  split
  next s1 e =>
    have hs1 : s1.Kept base := snd_snd_kept e (hinstall _ _ h)
    refine ite_kept (assetAnswer_kept (digestRaise_kept (bump_kept hs1))) ?_
    extract_lets s2 s3
    have hs2 : s2.Kept base := updFn_kept (wr_kept (keepAssets_kept hs1))
    have hs3 : s3.Kept base := ite_kept (plySend_kept hs2) hs2
    exact assetAnswer_kept hs3

theorem State.installKem_kept {s : State} {f : Nat} {b : Bytes} (h : s.Kept base) :
    (s.installKem f b).2.Kept base := by
  unfold State.installKem
  refine ite_snd_kept h ?_
  extract_lets
  exact updSession_kept h

theorem State.installBind_kept {s : State} {f : Nat} {b : Bytes} (h : s.Kept base) :
    (s.installBind f b).2.Kept base := by
  unfold State.installBind
  refine ite_snd_kept h ?_
  extract_lets s1
  have hs1 : s1.Kept base := updFn_kept h
  exact wr_kept (wr_kept hs1)

theorem State.installPolicy_kept {s : State} {f : Nat} {b : Bytes} (h : s.Kept base) :
    (s.installPolicy f b).2.Kept base := by
  unfold State.installPolicy
  refine ite_snd_kept h ?_
  extract_lets
  exact updFn_kept h

theorem State.installJoin_kept {s : State} {f : Nat} {b : Bytes} (h : s.Kept base) :
    (s.installJoin f b).2.Kept base := by
  unfold State.installJoin
  extract_lets
  exact ite_snd_kept h (updFn_kept h)

theorem State.placeKey_kept {s : State} {tile ntiles : Nat} {body : Bytes} (h : s.Kept base) :
    (s.placeKey tile ntiles body).Kept base := by
  unfold State.placeKey
  refine foldl_kept ?_ h
  intro u hu _
  extract_lets s1
  have hs1 : s1.Kept base := putTile_kept hu
  exact wrote_kept (setTag_kept hs1)

theorem State.installEvk_kept {s : State} {f : Nat} {b : Bytes} {raw : Bool} {host : Option Bytes}
    (h : s.Kept base) : (s.installEvk f b raw host).2.2.Kept base := by
  unfold State.installEvk
  extract_lets
  split
  · exact h
  · extract_lets
    split
    · exact updFn_kept h
    · exact updFn_kept (placeKey_kept h)

theorem State.installCommittee_kept {s : State} {f : Nat} {b : Bytes} {raw : Bool} {host : Option Bytes}
    (h : s.Kept base) : (s.installCommittee f b raw host).2.2.Kept base := by
  unfold State.installCommittee
  extract_lets
  split
  · exact h
  · extract_lets
    split
    · exact h
    · exact updFn_kept (placeKey_kept h)

theorem State.installNoise_kept {s : State} {f : Nat} {b : Bytes} (h : s.Kept base) :
    (s.installNoise f b).2.Kept base := by
  unfold State.installNoise
  exact ite_snd_kept h (updFn_kept h)

theorem State.installCkpt_kept {s : State} {f : Nat} {b : Bytes} (h : s.Kept base) :
    (s.installCkpt f b).2.Kept base := by
  unfold State.installCkpt
  exact ite_snd_kept h (updFn_kept h)

theorem State.installMem_kept {s : State} {f : Nat} {b : Bytes} (h : s.Kept base) :
    (s.installMem f b).2.Kept base := by
  unfold State.installMem
  refine ite_snd_kept h (ite_snd_kept ?_ ?_)
  · extract_lets s1
    have hs1 : s1.Kept base := updFn_kept h
    exact wr_kept (wr_kept (wr_kept hs1))
  · extract_lets _ _ s1
    have hs1 : s1.Kept base := updFn_kept h
    exact rotated_kept (wr_kept (wr_kept (wr_kept hs1)))

theorem State.memInitDone_kept {s : State} {f : Nat} (h : s.Kept base) : (s.memInitDone f).Kept base := by
  unfold State.memInitDone
  exact ite_kept h (wr_kept (foldl_kept (fun _ hs _ => zeroTile_kept (setTag_kept hs)) h))

theorem State.memSweep_kept {s : State} {f : Nat} (h : s.Kept base) : (s.memSweep f).Kept base := by
  unfold State.memSweep
  refine ite_kept h ?_
  extract_lets
  split
  · exact farWritten_kept (updFn_kept h)
  · exact farWritten_kept (updFn_kept h)
  · exact h

theorem State.plyAssetMsg_kept {s : State} {f : Nat} {body : Bytes} (h : s.Kept base) :
    (s.plyAssetMsg f body).Kept base := by
  unfold State.plyAssetMsg
  extract_lets b done done3 s1
  have hdone : ∀ p : Nat × State, p.2.Kept base → (done p).Kept base := fun _ hp => ite_kept hp (raise_kept hp)
  have hdone3 : ∀ p : Nat × Bytes × State, p.2.2.Kept base → (done3 p).Kept base :=
    fun _ hp => ite_kept hp (raise_kept hp)
  have hs1 : s1.Kept base := by
    unfold s1
    split
    · exact hdone _ (installPolicy_kept h)
    · exact hdone _ (installJoin_kept h)
    · exact hdone3 _ (installEvk_kept h)
    · exact hdone3 _ (installCommittee_kept h)
    · exact hdone _ (installNoise_kept h)
    · exact hdone _ (installMem_kept h)
    · exact hdone _ (installCkpt_kept h)
    · exact h
  exact updFn_kept (keepAssets_kept hs1)

theorem plain2_kept {b : Bytes} {p : Nat × State} (h : p.2.Kept base) : (plain2 b p).2.2.Kept base := h

/-! ## Partitions (R353 to R356) -/

theorem State.setPartition_kept {s : State} {f : Nat} {p : Partition} (h : s.Kept base) :
    (s.setPartition f p).Kept base := by
  unfold State.setPartition
  extract_lets s1 s2
  have hs1 : s1.Kept base := wr_kept (wr_kept (wr_kept (wr_kept (wr_kept (wr_kept h)))))
  have hs2 : s2.Kept base := wr_kept (wr_kept (wr_kept (wr_kept (wr_kept hs1))))
  exact rotateAll_kept (wr_kept hs2)

theorem State.revokeTiles_kept {s : State} {f : Nat} {gone : Nat → Bool} (h : s.Kept base) :
    (s.revokeTiles f gone).Kept base := by
  unfold State.revokeTiles
  extract_lets s1 s2
  have hs1 : s1.Kept base := abandonAll_kept h
  have hs2 : s2.Kept base := foldl_kept (fun _ hs _ => closeWindow_kept hs) hs1
  exact foldl_kept (fun _ hs _ => twrFail_kept hs) hs2

theorem State.unstageGone_kept {s : State} {f : Nat} {gone : Nat → Bool} (h : s.Kept base) :
    (s.unstageGone f gone).Kept base := by
  unfold State.unstageGone
  extract_lets s1
  have hs1 : s1.Kept base := foldl_kept (fun _ hs _ => ite_kept (discardStage_kept hs) (unstage_kept
      hs)) h
  exact foldl_kept (fun _ hs _ => ite_kept (pageOut_kept hs) (dropPages_kept hs)) hs1

theorem State.dropMemKeys_kept {s : State} {f : Nat} (h : s.Kept base) : (s.dropMemKeys f).Kept base :=
  wr_kept (wr_kept (updFn_kept h))

theorem State.unpinTo_kept {s : State} {f quota : Nat} (h : s.Kept base) : (s.unpinTo f quota).Kept base := by
  unfold State.unpinTo
  extract_lets
  exact foldl_kept (fun _ hs _ => updQp_kept hs) h

theorem State.applyPartition_kept {s : State} {f : Nat} {p : Partition} (h : s.Kept base) :
    (s.applyPartition f p).Kept base := by
  unfold State.applyPartition
  extract_lets _ _ _ _ _ _ s1 s2 s3 s4 s5 s6 _ _ _ s7 s8
  have hs1 : s1.Kept base := ite_kept h (abandonAll_kept h)
  have hs2 : s2.Kept base := foldl_kept (fun _ hs _ => updSpin_kept hs) (revokeTiles_kept hs1)
  have hs3 : s3.Kept base := qpErrorAll_kept hs2
  have hs4 : s4.Kept base := foldl_kept (fun _ hs _ => twrFail_kept hs) hs3
  have hs5 : s5.Kept base := ite_kept (dropMemKeys_kept hs4) hs4
  have hs6 : s6.Kept base := foldl_kept (fun _ hs _ => setTag_kept hs) hs5
  have hs7 : s7.Kept base := foldl_kept (fun _ hs _ => updSpin_kept hs) (foldl_kept (fun _ hs _ =>
      ctrForce_kept hs) hs6)
  have hs8 : s8.Kept base := unpinTo_kept (setPartition_kept hs7)
  clear_value s8
  exact ite_kept hs8 (wr_kept hs8)

theorem State.partCmd_kept {s : State} {r : Req} (h : s.Kept base) : (s.partCmd r).Kept base := by
  unfold State.partCmd
  refine privCmd_kept h ?_
  intro u hu
  refine ite_kept hu ?_
  extract_lets
  exact ite_kept (wr_kept hu) (wr_kept (applyPartition_kept hu))

theorem State.wipeTile_kept {s : State} {t : Nat} (h : s.Kept base) : (s.wipeTile t).Kept base := by
  unfold State.wipeTile
  exact ite_kept (setTag_kept h) (setTag_kept (zeroTile_kept h))

theorem State.revocationDone_kept {s : State} {f : Nat} (h : s.Kept base) : (s.revocationDone f).Kept base := by
  unfold State.revocationDone
  split
  · exact h
  · extract_lets _ _ s1 s2 s3
    have hs1 : s1.Kept base := foldl_kept (fun _ hs _ => updSpin_kept hs (fun _ _ => rfl)) (unstageGone_kept h)
    have hs2 : s2.Kept base := foldl_kept (fun _ hs _ => wipeTile_kept hs) hs1
    have hs3 : s3.Kept base := foldl_kept (fun _ hs _ => ctrForce_kept hs) (dropLeaves_kept hs2)
    clear_value s3
    exact ite_kept h (wr_kept hs3)

/-! ## The ply (R302 to R309) -/

theorem State.unply_kept {s : State} {p : Round → Bool} (h : s.Kept base) : (s.unply p).Kept base := h

theorem State.plyRefuse_kept {s : State} {code : Nat} (h : s.Kept base) : (s.plyRefuse code).Kept base :=
  wr_kept (wr_kept h)

theorem State.plyDecide_kept {s : State} {x : PlyRange} (h : s.Kept base) : (s.plyDecide x).Kept base := by
  unfold State.plyDecide
  split
  · exact plyRefuse_kept h
  · refine ite_kept (plyRefuse_kept h) (ite_kept (plyRefuse_kept h) ?_)
    extract_lets s1
    have hs1 : s1.Kept base := wr_kept (wr_kept (wr_kept h))
    clear_value s1
    exact hs1

theorem State.plyForm_kept {s : State} {r : Req} (h : s.Kept base) : (s.plyForm r).Kept base := by
  unfold State.plyForm
  refine privCmd_kept h ?_
  intro u hu
  refine ite_kept hu ?_
  extract_lets s1
  have hs1 : s1.Kept base := wr_kept hu
  exact ite_kept (emit_kept hs1) hs1

theorem State.plyExchange_kept {s : State} {x : PlyRange} (h : s.Kept base) : (s.plyExchange x).Kept base := by
  unfold State.plyExchange
  exact ite_kept h (plyDecide_kept h)

theorem State.plyDissolve_kept {s : State} {r : Req} (h : s.Kept base) : (s.plyDissolve r).Kept base := by
  unfold State.plyDissolve
  refine privCmd_kept h ?_
  intro u hu
  extract_lets s1 src
  have hs1 : s1.Kept base := wr_kept (unply_kept hu)
  have hsrc : src.Kept base := wr_kept hs1
  clear_value src
  exact hsrc

theorem State.plyHeard_kept {s : State} {f qpn : Nat} {msg : Bytes} (h : s.Kept base) :
    (s.plyHeard f qpn msg).Kept base := by
  unfold State.plyHeard
  extract_lets s1
  have hs1 : s1.Kept base := wr_kept (bump_kept h)
  clear_value s1
  exact hs1

theorem State.plyOpenMsg_kept {s : State} {f r : Nat} {body : Bytes} (h : s.Kept base) :
    (s.plyOpenMsg f r body).Kept base := by
  unfold State.plyOpenMsg
  extract_lets _ _ s1
  have hs1 : s1.Kept base := h
  exact takeOpen_kept hs1

theorem State.plyCohortMsg_kept {s : State} {f r : Nat} {body : Bytes} (h : s.Kept base) :
    (s.plyCohortMsg f r body).Kept base := by
  unfold State.plyCohortMsg
  split
  · exact h
  · refine ite_kept h ?_
    extract_lets s1
    have hs1 : s1.Kept base := updRound_kept h
    exact ite_kept (applyCohort_kept hs1) hs1

theorem State.plyShareMsg_kept {s : State} {f r : Nat} {body : Bytes} (h : s.Kept base) :
    (s.plyShareMsg f r body).Kept base := by
  unfold State.plyShareMsg
  split
  · exact h
  · refine ite_kept ?_ (partialOn_kept h)
    split
    · exact message_kept h
    · exact h

theorem State.plyReturnMsg_kept {s : State} {f r : Nat} {body : Bytes} (h : s.Kept base) :
    (s.plyReturnMsg f r body).Kept base := by
  unfold State.plyReturnMsg
  extract_lets
  split
  · exact h
  · extract_lets
    refine ite_kept h ?_
    split
    · exact decide_kept h
    · exact keepReturn_kept h

theorem State.plyDigestMsg_kept {s : State} {f r : Nat} {body : Bytes} (h : s.Kept base) :
    (s.plyDigestMsg f r body).Kept base :=
  plyCompare_kept (updRound_kept h)

theorem State.plyDoneMsg_kept {s : State} {f r : Nat} (h : s.Kept base) : (s.plyDoneMsg f r).Kept base :=
  updRound_kept h

theorem State.plyVerdictMsg_kept {s : State} {f r code : Nat} (h : s.Kept base) :
    (s.plyVerdictMsg f r code).Kept base := by
  unfold State.plyVerdictMsg
  split
  · exact h
  · exact ite_kept h (ite_kept (updRound_kept h) (ite_kept (abandon_kept h) (updRound_kept
      h)))

theorem State.plyAct_kept {s : State} {f : Nat} {msg : Bytes} (h : s.Kept base) : (s.plyAct f msg).Kept base := by
  unfold State.plyAct
  extract_lets
  exact ite_kept (ite_kept (plyVerdictMsg_kept h) h) (ite_kept h (ite_kept (plyAssetMsg_kept
      h) (ite_kept (plyOpenMsg_kept h) (ite_kept (plyCohortMsg_kept h) (ite_kept
      (plyShareMsg_kept h) (ite_kept (plyReturnMsg_kept h) (ite_kept (plyDigestMsg_kept h)
      (ite_kept (plyDoneMsg_kept h) h))))))))

theorem State.plyMessage_kept {s : State} {f qpn : Nat} {msg : Bytes} (h : s.Kept base) :
    (s.plyMessage f qpn msg).Kept base := by
  unfold State.plyMessage
  exact ite_kept h (plyAct_kept (plyHeard_kept h))

theorem State.plyCmd_kept {s : State} {f qpn type : Nat} {msg : Bytes} (h : s.Kept base) :
    (s.plyCmd f qpn type msg).Kept base := by
  unfold State.plyCmd
  exact ite_kept (plyMessage_kept h) h

theorem State.plyLate_kept {s : State} {f r : Nat} (h : s.Kept base) : (s.plyLate f r).Kept base := by
  unfold State.plyLate
  split
  · exact h
  · exact ite_kept (abandon_kept (verdict_kept h)) h

theorem State.plyBeat_kept {s : State} (h : s.Kept base) : s.plyBeat.Kept base := by
  unfold State.plyBeat
  refine ite_kept h ?_
  extract_lets _ s1
  have hs1 : s1.Kept base := h
  split
  · exact hs1
  · exact plySend_kept hs1

theorem State.askAgain_kept {s : State} {q : Query} (h : s.Kept base) : (s.askAgain q).Kept base := by
  unfold State.askAgain
  split
  · exact h
  · exact ite_kept (post_kept (updQuery_kept h)) h

theorem State.alone_kept {s : State} {x : Round} (h : s.Kept base) : (s.alone x).Kept base := by
  unfold State.alone
  extract_lets _ _ s1
  have hs1 : s1.Kept base := updRound_kept h
  exact ite_kept (ask_kept hs1) hs1

theorem State.dropHeldForwards_kept {s : State} (h : s.Kept base) : s.dropHeldForwards.Kept base := by
  unfold State.dropHeldForwards
  exact ite_kept h (foldl_kept (fun _ hs _ => fwdDone_kept (updTwr_kept hs)) h)

theorem State.partnerLost_kept {s : State} (h : s.Kept base) : s.partnerLost.Kept base := by
  unfold State.partnerLost
  extract_lets _ s1 s2 s3
  have hs1 : s1.Kept base := bump_kept (wr_kept (wr_kept h))
  have hs2 : s2.Kept base := dropHeldForwards_kept (foldl_kept (fun _ hs _ => raise_kept hs) hs1)
  have hs3 : s3.Kept base := foldl_kept (fun _ hs _ => alone_kept hs) hs2
  exact ite_kept (foldl_kept (fun _ hs _ => askAgain_kept hs) hs3) hs3

theorem State.plyLost_kept {s : State} (h : s.Kept base) : s.plyLost.Kept base := by
  unfold State.plyLost
  extract_lets
  exact ite_kept (partnerLost_kept h) h

/-! ## Connections and the context cache (R240 to R244, R253, R254) -/

theorem State.evict_kept {s : State} {qpn : Nat} (h : s.Kept base) : (s.evict qpn).Kept base := by
  unfold State.evict
  extract_lets n aad
  split
  next d s1 e =>
    have hs1 : s1.Kept base := snd_kept e (draw_kept (s := { s with evictions := _ }) h)
    exact hostPut_kept (updQp_kept hs1)

theorem State.cacheRoom_kept {s u : State} {keep : Nat} (h : s.Kept base) (e : s.cacheRoom keep = some u) :
    u.Kept base := by
  unfold State.cacheRoom at e
  split at e
  · cases e
    exact h
  · obtain ⟨q, -, rfl⟩ := Option.map_eq_some_iff.1 e
    exact evict_kept h

theorem State.keepContext_kept {s : State} {q : Qp} (h : s.Kept base) : (s.keepContext q).Kept base := by
  unfold State.keepContext
  extract_lets n s1
  have hs1 : s1.Kept base := updQp_kept (s := { s with evictions := _ }) h
  refine ite_kept h (ite_kept hs1 ?_)
  split
  · exact evict_kept hs1
  · exact h

theorem State.startFetch_kept {s : State} {qpn : Nat} (h : s.Kept base) : (s.startFetch qpn).Kept base :=
  updQp_kept h

theorem State.createQp_kept {s : State} {f : Nat} {b : Bytes} (h : s.Kept base) : (s.createQp f b).2.Kept base := by
  unfold State.createQp
  extract_lets
  refine ite_snd_kept h (ite_snd_kept h (ite_snd_kept h (ite_snd_kept h (ite_snd_kept
      (raise_kept h) (ite_snd_kept h ?_)))))
  split
  · exact h
  · extract_lets _ _ _ s1
    have hs1 : s1.Kept base := by
      unfold s1
      split
      next v e =>
        have hv : v.Kept base := cacheRoom_kept h e
        exact hv
      · exact evict_kept h
    exact ite_kept (ask_kept hs1) hs1

theorem State.qpCtl_kept {s : State} {f n : Nat} {desc : Bytes} {action : Nat}
    {body : Nat → Qp → State → Nat × State} (h : s.Kept base)
    (hbody : ∀ x0 x1 u2, u2.Kept base → (body x0 x1 u2).2.Kept base) : (s.qpCtl f n desc action body).Kept base := by
  unfold State.qpCtl
  extract_lets
  refine ite_kept h (job0_kept h ?_)
  intro _ u hu
  refine ite_snd_kept hu ?_
  split
  · exact hu
  · split
    next s1 e =>
      have hs1 : s1.Kept base := snd_kept e (hbody _ _ _ hu)
      exact hs1

theorem State.startDrain_kept {s : State} {qpn : Nat} (h : s.Kept base) : (s.startDrain qpn).Kept base :=
  updQp_kept h

theorem State.qpClose_kept {s : State} {f n : Nat} {desc : Bytes} (h : s.Kept base) :
    (s.qpClose f n desc).Kept base := by
  unfold State.qpClose
  exact qpCtl_kept h (fun _ _ _ hs => ite_snd_kept hs (drainCheck_kept (startDrain_kept
      (sendControl_kept hs))))

theorem State.qpDestroy_kept {s : State} {f n : Nat} {desc : Bytes} (h : s.Kept base) :
    (s.qpDestroy f n desc).Kept base := by
  unfold State.qpDestroy
  exact qpCtl_kept h (fun _ _ _ hs => ite_snd_kept hs hs)

theorem State.qpPin_kept {s : State} {f n : Nat} {desc : Bytes} (h : s.Kept base) :
    (s.qpPin f n desc).Kept base := by
  unfold State.qpPin
  exact qpCtl_kept h (fun _ _ _ hs => ite_snd_kept hs (ite_snd_kept (raise_kept hs)
      (startFetch_kept (updQp_kept hs))))

theorem State.qpUnpin_kept {s : State} {f n : Nat} {desc : Bytes} (h : s.Kept base) :
    (s.qpUnpin f n desc).Kept base :=
  qpCtl_kept h (fun _ _ _ hs => updQp_kept hs)

theorem State.qpBind_kept {s : State} {f n : Nat} {desc : Bytes} (h : s.Kept base) :
    (s.qpBind f n desc).Kept base := by
  unfold State.qpBind
  refine qpCtl_kept h ?_
  intro _ _ u hu
  extract_lets
  exact ite_snd_kept hu (creditAll_kept (updQp_kept hu))

theorem State.keyed_kept {s : State} {qpn x ss : Nat} {hello accept : Bytes} (h : s.Kept base) :
    (s.keyed qpn x ss hello accept).Kept base := by
  unfold State.keyed
  extract_lets
  exact updQp_kept h

theorem State.outShake_kept {s : State} {q1 : Qp} {port op : Nat} {pkt : Bytes} (h : s.Kept base) :
    (s.outShake q1 port op pkt).Kept base :=
  bump_kept (emit_kept (updQp_kept h))

theorem State.outHello_kept {s : State} {q1 : Qp} {port path : Nat} (h : s.Kept base) :
    (s.outHello q1 port path).Kept base := by
  unfold State.outHello
  extract_lets
  exact outShake_kept h

theorem State.outAccept_kept {s : State} {q1 : Qp} {port path : Nat} (h : s.Kept base) :
    (s.outAccept q1 port path).Kept base := by
  unfold State.outAccept
  extract_lets
  exact creditAll_kept (keyed_kept (outShake_kept h))

theorem State.sendShake_kept {s : State} {q1 : Qp} {port path : Nat} {k : ShakeKind} (h : s.Kept base) :
    (s.sendShake q1 port path k).Kept base := by
  unfold State.sendShake
  split
  · exact outHello_kept h
  · exact outShake_kept h
  · exact outAccept_kept h
  · exact outShake_kept h
  · exact outShake_kept h

theorem State.serveShake_kept {s : State} {b : Nat} (h : s.Kept base) : (s.serveShake b).Kept base := by
  unfold State.serveShake
  refine ite_kept h ?_
  split
  · exact h
  · exact sendShake_kept h

theorem State.shake_kept {s : State} {q : Qp} {k : ShakeKind} (h : s.Kept base) : (s.shake q k).Kept base :=
  serveShake_kept h

theorem State.helloServed_kept {s : State} {q : Qp} {ws : List Word} (h : s.Kept base) :
    (s.helloServed q ws).Kept base := by
  unfold State.helloServed
  extract_lets
  exact ite_kept (ask_kept (updQp_kept h)) (shake_kept (updQp_kept h))

theorem State.acceptServed_kept {s : State} {q : Qp} {ws : List Word} (h : s.Kept base) :
    (s.acceptServed q ws).Kept base := by
  unfold State.acceptServed
  extract_lets
  exact ite_kept (ask_kept (updQp_kept h)) (shake_kept (updQp_kept h))

theorem State.handshakeServed_kept {s : State} {qpn : Nat} {ws : List Word} (h : s.Kept base) :
    (s.handshakeServed qpn ws).Kept base := by
  unfold State.handshakeServed
  split
  · exact h
  · exact ite_kept (helloServed_kept h) (ite_kept (acceptServed_kept h) h)

theorem State.dropMalformed_kept {s : State} (h : s.Kept base) : s.dropMalformed.Kept base := bump_kept h

theorem State.dropAuth_kept {s : State} {q : Qp} (h : s.Kept base) : (s.dropAuth q).Kept base := by
  unfold State.dropAuth
  extract_lets s1
  have hs1 : s1.Kept base := bump_kept (bump_kept h)
  exact ite_kept hs1 (updQp_kept (raise_kept hs1))

theorem State.dropCtx_kept {s : State} {q : Qp} {n : Nat} (h : s.Kept base) : (s.dropCtx q n).Kept base :=
  raise_kept (bump_kept (bump_kept h))

theorem State.frame_kept {s : State} {p : Packet} {op : Nat} {other : Bool} {body : Qp → State → State}
    (h : s.Kept base) (hbody : ∀ x0 u1, u1.Kept base → (body x0 u1).Kept base) : (s.frame p op other body).Kept base := by
  unfold State.frame
  refine ite_kept h (ite_kept (dropMalformed_kept (bump_kept h)) ?_)
  extract_lets s1
  have hs1 : s1.Kept base := bump_kept h
  refine ite_kept (dropMalformed_kept hs1) ?_
  split
  · exact dropMalformed_kept hs1
  · refine ite_kept (dropMalformed_kept hs1) ?_
    extract_lets s2
    have hs2 : s2.Kept base := keepContext_kept hs1
    split
    · exact hs2
    · exact hbody _ _ hs2

theorem State.hit_kept {s : State} {qpn : Nat} (h : s.Kept base) : (s.hit qpn).Kept base :=
  updQp_kept (bump_kept h)

theorem State.handshakeIn_kept {s : State} {p : Packet} {op : Nat} {body : Qp → State → State} (h : s.Kept base)
    (hbody : ∀ x0 u1, u1.Kept base → (body x0 u1).Kept base) : (s.handshakeIn p op body).Kept base := by
  unfold State.handshakeIn
  exact frame_kept h (fun _ _ hs => ite_kept (dropCtx_kept hs) (hbody _ _ (hit_kept hs)))

theorem State.hello_kept {s : State} {p : Packet} (h : s.Kept base) : (s.hello p).Kept base := by
  unfold State.hello
  refine handshakeIn_kept h ?_
  intro _ u hu
  extract_lets
  refine ite_kept (dropMalformed_kept hu) (ite_kept (dropAuth_kept hu) (ite_kept (ite_kept
      (shake_kept hu) hu) (ite_kept hu (ite_kept (shake_kept hu) ?_))))
  split
  · exact shake_kept hu
  · exact ask_kept (updQp_kept hu)

theorem State.accept_kept {s : State} {p : Packet} (h : s.Kept base) : (s.accept p).Kept base := by
  unfold State.accept
  refine handshakeIn_kept h ?_
  intro _ u hu
  extract_lets
  exact ite_kept (dropMalformed_kept hu) (ite_kept (qpEnd_kept (bump_kept (bump_kept hu)))
      (ite_kept (qpEnd_kept hu) (ite_kept (qpEnd_kept hu) (creditAll_kept (keyed_kept
      (updQp_kept hu))))))

theorem State.refuse_kept {s : State} {p : Packet} (h : s.Kept base) : (s.refuse p).Kept base := by
  unfold State.refuse
  refine handshakeIn_kept h ?_
  intro _ u hu
  refine ite_kept (dropMalformed_kept hu) ?_
  extract_lets s1
  have hs1 : s1.Kept base := updQp_kept hu
  exact ite_kept (shake_kept hs1) hs1

theorem State.handshakeRetry_kept {s : State} {qpn : Nat} (h : s.Kept base) : (s.handshakeRetry qpn).Kept base := by
  unfold State.handshakeRetry
  split
  · exact h
  · exact ite_kept h (ite_kept (shake_kept h) (qpEnd_kept h))

/-! ## Receiving on a queue pair (R239, R245 to R247) -/

theorem State.ackNow_kept {s : State} {qpn : Nat} {p : Packet} (h : s.Kept base) : (s.ackNow qpn p).Kept base :=
  sendAck_kept (updQp_kept h)

theorem State.arrived_kept {s : State} {qpn : Nat} {p : Packet} (h : s.Kept base) : (s.arrived qpn p).Kept base :=
  updQp_kept h

theorem State.dropWindow_kept {s : State} {q : Qp} (h : s.Kept base) : (s.dropWindow q).Kept base :=
  bump_kept (bump_kept h)

theorem State.dropMsg_kept {s : State} {qpn msn : Nat} (h : s.Kept base) : (s.dropMsg qpn msn).Kept base :=
  updQp_kept h

theorem State.failMsg_kept {s : State} {q : Qp} {m : RxMsg} {seq code : Nat} (h : s.Kept base) :
    (s.failMsg q m seq code).Kept base := by
  unfold State.failMsg
  extract_lets s1 s2
  have hs1 : s1.Kept base := rxFail_kept h
  have hs2 : s2.Kept base := ite_kept (dropMsg_kept hs1) hs1
  exact ite_kept hs2 (raise_kept hs2)

theorem State.deliver_kept {s : State} {q : Qp} {lz : Nat} {msg : Bytes} (h : s.Kept base) :
    (s.deliver q lz msg).Kept base := by
  unfold State.deliver
  extract_lets
  refine ite_kept (cohortMessage_kept h) (ite_kept (committeeReturn_kept h) (ite_kept
      (partialMsg_kept h) (ite_kept (plyMessage_kept h) ?_)))
  split
  · exact rowListMsg_kept h
  · exact message_kept h

theorem State.awaitPost_kept {s : State} {q : Qp} {m : RxMsg} {k : PostKind} (h : s.Kept base) :
    (s.awaitPost q m k).Kept base :=
  h

theorem State.sendDone_kept {s : State} {q : Qp} {m : RxMsg} (h : s.Kept base) : (s.sendDone q m).Kept base :=
  awaitPost_kept h

theorem State.combineRecords_kept {s : State} {w : Window} {qpn msn : Nat} {data : List Host.Cell} {l : List Nat}
    (h : s.Kept base) : (s.combineRecords w qpn msn data l).2.Kept base := by
  induction l generalizing s with
  | nil =>
    unfold State.combineRecords
    exact h
  | cons x xs ih =>
    unfold State.combineRecords
    split
    next s2 e =>
      have hs2 : s2.Kept base := snd_kept e (record_kept h)
      exact ite_snd_kept hs2 (ih (updQp_kept hs2))

theorem State.landingDone_kept {s : State} {q : Qp} {w : Window} {m : RxMsg} {off n : Nat} (h : s.Kept base) :
    (s.landingDone q w m off n).Kept base :=
  awaitPost_kept h

theorem State.postOne_kept {s : State} {c : Completion} (h : s.Kept base) : (s.postOne c).Kept base := by
  unfold State.postOne
  split
  · exact h
  · extract_lets s1 s2
    have hs1 : s1.Kept base := dropMsg_kept h
    have hs2 : s2.Kept base := by
      unfold s2
      split
      · exact deliver_kept hs1
      · extract_lets s3
        have hs3 : s3.Kept base := place_kept hs1
        exact ctrAdd_kept (message_kept hs3)
    exact drainCheck_kept (creditAll_kept hs2)

theorem State.postAll_kept {s : State} (h : s.Kept base) : s.postAll.Kept base :=
  foldl_kept (fun _ hs _ => postOne_kept hs) h

theorem State.written_kept {s : State} {q : Qp} {m : RxMsg} {p : Packet} {seq : Nat} (h : s.Kept base) :
    (s.written q m p seq).Kept base := by
  unfold State.written
  split
  · exact failMsg_kept h
  · extract_lets
    split
    · extract_lets
      refine ite_kept (failMsg_kept h) (ite_kept (ite_kept (landingDone_kept h) h) ?_)
      split
      next s2 e =>
        have hs2 : s2.Kept base := snd_kept e (combineRecords_kept h)
        exact ite_kept (failMsg_kept hs2) (ite_kept (dropMsg_kept hs2) hs2)

theorem State.packetPlaced_kept {s : State} {q : Qp} {m : RxMsg} {p : Packet} {seq : Nat} (h : s.Kept base) :
    (s.packetPlaced q m p seq).Kept base := by
  unfold State.packetPlaced
  exact ite_kept (ite_kept (dropMsg_kept h) h) (ite_kept (written_kept h) (ite_kept
      (sendDone_kept h) h))

theorem State.dataIn_kept {s : State} {q : Qp} {p : Packet} (h : s.Kept base) : (s.dataIn q p).Kept base := by
  unfold State.dataIn
  extract_lets _ _ _ _ _ _ _ _ _ s1 s2 s3
  have hs1 : s1.Kept base := arrived_kept (updQp_kept h)
  have hs2 : s2.Kept base := creditAll_kept (packetPlaced_kept hs1)
  have hs3 : s3.Kept base := ite_kept (ackNow_kept hs2) hs2
  exact ite_kept (dropWindow_kept h) (ite_kept (ackNow_kept (bump_kept (bump_kept h)))
      (ite_kept (ackNow_kept h) (ite_kept (dropWindow_kept h) (ite_kept (dropMalformed_kept
      h) (ite_kept (bump_kept (bump_kept h)) (drainCheck_kept hs3))))))

theorem State.controlIn_kept {s : State} {q : Qp} {p : Packet} {body : State → State} (h : s.Kept base)
    (hbody : ∀ u, u.Kept base → (body u).Kept base) : (s.controlIn q p body).Kept base := by
  unfold State.controlIn
  extract_lets
  exact ite_kept (dropWindow_kept h) (hbody _ (updQp_kept h))

theorem State.ackIn_kept {s : State} {q : Qp} {p : Packet} (h : s.Kept base) : (s.ackIn q p).Kept base := by
  unfold State.ackIn
  extract_lets _ _ _ _ _ _ _ _ _ _ _ s1
  have hs1 : s1.Kept base := updQp_kept h
  exact ite_kept (drainCheck_kept (updQp_kept h)) (drainCheck_kept (foldl_kept (fun _ hs _ =>
      txDone_kept hs) hs1))

theorem State.nakIn_kept {s : State} {q : Qp} {p : Packet} (h : s.Kept base) : (s.nakIn q p).Kept base := by
  unfold State.nakIn
  extract_lets
  split
  · exact h
  · refine ite_kept h ?_
    extract_lets s1
    have hs1 : s1.Kept base := updQp_kept h
    exact raise_kept (txFail_kept hs1)

theorem State.checked_kept {s : State} {qpn : Nat} {p : Packet} (h : s.Kept base) :
    (s.checked qpn p).Kept base := by
  unfold State.checked
  split
  · exact dropMalformed_kept h
  · exact ite_kept (dropMalformed_kept h) (ite_kept (dropAuth_kept h) (ite_kept (dataIn_kept
      h) (controlIn_kept h (fun _ hs => ite_kept (ackIn_kept hs) (ite_kept (nakIn_kept hs)
      (ite_kept (drainCheck_kept (startDrain_kept hs)) hs))))))

theorem State.park_kept {s : State} {q : Qp} {p : Packet} (h : s.Kept base) : (s.park q p).Kept base := by
  unfold State.park
  exact ite_kept (dropCtx_kept h) (startFetch_kept (updQp_kept (bump_kept h)))

theorem State.packetIn_kept {s : State} {p : Packet} {op : Nat} {other : Bool} (h : s.Kept base) :
    (s.packetIn p op other).Kept base := by
  unfold State.packetIn
  exact frame_kept h (fun _ _ hs => ite_kept (checked_kept (hit_kept hs)) (park_kept hs))

theorem State.fetched_kept {s : State} {qpn : Nat} {tagOk : Bool} {count : Nat} (h : s.Kept base) :
    (s.fetched qpn tagOk count).Kept base := by
  unfold State.fetched
  split
  · exact h
  · refine ite_kept h (ite_kept (qpEnd_kept h) ?_)
    split
    · exact h
    next s1 e =>
      have hs1 : s1.Kept base := cacheRoom_kept h e
      exact foldl_kept (fun _ hs _ => checked_kept hs) (updQp_kept hs1)

theorem State.fetchLate_kept {s : State} {qpn : Nat} (h : s.Kept base) : (s.fetchLate qpn).Kept base := by
  unfold State.fetchLate
  split
  · exact h
  · refine ite_kept h ?_
    extract_lets s1
    have hs1 : s1.Kept base := updQp_kept h
    exact ite_kept hs1 (dropCtx_kept hs1)

/-! ## Sending on a queue pair (R247 to R252) -/

theorem State.sendData_kept {s : State} {q1 : Qp} {port path write flags retry seq msn off arg : Nat}
    {plain : Bytes} (h : s.Kept base) :
    (s.sendData q1 port path write flags retry seq msn off arg plain).Kept base := by
  unfold State.sendData
  extract_lets _ _ _ _ _ _ s1
  have hs1 : s1.Kept base := bump_kept (emit_kept (updQp_kept h))
  exact ite_kept hs1 (bump_kept (bump_kept hs1))

theorem State.sendPart_kept {s : State} {q1 : Qp} {port path : Nat} {m : TxMsg} {msn retry seq off n : Nat}
    (h : s.Kept base) : (s.sendPart q1 port path m msn retry seq off n).Kept base := by
  unfold State.sendPart
  extract_lets
  exact ite_kept (sendData_kept h) (sendData_kept h)

theorem State.sendAgain_kept {s : State} {q : Qp} {k : TxPkt} (h : s.Kept base) : (s.sendAgain q k).Kept base := by
  unfold State.sendAgain
  split
  · refine ite_kept (qpEnd_kept h) ?_
    extract_lets
    exact sendPart_kept h
  · exact h

theorem State.sendFresh_kept {s : State} {q : Qp} {m : TxMsg} (h : s.Kept base) : (s.sendFresh q m).Kept base := by
  unfold State.sendFresh
  extract_lets
  refine ite_kept (qpEnd_kept h) (ite_kept (qpEnd_kept h) ?_)
  split
  · exact h
  · extract_lets
    exact sendPart_kept h

theorem State.noteBlocked_kept {s : State} {q : Qp} (h : s.Kept base) : (s.noteBlocked q).Kept base := by
  unfold State.noteBlocked
  exact ite_kept (updQp_kept h) h

theorem State.transmit_kept {s : State} {qpn : Nat} (h : s.Kept base) : (s.transmit qpn).Kept base := by
  unfold State.transmit
  split
  · exact h
  · refine ite_kept (serveShake_kept h) (ite_kept h (ite_kept (startFetch_kept h) (ite_kept
      (drainCheck_kept (sendCtl_kept h)) ?_)))
    split
    · exact noteBlocked_kept h
    · refine ite_kept h ?_
      split
      · exact sendAgain_kept h
      · exact sendFresh_kept h

theorem State.probe_kept {s : State} {qpn : Nat} (h : s.Kept base) : (s.probe qpn).Kept base := by
  unfold State.probe
  split
  · exact h
  · extract_lets
    refine ite_kept h (ite_kept (qpEnd_kept h) (ite_kept (qpEnd_kept h) ?_))
    split
    · exact h
    · extract_lets
      exact sendData_kept h

theorem State.rtoExpiry_kept {s : State} {qpn seq : Nat} (h : s.Kept base) : (s.rtoExpiry qpn seq).Kept base := by
  unfold State.rtoExpiry
  split
  · exact h
  · split
    · exact h
    · refine ite_kept h ?_
      extract_lets s1
      have hs1 : s1.Kept base := bump_kept h
      exact ite_kept (qpEnd_kept hs1) (updQp_kept hs1)

theorem State.pathClear_kept {s : State} {qpn h : Nat} (hs : s.Kept base) : (s.pathClear qpn h).Kept base := by
  unfold State.pathClear
  exact ite_kept hs (updQp_kept hs)

theorem State.ackTimer_kept {s : State} {qpn : Nat} (h : s.Kept base) : (s.ackTimer qpn).Kept base := by
  unfold State.ackTimer
  split
  · exact h
  · exact ite_kept (sendAck_kept h) h

theorem State.drainLate_kept {s : State} {qpn : Nat} (h : s.Kept base) : (s.drainLate qpn).Kept base := by
  unfold State.drainLate
  split
  · exact h
  · exact ite_kept (qpEnd_kept h) h

theorem State.relock_kept {s : State} {port : Nat} (h : s.Kept base) : (s.relock port).Kept base := by
  unfold State.relock
  extract_lets
  exact wr_kept (wr_kept h)

theorem State.bundleDown_kept {s : State} {b : Nat} (h : s.Kept base) : (s.bundleDown b).Kept base := by
  unfold State.bundleDown
  exact ite_kept h (raiseAll_kept h)

theorem State.portDown_kept {s : State} {port : Nat} (h : s.Kept base) : (s.portDown port).Kept base := by
  unfold State.portDown
  refine ite_kept h ?_
  extract_lets s1
  have hs1 : s1.Kept base := relock_kept (bump_kept (wr_kept (wr_kept h)))
  exact foldl_kept (fun _ hs _ => bundleDown_kept hs) (raise_kept hs1)

theorem State.linkUp_kept {s : State} {port : Nat} (h : s.Kept base) : (s.linkUp port).Kept base :=
  relock_kept (wr_kept (wr_kept h))

theorem State.portUp_kept {s : State} {port : Nat} (h : s.Kept base) : (s.portUp port).Kept base := by
  unfold State.portUp
  refine ite_kept h ?_
  extract_lets s1
  have hs1 : s1.Kept base := linkUp_kept h
  exact ite_kept (raise_kept hs1) hs1

/-! ## The SYNC input (R296 to R299) -/

theorem State.syncEpoch_kept {s : State} {r : Req} {m : Nat} (h : s.Kept base) : (s.syncEpoch r m).Kept base :=
  privCmd_kept h (fun _ hs => hs)

theorem State.syncLost_kept {s : State} (h : s.Kept base) : s.syncLost.Kept base := by
  unfold State.syncLost
  extract_lets s1
  have hs1 : s1.Kept base := bump_kept (wr_kept (wr_kept h))
  exact raiseAll_kept hs1

theorem State.loadEpoch_kept {s : State} (h : s.Kept base) : s.loadEpoch.Kept base := by
  unfold State.loadEpoch
  split
  · exact h
  · extract_lets _ _ s1
    have hs1 : s1.Kept base := h
    clear_value s1
    exact ite_kept (bump_kept hs1) (wr_kept hs1)

theorem State.marker_kept {s : State} (h : s.Kept base) : s.marker.Kept base := by
  unfold State.marker
  refine ite_kept h ?_
  extract_lets _ s1 src _ s2 s3
  have hs1 : s1.Kept base := loadEpoch_kept h
  have hsrc : src.Kept base := wr_kept (wr_kept hs1)
  clear_value src
  have hs2 : s2.Kept base := hsrc
  have hs3 : s3.Kept base := ite_kept (wr_kept hs2) hs2
  exact ite_kept (syncLost_kept hs3) hs3

theorem State.markerLate_kept {s : State} (h : s.Kept base) : s.markerLate.Kept base := by
  unfold State.markerLate
  exact ite_kept (syncLost_kept h) h

/-! ## Checkpoints (R427 to R430) -/

theorem State.checkpoint_kept {s : State} {f n : Nat} {desc : Bytes} (h : s.Kept base) :
    (s.checkpoint f n desc).Kept base := by
  unfold State.checkpoint
  extract_lets _ s1
  have hs1 : s1.Kept base := takeJob_kept h
  exact ite_kept h (ite_kept (jobDone_kept hs1) (ite_kept (jobDone_kept hs1) (ask_kept
      (updFn_kept hs1))))

theorem State.ckptDone_kept {s : State} {f n d code result : Nat} (h : s.Kept base) :
    (s.ckptDone f n d code result).Kept base := by
  unfold State.ckptDone
  extract_lets s1
  have hs1 : s1.Kept base := jobDone_kept h
  exact ite_kept (ringGone_kept hs1) hs1

theorem State.checkpointOn_kept {s : State} {f : Nat} (h : s.Kept base) : (s.checkpointOn f).Kept base := by
  unfold State.checkpointOn
  split
  · extract_lets s0 _ _ s1
    have hs0 : s0.Kept base := updFn_kept h
    have hs1 : s1.Kept base := foldl_kept (fun _ hs _ => pagesBack_kept hs) (foldl_kept (fun _ hs _ =>
        writeBack_kept hs) hs0)
    refine ite_kept (ckptDone_kept hs0) (ite_kept h ?_)
    split
    next s11 e =>
      have hs11 : s11.Kept base := snd_kept e (draw_kept hs1)
      extract_lets
      exact ite_kept (ckptDone_kept hs11) (ckptDone_kept (hostPut_kept (ckpts_append_kept hs11
          (fun hw p hp => ckptOf_scratch_wf hw hp))))
  · exact h

theorem State.checkpointDrawn_kept {s : State} {f : Nat} {ws : List Word} (h : s.Kept base) :
    (s.checkpointDrawn f ws).Kept base :=
  checkpointOn_kept (updFn_kept h)

theorem State.checkpointsOn_kept {s : State} (h : s.Kept base) : s.checkpointsOn.Kept base :=
  foldl_kept (fun _ hs _ => checkpointOn_kept hs) h

theorem State.restoreTile_kept {s : State} {c : Ckpt} {t : Nat} {g : TileTag} (h : s.Kept base) :
    (s.restoreTile c t g).Kept base := by
  unfold State.restoreTile
  extract_lets _ s1
  have hs1 : s1.Kept base := wrote_kept (setTag_kept h)
  exact putTile_kept hs1

theorem State.restoreTiles_kept {s : State} {c : Ckpt} (h : s.Kept base) : (s.restoreTiles c).Kept base :=
  foldl_kept (fun _ hs _ => restoreTile_kept hs) h

theorem State.redraw_kept {s : State} {f : Nat} {r : Round} (h : s.Kept base) : (s.redraw f r).Kept base := by
  unfold State.redraw
  exact ite_kept (ask_kept h) h

theorem State.restore_kept {s : State} {f : Nat} {c : Ckpt} (h : s.Kept base) : (s.restore f c).Kept base := by
  unfold State.restore
  extract_lets s1 s2 s3
  have hs1 : s1.Kept base := updFn_kept (foldl_kept (fun _ hs _ => ctrForce_kept hs)
      (restoreTiles_kept h))
  have hs2 : s2.Kept base := foldl_kept (fun _ hs p => updSpin_kept hs (fun _ _ => setAll_wf p.2.scratch [] rfl)) hs1
  clear_value s2
  have hs3 : s3.Kept base := hs2
  exact foldl_kept (fun _ hs _ => redraw_kept hs) hs3

theorem State.resumeCkpt_kept {s : State} {f n : Nat} {desc : Bytes} {rec_ : Option Bytes} (h : s.Kept base) :
    (s.resumeCkpt f n desc rec_).Kept base := by
  unfold State.resumeCkpt
  refine job_kept h ?_
  intro _ _ u hu
  extract_lets
  exact ite_snd_kept hu (restore_kept hu)

theorem State.leafDigests_kept {s : State} {f n : Nat} {desc : Bytes} (h : s.Kept base) :
    (s.leafDigests f n desc).Kept base := by
  unfold State.leafDigests
  extract_lets _ s1
  have hs1 : s1.Kept base := takeJob_kept h
  exact ite_kept h (ite_kept (jobDone_kept hs1) (jobDone_kept (hostPut_kept hs1)))

/-! ## What ends service (R398, R408, R418, R419) -/

theorem State.zeroAllKeys_kept {s : State} (h : s.Kept base) : s.zeroAllKeys.Kept base := by
  unfold State.zeroAllKeys
  extract_lets _ s1
  have hs1 : s1.Kept base := h
  exact foldl_kept (fun _ hs _ => wr_kept (clearAssets_kept hs)) hs1

theorem State.failed_kept {s : State} {code detail : Nat} (h : s.Kept base) : (s.failed code detail).Kept base := by
  unfold State.failed
  extract_lets src
  have hsrc : src.Kept base := wr_kept (wr_kept (wr_kept h))
  clear_value src
  exact hsrc

theorem State.bootFail_kept {s : State} {code detail : Nat} (h : s.Kept base) :
    (s.bootFail code detail).Kept base := by
  unfold State.bootFail
  extract_lets s1
  have hs1 : s1.Kept base := wr_kept (failed_kept (zeroAllKeys_kept h))
  clear_value s1
  exact hs1

theorem State.fatal_kept {s : State} {code : Nat} {clk : Bool} (h : s.Kept base) :
    (s.fatal code clk).Kept base := by
  unfold State.fatal
  refine ite_kept h ?_
  extract_lets s1 _ s2
  have hs1 : s1.Kept base := ite_kept (raiseAll_kept h) h
  clear_value s1
  have hs2 : s2.Kept base := zeroAllKeys_kept hs1
  exact failed_kept (wr_kept (wr_kept (wr_kept hs2)))

/-- The definition is unfolded as a function: with its arguments the kernel would count down from 0x800000 (R418). -/
theorem State.remapTile_kept {s : State} {f t : Nat} (h : s.Kept base) : (s.remapTile f t).Kept base := by
  generalize hF : @State.remapTile = F
  delta State.remapTile at hF
  subst hF
  beta_reduce
  generalize s.farFrom (s.farTop - 0x800000) = far
  split
  · split
    next d s1 e =>
      have hs1 : s1.Kept base := snd_kept e h
      exact tiles_kept (setTag_kept hs1) (fun hm => writeBytes_wf _ _ _ (Sparse.clear_wf _ _ _ _ hm))
  · exact wipeTile_kept (unstageGone_kept (revokeTiles_kept h))

theorem State.remapAll_kept {s : State} {f : Nat} (h : s.Kept base) : (s.remapAll f).Kept base :=
  foldl_kept (fun _ hs _ => remapTile_kept hs) h

theorem State.tierLost_kept {s : State} (h : s.Kept base) : s.tierLost.Kept base := by
  unfold State.tierLost
  refine ite_kept h ?_
  extract_lets _ s1 _ s2 s3 s4
  have hs1 : s1.Kept base := raiseAll_kept (wr_kept (wr_kept h))
  have hs2 : s2.Kept base := foldl_kept (fun _ hs _ => abandonAll_kept hs) hs1
  have hs3 : s3.Kept base := foldl_kept (fun _ hs _ => discardStage_kept hs) hs2
  clear_value s3
  have hs4 : s4.Kept base := hs3
  exact foldl_kept (fun _ hs _ => remapAll_kept hs) hs4

theorem State.packageLost_kept {s : State} {p : Nat} (h : s.Kept base) : (s.packageLost p).Kept base := by
  unfold State.packageLost
  extract_lets _ s1 _ s2
  have hs1 : s1.Kept base := wr_kept (wr_kept h)
  have hs2 : s2.Kept base := raiseAll_kept hs1
  exact foldl_kept (fun _ hs _ => abandonAll_kept hs) hs2

/-! ## The random bit generator (R312 to R325) -/

theorem State.updRng_kept {s : State} {g : Rng → Rng} (h : s.Kept base) : (s.updRng g).Kept base := h

theorem State.updSource_kept {s : State} {k : Nat} {g : Source → Source} (h : s.Kept base) :
    (s.updSource k g).Kept base :=
  updRng_kept h

theorem State.startSource_kept {s : State} {k : Nat} (h : s.Kept base) : (s.startSource k).Kept base :=
  updSource_kept h

theorem State.collect_kept {s : State} (h : s.Kept base) : s.collect.Kept base := updRng_kept h

theorem State.collectIfOk_kept {s : State} (h : s.Kept base) : s.collectIfOk.Kept base := by
  unfold State.collectIfOk
  extract_lets
  exact ite_kept (collect_kept h) h

theorem State.startEntropy_kept {s : State} (h : s.Kept base) : s.startEntropy.Kept base :=
  foldl_kept (fun _ hs _ => startSource_kept hs) (wr_kept h)

theorem State.sourceSettled_kept {s : State} {k : Nat} (h : s.Kept base) : (s.sourceSettled k).Kept base := by
  unfold State.sourceSettled
  extract_lets
  exact ite_kept (updSource_kept h) h

theorem State.startupDone_kept {s : State} {k : Nat} (h : s.Kept base) : (s.startupDone k).Kept base := by
  unfold State.startupDone
  extract_lets
  exact ite_kept (collectIfOk_kept (updSource_kept h)) h

theorem State.softWord_kept {s : State} {r : Req} {w : Word} {code : Nat} (h : s.Kept base) :
    (s.softWord r w code).Kept base :=
  emit_kept (updRng_kept h)

theorem State.idleWord_kept {s : State} {r : Req} (h : s.Kept base) : (s.idleWord r).Kept base :=
  bump_kept (softWord_kept h)

theorem State.idleReads_kept {s : State} (h : s.Kept base) : s.idleReads.Kept base := by
  unfold State.idleReads
  refine foldl_kept ?_ (updRng_kept h)
  intro u hu _
  split
  · exact idleWord_kept hu
  · exact hu

theorem State.haltIfDry_kept {s : State} (h : s.Kept base) : s.haltIfDry.Kept base := by
  unfold State.haltIfDry
  exact ite_kept (noEntropy_kept (idleReads_kept (wr_kept h))) h

theorem State.goDead_kept {s : State} (h : s.Kept base) : s.goDead.Kept base := by
  unfold State.goDead
  refine ite_kept (bootFail_kept h) ?_
  extract_lets _ s1 s2
  have hs1 : s1.Kept base := idleReads_kept (raise_kept (wr_kept h))
  have hs2 : s2.Kept base := updRng_kept hs1
  exact foldl_kept (fun _ hs _ => ite_kept (abandon_kept hs) hs) hs2

theorem State.failLog_kept {s : State} {k : Nat} {test : RngTest} {startup : Bool} (h : s.Kept base) :
    (s.failLog k test startup).Kept base := by
  unfold State.failLog
  extract_lets s1
  have hs1 : s1.Kept base := bump_kept h
  exact capture_kept hs1

theorem State.healthFail_kept {s : State} {k : Nat} {test : RngTest} (h : s.Kept base) :
    (s.healthFail k test).Kept base := by
  unfold State.healthFail
  extract_lets _ s1 s2 s21
  have hs1 : s1.Kept base := updRng_kept (failLog_kept h)
  have hs2 : s2.Kept base := ite_kept (updRng_kept (wr_kept (raise_kept hs1))) hs1
  have hs21 : s21.Kept base := updSource_kept hs1
  exact ite_kept h (ite_kept (haltIfDry_kept (startSource_kept hs2)) (ite_kept
      (startSource_kept (updSource_kept hs1)) (ite_kept (goDead_kept hs21) (collectIfOk_kept
      hs21))))

theorem State.collectionDone_kept {s : State} (h : s.Kept base) : s.collectionDone.Kept base := by
  unfold State.collectionDone
  refine ite_kept h ?_
  extract_lets s1
  have hs1 : s1.Kept base := ite_kept (bump_kept h) h
  exact updRng_kept (wr_kept hs1)

theorem State.reseedTimer_kept {s : State} (h : s.Kept base) : s.reseedTimer.Kept base := by
  unfold State.reseedTimer
  extract_lets
  exact ite_kept (collect_kept h) h

theorem State.generate_kept {s : State} (h : s.Kept base) : s.generate.Kept base := by
  unfold State.generate
  exact ite_kept h (updRng_kept h)

theorem State.identityDrawn_kept {s : State} {f : Nat} {ws : List Word} (h : s.Kept base) :
    (s.identityDrawn f ws).Kept base := by
  unfold State.identityDrawn
  extract_lets
  exact ite_kept (updFn_kept h) (ask_kept h)

theorem State.slotDrawn_kept {s : State} {slot : Nat} {ws : List Word} (h : s.Kept base) :
    (s.slotDrawn slot ws).Kept base := by
  unfold State.slotDrawn
  extract_lets
  exact ite_kept h (wr_kept (setSlot_kept h))

theorem State.lmsDrawn_kept {s : State} {ws : List Word} (h : s.Kept base) : (s.lmsDrawn ws).Kept base := by
  unfold State.lmsDrawn
  split
  next s1 e =>
    have hs1 : s1.Kept base := snd_kept e (draw_kept h)
    exact setSlot_kept hs1

theorem State.ctxDrawn_kept {s : State} {ws : List Word} (h : s.Kept base) : (s.ctxDrawn ws).Kept base :=
  nalam_kept h

theorem State.wordsCame_kept {s : State} {j id : Nat} (h : s.Kept base) : (s.wordsCame j id).Kept base := by
  unfold State.wordsCame
  exact ite_kept h (updSpin_kept h)

theorem State.rngDone_kept {s : State} {q : RngReq} (h : s.Kept base) : (s.rngDone q).Kept base := by
  unfold State.rngDone
  split
  · exact identityDrawn_kept h
  · exact lmsDrawn_kept h
  · exact ctxDrawn_kept h
  · exact slotDrawn_kept h
  · exact handshakeServed_kept h
  · exact nonceServed_kept h
  · exact wr_kept h
  · exact remasked_kept h
  · exact roundDrawn_kept h
  · exact checkpointDrawn_kept h
  · exact wordsCame_kept h
  · exact wordsCame_kept h
  · exact softWord_kept h

theorem State.serveWord_kept {s : State} (h : s.Kept base) : s.serveWord.Kept base := by
  unfold State.serveWord
  refine ite_kept h ?_
  split
  · split
    · exact h
    · extract_lets _ s1
      have hs1 : s1.Kept base := updRng_kept h
      exact haltIfDry_kept (ite_kept (rngDone_kept hs1) hs1)
  · exact h

theorem State.rngData_kept {s : State} {r : Req} {addr : Nat} (h : s.Kept base) : (s.rngData r addr).Kept base := by
  unfold State.rngData
  extract_lets
  exact ite_kept h (ite_kept (accErr_kept h) (ite_kept (accErr_kept (emit_kept h))
      (ite_kept (idleWord_kept h) (ask_kept h))))

/-! ## The host's side (R369 to R390) -/

theorem State.countSnap_kept {s : State} {f : Nat} (h : s.Kept base) : (s.countSnap f).Kept base := by
  unfold State.countSnap
  refine ite_kept h ?_
  extract_lets s1
  have hs1 : s1.Kept base := bump_kept h
  clear_value s1
  exact hs1

theorem State.snap_kept {s : State} {r : Req} (h : s.Kept base) : (s.snap r).Kept base := by
  unfold State.snap
  refine privCmd_kept h ?_
  intro u hu
  extract_lets s1
  have hs1 : s1.Kept base := bump_kept hu
  exact foldl_kept (fun _ hs _ => countSnap_kept hs) hs1

theorem State.fsnap_kept {s : State} {f : Nat} (h : s.Kept base) : (s.fsnap f).Kept base := by
  unfold State.fsnap
  refine funcCmd_kept h ?_
  intro u hu
  extract_lets
  exact countSnap_kept hu

theorem State.sendPending_kept {s : State} {f : Nat} (h : s.Kept base) : (s.sendPending f).Kept base := by
  unfold State.sendPending
  exact foldl_kept (fun _ hs _ => ite_kept (emit_kept (wr_kept hs)) hs) h

theorem State.dmaResume_kept {s : State} {f : Nat} (h : s.Kept base) : (s.dmaResume f).Kept base := by
  unfold State.dmaResume
  refine ite_kept h ?_
  extract_lets _ s1 s2
  have hs1 : s1.Kept base := updFn_kept h
  have hs2 : s2.Kept base := foldl_kept (fun _ hs _ => hostPut_kept hs) hs1
  exact sendPending_kept (foldl_kept (fun _ hs _ => raiseAt_kept hs) hs2)

theorem State.linkLost_kept {s : State} (h : s.Kept base) : s.linkLost.Kept base := by
  unfold State.linkLost
  exact ite_kept h (raise_kept (bump_kept h))

theorem State.linkBack_kept {s : State} (h : s.Kept base) : s.linkBack.Kept base := by
  unfold State.linkBack
  exact ite_kept h (foldl_kept (fun _ hs _ => dmaResume_kept hs) h)

theorem State.ideReq_kept {s : State} {f : Nat} (h : s.Kept base) : (s.ideReq f).Kept base := by
  unfold State.ideReq
  extract_lets
  refine funcCmd_kept h ?_
  intro u hu
  refine ite_kept (accErr_kept hu) (ite_kept ?_ hu)
  extract_lets src
  have hsrc : src.Kept base := wr_kept hu
  clear_value src
  exact hsrc

theorem State.ideFail_kept {s : State} {f : Nat} (h : s.Kept base) : (s.ideFail f).Kept base := by
  unfold State.ideFail
  refine ite_kept h ?_
  extract_lets s1
  have hs1 : s1.Kept base := updFn_kept h
  exact ite_kept (raise_kept (updFn_kept hs1)) hs1

theorem State.ideKm_kept {s : State} {f : Nat} {q : SpdmReq} (h : s.Kept base) : (s.ideKm f q).Kept base := by
  unfold State.ideKm
  refine spdm_kept h ?_
  intro u hu
  extract_lets
  exact ite_kept (spdmError_kept hu) (spdmAnswer_kept (dmaResume_kept (updFn_kept hu)))

theorem State.resetRegs_kept {s : State} {f : Nat} (h : s.Kept base) : (s.resetRegs f).Kept base := h

theorem State.cancelUnits_kept {s : State} {f : Nat} (h : s.Kept base) : (s.cancelUnits f).Kept base := by
  unfold State.cancelUnits
  extract_lets _ _ s1 _ s2 s3
  have hs1 : s1.Kept base := foldl_kept (fun _ hs _ => unloadSpin_kept hs) h
  clear_value s1
  have hs2 : s2.Kept base := hs1
  have hs3 : s3.Kept base := foldl_kept (fun _ hs _ => ite_kept (discardStage_kept hs) (unstage_kept
      hs)) hs2
  exact foldl_kept (fun _ hs _ => ite_kept (pageOut_kept hs) (dropPages_kept hs)) hs3

theorem State.cutNetwork_kept {s : State} {f code : Nat} (h : s.Kept base) : (s.cutNetwork f code).Kept base := by
  unfold State.cutNetwork
  extract_lets s1 s2
  have hs1 : s1.Kept base := foldl_kept (fun _ hs _ => closeWindow_kept hs) h
  clear_value s1
  have hs2 : s2.Kept base := hs1
  exact unpinTo_kept (qpErrorAll_kept hs2)

theorem State.startReset_kept {s0 : State} {f code : Nat} {byGo : Bool} (h : s0.Kept base) :
    (s0.startReset f code byGo).Kept base := by
  unfold State.startReset
  extract_lets s s1 s2 _ s3
  have hs : s.Kept base := postAll_kept h
  have hs1 : s1.Kept base := wr_kept (updFn_kept hs)
  have hs2 : s2.Kept base := cutNetwork_kept (cancelUnits_kept (abandonAll_kept hs1))
  have hs3 : s3.Kept base := foldl_kept (fun _ hs3 _ => ctrForce_kept hs3) hs2
  exact ite_kept (updFn_kept hs) (wr_kept (resetRegs_kept (updFn_kept hs3)))

theorem State.flr_kept {s : State} {f : Nat} (h : s.Kept base) : (s.flr f).Kept base := by
  unfold State.flr
  refine ite_kept h (ite_kept (startReset_kept h) ?_)
  extract_lets
  exact foldl_kept (fun _ hs _ => updFn_kept (startReset_kept hs)) (startReset_kept h)

theorem State.frGo_kept {s : State} {r : Req} (h : s.Kept base) : (s.frGo r).Kept base := by
  unfold State.frGo
  refine privCmd_kept h ?_
  intro u hu
  extract_lets
  exact ite_kept (wr_kept hu) (startReset_kept (wr_kept (wr_kept hu)))

theorem State.resetDone_kept {s : State} {f : Nat} (h : s.Kept base) : (s.resetDone f).Kept base := by
  unfold State.resetDone
  refine ite_kept h ?_
  extract_lets _ s1 s2 s3
  have hs1 : s1.Kept base := foldl_kept (fun _ hs _ => wipeTile_kept hs) (dropLeaves_kept h)
  have hs2 : s2.Kept base := wr_kept hs1
  have hs3 : s3.Kept base := ite_kept (wr_kept hs2) hs2
  exact wr_kept (updFn_kept hs3)

theorem State.vfEnable_kept {s : State} {num : Nat} (h : s.Kept base) : (s.vfEnable num).Kept base := by
  unfold State.vfEnable
  refine ite_kept h ?_
  extract_lets _ s1
  have hs1 : s1.Kept base := foldl_kept (fun _ hs _ => updFn_kept (ite_kept (startReset_kept hs) hs)) h
  exact foldl_kept (fun _ hs _ => ite_kept hs (wr_kept (updFn_kept hs))) hs1

theorem State.evtTail_kept {s : State} {f v : Nat} (h : s.Kept base) : (s.evtTail f v).Kept base :=
  funcCmd_kept h (fun _ hs => updFn_kept (wr_kept hs))

/-! ## Physical spindles (R409 to R415, R435) -/

theorem State.updPhys_kept {s : State} {p : Nat} {g : Phys → Phys} (h : s.Kept base) : (s.updPhys p g).Kept base :=
  h

theorem State.enterRecovery_kept {s : State} {f : Nat} (h : s.Kept base) : (s.enterRecovery f).Kept base := by
  unfold State.enterRecovery
  exact ite_kept (wr_kept h) h

theorem State.leaveRecovery_kept {s : State} {f : Nat} (h : s.Kept base) : (s.leaveRecovery f).Kept base := by
  unfold State.leaveRecovery
  exact ite_kept (wr_kept h) h

theorem State.forOwner_kept {s : State} {j : Nat} {g : Nat → State → State} (h : s.Kept base)
    (hg : ∀ x0 u1, u1.Kept base → (g x0 u1).Kept base) : (s.forOwner j g).Kept base := by
  unfold State.forOwner
  split
  · exact hg _ _ h
  · exact h

theorem State.countSpares_kept {s : State} (h : s.Kept base) : s.countSpares.Kept base := wr_kept h

theorem State.testInvalid_kept {s : State} (h : s.Kept base) : s.testInvalid.Kept base := by
  unfold State.testInvalid
  extract_lets s1 src
  have hs1 : s1.Kept base := wr_kept (wr_kept (bump_kept h))
  have hsrc : src.Kept base := wr_kept (wr_kept hs1)
  clear_value src
  exact countSpares_kept hsrc

theorem State.timeshare_kept {s : State} {j f p : Nat} (h : s.Kept base) : (s.timeshare j f p).Kept base := by
  unfold State.timeshare
  extract_lets s1
  have hs1 : s1.Kept base := bump_kept (wr_kept (updPhys_kept h))
  exact updSpin_kept (raiseAll_kept hs1)

theorem State.rehome_kept {s : State} {j : Nat} (h : s.Kept base) : (s.rehome j).Kept base := by
  unfold State.rehome
  extract_lets s0 s1
  have hs0 : s0.Kept base := updSpin_kept h
  have hs1 : s1.Kept base := ite_kept (testInvalid_kept hs0) hs0
  split
  · exact forOwner_kept (countSpares_kept (updPhys_kept hs1)) (fun _ _ hs => enterRecovery_kept hs)
  · refine forOwner_kept hs1 ?_
    intro _ u hu
    split
    · exact timeshare_kept hu
    · exact abandonAll_kept (raiseAll_kept hu)

theorem State.failSpindle_kept {s : State} {p code : Nat} (h : s.Kept base) : (s.failSpindle p code).Kept base := by
  unfold State.failSpindle
  extract_lets _ _ s1 s2
  have hs1 : s1.Kept base := updPhys_kept h
  have hs2 : s2.Kept base := ite_kept (wr_kept hs1) hs1
  exact ite_kept (foldl_kept (fun _ hs _ => rehome_kept hs) hs2) (fatal_kept hs2)

theorem State.mismatch_kept {s : State} {p : Nat} (h : s.Kept base) : (s.mismatch p).Kept base :=
  raise_kept (bump_kept (bump_kept (bump_kept h)))

theorem State.residueFail_kept {s : State} {j : Nat} {cause : ResidueCause} (h : s.Kept base) :
    (s.residueFail j cause).Kept base := by
  unfold State.residueFail
  split
  · exact h
  · extract_lets _ _ s1
    have hs1 : s1.Kept base := updPhys_kept (mismatch_kept h)
    refine ite_kept h ?_
    split
    · exact failSpindle_kept (raise_kept h)
    · exact ite_kept h (ite_kept (failSpindle_kept hs1) hs1)
    · exact ite_kept h (failSpindle_kept (mismatch_kept h))

/-! ## From power to service (R391 to R404) -/

/-- A full reset keeps the fuses, and what lies outside the device; the device's own memories are empty. -/
theorem State.fullReset_kept {s : State} (h : s.Kept base) : s.fullReset.Kept base := by
  refine ⟨fun hb => ?_, h.2⟩
  obtain ⟨-, hhost, -, hckpts⟩ := memWf_iff.1 (h.1 hb)
  obtain ⟨htiles, -, hscratch, -⟩ := memWf_iff.1 reset_memWf.1
  exact memWf_iff.2 ⟨htiles, hhost, hscratch, hckpts⟩

theorem State.fromOtp_kept {s : State} (h : s.Kept base) : s.fromOtp.Kept base := by
  unfold State.fromOtp
  extract_lets _ s1 s2 s3
  have hs1 : s1.Kept base := wr_kept (wr_kept (wr_kept (wr_kept (wr_kept h))))
  have hs2 : s2.Kept base := wr_kept (wr_kept (wr_kept (wr_kept (wr_kept hs1))))
  have hs3 : s3.Kept base := wr_kept (foldl_kept (fun _ hs _ => wr_kept hs) hs2)
  clear_value s3
  exact hs3

theorem State.powerUp_kept {s : State} (h : s.Kept base) : s.powerUp.Kept base := by
  unfold State.powerUp
  exact ite_kept h (fromOtp_kept h)

theorem State.holdSlot_kept {s : State} {i : Nat} {a : KeyAttr} {v : Nat} (h : s.Kept base) :
    (s.holdSlot i a v).Kept base := by
  unfold State.holdSlot
  split
  next s1 e =>
    have hs1 : s1.Kept base := snd_kept e (draw_kept h)
    exact setSlot_kept hs1

theorem State.pllLock_kept {s : State} (h : s.Kept base) : s.pllLock.Kept base := by
  unfold State.pllLock
  refine ite_kept h ?_
  extract_lets s1
  have hs1 : s1.Kept base := holdSlot_kept (wr_kept (wr_kept (wr_kept h)))
  exact ite_kept (bootFail_kept hs1) (wr_kept hs1)

theorem State.pllFail_kept {s : State} (h : s.Kept base) : s.pllFail.Kept base := by
  unfold State.pllFail
  exact ite_kept (bootFail_kept h) h

theorem State.doorbell_kept {s : State} {r : Req} (h : s.Kept base) : (s.doorbell r).Kept base := by
  unfold State.doorbell
  extract_lets
  exact ite_kept h (ite_kept (wr_kept h) (wr_kept h))

theorem State.holdImage_kept {s : State} {b : Bytes} (h : s.Kept base) : (s.holdImage b).Kept base := wr_kept h

theorem State.fwRanges_kept {s : State} (h : s.Kept base) : s.fwRanges.Kept base := by
  unfold State.fwRanges
  extract_lets
  exact wr_kept (wr_kept (wr_kept (wr_kept h)))

theorem State.deriveKeys_kept {s : State} (h : s.Kept base) : s.deriveKeys.Kept base := by
  unfold State.deriveKeys
  extract_lets root s1
  have hs1 : s1.Kept base := holdSlot_kept (holdSlot_kept h)
  exact wr_kept (nalam_kept hs1)

theorem State.imageArrival_kept {s : State} {b : Bytes} (h : s.Kept base) : (s.imageArrival b).Kept base := by
  unfold State.imageArrival
  refine ite_kept h ?_
  extract_lets src n s1 c
  have hs1 : s1.Kept base := nalam_kept (s := src) (wr_kept (wr_kept (wr_kept h)))
  refine ite_kept (bootFail_kept hs1) ?_
  split
  next d s2 e =>
    have hs2 : s2.Kept base := snd_kept e (draw_kept hs1)
    exact ite_kept (bootFail_kept hs2)
      (startEntropy_kept (wr_kept (deriveKeys_kept (holdImage_kept hs2))))

theorem State.imageTimeout_kept {s : State} (h : s.Kept base) : s.imageTimeout.Kept base := by
  unfold State.imageTimeout
  exact ite_kept (bootFail_kept h) h

theorem State.bootKey_kept {s : State} (h : s.Kept base) : s.bootKey.Kept base := by
  unfold State.bootKey
  refine ite_kept (wr_kept h) ?_
  extract_lets
  exact ask_kept (wr_kept (burn_kept h
    ⟨fun _ hb => hb, le_rfl, Nat.le_succ _, ⟨[], (List.append_nil _).symm⟩, rfl, rfl, rfl⟩))

theorem State.bootSpindle_kept {s : State} {p : Nat} (h : s.Kept base) : (s.bootSpindle p).Kept base := by
  unfold State.bootSpindle
  extract_lets _ s1
  have hs1 : s1.Kept base := updPhys_kept h
  refine ite_kept hs1 ?_
  split
  · exact updPhys_kept hs1
  · exact updSpin_kept hs1

theorem State.softRepairs_kept {s : State} {n : Nat} (h : s.Kept base) : (s.softRepairs n).Kept base := h

theorem State.bootCheck_kept {s : State} {c : BistResult} (h : s.Kept base) : (s.bootCheck c).Kept base := by
  unfold State.bootCheck
  refine ite_kept h ?_
  extract_lets
  exact countSpares_kept (foldl_kept (fun _ hs _ => bootSpindle_kept hs) (softRepairs_kept h))

theorem State.seededAtBoot_kept {s : State} {c : BistResult} (h : s.Kept base) : (s.seededAtBoot c).Kept base := by
  unfold State.seededAtBoot
  refine ite_kept h ?_
  extract_lets src _ _ _ s1 s2
  have hsrc : src.Kept base := fwRanges_kept (wr_kept h)
  clear_value src
  have hs1 : s1.Kept base := hsrc
  have hs2 : s2.Kept base := bootCheck_kept (wr_kept hs1)
  exact ite_kept (ask_kept (bootKey_kept hs2)) (bootFail_kept hs2)

theorem State.creelReady_kept {s : State} {tier0 tier1 : Bool} (h : s.Kept base) :
    (s.creelReady tier0 tier1).Kept base := by
  unfold State.creelReady
  extract_lets s1
  have hs1 : s1.Kept base := wr_kept (wr_kept (filterTiles_kept h :))
  exact ite_kept h (ite_kept (bootFail_kept (wr_kept h)) (ite_kept hs1 (tierLost_kept hs1)))

theorem State.farReadyBoot_kept {s : State} {fast slow : Nat} (h : s.Kept base) :
    (s.farReadyBoot fast slow).Kept base := by
  unfold State.farReadyBoot
  refine ite_kept h ?_
  extract_lets
  exact wr_kept (foldl_kept (fun _ hs _ => wr_kept (wr_kept (wr_kept hs))) h)

theorem State.attestReady_kept {s : State} (h : s.Kept base) : s.attestReady.Kept base := by
  unfold State.attestReady
  extract_lets pub seed
  exact ite_kept h (ite_kept (wr_kept h) (ite_kept h
    (wr_kept (wr_kept (wr_kept (nalam_kept h))))))

theorem State.portsReady_kept {s : State} {up : Nat} (h : s.Kept base) : (s.portsReady up).Kept base := by
  unfold State.portsReady
  extract_lets
  exact ite_kept h (wr_kept (foldl_kept (fun _ hs _ => ite_kept (linkUp_kept hs) hs) h))

theorem State.fwReady_kept {s : State} (h : s.Kept base) : s.fwReady.Kept base := by
  unfold State.fwReady
  exact ite_kept (wr_kept h) h

theorem State.startFunction_kept {s : State} {f : Nat} (h : s.Kept base) : (s.startFunction f).Kept base := by
  unfold State.startFunction
  extract_lets s1
  have hs1 : s1.Kept base := wr_kept h
  exact wr_kept (updFn_kept hs1)

theorem State.declareReady_kept {s : State} (h : s.Kept base) : s.declareReady.Kept base := by
  unfold State.declareReady
  refine ite_kept h ?_
  extract_lets s1 src _ s2
  have hs1 : s1.Kept base := wr_kept (wr_kept (wr_kept h))
  have hsrc : src.Kept base := wr_kept (wr_kept hs1)
  clear_value src
  have hs2 : s2.Kept base := hsrc
  exact foldl_kept (fun _ hs _ => startFunction_kept hs) hs2

theorem State.bootLate_kept {s : State} (h : s.Kept base) : s.bootLate.Kept base := by
  unfold State.bootLate
  extract_lets
  exact ite_kept (bootFail_kept h) h

theorem State.attach_kept {s : State} {f : Nat} (h : s.Kept base) : (s.attach f).Kept base := by
  unfold State.attach
  refine funcCmd_kept h ?_
  intro u hu
  refine ite_kept hu ?_
  split
  · exact raiseOwn_kept (wr_kept hu)
  · exact wr_kept (wr_kept (wr_kept hu))

theorem State.goService_kept {s : State} {f : Nat} (h : s.Kept base) : (s.goService f).Kept base := by
  unfold State.goService
  exact funcCmd_kept h (fun _ hs => ite_kept (wr_kept hs) (ite_kept (wr_kept hs) hs))

theorem State.warmGo_kept {s : State} {r : Req} {img : Option Bytes} (h : s.Kept base) :
    (s.warmGo r img).Kept base := by
  unfold State.warmGo
  refine privCmd_kept h ?_
  intro u hu
  refine ite_kept hu ?_
  split
  · exact wr_kept hu
  · extract_lets _ _ src
    have hsrc : src.Kept base := wr_kept (wr_kept hu)
    clear_value src
    exact ite_kept (wr_kept hu) hsrc

theorem State.warmVerified_kept {s : State} {b : Bytes} (h : s.Kept base) : (s.warmVerified b).Kept base := by
  unfold State.warmVerified
  split
  · exact h
  · refine ite_kept h ?_
    extract_lets s1 s2 _ s3
    have hs1 : s1.Kept base := foldl_kept (fun _ hs _ => startReset_kept hs) h
    have hs2 : s2.Kept base := foldl_kept (fun _ hs _ => releaseSlot_kept hs) hs1
    clear_value s2
    have hs3 : s3.Kept base := hs2
    exact ite_kept (bootFail_kept hs3) (wr_kept (wr_kept (wr_kept (wr_kept (fwRanges_kept
        (holdImage_kept hs3))))))

theorem State.hostFail_kept {s : State} {k : HostOp} (h : s.Kept base) : (s.hostFail k).Kept base := by
  unfold State.hostFail
  split
  · exact loadImage_kept h
  · exact ite_kept (ringFail_kept (wr_kept h)) h
  · split
    · exact job_kept h (fun _ _ _ hs => hs)
    · exact h
  · exact ite_kept (wr_kept (wr_kept h)) h
  · exact ite_kept (bootFail_kept h) h
  · refine ite_kept ?_ h
    split
    · exact ite_kept (twrFire_kept h) h
    · exact h

/-! ## Faults and repair (R69, R412 to R424) -/

theorem State.substituted_kept {s : State} {j : Nat} (h : s.Kept base) : (s.substituted j).Kept base := by
  unfold State.substituted
  refine ite_kept h ?_
  extract_lets s1 s2
  have hs1 : s1.Kept base := bump_kept (updSpin_kept h)
  have hs2 : s2.Kept base := forOwner_kept (raise_kept hs1) (fun _ _ hs => leaveRecovery_kept hs)
  exact ite_kept (forOwner_kept (updSpin_kept hs2 (fun _ _ => rfl)) (fun _ _ hs => settleBusy_kept hs)) hs2

theorem State.journalAt_kept {s : State} {j : Nat} (h : s.Kept base) : (s.journalAt j).Kept base := by
  unfold State.journalAt
  exact ite_kept (updSpin_kept h) h

theorem State.ccFail_kept {s : State} {core : Nat} (h : s.Kept base) : (s.ccFail core).Kept base := by
  unfold State.ccFail
  refine ite_kept h ?_
  extract_lets _ src _ s1 _ s2 s3 s4
  have hsrc : src.Kept base := bump_kept h
  clear_value src
  have hs1 : s1.Kept base := hsrc
  have hs2 : s2.Kept base := foldl_kept (fun _ hs _ => foldl_kept (fun _ hs2 _ => ite_kept hs2
      (wr_kept (wr_kept hs2))) hs) hs1
  have hs3 : s3.Kept base := foldl_kept (fun _ hs _ => raise_kept hs) hs2
  have hs4 : s4.Kept base := foldl_kept (fun _ hs _ => abandonAll_kept hs) hs3
  exact ite_kept (fatal_kept hs4) hs4

theorem State.nalamHang_kept {s : State} (h : s.Kept base) : s.nalamHang.Kept base := by
  unfold State.nalamHang
  exact ite_kept (fatal_kept h) h

theorem State.clockLost_kept {s : State} {ref : ClockRef} (h : s.Kept base) : (s.clockLost ref).Kept base := by
  unfold State.clockLost
  refine ite_kept h ?_
  extract_lets s1 s2
  have hs1 : s1.Kept base := bump_kept h
  have hs2 : s2.Kept base := wr_kept hs1
  split
  · exact fatal_kept (wr_kept hs1)
  · exact fatal_kept (wr_kept hs1)
  · exact linkLost_kept (wr_kept hs1)
  · exact ite_kept (syncLost_kept hs2) hs2
  · exact portDown_kept hs1

theorem State.bookFails_kept {s : State} {book f : Nat} {bad all : Bool} (h : s.Kept base) :
    (s.bookFails book f bad all).Kept base := by
  unfold State.bookFails
  extract_lets clear s1
  have hclear : clear.Kept base := h
  have hs1 : s1.Kept base := raiseAll_kept (bump_kept hclear)
  exact ite_kept hclear (ite_kept (ite_kept (abandonAll_kept hs1) hs1) h)

theorem State.bookAudit_kept {s : State} (h : s.Kept base) : s.bookAudit.Kept base := by
  unfold State.bookAudit
  refine ite_kept h ?_
  extract_lets s1
  have hs1 : s1.Kept base := foldl_kept (fun _ hs _ => bookFails_kept hs) h
  exact bookFails_kept (bookFails_kept hs1)

theorem State.creelScrub_kept {s : State} {t : Nat} (h : s.Kept base) : (s.creelScrub t).Kept base := by
  unfold State.creelScrub
  refine ite_kept h ?_
  extract_lets _ src
  have hsrc : src.Kept base := ite_kept (eccRead_kept h) (verify_kept h)
  clear_value src
  exact ite_kept h hsrc

theorem State.scrubFoldHold_kept {s : State} {t : Nat} (h : s.Kept base) : (s.scrubFoldHold t).Kept base := by
  unfold State.scrubFoldHold
  exact ite_kept (land_kept h) h

theorem State.farScrub_kept {s : State} {t : Nat} (h : s.Kept base) : (s.farScrub t).Kept base := by
  unfold State.farScrub
  extract_lets _ src far u src1
  have hsrc : src.Kept base := setTag_kept h
  clear_value src
  have hfar : far.Kept base := hsrc
  have hu : u.Kept base := verify_kept hfar
  have hsrc1 : src1.Kept base := setTag_kept hu
  clear_value src1
  exact ite_kept hsrc1 h

theorem State.stageFails_kept {s : State} {f t bad : Nat} (h : s.Kept base) : (s.stageFails f t bad).Kept base := by
  unfold State.stageFails
  refine foldl_kept ?_ h
  intro u hu _
  extract_lets
  exact trap_kept hu

theorem State.stageSlot_kept {s : State} {f t : Nat} (h : s.Kept base) : (s.stageSlot f t).2.Kept base := by
  unfold State.stageSlot
  extract_lets
  split
  · exact h
  · split
    · extract_lets s1
      have hs1 : s1.Kept base := writeBack_kept h
      exact ite_snd_kept (stageFails_kept hs1) (unstage_kept hs1)
    · exact foldl_kept (fun _ hs _ => pageOut_kept (pageBack_kept hs)) h
    · exact h

theorem State.pageSlot_kept {s : State} {f t : Nat} (h : s.Kept base) : (s.pageSlot f t).2.Kept base := by
  unfold State.pageSlot
  extract_lets
  split
  · exact h
  · split
    next s1 e =>
      have hs1 : s1.Kept base := snd_kept e (stageSlot_kept h)
      exact hs1
    next s1 e =>
      have hs1 : s1.Kept base := snd_kept e (stageSlot_kept h)
      split
      · exact hs1
      · extract_lets s2
        have hs2 : s2.Kept base := pageBack_kept hs1
        clear_value s2
        exact hs2

theorem State.pageIn_kept {s : State} {f t p : Nat} (h : s.Kept base) : (s.pageIn f t p).Kept base := by
  unfold State.pageIn
  refine ite_kept h ?_
  split
  next s1 e =>
    have hs1 : s1.Kept base := snd_kept e (pageSlot_kept h)
    exact hs1
  next s1 e =>
    have hs1 : s1.Kept base := snd_kept e (pageSlot_kept h)
    extract_lets g
    exact (tiles_kept (m := writeBytes s1.tiles g.addr (s1.farPage t p)) (bump_kept (f := Reg.farLockageBytes) (i := p / 4)
      (n := 4096) (j := 0) hs1) (fun hm => writeBytes_wf _ _ _ (by simpa using hm)) :)

theorem State.stage_kept {s : State} {f t : Nat} (h : s.Kept base) : (s.stage f t).Kept base := by
  unfold State.stage
  refine ite_kept h (ite_kept (foldl_kept (fun _ hs _ => pageIn_kept hs) h) (ite_kept h ?_))
  split
  next s1 e =>
    have hs1 : s1.Kept base := snd_kept e (stageSlot_kept (dropPages_kept h))
    exact hs1
  next s1 e =>
    have hs1 : s1.Kept base := snd_kept e (stageSlot_kept (dropPages_kept h))
    split
    next s2 e1 =>
      have hs2 : s2.Kept base := snd_kept e1 (verify_kept hs1)
      refine ite_kept (stageFails_kept hs2) ?_
      extract_lets _ src u
      have hsrc : src.Kept base := lockBytes_kept hs2
      clear_value src
      have hu : u.Kept base := hsrc
      exact putTile_kept hu

/-! ## The register file (R374 to R377) -/

theorem State.access_kept {s : State} {r : Req} {a n : Nat} {dead : State → State}
    {body : Page → Nat → Nat → Nat → State} (h : s.Kept base) (hdead : ∀ u, u.Kept base → (dead u).Kept base)
    (hbody : ∀ x0 x1 x2 x3, (body x0 x1 x2 x3).Kept base) : (s.access r a n dead body).Kept base := by
  unfold State.access
  refine ite_kept h (ite_kept (accErr_kept h) (ite_kept (hdead _ h) (ite_kept (accErr_kept
      (hdead _ h)) ?_)))
  split
  · exact accErr_kept (hdead _ h)
  · extract_lets
    exact ite_kept (hdead _ h) (ite_kept (accErr_kept (hdead _ h)) (ite_kept (accErr_kept (hdead
        _ h)) (hbody _ _ _ _)))

theorem State.afterWrite_kept {s : State} {f : Fld} {i : Nat} (h : s.Kept base) : (s.afterWrite f i).Kept base := by
  unfold State.afterWrite
  exact ite_kept (foldl_kept (fun _ hs _ => startSource_kept hs) (updRng_kept h)) (ite_kept
      (ite_kept (sendPending_kept h) h) (ite_kept (rotateAll_kept (foldl_kept (fun _ hs _ =>
      wr_kept hs) h)) (ite_kept (rotateAll_kept h) h)))

theorem State.clearBit_kept {s : State} {f : Fld} {i : Nat} (h : s.Kept base) : (s.clearBit f i).Kept base := by
  unfold State.clearBit
  extract_lets k
  refine ite_kept h ?_
  split
  · exact h
  · exact wr_kept h

theorem State.writeField_kept {s : State} {r : Req} {a view : Nat} {f : Fld} {i j m v : Nat} (h : s.Kept base) :
    (s.writeField r a view f i j m v).Kept base := by
  unfold State.writeField
  extract_lets _ _ put src
  have hput : ∀ x0, (put x0).Kept base := fun _ => afterWrite_kept (wr_kept h)
  have hsrc : src.Kept base := hput _
  clear_value src
  split
  · exact hput _
  · exact ite_kept (accErr_kept h) (hput _)
  · exact ite_kept h (ite_kept (accErr_kept h) hsrc)
  · exact ite_kept h (clearBit_kept h)
  · exact ite_kept h (hput _)
  · exact h
  · exact h

theorem State.regWrite_kept {s : State} {r : Req} {a n v : Nat} (h : s.Kept base) :
    (s.regWrite r a n v).Kept base := by
  unfold State.regWrite
  refine access_kept h (fun _ hs => hs) ?_
  intro _ _ _ _
  extract_lets _ _ s1
  have hs1 : s1.Kept base := by
    unfold s1
    refine foldl_kept ?_ h
    intro u hu _
    split
    · exact writeField_kept hu
  exact ite_kept (accErr_kept hs1) hs1

theorem State.readDead_kept {s : State} {r : Req} {a : Nat} (h : s.Kept base) : (s.readDead r a).Kept base :=
  emit_kept h

theorem State.takeCount_kept {s : State} {f : Fld} {i j : Nat} (h : s.Kept base) :
    (s.takeCount f i j).Kept base := by
  unfold State.takeCount
  extract_lets
  split
  · exact wr_kept h
  · extract_lets s1
    have hs1 : s1.Kept base := wr_kept h
    clear_value s1
    exact hs1

theorem State.readClear_kept {s : State} {r : Req} {a : Nat} (h : s.Kept base) : (s.readClear r a).Kept base := by
  unfold State.readClear
  refine access_kept h (fun _ hs => readDead_kept hs) ?_
  intro _ _ _ _
  extract_lets _ _ s1 s2
  have hs1 : s1.Kept base := emit_kept h
  have hs2 : s2.Kept base := ite_kept hs1 (foldl_kept (fun _ hs _ => takeCount_kept hs) hs1)
  exact ite_kept (ite_kept h (emit_kept h)) (ite_kept (emit_kept h) (ite_kept
      (accErr_kept hs2) hs2))

/-! ## The weir (R453 to R458) -/

theorem State.breakTest_kept {s : State} (h : s.Kept base) : s.breakTest.Kept base := by
  unfold State.breakTest
  exact ite_kept h h

theorem State.setStep_kept {s : State} {k : Nat} (h : s.Kept base) : (s.setStep k).Kept base := by
  unfold State.setStep
  extract_lets src
  have hsrc : src.Kept base := breakTest_kept (bump_kept (wr_kept h))
  clear_value src
  exact hsrc

theorem State.moveVid_kept {s : State} {goal : Nat} {up : Option Nat} (h : s.Kept base) :
    (s.moveVid goal up).Kept base := by
  unfold State.moveVid
  extract_lets src
  have hsrc : src.Kept base := wr_kept h
  clear_value src
  exact hsrc

theorem State.trip_kept {s : State} {temp : Nat} (h : s.Kept base) : (s.trip temp).Kept base := by
  unfold State.trip
  exact ite_kept (bootFail_kept (raise_kept h)) h

theorem State.countStep_kept {s : State} (h : s.Kept base) : s.countStep.Kept base := by
  unfold State.countStep
  extract_lets _ _ _ src
  have hsrc : src.Kept base := bump_kept h
  clear_value src
  exact ite_kept h hsrc

theorem State.weirSample_kept {s : State} {temps : List Nat} {power : Nat} (h : s.Kept base) :
    (s.weirSample temps power).Kept base := by
  unfold State.weirSample
  refine ite_kept h ?_
  extract_lets _ _ _ _ _ src _ s1 s2
  have hsrc : src.Kept base := countStep_kept (wr_kept (wr_kept (wr_kept h)))
  clear_value src
  have hs1 : s1.Kept base := hsrc
  have hs2 : s2.Kept base := ite_kept (breakTest_kept hs1) hs1
  exact ite_kept (trip_kept hs2) (ite_kept (ite_kept (moveVid_kept hs2) hs2) (ite_kept hs2
      (ite_kept (moveVid_kept (setStep_kept hs2)) (moveVid_kept hs2))))

theorem State.vidStep_kept {s : State} (h : s.Kept base) : s.vidStep.Kept base := by
  unfold State.vidStep
  refine ite_kept h ?_
  extract_lets _ _ _ src _ s1
  have hsrc : src.Kept base := wr_kept (wr_kept h)
  clear_value src
  have hs1 : s1.Kept base := wr_kept h
  refine ite_kept hsrc ?_
  split
  · exact setStep_kept hs1
  · exact hs1

/-! ## Built-in self-test (R436 to R447) -/

theorem State.bistCmd_kept {s : State} {r : Req} {body : State → State} (h : s.Kept base)
    (hbody : ∀ u, u.Kept base → (body u).Kept base) : (s.bistCmd r body).Kept base := by
  unfold State.bistCmd
  extract_lets
  exact ite_kept h (ite_kept (accErr_kept h) (ite_kept (accErr_kept h) (ite_kept h (hbody _
      h))))

theorem State.bistRefuse_kept {s : State} (h : s.Kept base) : s.bistRefuse.Kept base := wr_kept h

theorem State.bistStart_kept {s : State} {kind target : Nat} (h : s.Kept base) :
    (s.bistStart kind target).Kept base := by
  unfold State.bistStart
  extract_lets src
  have hsrc : src.Kept base := wr_kept (wr_kept (wr_kept (wr_kept (wr_kept h))))
  clear_value src
  exact hsrc

theorem State.wipeAll_kept {s : State} (h : s.Kept base) : s.wipeAll.Kept base := by
  unfold State.wipeAll
  extract_lets s1
  have hs1 : s1.Kept base := zeroAllKeys_kept h
  clear_value s1
  refine ⟨fun hb => ?_, hs1.2⟩
  obtain ⟨-, hhost, -, hckpts⟩ := memWf_iff.1 (hs1.1 hb)
  obtain ⟨htiles, -, hscratch, -⟩ := memWf_iff.1 reset_memWf.1
  exact memWf_iff.2 ⟨htiles, hhost, hscratch, hckpts⟩

theorem State.bistFull_kept {s : State} {r : Req} (h : s.Kept base) : (s.bistFull r).Kept base := by
  unfold State.bistFull
  refine bistCmd_kept h ?_
  intro u hu
  refine ite_kept (bistRefuse_kept hu) ?_
  extract_lets s1
  have hs1 : s1.Kept base := wipeAll_kept (bistStart_kept hu)
  clear_value s1
  exact hs1

theorem State.fieldTest_kept {s : State} {p : Nat} (h : s.Kept base) : (s.fieldTest p).Kept base := by
  unfold State.fieldTest
  extract_lets _ s1
  have hs1 : s1.Kept base := by
    unfold s1
    refine ite_kept ?_ h
    split
    · exact updPhys_kept (updPhys_kept h)
    · exact h
  exact countSpares_kept (bistStart_kept hs1)

theorem State.fieldNow_kept {s : State} {r : Req} {p : Nat} (h : s.Kept base) : (s.fieldNow_ r p).Kept base := by
  unfold State.fieldNow_
  refine bistCmd_kept h ?_
  intro u hu
  refine ite_kept (bistRefuse_kept hu) ?_
  split
  · exact fieldTest_kept hu
  · exact bistRefuse_kept hu

theorem State.fieldRotation_kept {s : State} (h : s.Kept base) : s.fieldRotation.Kept base := by
  unfold State.fieldRotation
  extract_lets
  refine ite_kept h ?_
  split
  · exact fieldTest_kept h
  · exact h

theorem State.fuseRepair_kept {s : State} {r : Req} (h : s.Kept base) : (s.fuseRepair r).Kept base := by
  unfold State.fuseRepair
  refine bistCmd_kept h ?_
  intro u hu
  extract_lets
  exact ite_kept (bistRefuse_kept hu) (ite_kept (wr_kept hu) (wr_kept (burn_kept hu
    ⟨fun _ hb => hb, le_rfl, le_rfl, ⟨_, rfl⟩, rfl, rfl, rfl⟩)))

theorem State.bistLog_kept {s : State} {b : BistResult} (h : s.Kept base) : (s.bistLog b).Kept base :=
  wr_kept (softRepairs_kept (wr_kept h))

theorem State.fullDone_kept {s : State} {b : BistResult} (h : s.Kept base) : (s.fullDone b).Kept base := by
  unfold State.fullDone
  extract_lets s1 _ _ s2 s3 s4 src
  have hs1 : s1.Kept base := wr_kept (wr_kept (wr_kept (bistLog_kept h)))
  have hs2 : s2.Kept base := countSpares_kept (foldl_kept (fun _ hs _ => bootSpindle_kept hs) hs1)
  have hs3 : s3.Kept base := ite_kept hs2 (wr_kept hs2)
  have hs4 : s4.Kept base := ite_kept hs3 (wr_kept (wr_kept hs3))
  have hsrc : src.Kept base := wr_kept (wr_kept (wr_kept hs4))
  clear_value src
  exact hsrc

theorem State.fieldDone_kept {s : State} {b : BistResult} (h : s.Kept base) : (s.fieldDone b).Kept base := by
  unfold State.fieldDone
  extract_lets _ _ s1 s2 _ s3
  have hs1 : s1.Kept base := wr_kept (wr_kept (wr_kept (bistLog_kept h)))
  have hs2 : s2.Kept base := wr_kept (wr_kept (wr_kept hs1))
  clear_value s2
  have hs3 : s3.Kept base := hs2
  exact countSpares_kept (ite_kept hs3 (raise_kept (bump_kept (updPhys_kept hs3))))

theorem State.bistEnd_kept {s : State} {b : BistResult} (h : s.Kept base) : (s.bistEnd b).Kept base := by
  unfold State.bistEnd
  refine ite_kept h (ite_kept (ite_kept (testInvalid_kept h) ?_) (ite_kept (fieldDone_kept h)
      (fullDone_kept h)))
  extract_lets src
  have hsrc : src.Kept base := wr_kept h
  clear_value src
  exact hsrc

/-! ## Freeze and the TAP (R431 to R433) -/

theorem State.freeze_kept {s : State} (h : s.Kept base) : s.freeze.Kept base := by
  unfold State.freeze
  refine ite_kept h ?_
  extract_lets _ s1
  have hs1 : s1.Kept base := h
  exact ite_kept (wr_kept hs1) hs1

theorem State.freezeZeroised_kept {s : State} (h : s.Kept base) : s.freezeZeroised.Kept base := by
  unfold State.freezeZeroised
  extract_lets s1 s2 src
  have hs1 : s1.Kept base := zeroAllKeys_kept h
  have hs2 : s2.Kept base :=
    foldl_kept (fun _ hu _ => zeroLz_kept hu) (foldl_kept (fun _ hu _ => zeroTile_kept hu) hs1)
  have hsrc : src.Kept base := wr_kept hs2
  clear_value s2
  refine ite_kept h (wr_kept ?_)
  exact hsrc

theorem State.tapShow_kept {s : State} {ir tdo : Nat} (h : s.Kept base) : (s.tapShow ir tdo).Kept base := h

theorem State.sample_kept {s : State} (h : s.Kept base) : s.sample.Kept base := by
  unfold State.sample
  split
  next s1 e =>
    have hs1 : s1.Kept base := snd_kept e (draw_kept h)
    extract_lets src
    have hsrc : src.Kept base := tapShow_kept hs1
    clear_value src
    exact hsrc

theorem State.extest_kept {s : State} (h : s.Kept base) : s.extest.Kept base := by
  unfold State.extest
  exact ite_kept (tapShow_kept h) h

theorem State.debugToken_kept {s : State} {t : Bytes} (h : s.Kept base) : (s.debugToken t).Kept base := by
  unfold State.debugToken
  extract_lets _ s0 s1
  have hs0 : s0.Kept base := h
  have hs1 : s1.Kept base := ask_kept hs0
  clear_value s1
  exact ite_kept hs0 (ite_kept hs1 (raise_kept hs1))

theorem State.freezeAddr_kept {s : State} {a : Nat} (h : s.Kept base) : (s.freezeAddr a).Kept base := h

theorem State.tapRead_kept {s : State} {a : Nat} (h : s.Kept base) : (s.tapRead a).2.Kept base := by
  unfold State.tapRead
  extract_lets
  split
  · exact h
  · exact h
  · exact h
  · split
    next s1 e =>
      have hs1 : s1.Kept base := snd_kept e (draw_kept h)
      exact hs1

theorem State.freezeData_kept {s : State} (h : s.Kept base) : s.freezeData.Kept base := by
  unfold State.freezeData
  extract_lets _ s0
  have hs0 : s0.Kept base := h
  refine ite_kept hs0 ?_
  split
  next s1 e =>
    have hs1 : s1.Kept base := snd_kept e (ite_snd_kept (tapRead_kept hs0) hs0)
    exact hs1

/-! ## Retirement of unit instructions (R186 to R190) -/

theorem State.forgetFail_kept {s : State} {f r lz slot : Nat} (h : s.Kept base) :
    (s.forgetFail f r lz slot).Kept base := by
  unfold State.forgetFail
  extract_lets
  exact spindles_kept h (mapSpin_scratchWf (fun _ hj => by split <;> exact hj))

theorem State.rejectEntry_kept {s : State} {f : Nat} {e : UnitEntry} (h : s.Kept base) :
    (s.rejectEntry f e).Kept base := by
  unfold State.rejectEntry
  split
  · split
    · exact h
    · exact forgetFail_kept (rejectMsg_kept (ite_kept (zeroLz_kept h) h))
  · exact h

theorem State.leave_kept {s : State} {j : Nat} {e : UnitEntry} (h : s.Kept base) : (s.leave j e).Kept base := by
  unfold State.leave
  extract_lets s1
  have hs1 : s1.Kept base := updSpin_kept h (fun _ hx => Spindle.retire_scratch_wf hx)
  exact ite_kept (trapLate_kept hs1) hs1

theorem State.expandDone_kept {s : State} {f : Nat} {e : UnitEntry} (h : s.Kept base) :
    (s.expandDone f e).Kept base := by
  unfold State.expandDone
  split
  · exact h
  · exact masksCancelled_kept (updRound_kept h)

theorem State.retireOf_kept {s : State} {f j : Nat} {e : UnitEntry} (h : s.Kept base) :
    (s.retireOf f j e).Kept base := by
  unfold State.retireOf
  split
  · split
    · refine ite_kept ?_ (leave_kept h)
      split
      · exact h
      · exact leave_kept (releaseRun_kept h)
    · exact leave_kept h
  · split
    · refine ite_kept (ite_kept ?_ h) (leave_kept h)
      split
      next s1 e1 =>
        have hs1 : s1.Kept base := snd_kept e1 (applyRun_kept h)
        exact leave_kept hs1
    · exact leave_kept h
  · refine ite_kept ?_ (leave_kept (rejectEntry_kept h))
    split
    · exact ite_kept h (leave_kept (finishQuery_kept h))
    · exact leave_kept h
  · exact ite_kept (leave_kept (foldl_kept (fun _ hs _ => finishQuery_kept hs) h)) h
  · split
    · exact ite_kept (noiseDone_kept (leave_kept h)) (leave_kept h)
    · exact leave_kept h
  · split
    · exact ite_kept (expandDone_kept (leave_kept h)) (leave_kept h)
    · exact leave_kept h
  · exact leave_kept (rejectEntry_kept h)

theorem State.unitRetire_kept {s : State} {j i : Nat} (h : s.Kept base) : (s.unitRetire j i).Kept base := by
  unfold State.unitRetire
  split
  · exact h
  · refine ite_kept h ?_
    split
    · exact retireOf_kept h
    · exact leave_kept h

theorem State.endCycle_kept {s : State} (h : s.Kept base) : s.endCycle.Kept base := by
  unfold State.endCycle
  refine ite_kept h (creditAll_kept (checkpointsOn_kept ?_))
  extract_lets src
  have hsrc : src.Kept base := armTwrs_kept (postAll_kept h)
  clear_value src
  exact hsrc

/-! ## The scalar class (R178, R180, R185, R206) -/

theorem State.scalar_kept {s : State} {j op : Nat} {g : Spindle → Nat → Spindle} (h : s.Kept base)
    (hg : ∀ w, KeepsScratch (fun x => g x w)) : (s.scalar j op g).Kept base :=
  issue_kept h (fun _ w _ hs => advance_kept (updSpin_kept hs (hg w)))

theorem State.aluR_kept {s : State} {j op : Nat} {f : Word → Word → Word} (h : s.Kept base) :
    (s.aluR j op f).Kept base :=
  scalar_kept h (fun _ _ hx => by simpa using hx)

theorem State.aluI_kept {s : State} {j op : Nat} {f : Word → Word → Word} (h : s.Kept base) :
    (s.aluI j op f).Kept base :=
  scalar_kept h (fun _ _ hx => by simpa using hx)

theorem State.cmpR_kept {s : State} {j op : Nat} {f : Word → Word → Bool} (h : s.Kept base) :
    (s.cmpR j op f).Kept base :=
  scalar_kept h (fun _ _ hx => by simpa using hx)

theorem State.cmpI_kept {s : State} {j op : Nat} {f : Word → Word → Bool} (h : s.Kept base) :
    (s.cmpI j op f).Kept base :=
  scalar_kept h (fun _ _ hx => by simpa using hx)

theorem State.predR_kept {s : State} {j op : Nat} {f : Bool → Bool → Bool} (h : s.Kept base) :
    (s.predR j op f).Kept base :=
  scalar_kept h (fun _ _ hx => by simpa using hx)

theorem State.load_kept {s : State} {j op n : Nat} {put : Spindle → Nat → Nat → Spindle} (h : s.Kept base)
    (hput : ∀ x w v, (put x w v).scratch = x.scratch) : (s.load j op n put).Kept base := by
  unfold State.load
  refine issue_kept h ?_
  intro _ w u hu
  extract_lets
  exact ite_kept (advance_kept (updSpin_kept hu (fun x hx => (hput x w _).symm ▸ hx))) (trapHere_kept hu)

theorem State.store_kept {s : State} {j op n : Nat} {val : Spindle → Nat → Nat} (h : s.Kept base) :
    (s.store j op n val).Kept base := by
  unfold State.store
  refine issue_kept h ?_
  intro _ _ u hu
  extract_lets
  exact ite_kept (advance_kept (updSpin_kept hu (fun x hx => x.poke_wf _ _ hx))) (trapHere_kept hu)

theorem State.storeQ_kept {s : State} {j : Nat} (h : s.Kept base) : (s.storeQ j).Kept base := by
  unfold State.storeQ
  refine issue_kept h ?_
  intro _ _ u hu
  extract_lets
  refine ite_kept (trapHere_kept hu) ?_
  split
  · exact trapHere_kept hu
  · exact ite_kept (advance_kept (updSpin_kept hu (fun x hx => x.poke_wf _ _ hx))) (trapHere_kept hu)

theorem State.sysr_kept {s : State} {j : Nat} (h : s.Kept base) : (s.sysr j).Kept base := by
  unfold State.sysr
  refine issue_kept h ?_
  intro _ _ u hu
  extract_lets
  exact advance_kept (updSpin_kept hu (fun _ hx => by simpa using hx))

theorem State.branch_kept {s : State} {j : Nat} (h : s.Kept base) : (s.branch j).Kept base :=
  issue_kept h (fun _ _ _ hs => updSpin_kept (advance_kept hs) (fun _ hx => by simpa using hx))

/-! ## A step -/

/-- A command that answers a next state keeps, in that state, what it found. -/
def KeptAnswer (base : State) (r : Res) : Prop := ∀ t, r = .next t → t.Kept base

theorem keptAnswer_next {t : State} (h : t.Kept base) : KeptAnswer base (.next t) := by
  intro u e
  cases e
  exact h

/-- A rail out of tolerance stops the device, or changes nothing (R457). -/
theorem State.railFault_kept {s : State} {r : Rail} (h : s.Kept base) : KeptAnswer base (s.railFault r) := by
  unfold State.railFault
  split
  · exact keptAnswer_next h
  · intro u e
    cases e

/-- Every command keeps the byte memories canonical and clears no fuse. -/
theorem State.exec_kept {c : Instr} {s : State} (h : s.Kept base) : KeptAnswer base (exec c s) := by
  cases c with
  | registerWrite => exact keptAnswer_next (regWrite_kept h)
  | counterReadClear => exact keptAnswer_next (readClear_kept h)
  | add | sub | and | or | xor | sll | srl | sra | mul | mulhu => exact keptAnswer_next (aluR_kept h)
  | cmpeq | cmplt | cmpltu => exact keptAnswer_next (cmpR_kept h)
  | sel | movp => exact keptAnswer_next (scalar_kept h (fun _ _ hx => by simpa using hx))
  | pand | por | pxor => exact keptAnswer_next (predR_kept h)
  | addi | andi | ori | xori | slli | srli | srai | lih => exact keptAnswer_next (aluI_kept h)
  | cmpeqi | cmplti | cmpltui => exact keptAnswer_next (cmpI_kept h)
  | ld1 | ld2 | ld4 | ld8 | ld16 => exact keptAnswer_next (load_kept h (fun _ _ _ => by simp [putS, putQ]))
  | st1 | st2 | st4 | st8 => exact keptAnswer_next (store_kept h)
  | st16 => exact keptAnswer_next (storeQ_kept h)
  | sysr => exact keptAnswer_next (sysr_kept h)
  | br => exact keptAnswer_next (branch_kept h)
  | fold => exact keptAnswer_next (fold_kept h)
  | foldSegmentRetire => exact keptAnswer_next (segRetire_kept h)
  | foldr => exact keptAnswer_next (foldr_kept h)
  | directoryPageFetch => exact keptAnswer_next (pageFetch_kept h)
  | zero => exact keptAnswer_next (zero_kept h)
  | copy => exact keptAnswer_next (copy_kept h)
  | drain => exact keptAnswer_next (drain_kept h)
  | drainCombine => exact keptAnswer_next (drainCombine_kept h)
  | drainRead => exact keptAnswer_next (drainRead_kept h)
  | chkt => exact keptAnswer_next (chkt_kept h)
  | takeD => exact keptAnswer_next (takeD_kept h)
  | takeWake => exact keptAnswer_next (ite_kept (takeD_kept h) h)
  | takeO => exact keptAnswer_next (takeO_kept h)
  | takeS => exact keptAnswer_next (takeS_kept h)
  | takeA => exact keptAnswer_next (takeA_kept h)
  | expand => exact keptAnswer_next (expand_kept h)
  | seedrec => exact keptAnswer_next (seedrec_kept h)
  | prgh => exact keptAnswer_next (prgh_kept h)
  | openMsg => exact keptAnswer_next (openMsg_kept h)
  | ntt => exact keptAnswer_next (ntt_kept h)
  | intt => exact keptAnswer_next (intt_kept h)
  | pmul => exact keptAnswer_next (pmul_kept h)
  | padd => exact keptAnswer_next (padd_kept h)
  | auto => exact keptAnswer_next (auto_kept h)
  | modup => exact keptAnswer_next (modup_kept h)
  | moddn => exact keptAnswer_next (moddn_kept h)
  | resc => exact keptAnswer_next (resc_kept h)
  | ksw => exact keptAnswer_next (ksw_kept h)
  | lutr => exact keptAnswer_next (lutr_kept h)
  | decode => exact keptAnswer_next (decode_kept h)
  | noise => exact keptAnswer_next (noise_kept h)
  | clip => exact keptAnswer_next (clip_kept h)
  | clipFinish => exact keptAnswer_next (clipFinish_kept h)
  | apply => exact keptAnswer_next (apply_kept h)
  | release => exact keptAnswer_next (release_kept h)
  | releaseTrailerDone => exact keptAnswer_next (trailerDone_kept h)
  | gate => exact keptAnswer_next (gate_kept h)
  | gateRelease => exact keptAnswer_next (gateRelease_kept h)
  | gateTimeout => exact keptAnswer_next (gateTimeout_kept h)
  | waitc => exact keptAnswer_next (waitc_kept h)
  | waitTimeout => exact keptAnswer_next (waitTimeout_kept (postAll_kept h))
  | signal => exact keptAnswer_next (signal_kept h)
  | signalApply => exact keptAnswer_next (signalApply_kept h)
  | fence => exact keptAnswer_next (fence_kept h)
  | trap => exact keptAnswer_next (trapInsn_kept h)
  | trapReturn => exact keptAnswer_next (trapReturn_kept h)
  | halt => exact keptAnswer_next (halt_kept h)
  | haltDone => exact keptAnswer_next (haltDone_kept h)
  | step => exact keptAnswer_next (step_kept h)
  | stepSetround => exact keptAnswer_next (stepSet_kept h)
  | lockkeeperWatchdog => exact keptAnswer_next (lockkeeperWatchdog_kept h)
  | load => exact keptAnswer_next (loadImage_kept h)
  | start => exact keptAnswer_next (start_kept h)
  | stop => exact keptAnswer_next (stop_kept h)
  | spindleStopped => exact keptAnswer_next (spindleStopped_kept h)
  | resume => exact keptAnswer_next (resume_kept h)
  | unload => exact keptAnswer_next (unload_kept h)
  | openRound => exact keptAnswer_next (jobOpen_kept h)
  | roundEnterOpen => exact keptAnswer_next (roundEnterOpen_kept h)
  | periodicRoundOpen => exact keptAnswer_next (periodicNext_kept h)
  | roundGuardTimer => exact keptAnswer_next (guardTimer_kept (postAll_kept h))
  | roundDeadline => exact keptAnswer_next (roundDeadline_kept (postAll_kept h))
  | candidatesResolved => exact keptAnswer_next (candidatesResolved_kept h)
  | unmaskTimeout => exact keptAnswer_next (unmaskTimeout_kept (postAll_kept h))
  | abandonRound => exact keptAnswer_next (jobAbandon_kept h)
  | roundStatus => exact keptAnswer_next (jobStatus_kept h)
  | hostSubmit => exact keptAnswer_next (jobSubmit_kept h)
  | applyRound => exact keptAnswer_next (jobApply_kept h)
  | setDest => exact keptAnswer_next (jobSetDest_kept h)
  | releaseDestTimeout => exact keptAnswer_next (destTimeout_kept h)
  | nop => exact keptAnswer_next (jobNop_kept h)
  | createQp => exact keptAnswer_next (job_kept h (fun _ _ _ hs => createQp_kept hs))
  | qpClose => exact keptAnswer_next (qpClose_kept h)
  | qpDestroy => exact keptAnswer_next (qpDestroy_kept h)
  | qpPin => exact keptAnswer_next (qpPin_kept h)
  | qpUnpin => exact keptAnswer_next (qpUnpin_kept h)
  | qpBind => exact keptAnswer_next (qpBind_kept h)
  | checkpoint => exact keptAnswer_next (checkpoint_kept h)
  | checkpointResume => exact keptAnswer_next (resumeCkpt_kept h)
  | leafDigests => exact keptAnswer_next (leafDigests_kept h)
  | contribution => exact keptAnswer_next (ite_kept h (complete_kept h))
  | recoveryMessage => exact keptAnswer_next (ite_kept (complete_kept h) h)
  | committeeReturn => exact keptAnswer_next (ite_kept (committeeReturn_kept h) h)
  | nlTimeout => exact keptAnswer_next (nlTimeout_kept (postAll_kept h))
  | partialDecryption => exact keptAnswer_next (ite_kept (partialMsg_kept h) h)
  | partialDecryptTimeout => exact keptAnswer_next (partialTimeout_kept (postAll_kept h))
  | canonicalPassDone => exact keptAnswer_next (canonicalDone_kept h)
  | cohortMessage => exact keptAnswer_next (ite_kept (cohortMessage_kept h) h)
  | childWaitExpiry => exact keptAnswer_next (childWait_kept (postAll_kept h))
  | partialDigestDone => exact keptAnswer_next (partialDigest_kept h)
  | hello => exact keptAnswer_next (hello_kept h)
  | accept => exact keptAnswer_next (accept_kept h)
  | refuse => exact keptAnswer_next (refuse_kept h)
  | handshakeRetry => exact keptAnswer_next (handshakeRetry_kept h)
  | send | write | ack | nak | close => exact keptAnswer_next (packetIn_kept h)
  | kztPacketTransmit => exact keptAnswer_next (transmit_kept h)
  | ackTimer => exact keptAnswer_next (ackTimer_kept h)
  | rtoExpiry => exact keptAnswer_next (rtoExpiry_kept h)
  | pathSuspectExpiry => exact keptAnswer_next (pathClear_kept h)
  | creditProbe => exact keptAnswer_next (probe_kept h)
  | drainingTimeout => exact keptAnswer_next (drainLate_kept h)
  | contextFetchDone => exact keptAnswer_next (fetched_kept h)
  | fetchTimeout => exact keptAnswer_next (fetchLate_kept h)
  | portDown => exact keptAnswer_next (portDown_kept h)
  | portUp => exact keptAnswer_next (portUp_kept h)
  | openWin => exact keptAnswer_next (xrecord_kept h (fun _ _ hs => openWindow_kept hs))
  | revokeWin => exact keptAnswer_next (xarg_kept h (fun _ _ hs => revokeWindow_kept hs))
  | postTwr => exact keptAnswer_next (xrecord_kept h (fun _ _ hs => postTwr_kept hs))
  | cancelTwr => exact keptAnswer_next (xarg_kept h (fun _ _ hs => cancelTwr_kept hs))
  | twrFire => exact keptAnswer_next (twrFire_kept h)
  | ctrVal => exact keptAnswer_next (ctrVal_kept h)
  | syncEpoch => exact keptAnswer_next (syncEpoch_kept h)
  | syncMarker => exact keptAnswer_next (marker_kept h)
  | syncMarkerTimeout => exact keptAnswer_next (markerLate_kept h)
  | plyForm => exact keptAnswer_next (plyForm_kept h)
  | plyDissolve => exact keptAnswer_next (plyDissolve_kept h)
  | plyAsset | plyOpen | plyCohort | plyVerdict | plyShare | plyReturn | plyDigest | plyDone =>
    exact keptAnswer_next (plyCmd_kept h)
  | plyLateSlotExpiry => exact keptAnswer_next (plyLate_kept (postAll_kept h))
  | plyHeartbeat => exact keptAnswer_next (plyBeat_kept h)
  | plyPartnerLost => exact keptAnswer_next (plyLost_kept (postAll_kept h))
  | rngSourceSettled => exact keptAnswer_next (sourceSettled_kept h)
  | rngStartupTestDone => exact keptAnswer_next (startupDone_kept h)
  | rngHealthFail => exact keptAnswer_next (healthFail_kept h)
  | rngCollectionDone => exact keptAnswer_next (collectionDone_kept h)
  | reseedTimer => exact keptAnswer_next (reseedTimer_kept h)
  | generateRequest => exact keptAnswer_next (generate_kept h)
  | rngWordServe => exact keptAnswer_next (serveWord_kept h)
  | rngData => exact keptAnswer_next (rngData_kept h)
  | assign => exact keptAnswer_next (assign_kept h)
  | keyRelease => exact keptAnswer_next (keyRelease_kept h)
  | keyZero => exact keptAnswer_next (keyZero_kept h)
  | lcVoid => exact keptAnswer_next (lcVoid_kept h)
  | fkeyZero => exact keptAnswer_next (fkeyZero_kept h)
  | rollbackCommit => exact keptAnswer_next (rollback_kept h)
  | lifecycleTransition => exact keptAnswer_next (lifecycle_kept h)
  | remask => exact keptAnswer_next (remask_kept h)
  | getVersion | getCapabilities | negotiateAlgorithms | getDigests | heartbeat | keyUpdate =>
    exact keptAnswer_next (spdm_kept h (fun _ hs => spdmAnswer_kept hs))
  | getCertificate =>
    exact keptAnswer_next (spdm_kept h (fun _ hs => ite_kept (spdmAnswer_kept hs) (spdmError_kept hs)))
  | challenge => exact keptAnswer_next (spdm_kept h (fun _ hs => spdmNonce_kept hs))
  | getMeasurements => exact keptAnswer_next (measurements_kept h)
  | keyExchange => exact keptAnswer_next (keyExchange_kept h)
  | finish => exact keptAnswer_next (finishSession_kept h)
  | endSession => exact keptAnswer_next (endSession_kept h)
  | kem => exact keptAnswer_next (asset_kept h (fun _ _ hs => plain2_kept (installKem_kept hs)))
  | bind => exact keptAnswer_next (asset_kept h (fun _ _ hs => plain2_kept (installBind_kept hs)))
  | policy => exact keptAnswer_next (asset_kept h (fun _ _ hs => plain2_kept (installPolicy_kept hs)))
  | joinList => exact keptAnswer_next (asset_kept h (fun _ _ hs => plain2_kept (installJoin_kept hs)))
  | evk => exact keptAnswer_next (asset_kept h (fun _ _ hs => installEvk_kept hs))
  | committeeKey => exact keptAnswer_next (asset_kept h (fun _ _ hs => installCommittee_kept hs))
  | noiseSeed => exact keptAnswer_next (asset_kept h (fun _ _ hs => plain2_kept (installNoise_kept hs)))
  | memKey => exact keptAnswer_next (asset_kept h (fun _ _ hs => plain2_kept (installMem_kept hs)))
  | checkpointKey => exact keptAnswer_next (asset_kept h (fun _ _ hs => plain2_kept (installCkpt_kept hs)))
  | mctpControl => exact keptAnswer_next (mctp_kept h)
  | partCmd => exact keptAnswer_next (partCmd_kept h)
  | memKeyInitDone => exact keptAnswer_next (memInitDone_kept h)
  | memRotationSweep => exact keptAnswer_next (memSweep_kept h)
  | ringCreate => exact keptAnswer_next (ringCreate_kept h)
  | ringDestroy => exact keptAnswer_next (ringDestroy_kept h)
  | sqTail => exact keptAnswer_next (sqTail_kept h)
  | cqHead => exact keptAnswer_next (cqHead_kept h)
  | flr => exact keptAnswer_next (flr_kept h)
  | frGo => exact keptAnswer_next (frGo_kept h)
  | functionResetDone => exact keptAnswer_next (resetDone_kept h)
  | snapCmd => exact keptAnswer_next (snap_kept h)
  | fsnapCmd => exact keptAnswer_next (fsnap_kept h)
  | ideReq => exact keptAnswer_next (ideReq_kept h)
  | ideStreamFailed => exact keptAnswer_next (ideFail_kept h)
  | pcieLinkDown => exact keptAnswer_next (linkLost_kept h)
  | pcieLinkUp => exact keptAnswer_next (linkBack_kept h)
  | perstNAssert => exact keptAnswer_next (fullReset_kept h)
  | perstNRelease => exact keptAnswer_next (powerUp_kept h)
  | fwDoorbell => exact keptAnswer_next (doorbell_kept h)
  | fwImageArrival => exact keptAnswer_next (imageArrival_kept h)
  | fwImageTimeout => exact keptAnswer_next (imageTimeout_kept h)
  | drbgSeededAtBoot => exact keptAnswer_next (seededAtBoot_kept h)
  | creelDone => exact keptAnswer_next (creelReady_kept h)
  | farDone => exact keptAnswer_next (farReadyBoot_kept h)
  | attestDone => exact keptAnswer_next (attestReady_kept h)
  | portsDone => exact keptAnswer_next (portsReady_kept h)
  | fwinitDone => exact keptAnswer_next (fwReady_kept h)
  | ready => exact keptAnswer_next (declareReady_kept h)
  | bootTimeout => exact keptAnswer_next (bootLate_kept h)
  | attach => exact keptAnswer_next (attach_kept h)
  | goService => exact keptAnswer_next (goService_kept h)
  | warmGo => exact keptAnswer_next (warmGo_kept h)
  | warmImageVerified => exact keptAnswer_next (warmVerified_kept h)
  | residueCheckFail => exact keptAnswer_next (residueFail_kept h)
  | spareSubstituted => exact keptAnswer_next (substituted_kept h)
  | journalPoint => exact keptAnswer_next (journalAt_kept h)
  | ccWatchdog => exact keptAnswer_next (ccFail_kept h)
  | nalamWatchdog => exact keptAnswer_next (nalamHang_kept h)
  | clockLoss => exact keptAnswer_next (clockLost_kept h)
  | creelTierLost => exact keptAnswer_next (ite_kept (tierLost_kept h) h)
  | farPackageLost => exact keptAnswer_next (ite_kept (packageLost_kept h) h)
  | bookAudit => exact keptAnswer_next (bookAudit_kept h)
  | creelScrub => exact keptAnswer_next (creelScrub_kept h)
  | scrubFoldHold => exact keptAnswer_next (scrubFoldHold_kept h)
  | farScrub => exact keptAnswer_next (farScrub_kept h)
  | stagingDone => exact keptAnswer_next (stage_kept h)
  | frzNAssert => exact keptAnswer_next (freeze_kept h)
  | freezeZeroiseDone => exact keptAnswer_next (freezeZeroised_kept h)
  | bypass | idcode => exact keptAnswer_next (tapShow_kept h)
  | samplePreload => exact keptAnswer_next (sample_kept h)
  | extest => exact keptAnswer_next (extest_kept h)
  | dbgToken => exact keptAnswer_next (debugToken_kept h)
  | frzAddr => exact keptAnswer_next (freezeAddr_kept h)
  | frzData => exact keptAnswer_next (freezeData_kept h)
  | full => exact keptAnswer_next (bistFull_kept h)
  | fieldNow => exact keptAnswer_next (fieldNow_kept h)
  | fuseRepair => exact keptAnswer_next (fuseRepair_kept h)
  | fieldSelfTest => exact keptAnswer_next (fieldRotation_kept h)
  | bistDone => exact keptAnswer_next (bistEnd_kept h)
  | weirSample => exact keptAnswer_next (weirSample_kept h)
  | vidStep => exact keptAnswer_next (vidStep_kept h)
  | thermalTrip => exact keptAnswer_next (trip_kept h)
  | railFault r => exact State.railFault_kept (r := r) h
  | unitInstructionRetire => exact keptAnswer_next (unitRetire_kept h)
  | rootPllLock => exact keptAnswer_next (pllLock_kept h)
  | rootPllFail => exact keptAnswer_next (pllFail_kept h)
  | vfEnable => exact keptAnswer_next (vfEnable_kept h)
  | ideKm => exact keptAnswer_next (ideKm_kept h)
  | evtTail => exact keptAnswer_next (evtTail_kept h)
  | hostAccessFail => exact keptAnswer_next (hostFail_kept h)
  | partitionRevocationDone => exact keptAnswer_next (revocationDone_kept h)
  | plyRangeExchange => exact keptAnswer_next (plyExchange_kept h)

end

/-- A step comes from the state before it with the byte memories canonical and no fuse cleared. -/
theorem State.step_kept_of_next {s t : State} (e : Machine.step s = .next t) : t.Kept s := by
  unfold Machine.step at e
  split at e
  next =>
    cases e
    exact endCycle_kept (Kept.refl s)
  next c rest _ => exact exec_kept (s := { s with pending := rest }) (Kept.refl s) t e

/-- Settles O58: what a step leaves comes from a state with canonical byte memories. -/
theorem stepKeepsMemories : Obligations.StepKeepsMemories := by
  unfold Obligations.StepKeepsMemories
  intro s t h e
  exact (State.step_kept_of_next e).1 h

end Sys2Proof.Machine

/-! # Whole tiles: a new epoch, ZERO, COPY and DRAIN (R56, R65 to R68, R210, R211) -/

namespace Sys2Proof.Machine
open Sys2Proof

/-! ## A tile's next epoch (R56, R65, R66) -/

/-- A read after a clear: nothing in the range, what was there outside it. -/
theorem Sparse.get_clear {α : Type} (d : α) (m : List (Nat × α)) (lo hi k : Nat) :
    Sparse.get d (Sparse.clear m lo hi) k = if k < lo ∨ hi ≤ k then Sparse.get d m k else d := by
  induction m with
  | nil => simp [Sparse.clear, Sparse.get]
  | cons p m ih =>
    obtain ⟨k', v⟩ := p
    have hcons : Sparse.clear ((k', v) :: m) lo hi =
        if k' < lo ∨ hi ≤ k' then (k', v) :: Sparse.clear m lo hi else Sparse.clear m lo hi := by
      simp [Sparse.clear, List.filter_cons]
    rw [hcons]
    by_cases hk : k' = k
    · subst hk
      split
      case isTrue hout => simp [Sparse.get]
      case isFalse hin => rw [ih, if_neg hin]
    · split <;> simp [Sparse.get, hk, ih]

/-- The tag of tile `t` in its next epoch. -/
def State.nextTag (s : State) (t : Nat) : TileTag :=
  { s.tag t with count := 0, csum := 0, epoch := ((s.tag t).epoch + 1) % 2 ^ 16, ovr := false, sealed := false }

section
variable {s : State} {t : Nat} (hst : s.stagedOf t = none) (hfar : s.isFarNow t = false)
include hst hfar

theorem State.zeroTile_near : s.zeroTile t = { s with
    tiles := Sparse.clear s.tiles (s.loc t * tileSize) ((s.loc t + 1) * tileSize)
    upsets := Sparse.clear s.upsets (s.loc t * (tileSize / 8)) ((s.loc t + 1) * (tileSize / 8)) } := by
  have hloc : isFar (s.loc t) = false := by
    rw [State.loc, hst]
    exact hfar
  simp [State.zeroTile, hloc]

theorem State.wrote_near : s.wrote t = s := by simp [State.wrote, hst, hfar]

/-- A near tile's next epoch: its bytes and its tag are written, and no other part of storage. -/
theorem State.newEpoch_near : s.newEpoch t = State.setTag { s with
    tiles := Sparse.clear s.tiles (s.loc t * tileSize) ((s.loc t + 1) * tileSize)
    upsets := Sparse.clear s.upsets (s.loc t * (tileSize / 8)) ((s.loc t + 1) * (tileSize / 8)) } t (s.nextTag t) := by
  rw [State.newEpoch, State.zeroTile_near hst hfar]
  exact State.wrote_near hst hfar

end

/-- Settles O15: a near tile's bytes are cleared, its tag is set, and the rest of the tags and bytes is as it was. -/
theorem newEpoch : Obligations.NewEpoch := by
  unfold Obligations.NewEpoch
  intro s t hwf hst hfar u
  have htags : u.tags = Sparse.set {} s.tags t (s.nextTag t) := by simp [u, State.newEpoch_near hst hfar, State.setTag]
  have htiles : u.tiles = Sparse.clear s.tiles (s.loc t * tileSize) ((s.loc t + 1) * tileSize) := by
    simp [u, State.newEpoch_near hst hfar]
  obtain ⟨-, hwfTags, -⟩ := State.tablesWf_iff.1 hwf
  refine ⟨?_, fun k hk => ?_, fun i hi => ?_, fun a ha => ?_⟩
  · rw [State.tag, htags, Sparse.get_set_self _ _ _ _ hwfTags]
    rfl
  · rw [State.tag, htags, Sparse.get_set_ne _ _ _ _ _ _ hk]
    rfl
  · have hin : ¬(s.loc t * tileSize + i < s.loc t * tileSize ∨ (s.loc t + 1) * tileSize ≤ s.loc t * tileSize + i) := by
      rw [Nat.succ_mul]
      omega
    rw [htiles, Sparse.get_clear, if_neg hin]
  · rw [htiles, Sparse.get_clear, if_pos ha]

/-! ## ZERO and COPY (R66, R210) -/

/-- No tile of a list has the property when each has its negation. -/
theorem any_eq_false_of_all_not {p : Nat → Bool} {l : List Nat} (h : l.all (fun t => !p t) = true) : l.any p = false := by
  simpa using h

/-- Settles O12: with its checks passed, a tile instruction's body is the branch of KIND 0 that acts. -/
theorem tileInstructions : Obligations.TileInstructions := by
  unfold Obligations.TileInstructions
  intro s j w
  dsimp only
  refine ⟨fun hready hkind hsparse => ?zero, fun hready hkd hka hnt hlast hover hsparse hquiet hturn => ?copy⟩
    <;> refine congrArg Host.Outcome.next ?_
  case zero =>
    have hsparse := any_eq_false_of_all_not hsparse
    rw [State.zero, State.unitOp_eq hready rfl]
    simp [-State.ops_f, hkind, hsparse]
  case copy =>
    have hover := any_eq_false_of_all_not hover
    have hsparse := any_eq_false_of_all_not hsparse
    have hturn : ((qTiles (s.ops j w).qa ++ qTiles (s.ops j w).qd).any s.isFarNow && !s.farTurn (s.ops j w).f) = false := by
      rcases hturn with h | h <;> simp only [h, Bool.false_and, Bool.not_true, Bool.and_false]
    rw [State.copy, State.unitOp_eq hready rfl]
    simp [-State.ops_f, -List.any_append, -List.contains_eq_mem, hkd, hka, hnt, hlast, hover, hsparse, hquiet, hturn]

/-! ## DRAIN (R65, R68, R211) -/

/-- A DRAIN or ZERO of tiles is recorded once for each time it names a tile. -/
theorem State.drainRecord_draining (s : State) (j : Nat) (zero : Bool) (ps : List (Nat × Nat)) (t : Nat) :
    (s.drainRecord j zero ps).draining t = s.draining t + (ps.filter (fun p => p.1 == t)).length := by
  unfold State.drainRecord
  generalize s.time = now, (s.spin j).nextId = entry
  induction ps generalizing s with
  | nil => rfl
  | cons p ps ih =>
    rw [List.foldl_cons, ih, List.filter_cons]
    simp only [State.draining, List.filter_append, List.filter_cons, List.filter_nil, List.length_append]
    split
    · simp only [List.length_cons, List.length_nil]
      omega
    · simp

theorem State.drainIssue_draining (s : State) (j : Nat) (o : TOps) (op : UOp) (ps : List (Nat × Nat)) (q t : Nat) :
    (s.drainIssue j o op ps q).draining t = s.draining t + (ps.filter (fun p => p.1 == t)).length :=
  s.drainRecord_draining j false ps t

/-- With no upset waiting, a read of a tile checks its codewords and finds nothing. -/
theorem State.eccRead_of_no_upsets {s : State} (hu : s.upsets = []) (ht : s.tagUpsets = []) (t : Nat) : s.eccRead t = s := by
  have htag : s.eccTag t = s := by simp [State.eccTag, ht]
  simp [State.eccRead, State.eccSpan, htag, hu]

/-- Settles O14: with its checks passed, each instruction takes the branch that acts; the issue epochs rise by the record of
the tiles it names. -/
theorem drains : Obligations.Drains := by
  unfold Obligations.Drains
  refine ⟨fun s j w => ⟨fun q hready hqp hsparse hpresent => ?window, fun hready hnt hlast hsparse hpresent => ?combine,
    s.drainIssue_draining j _⟩, fun s j f e p rest hfind howner hdrains hdone hrdy => ?read,
    fun s t hsum hupsets htags => ?tile⟩
  case window =>
    refine congrArg Host.Outcome.next ?_
    have hsparse := any_eq_false_of_all_not hsparse
    rw [State.drain, State.unitOp_eq hready rfl]
    simp [-State.ops_f, hqp, hsparse, hpresent]
  case combine =>
    refine congrArg Host.Outcome.next ?_
    have hsparse := any_eq_false_of_all_not hsparse
    rw [State.drainCombine, State.unitOp_eq hready rfl]
    simp [-State.ops_f, -List.any_append, hnt, hlast, hsparse, hpresent]
  case read =>
    refine ⟨fun hok hop => ?_, fun hok hop => ?_, fun hok => ?_⟩ <;> refine congrArg Host.Outcome.next ?_
      <;> rw [State.drainRead, hfind, howner]
    · simp [hdrains, hdone, hrdy, hok, hop]
    · simp [hdrains, hdone, hrdy, hok, hop]
    · simp [hdrains, hdone, hrdy, hok]
  case tile =>
    simp [State.drainTile, State.eccRead_of_no_upsets hupsets htags, hsum]

end Sys2Proof.Machine

/-! # Scrubbing, staging, the weir and the rails (R69 to R72, R362, R453 to R457) -/

namespace Sys2Proof.Machine
open Sys2Proof

/-! ## Scrubbing and staging (R69 to R72, R362) -/

section
variable {s : State} {f t : Nat} (hready : s.ready = true)
include hready

/-- CREEL_SCRUB of a near tile acts unless folds are in flight to it. -/
theorem State.creelScrub_near (hen : s.rdb Reg.creelScrubEn = true) (hfar : isFar t = false) (ht : t < 65536)
    (hnow : s.isFarNow t = false) (hstaged : s.staged = []) :
    s.creelScrub t = if s.inflight t ≠ 0 then s else
      { (if s.untagged t then s.eccRead t else (s.verify t 5).2) with scrubHold := s.scrubHold.filter (fun x => x != t) } := by
  simp [State.creelScrub, hready, hen, hfar, ht.not_ge, hnow, hstaged]

/-- FAR_SCRUB of an admitted tile: the far copy is verified against the far tag. -/
theorem State.farScrub_admitted (hnow : s.isFarNow t = true) (haloft : s.aloft t = false) (hf : f < 64)
    (htile : (s.partition f).hasTile t = true) (hkey : s.rdb Reg.fnMemkey f = true) (hrot : s.rd Reg.fnRotState f ≠ 1) :
    s.farScrub t =
      let far : State := { s.setTag t (s.farTagOf t) with staged := s.staged.filter (fun g => g.tile != t) }
      let u := (far.verify t 5).2
      { u.setTag t (s.tag t) with staged := s.staged, scrubHold := u.scrubHold.filter (fun x => x != t) } := by
  have hmine : (List.range 64).any
      (fun f => (s.partition f).hasTile t && s.rdb Reg.fnMemkey f && s.rd Reg.fnRotState f != 1) = true :=
    List.any_eq_true.2 ⟨f, List.mem_range.2 hf, by simp [htile, hkey, hrot]⟩
  simp [State.farScrub, hready, hnow, haloft, hmine]

/-- Staging of an unstaged far tile that no page names: the outcome of the lockage's verification. -/
theorem State.stage_slot {slot : Nat} {s1 : State} (htile : (s.partition f).hasTile t = true) (hnow : s.isFarNow t = true)
    (hst : s.stagedOf t = none) (hturn : s.farTurn f = true) (hwant : s.wantedPagesOf f t = [])
    (hpages : s.pages.any (fun g => g.tile == t) = false) (hslot : (s.dropPages t).stageSlot f t = (some slot, s1)) :
    s.stage f t =
      let v := s1.verify t 3
      if v.1 = false then v.2.stageFails f t t else
        ({ v.2.lockBytes with staged := v.2.staged ++ [
          { func := f, tile := t, slot := slot, dirty := false, lastUse := s.time, farTag := v.2.tag t }] } : State).putTile t 0
        (v.2.tileBytes t 0 tileSize) := by
  simp [State.stage, hready, htile, hnow, hst, hturn, hwant, hpages, hslot]

end

/-! ## The weir (R453, R454) -/

/-- VID_STEP while VID ramps and its last code has been held. -/
theorem State.vidStep_due {s : State} (hbus : s.busUp = true) (hramp : s.rdb Reg.weirRamping = true)
    (hat : s.weir.vidAt + 13500 ≤ s.upTime) :
    s.vidStep =
      let v := s.rd Reg.weirVid
      let g := s.weir.vidGoal
      let v1 := if v < g then v + 1 else v - 1
      if v ≠ g then
        { (s.wr Reg.weirVid v1).wr Reg.weirRamping (b2n (v1 != g || s.weir.stepUp.isSome)) with
          weir := { s.weir with vidAt := s.upTime } }
      else match s.weir.stepUp with
        | some k => (s.wr Reg.weirRamping 0).setStep k
        | none => s.wr Reg.weirRamping 0 := by
  have hnow : ¬s.upTime < s.weir.vidAt + vidSpacing := Nat.not_lt.2 hat
  simp only [State.vidStep, hbus, hramp, hnow]
  rfl

/-- What a sample measured and counted: the part of WEIR_SAMPLE before it chooses a step. -/
def State.sampled (s : State) (tj pavg want cool : Nat) (powers : List Nat) : State :=
  { (((s.wr Reg.weirTjMax tj).wr Reg.weirPowerW pavg).wr Reg.weirTarget want).countStep with
    weir := { s.countStep.weir with powers := powers, cool := cool } }

/-- A sample below the trip temperature, with no step up under way: the target decides, when a change is due. -/
theorem State.weirSample_settled {s : State} {temps : List Nat} (power : Nat) (hbus : s.busUp = true)
    (hstage : 5 ≤ s.rd Reg.bootStage) (htest : temps.foldl max 0 ≤ testTemp) (hup : s.weir.stepUp = none) :
    s.weirSample temps power =
      let tj := temps.foldl max 0
      let powers := (power :: s.weir.powers).take 100
      let cool := if tj ≤ s.rd Reg.weirTCool then s.weir.cool + 1 else 0
      let want := s.wanted tj powers cool
      let t := s.sampled tj (powers.sum / powers.length) want cool powers
      if s.weir.lastChange.all (fun at_ => decide (at_ + stepSpacing ≤ s.upTime)) = false ∨ want = s.rd Reg.weirStep then t
      else if s.rd Reg.weirStep < want then (t.setStep want).moveVid (vidFor want) none
      else t.moveVid (vidFor want) (some want) := by
  have htrip : ¬tripTemp ≤ temps.foldl max 0 := by
    have : testTemp < tripTemp := by decide
    omega
  simp only [State.weirSample, State.sampled, hbus, hstage.not_gt, htest.not_gt, htrip, hup, samples10ms]
  simp

/-- Settles O54, command by command: each lemma above says what a command does, and a case reads off its branch. -/
theorem upkeep : Obligations.Upkeep := by
  unfold Obligations.Upkeep
  refine ⟨fun s f t slot s1 hready => ⟨fun hen => ⟨fun hfar ht hnow hstaged hfold => ?scrub,
      fun hfar ht hnow hstaged hfold => ?busy, fun hfly hhold => ?hold⟩,
      fun hnow haloft hf htile hkey hrot => ?farScrub,
      fun htile hnow hst hturn hwant hpages hslot => ⟨fun hok => ?stageBad, fun hok => ?stageOk⟩⟩,
    fun s temp rail => ⟨fun hbus hramp hat => ⟨fun hne => ?vid, fun k heq hup => ?vidUp, fun heq hup => ?vidEnd⟩,
      fun hbus htemp => ?trip,
      fun temps power hbus hstage htest hup => ⟨fun heq => ?same, fun hlt hlast => ?down, fun hlt hlast => ?up⟩,
      fun hperst => if_neg (by simp [hperst]), fun hperst => if_pos hperst⟩⟩
    <;> refine congrArg Host.Outcome.next ?_
  case scrub => rw [State.creelScrub_near hready hen hfar ht hnow hstaged, if_neg (not_not_intro hfold)]
  case busy => rw [State.creelScrub_near hready hen hfar ht hnow hstaged, if_pos hfold]
  case hold => exact if_pos (by simp only [hready, hen, hfly, hhold, Bool.and_true, Bool.not_false])
  case farScrub => exact State.farScrub_admitted hready hnow haloft hf htile hkey hrot
  case stageBad =>
    rw [State.stage_slot hready htile hnow hst hturn hwant hpages hslot]
    exact if_pos hok
  case stageOk =>
    rw [State.stage_slot hready htile hnow hst hturn hwant hpages hslot]
    exact if_neg (by simp [hok])
  case vid =>
    rw [State.vidStep_due hbus hramp hat]
    exact if_pos hne
  case vidUp =>
    rw [State.vidStep_due hbus hramp hat, hup]
    exact if_neg (not_not_intro heq)
  case vidEnd =>
    rw [State.vidStep_due hbus hramp hat, hup]
    exact if_neg (not_not_intro heq)
  case trip => exact if_pos (by simp [hbus, tripTemp, htemp])
  case same =>
    rw [State.weirSample_settled power hbus hstage htest hup]
    exact if_pos (Or.inr heq)
  case down =>
    rw [State.weirSample_settled power hbus hstage htest hup]
    simp only [hlast, Option.all_none, Bool.true_eq_false, false_or]
    exact (if_neg hlt.ne').trans (if_pos hlt)
  case up =>
    rw [State.weirSample_settled power hbus hstage htest hup]
    simp only [hlast, Option.all_none, Bool.true_eq_false, false_or]
    exact (if_neg hlt.ne).trans (if_neg hlt.not_gt)

end Sys2Proof.Machine

/-! # An idle cycle and TAKE (R89 to R91, R213, R214, R298) -/

namespace Sys2Proof.Machine
open Sys2Proof

/-! ## A cycle with no command (R298) -/

/-- A function with no CHECKPOINT that waits has none to go on with. -/
theorem State.checkpointOn_of_no_job {s : State} {f : Nat} (h : (s.fn f).ckptJob = none) : s.checkpointOn f = s := by
  simp [State.checkpointOn, h]

theorem State.checkpointsOn_of_no_job {s : State} (h : ∀ f, (s.fn f).ckptJob = none) : s.checkpointsOn = s :=
  State.foldl_keeps (· = s) _ (fun t f ht => by rw [ht, State.checkpointOn_of_no_job (h f)]) _ _ rfl

theorem State.postAll_of_no_posts {s : State} (h : s.posts = []) : s.postAll = s := by
  simp only [State.postAll, h, sortBy, List.foldl_nil]
  rw [← h]

theorem State.armTwrs_of_no_twrs {s : State} (h : s.twrs = []) : s.armTwrs = s := by
  simp [State.armTwrs, h, sortBy]

theorem State.creditAll_of_no_qps {s : State} (h : s.qps = []) : s.creditAll = s := by
  simp [State.creditAll, h]

theorem State.checkpointsOn_creditAll_idle {s : State} (hjobs : ∀ f, (s.fn f).ckptJob = none) (hqps : s.qps = []) :
    s.checkpointsOn.creditAll = s := by
  rw [State.checkpointsOn_of_no_job hjobs, State.creditAll_of_no_qps hqps]

/-- Settles O2: a held device stops at the first test, and elsewhere none of the four sweeps of the cycle finds work. -/
theorem stepIdle : Obligations.StepIdle := by
  unfold Obligations.StepIdle
  intro s hpending
  rw [show step s = .next s.endCycle by rw [step, hpending]]
  refine ⟨fun hheld => congrArg Host.Outcome.next ?_, fun hperst hfrozen hqps hposts htwrs hjobs => congrArg Host.Outcome.next ?_⟩
  · exact if_pos (by simpa using hheld)
  · rw [State.endCycle, if_neg (by simp [hperst, hfrozen]), State.postAll_of_no_posts hposts, State.armTwrs_of_no_twrs htwrs]
    exact State.checkpointsOn_creditAll_idle hjobs hqps

/-! ## TAKE (R91, R213, R214) -/

section
variable {s : State} {j w : Nat} (hissue : s.issues j w = true)
include hissue

/-- TAKE.d for a round the device does not hold. -/
theorem State.takeD_unheld (hkey : wKey w = (2, 0, 0)) (hspan : (s.spin j).spanOk (s.ops j w).qb 32 = true)
    (hround : s.round? (s.ops j w).f (s.ops j w).sa = none) : s.takeD j = s.report j w 0x0110 .takeD := by
  rw [State.takeD, State.issue_eq hissue hkey]
  simp only [State.ops, Spindle.capture_f] at hspan hround
  simp [hspan, hround]

/-- TAKE.d for a round the device holds: the IDLE descriptor of an ended round, else the next message, else IDLE in SERVICE
and a wait otherwise. -/
theorem State.takeD_held {r : Round} (hkey : wKey w = (2, 0, 0)) (hspan : (s.spin j).spanOk (s.ops j w).qb 32 = true)
    (hround : s.round? (s.ops j w).f (s.ops j w).sa = some r) :
    s.takeD j =
      let o := s.ops j w
      let idle := s.report j w 0 .takeD [(qAddr o.qb, r.idle s.time)] (some (tQD w, 0))
      if !r.live_ then idle else r.next?.elim
        (if s.rd Reg.attSvc o.f = 1 then idle else s.updSpin j (fun x => { x with wait := .take, active := s.time }))
        (fun m => (s.updRound o.f o.sa (fun r => { r with intake := r.intake.erase m, live := r.live ++ [m] })).report j w 0 .takeD
          [(qAddr o.qb, m.desc)] (some (tQD w, lzDesc m.lz m.len m.slot))) := by
  rw [State.takeD, State.issue_eq hissue hkey]
  simp only [State.ops, Spindle.capture_f] at hspan hround
  simp only [State.ops, Spindle.capture_f, hspan, hround, Bool.not_true, Bool.false_eq_true, if_false]
  cases r.next? <;> rfl

/-- TAKE.o with a span long enough opens a round from the record the span holds. -/
theorem State.takeO_span (hkey : wKey w = (2, 0, 1)) (hspan : (s.spin j).spanOk (s.ops j w).qb 136 = true) :
    s.takeO j =
      let o := s.ops j w
      let a := s.openRound o.f (readBytes (s.spin j).scratch (qAddr o.qb) (qLen o.qb - 8)) false
        (max 1 (s.spin j).bound.length) (some (tMod w / 4))
      a.2.report j w 0 .takeO [(qAddr o.qb + qLen o.qb - 8, toLe 8 a.1)] := by
  rw [State.takeO, State.issue_eq hissue hkey]
  simp only [State.ops] at hspan
  simp [State.ops, hspan]

theorem State.takeS_unheld (hkey : wKey w = (2, 0, 2)) (hround : s.round? (s.ops j w).f (s.ops j w).sa = none) :
    s.takeS j = s.report j w 0x0110 .takeS := by
  rw [State.takeS, State.issue_eq hissue hkey]
  simp only [State.ops, Spindle.capture_f] at hround
  simp [hround]

theorem State.takeS_held {r : Round} (hkey : wKey w = (2, 0, 2)) (hround : s.round? (s.ops j w).f (s.ops j w).sa = some r) :
    s.takeS j = (s.putStatus (s.ops j w).f (s.ops j w).sa).report j w 0 .takeS := by
  rw [State.takeS, State.issue_eq hissue hkey]
  simp only [State.ops, Spindle.capture_f] at hround
  simp [State.ops, hround]

theorem State.takeA_unheld (hkey : wKey w = (2, 0, 3)) (hround : s.round? (s.ops j w).f (s.ops j w).sa = none) :
    s.takeA j = s.report j w 0x0110 .takeA := by
  rw [State.takeA, State.issue_eq hissue hkey]
  simp only [State.ops, Spindle.capture_f] at hround
  simp [hround]

theorem State.takeA_live {r : Round} (hkey : wKey w = (2, 0, 3)) (hround : s.round? (s.ops j w).f (s.ops j w).sa = some r)
    (hlive : r.live_ = true) :
    s.takeA j = (s.abandonCmd (s.ops j w).f (s.ops j w).sa 0x090C).report j w 0 .takeA := by
  rw [State.takeA, State.issue_eq hissue hkey]
  simp only [State.ops, Spindle.capture_f] at hround
  simp [State.ops, hround, hlive]

end

/-- A record that parses into its ranges and passes the checks of an open opens its round (R214). -/
theorem State.openRound_accepted {s : State} {f bound : Nat} {rec_ : Bytes} {basic : Bool} {ctr : Option Nat} {c : RoundCfg}
    (hparse : parseOpen rec_ = some c) (hranges : c.rangesOk = true) :
    let k : RoundCfg := { c with m3 := c.m3.map (fun m => { m with workCount := m.workCount * bound }) }
    s.openCode f k basic (sha256N rec_) = 0 →
    s.openRound f rec_ basic bound ctr = (0, s.openAccepted f k basic ctr 0 0 (k.tOpen + k.window) (sha256N rec_)) := by
  intro k hcode
  simp [State.openRound, hparse, hranges, k, hcode]

/-- An abandon command before step 7 of the gate, with no stop recorded, abandons the round (R80, R171). -/
theorem State.abandonCmd_uncommitted {s : State} {f r code : Nat} {x : Round} (hround : s.round? f r = some x)
    (hcommitted : x.gate.committed = false) (hstop : x.gate.stop = none) (hstep : x.gate.step ≠ 7) :
    s.abandonCmd f r code = s.abandon f r code := by
  simp [State.abandonCmd, hround, hcommitted, hstop, hstep]

/-- Settles O28: TAKE.d, TAKE.o, TAKE.s and TAKE.a each read off the lemma that says what they do with their round. -/
theorem takeInstructions : Obligations.TakeInstructions := by
  unfold Obligations.TakeInstructions
  intro s j w hissue
  dsimp only
  refine ⟨fun hkey hspan hround => ?unheld, fun r m hkey hspan hround hlive hnext => ?next,
    fun r hkey hspan hround hlive hnext => ⟨fun hsvc => ?service, fun hsvc => ?wait⟩,
    fun r hkey hspan hround hlive => ?ended, fun hkey hspan => ⟨?opened, fun c hparse hranges hcode => ?accepted⟩,
    fun r hkey hround => ?status, fun hkey hround => ?noStatus, fun r hkey hround hlive => ?abandoned,
    fun r hkey hround hlive hcommitted hstop hstep => ?uncommitted, fun hkey hround => ?noAbandon⟩
  case unheld => exact congrArg Host.Outcome.next (State.takeD_unheld hissue hkey hspan hround)
  case next =>
    have htake := State.takeD_held hissue hkey hspan hround
    rw [hnext, hlive] at htake
    exact ⟨congrArg Host.Outcome.next htake, fun hwait => congrArg Host.Outcome.next ((if_pos hwait).trans htake)⟩
  case service =>
    refine congrArg Host.Outcome.next ((State.takeD_held hissue hkey hspan hround).trans ?_)
    rw [hnext, hlive]
    exact if_pos hsvc
  case wait =>
    refine congrArg Host.Outcome.next ((State.takeD_held hissue hkey hspan hround).trans ?_)
    rw [hnext, hlive]
    exact if_neg hsvc
  case ended =>
    refine congrArg Host.Outcome.next ((State.takeD_held hissue hkey hspan hround).trans ?_)
    rw [hlive]
    rfl
  case opened => exact congrArg Host.Outcome.next (State.takeO_span hissue hkey hspan)
  case accepted =>
    refine congrArg Host.Outcome.next ((State.takeO_span hissue hkey hspan).trans ?_)
    dsimp only
    rw [State.openRound_accepted hparse hranges hcode]
  case status => exact congrArg Host.Outcome.next (State.takeS_held hissue hkey hround)
  case noStatus => exact congrArg Host.Outcome.next (State.takeS_unheld hissue hkey hround)
  case abandoned => exact congrArg Host.Outcome.next (State.takeA_live hissue hkey hround hlive)
  case uncommitted =>
    refine congrArg Host.Outcome.next ((State.takeA_live hissue hkey hround hlive).trans ?_)
    rw [State.abandonCmd_uncommitted hround hcommitted hstop hstep]
  case noAbandon => exact congrArg Host.Outcome.next (State.takeA_unheld hissue hkey hround)

end Sys2Proof.Machine

/-! # Messages of a round (R84, R87, R88, R105, R107) -/

namespace Sys2Proof.Machine
open Sys2Proof

/-! ## Rounds by name -/

/-- The round a name finds has that name. -/
theorem State.round_name {s : State} {f r : Nat} {x : Round} (h : s.round? f r = some x) : x.func = f ∧ x.cfg.round = r := by
  simpa using List.find?_some h

/-- The round a name finds after a change that keeps its name. -/
theorem State.updRound_round_some {s : State} {f r : Nat} {x : Round} {g : Round → Round} (h : s.round? f r = some x)
    (hg : ∀ x, (g x).func = x.func ∧ (g x).cfg = x.cfg) : (s.updRound f r g).round? f r = some (g x) := by
  rw [State.updRound_round_self s f r g hg, h, Option.map_some]

/-- Two changes of the same items, the first of which keeps what selects them, are one. -/
theorem updIf_updIf {α : Type} (l : List α) (p : α → Bool) (g h : α → α) (hg : ∀ x, p x = true → p (g x) = true) :
    updIf (updIf l p g) p h = updIf l p (fun x => h (g x)) := by
  simp only [updIf, List.map_map]
  refine List.map_congr_left fun x _ => ?_
  cases hx : p x <;> simp [hx, hg]

/-- Two changes of a round, the first of which keeps its name, are one. -/
theorem State.updRound_updRound (s : State) (f r : Nat) (g h : Round → Round) (hg : ∀ x, (g x).func = x.func ∧ (g x).cfg = x.cfg) :
    (s.updRound f r g).updRound f r h = s.updRound f r (fun x => h (g x)) := by
  simp only [State.updRound]
  rw [updIf_updIf _ _ _ _ (fun x hx => by simpa [(hg x).1, (hg x).2] using hx)]

/-- A round whose code of R84 is raised changes in the codes raised alone. -/
theorem State.raiseOnce_round {s : State} {f r : Nat} {x : Round} (code : Nat) (h : s.round? f r = some x) :
    ∃ codes, (s.raiseOnce f r code).round? f r = some { x with raised := codes } := by
  unfold State.raiseOnce
  rw [h]
  dsimp only
  split
  · exact ⟨x.raised, h⟩
  · obtain ⟨hrounds, -⟩ := s.raise_same f code 4 r 0 false
    refine ⟨code :: x.raised, ?_⟩
    have hraise : (s.raise f code 4 r).round? f r = some x := by rw [State.round?, hrounds, ← State.round?, h]
    exact State.updRound_round_some hraise (fun _ => ⟨rfl, rfl⟩)

/-- A refused message changes the round's counts and the codes raised, and nothing else of it. -/
theorem State.refuseMsg_round {s : State} {f r : Nat} {x : Round} (code : Nat) (g : RoundCounts → RoundCounts)
    (h : s.round? f r = some x) :
    ∃ codes, (s.refuseMsg f r code g).round? f r = some { x with counts := g x.counts, raised := codes } := by
  refine State.raiseOnce_round (x := { x with counts := g x.counts }) code ?_
  exact State.updRound_round_some h (fun _ => ⟨rfl, rfl⟩)

/-! ## The checks of R84 -/

section
variable {s : State} {f lz : Nat} {bound window mirrored : Bool} {msg : Bytes}

/-- A message with nothing in its way to its landing zone is checked. -/
theorem State.complete_eq {qp : Option Nat} (hready : s.ready = true) (hreset : (s.fn f).resetAt = none)
    (hfree : s.lzFree f lz msg.length = true) :
    s.complete f qp lz msg = s.message f (s.boundTo qp (hRound (hdrOf msg))) false false lz msg := by
  simp [State.complete, hready, hreset, hfree]

theorem hdrOk_length (h : hdrOk msg = true) : ¬msg.length < 64 := by
  simp only [hdrOk, Bool.and_eq_true, decide_eq_true_eq] at h
  omega

theorem State.message_unmatched (hok : hdrOk msg = true) (hround : s.round? f (hRound (hdrOf msg)) = none) :
    s.message f bound window mirrored lz msg = (s.bump Reg.fnFUnmatched f).raise f 0x0110 := by
  simp [State.message, hok, hround]

theorem State.message_malformed (hok : hdrOk msg = false) (hround : s.round? f (hRound (hdrOf msg)) = none) :
    s.message f bound window mirrored lz msg = s.raise f 0x010F := by
  simp [State.message, hok, hround]

/-- A well-formed message of a live round: checks 2 to 4 in order, then the dedup map or the recovery queue. -/
theorem State.message_live {x : Round} (hok : hdrOk msg = true) (htag : hTag (hdrOf msg) = s.tenantTag f)
    (hround : s.round? f (hRound (hdrOf msg)) = some x) (hlive : x.live_ = true) :
    s.message f bound window mirrored lz msg =
      let h := hdrOf msg
      let r := hRound h
      if hClass h = 1 ∧ s.mirroredHere x = true ∧ mirrored = false then s
      else if x.inTime h s.time = false then s.refuseMsg f r 0x0112 (fun c => { c with late := c.late + 1 })
      else if x.cfg.formatOk h = false then s.refuseMsg f r 0x0111 (fun c => { c with mismatch := c.mismatch + 1 })
      else
        let m : Msg := { func := f, round := r, slot := hSlot h, kind := if hClass h = 1 then .recovery else .contribution
                         lz := lz, len := hLen h, time := s.time, hdr := msg.take 64, bound := bound, window := window }
        if hClass h = 1 then (s.place lz msg).queueRecovery f r m msg else (s.place lz msg).dedup f r m := by
  obtain ⟨-, hname⟩ := State.round_name hround
  simp [State.message, hok, hdrOk_length hok, htag, hround, Option.filter_some, hlive, hname]

/-- A contribution that passes checks 2 to 4 is placed in its landing zone and meets check 5. -/
theorem State.message_contribution {x : Round} (hok : hdrOk msg = true) (htag : hTag (hdrOf msg) = s.tenantTag f)
    (hround : s.round? f (hRound (hdrOf msg)) = some x) (hlive : x.live_ = true) (hclass : hClass (hdrOf msg) = 0)
    (htime : x.inTime (hdrOf msg) s.time = true) (hformat : x.cfg.formatOk (hdrOf msg) = true) :
    s.message f bound window mirrored lz msg =
      let h := hdrOf msg
      (s.place lz msg).dedup f (hRound h) { func := f, round := hRound h, slot := hSlot h, kind := .contribution, lz := lz
                                            len := hLen h, time := s.time, hdr := msg.take 64, bound := bound, window := window } := by
  rw [State.message_live hok htag hround hlive]
  simp only [hclass, htime, hformat, Nat.zero_ne_one, Bool.true_eq_false, false_and, if_false]

end

/-! ## The dedup map (R87, R88) and the queues (R107) -/

/-- The slot of an accepted contribution becomes PENDING. -/
def Round.accepted (x : Round) (slot : Nat) : Round :=
  { x.setSlot slot 1 with
    counts := { x.counts with accepted := x.counts.accepted + 1 }
    ply := { x.ply with awaiting := x.ply.awaiting.erase slot } }

/-- Taking a message reads and changes no count and no awaited slot. -/
theorem Round.accepted_take (x : Round) (slot : Nat) (m : Msg) :
    (x.accepted slot).take_ m = { (x.setSlot slot 1).take_ m with
      counts := { x.counts with accepted := x.counts.accepted + 1 }
      ply := { ((x.setSlot slot 1).take_ m).ply with awaiting := ((x.setSlot slot 1).take_ m).ply.awaiting.erase slot } } := by
  by_cases h : x.st = .guard ∧ !x.inOpen m
  · have haccepted : (x.accepted slot).take_ m = { x.accepted slot with guardHold := x.guardHold ++ [m] } := if_pos h
    have hset : (x.setSlot slot 1).take_ m = { x.setSlot slot 1 with guardHold := x.guardHold ++ [m] } := if_pos h
    rw [haccepted, hset]
    rfl
  · have haccepted : (x.accepted slot).take_ m = { x.accepted slot with intake := x.intake ++ [m] } := if_neg h
    have hset : (x.setSlot slot 1).take_ m = { x.setSlot slot 1 with intake := x.intake ++ [m] } := if_neg h
    rw [haccepted, hset]
    rfl

section
variable {s : State} {f r : Nat} {m : Msg} {x : Round} (hround : s.round? f r = some x)
include hround

theorem State.dedup_done (hslot : x.slotSt m.slot = 2) :
    s.dedup f r m = s.refuseMsg f r 0x0113 (fun c => { c with duplicate := c.duplicate + 1 }) := by
  simp [State.dedup, hround, hslot]

theorem State.dedup_pending (hslot : x.slotSt m.slot = 1) :
    s.dedup f r m =
      if x.dupHold.length < 4096 then s.updRound f r (fun x => { x with dupHold := x.dupHold ++ [m] })
      else s.refuseMsg f r 0x0113 (fun c => { c with duplicate := c.duplicate + 1 }) := by
  simp [State.dedup, hround, hslot]

/-- A contribution to an EMPTY slot with room for it: PENDING, and taken, or taken late after the deadline (R84, R105). -/
theorem State.dedup_empty (hslot : x.slotSt m.slot = 0) (hroom : x.entries < intakeMax) (hawait : x.ply.awaiting = []) :
    s.dedup f r m =
      let t := s.updRound f r (fun x => x.accepted m.slot)
      if x.closedNow m.time = true ∧ x.inOpen m = false then t.takeLate f r m else t.updRound f r (fun x => x.take_ m) := by
  simp [State.dedup, Round.accepted, hround, hslot, hroom.not_ge, hawait]

theorem State.queueRecovery_room {msg : Bytes} (hroom : x.entries < intakeMax) :
    s.queueRecovery f r m msg = (s.updRound f r (fun x => { x with intake := x.intake ++ [m] })).mirror x plyShare msg := by
  simp [State.queueRecovery, hround, hroom.not_ge]

end

/-! ## The two commands -/

section
variable {s : State} {f lz : Nat} {qp : Option Nat} {msg : Bytes} (hready : s.ready = true) (hreset : (s.fn f).resetAt = none)
  (hfree : s.lzFree f lz msg.length = true)
include hready hreset hfree

theorem exec_contribution (hclass : hClass (hdrOf msg) ≠ 1) :
    exec (.contribution f qp lz msg) s = .next (s.message f (s.boundTo qp (hRound (hdrOf msg))) false false lz msg) :=
  congrArg Host.Outcome.next ((if_neg hclass).trans (State.complete_eq hready hreset hfree))

theorem exec_recoveryMessage (hclass : hClass (hdrOf msg) = 1) :
    exec (.recoveryMessage f qp lz msg) s = .next (s.message f (s.boundTo qp (hRound (hdrOf msg))) false false lz msg) :=
  congrArg Host.Outcome.next ((if_pos hclass).trans (State.complete_eq hready hreset hfree))

end

/-- A contribution to a slot that is not EMPTY is refused or held as a duplicate: the queues stay as they are (R87, R88). -/
theorem State.dedup_taken_queues {s : State} {f r : Nat} {m : Msg} {x y : Round} (hround : s.round? f r = some x)
    (hslot : x.slotSt m.slot = 1 ∨ x.slotSt m.slot = 2) (hafter : (s.dedup f r m).round? f r = some y) :
    y.intake = x.intake ∧ y.guardHold = x.guardHold := by
  have hrefused : ∀ code g, (s.refuseMsg f r code g).round? f r = some y → y.intake = x.intake ∧ y.guardHold = x.guardHold := by
    intro code g h
    obtain ⟨codes, hx⟩ := State.refuseMsg_round code g hround
    obtain rfl := Option.some.inj (hx.symm.trans h)
    exact ⟨rfl, rfl⟩
  rcases hslot with hslot | hslot
  · rw [State.dedup_pending hround hslot] at hafter
    split at hafter
    · have hheld : (s.updRound f r (fun x => { x with dupHold := x.dupHold ++ [m] })).round? f r =
          some { x with dupHold := x.dupHold ++ [m] } := State.updRound_round_some hround (fun _ => ⟨rfl, rfl⟩)
      obtain rfl := Option.some.inj (hheld.symm.trans hafter)
      exact ⟨rfl, rfl⟩
    · exact hrefused _ _ hafter
  · rw [State.dedup_done hround hslot] at hafter
    exact hrefused _ _ hafter

/-- Settles O29: each clause is the branch of the checks, or of the dedup map, that its hypotheses select. -/
theorem messages : Obligations.Messages := by
  unfold Obligations.Messages
  refine ⟨fun s f lz qp msg hready hreset hfree => ?_, fun s f r m x hround => ⟨fun hslot => State.dedup_done hround hslot,
    fun hslot hroom => (State.dedup_pending hround hslot).trans (if_pos hroom),
    fun hslot y hafter => State.dedup_taken_queues hround hslot hafter⟩⟩
  dsimp only
  refine ⟨fun hok hclass hround => ?unmatched, fun hbad hclass hround => ?malformed, fun x hok htag hround hlive =>
    ⟨fun hclass htime => ?late, fun hclass htime hformat => ?mismatch,
      fun hclass htime hformat hslot hroom hawait => ⟨fun hopen => ?taken, fun hclosed hguard => ?takenLate⟩,
      fun hclass hmirror htime hformat hroom => ?recovery⟩⟩
  case unmatched =>
    rw [exec_contribution hready hreset hfree (by omega), State.message_unmatched hok hround]
  case malformed =>
    rw [exec_contribution hready hreset hfree hclass, State.message_malformed hbad hround]
  case late =>
    obtain ⟨-, hname⟩ := State.round_name hround
    rw [exec_contribution hready hreset hfree (by omega), State.message_live hok htag hround hlive, hname]
    simp only [hclass, htime, Nat.zero_ne_one, false_and, if_false, if_true]
  case mismatch =>
    obtain ⟨-, hname⟩ := State.round_name hround
    rw [exec_contribution hready hreset hfree (by omega), State.message_live hok htag hround hlive, hname]
    simp only [hclass, htime, hformat, Nat.zero_ne_one, Bool.true_eq_false, false_and, if_false, if_true]
  case taken =>
    have hplaced : (s.place lz msg).round? f (hRound (hdrOf msg)) = some x := hround
    rw [exec_contribution hready hreset hfree (by omega), State.message_contribution hok htag hround hlive hclass htime hformat,
      State.dedup_empty hplaced hslot hroom hawait]
    refine congrArg Host.Outcome.next ((if_neg ?_).trans ?_)
    · rcases hopen with h | h <;> simp [h]
    · rw [State.updRound_updRound _ _ _ (fun x => x.accepted _) _ (fun _ => ⟨rfl, rfl⟩)]
      simp only [Round.accepted_take]
  case takenLate =>
    have hplaced : (s.place lz msg).round? f (hRound (hdrOf msg)) = some x := hround
    rw [exec_contribution hready hreset hfree (by omega), State.message_contribution hok htag hround hlive hclass htime hformat,
      State.dedup_empty hplaced hslot hroom hawait]
    exact congrArg Host.Outcome.next (if_pos ⟨hclosed, hguard⟩)
  case recovery =>
    have hplaced : (s.place lz msg).round? f (hRound (hdrOf msg)) = some x := hround
    rw [exec_recoveryMessage hready hreset hfree hclass, State.message_live hok htag hround hlive]
    simp only [hclass, hmirror, htime, hformat, Bool.false_eq_true, Bool.true_eq_false, false_and, and_false, if_false, if_true]
    rw [State.queueRecovery_room hplaced hroom]

end Sys2Proof.Machine

/-! # Descriptors of a ring that act on rounds (R109, R169, R228, R383 to R386) -/

namespace Sys2Proof.Machine
open Sys2Proof

section
variable {s : State} {f n op : Nat} {desc : Bytes} (hlen : desc.length = 64) (hop : jOp (leNat desc) = op)
  (htakes : s.ringTakes f n (leNat desc) = true)
include hlen hop htakes

/-- A record the device could not read completes with 0x0A15 (R383). -/
theorem State.job_unread {want : Option Nat} (body : Nat → Bytes → State → (Nat × Nat) × State) (hwf : jobWf (leNat desc) = true)
    (hwant : want.any (fun w => w != jRecLen (leNat desc)) = false) :
    s.job f n desc op want none body = (s.takeJob f n).jobDone f n (leNat desc) 0x0A15 0 := by
  simp [State.job, hlen, hop, htakes, hwf, hwant]

/-- A well-formed descriptor without a record runs its body. -/
theorem State.job0_runs (body : Nat → State → (Nat × Nat) × State) (hwf : jobWf (leNat desc) = true)
    (hrec : jRecLen (leNat desc) = 0) :
    s.job0 f n desc op body =
      (let p := body (leNat desc) (s.takeJob f n)
       p.2.jobDone f n (leNat desc) p.1.1 p.1.2) :=
  State.job_runs s f n op desc [] (some 0) _ hlen hop htakes hwf hrec.symm (by simp [hrec])

end

/-- A descriptor with a reserved opcode is malformed (R383). -/
theorem State.jobNop_reserved {s : State} {f n : Nat} {desc : Bytes} (hlen : desc.length = 64)
    (htakes : s.ringTakes f n (leNat desc) = true) (hop : jobOps.contains (jOp (leNat desc)) = false) :
    s.jobNop f n desc = (s.takeJob f n).jobDone f n (leNat desc) 0x0A14 0 := by
  have hnop : jOp (leNat desc) ≠ 0 := fun h => by simp [h, jobOps] at hop
  have hwf : jobWf (leNat desc) = false := by simp only [jobWf, hop, Bool.and_false]
  rw [State.jobNop, if_neg hnop, if_neg (by rw [hop]; decide)]
  exact State.job_malformed s f n _ desc _ none _ hlen rfl htakes (.inl hwf)

/-- Settles O35: the firmware takes the descriptor, and its body is the branch the record and the state select. -/
theorem ringDescriptors : Obligations.RingDescriptors := by
  unfold Obligations.RingDescriptors
  intro s f n desc hlen htakes d s1 done a g
  have hs1 : s1 = s.takeJob f n := rfl
  clear_value s1
  subst hs1
  dsimp only [g, a, done, d]
  refine ⟨fun hop => ?reserved, fun rec_ hop hwf _ => ?badOpen, fun hwf => ⟨fun hrec => ⟨fun hop => ?nop, fun hop hround => ?noStatus,
      fun x hop hround => ?status, fun x hop hround hlive => ?abandon, fun hop hround => ?noAbandon, fun hop ha => ?badDest,
      fun hop ha => ?setDest⟩, fun hop => ?unread, fun b hrec => ⟨fun t hop htile => ?submit, fun x hop htile hround hlive => ?noRoom,
      fun hop hparse => ?badRecord, fun c hop hparse hver => ⟨fun hbind => ?noSpindle, fun hbind => ⟨fun hcode => ?opened, fun hcode => ?refused⟩⟩,
      fun x hop hlen104 hround hzero hst hstep hagg hfmt htiles => ?apply⟩⟩⟩
    <;> refine congrArg Host.Outcome.next ?_
  case reserved => exact State.jobNop_reserved hlen htakes hop
  case badOpen => exact State.job_malformed s f n 1 desc none _ _ hlen hop htakes (.inl hwf)
  case nop => exact (if_pos hop).trans (State.job0_runs hlen hop htakes _ hwf hrec)
  case noStatus =>
    rw [State.jobStatus, State.job0_runs hlen hop htakes _ hwf hrec, hround]
  case status =>
    rw [State.jobStatus, State.job0_runs hlen hop htakes _ hwf hrec, hround]
  case abandon =>
    rw [State.jobAbandon, State.job0_runs hlen hop htakes _ hwf hrec]
    simp only [hround, hlive, if_true]
  case noAbandon =>
    rw [State.jobAbandon, State.job0_runs hlen hop htakes _ hwf hrec]
    simp only [hround]
  case badDest =>
    rw [State.jobSetDest, State.job0_runs hlen hop htakes _ hwf hrec, if_pos ha]
  case setDest =>
    rw [State.jobSetDest, State.job0_runs hlen hop htakes _ hwf hrec, if_neg ha.not_gt]
  case unread => exact State.job_unread hlen hop htakes _ hwf rfl
  case submit =>
    rw [State.jobSubmit, State.job_runs s f n 4 desc b none _ hlen hop htakes hwf hrec rfl, htile]
  case noRoom =>
    rw [State.jobSubmit, State.job_runs s f n 4 desc b none _ hlen hop htakes hwf hrec rfl, htile, hround]
    simp only [Option.any_some, hlive, if_true]
  case badRecord =>
    rw [State.jobOpen, State.job_runs s f n 1 desc b none _ hlen hop htakes hwf hrec rfl, hparse]
  case noSpindle =>
    rw [State.jobOpen, State.job_runs s f n 1 desc b none _ hlen hop htakes hwf hrec rfl, hparse]
    simp only [hver, hbind, ne_eq, not_true, Bool.not_false, if_false, if_true]
  case opened =>
    rw [State.jobOpen, State.job_runs s f n 1 desc b none _ hlen hop htakes hwf hrec rfl, hparse]
    simp only [hver, hbind, hcode, ne_eq, not_true, Bool.not_true, Bool.false_eq_true, if_false]
  case refused =>
    rw [State.jobOpen, State.job_runs s f n 1 desc b none _ hlen hop htakes hwf hrec rfl, hparse]
    simp only [hver, hbind, hcode, ne_eq, not_true, not_false_eq_true, Bool.not_true, Bool.false_eq_true, if_false, if_true]
  case apply =>
    rw [State.jobApply, State.job_runs s f n 5 desc b (some 104) _ hlen hop htakes hwf hrec (by simp [hlen104]), hround]
    have hfmt : 1 < x.policy.format := hfmt
    have hready : (x.st ≠ .gated || x.gate.step < 5 || (x.applyAll b).agg.isEmpty || x.policy.format < 2) = false := by
      simp [hst, hstep, hagg, hfmt]
    have htiles : ((x.applyAll b).param ++ (x.applyAll b).m ++ (x.applyAll b).v).any (fun t => !(s.takeJob f n).tileOk f t)
        = false := by
      simpa using htiles
    simp only [hzero, hready, htiles, Bool.not_true, Bool.false_eq_true, if_false]

end Sys2Proof.Machine

/-! # A periodic series of the basic level (R108, R198) -/

namespace Sys2Proof.Machine
open Sys2Proof

/-- The policy in force for VF1: every mode, no release form of its own. -/
def anyModePolicy : Policy :=
  { modes := 15, format := 0, form := 0, ndest := 0, id := 1, tag := 0, kMin := 1, sigma := 0, tau := 0, digest := 0, dests := [] }

/-- Round 5 of a mode 1 series of VF1, opened through a ring and released at the nominal time of round 6. -/
def releasedBasicRound : Round :=
  { func := 1
    cfg := { round := 5, mode := 1, encoding := 16, slots := 8, l := 4, m := 16, period := 900000, window := 800000, floor := 700000
             threshold := 2, committee := 3, unmaskTimeout := 1350000, lzBase := 0x120, lzCount := 4, ctlBase := 0x140, ctlCount := 35 }
    basic := true, acc := [0x110], outTiles := [0x118], policy := anyModePolicy, st := .released, tLast := 900000, deadline := 800000 }

/-- A device in service whose VF1 holds that round, 128 near tiles and no spindle to bind the firmware's program to. -/
def basicSeriesDue : State :=
  let s : State := { State.reset with
    pins := { perst := false, stopped := false, dataPath := true }
    time := 1000000
    funcs := updAt State.reset.funcs 1 (fun x => { x with exists_ := true, policy := some anyModePolicy })
    rounds := [releasedBasicRound] }
  (((s.wr Reg.bootStage 6).wr Reg.fnNearBase 0x100 1).wr Reg.fnNearCount 0x80 1).wr Reg.fnFkeyValid 1 1

/-- The firmware can bind its program to no spindle, so round 6 is abandoned as it opens (log entry 22). -/
theorem periodicNext_basicSeriesDue :
    (basicSeriesDue.periodicNext 1 5).rounds.map (fun x => (x.cfg.round, x.st)) = [(6, .abandoned)] := by decide +kernel

/-- Refutes O31: the clause of a periodic series takes no account of the basic level. There PERIODIC_ROUND_OPEN goes on to bind
the firmware's program, and abandons the round it has opened when no spindle can take it. -/
theorem not_roundLife : ¬ Obligations.RoundLife := by
  unfold Obligations.RoundLife
  intro ⟨_, hlife, _⟩
  obtain ⟨-, -, -, -, hseries⟩ := hlife basicSeriesDue 1 5 releasedBasicRound (by decide +kernel) (by decide +kernel)
  obtain ⟨hopens, -⟩ := hseries (by decide) (by decide) (by decide) (by decide) (by decide)
  have hnext := Host.Outcome.next.inj (hopens (by decide +kernel))
  have hstates := congrArg (fun s : State => s.rounds.map (fun x => (x.cfg.round, x.st))) hnext
  rw [periodicNext_basicSeriesDue] at hstates
  exact absurd hstates (by decide +kernel)

end Sys2Proof.Machine

/-! # The polynomial class (R112, R119 to R123, R219, R220) -/

namespace Sys2Proof.Machine
open Sys2Proof

/-! ## An instruction whose checks pass (R121, R127) -/

theorem State.issues_fetch {s : State} {j w : Nat} (h : s.issues j w = true) : (s.spin j).fetch = some w := by
  simp only [State.issues, Bool.and_eq_true, beq_iff_eq] at h
  obtain ⟨⟨-, hfetch⟩, -⟩ := h
  exact hfetch

theorem State.unitReady_fetch {s : State} {j w : Nat} {key : Nat × Nat × Nat} {e : Nat → Nat} {regs : List (Nat × List Nat)}
    (h : s.unitReady j w key e regs = true) : (s.spin j).fetch = some w := by
  simp only [State.unitReady, Bool.and_eq_true] at h
  obtain ⟨⟨hissue, -⟩, -⟩ := h
  exact State.issues_fetch hissue

/-- A list of checks none of which fails gives no code. -/
theorem firstCode_eq_zero {l : List (Bool × Nat)} (h : ∀ p ∈ l, p.1 = false) : firstCode l = 0 := by
  have hnone : l.find? (fun p => p.1) = none := List.find?_eq_none.mpr (by simpa using h)
  simp [firstCode, hnone]

section
variable {s : State} {j w : Nat} {o : TOps} {srcs : List Nat} {srcDs : List CtDesc} {pre level : Nat} {res : CtDesc} {top : Bool}
  {cols : List Nat} {vals : State → List (Nat × Nat × List Nat)} {op : UOp}

/-- With its checks passed and its keys read, an instruction writes its values and enters the unit queue. -/
theorem State.polyRun_eq {u : State} {prep : State → Bool × State} (h : s.polyPass j o srcs srcDs pre level res = true)
    (hprep : prep s = (true, u)) :
    s.polyRun j w o srcs srcDs pre level res top cols vals op prep =
      let out := res.onto ((s.spin j).ct o.qd)
      (u.putAll out cols (vals u)).silent j w op (if top then [(qAddr o.qd, toLe 64 out.toNat)] else []) := by
  simp only [State.polyPass, Bool.and_eq_true, beq_iff_eq, List.all_eq_true, Bool.not_eq_true'] at h
  obtain ⟨⟨⟨⟨⟨⟨hwf, hfits⟩, hsrcs⟩, hpre⟩, hlevel⟩, hbudget⟩, hquiet⟩ := h
  have hrecs : (o.qd :: srcs).any (fun q => !s.ctWf o.f ((s.spin j).ctRec q)) = false :=
    List.any_eq_false.mpr fun q hq => by simp [hwf q hq]
  have hmarked : srcDs.any (·.marked) = false := List.any_eq_false.mpr fun d hd => by simp [(hsrcs d hd).1]
  have hsets : srcDs.any (fun d => d.ps != ((s.spin j).ct o.qd).ps) = false :=
    List.any_eq_false.mpr fun d hd => by simp [(hsrcs d hd).2]
  rw [State.polyRun]
  dsimp only
  rw [firstCode_eq_zero (by simp [-List.any_cons, hrecs, hfits, hmarked, hsets, hpre, hlevel, hbudget])]
  simp [hquiet, hprep]

/-- With its checks passed and no key to read, it leaves what `polyLeaves` says. -/
theorem State.polyRun_leaves (h : s.polyPass j o srcs srcDs pre level res = true) :
    s.polyRun j w o srcs srcDs pre level res top cols vals op = s.polyLeaves j w o res top cols (vals s) op :=
  State.polyRun_eq h rfl

/-- A limb-wise instruction with its checks passed writes every slot of its range. -/
theorem State.limbOp_leaves {res : CtDesc → CtDesc} {g : State → CtDesc → Nat → Nat → List Nat}
    (h : s.polyPass j o [o.qa] [(s.spin j).ct o.qa] 0 0 (res ((s.spin j).ct o.qa)) = true) :
    s.limbOp j w o res g op =
      let d := (s.spin j).ct o.qa
      s.polyLeaves j w o (res d) (covers (d.slotRange o) d.slots) d.cols
        (mapSlots (List.range d.comps) (d.slotRange o) (g s d)) op := by
  rw [State.limbOp]
  exact State.polyRun_leaves h

end

/-! ## NTT, INTT, PMUL, PADD and AUTO (R112, R219) -/

/-- Settles O23: each instruction takes the branch of its form, with the checks of its own passed, and `polyRun` does the rest. -/
theorem polynomialOperations : Obligations.PolynomialOperations := by
  unfold Obligations.PolynomialOperations
  refine ⟨fun s j w => ?transforms, fun s j w => ?sums⟩
  case transforms =>
    dsimp only
    refine ⟨fun hready hpass => ?ntt, fun hready hpass => ?intt, fun hready hk hpass => ?auto⟩
      <;> refine congrArg Host.Outcome.next ?_
    case ntt =>
      rw [State.ntt, State.unitOp_eq hready rfl]
      exact State.limbOp_leaves hpass
    case intt =>
      rw [State.intt, State.unitOp_eq hready rfl]
      exact State.limbOp_leaves hpass
    case auto =>
      rw [State.auto, State.unitOp_eq hready rfl]
      dsimp only [State.ops_w]
      rw [if_neg (Nat.not_le.mpr hk)]
      exact State.limbOp_leaves hpass
  case sums =>
    dsimp only
    refine ⟨fun hkind hready hlevel hntt hext hthree hthree' hpass => ?product, fun hkind hready htiles hntt hpass => ?plainProduct,
      fun hkind hready hpass => ?scalar, fun hplain hready hlevel hntt hext hpass => ?sum,
      fun hplain hready htiles hntt hpass => ?plainSum⟩ <;> refine congrArg Host.Outcome.next ?_
    case product =>
      simp only [State.pmul, State.unitReady_fetch hready, hkind, if_true]
      rw [State.unitOp_eq hready rfl]
      simp only [hlevel, hntt, hext, hthree, hthree', ne_eq, not_true, or_self, Bool.false_eq_true, if_false]
      exact State.polyRun_leaves hpass
    case plainProduct =>
      simp only [State.pmul, State.unitReady_fetch hready, hkind, if_true]
      rw [if_neg (by decide), State.unitOp_eq hready rfl]
      dsimp only [State.ops_w]
      rw [if_neg (Nat.not_lt.mpr htiles), State.limbOp_leaves]
      · simp only [hntt, if_true]
      · exact hpass
    case scalar =>
      simp only [State.pmul, State.unitReady_fetch hready, hkind]
      rw [if_neg (by decide), if_neg (by decide), State.unitOp_eq hready rfl]
      exact State.limbOp_leaves hpass
    case sum =>
      simp only [State.padd, State.unitReady_fetch hready, hplain, Bool.false_eq_true, if_false]
      rw [State.unitOp_eq hready rfl]
      simp only [hlevel, hntt, hext, ne_eq, not_true, or_self, if_false]
      exact State.polyRun_leaves hpass
    case plainSum =>
      simp only [State.padd, State.unitReady_fetch hready, hplain, if_true]
      rw [State.unitOp_eq hready rfl]
      dsimp only [State.ops_w]
      rw [if_neg (Nat.not_lt.mpr htiles), if_neg (by simp [hntt])]
      exact State.limbOp_leaves hpass

/-! ## MODUP, MODDN, RESC and KSW (R123, R219) -/

/-- Settles O24: the checks of each instruction pass, and so it takes the branch that writes its limbs. -/
theorem modulusInstructions : Obligations.ModulusInstructions := by
  unfold Obligations.ModulusInstructions
  intro s j w
  dsimp only
  refine ⟨fun hready hext hpass => ?modup, fun hready hext hpass => ?moddn, fun hready hext hlevel hpass => ?resc,
    fun u hready hext hpass huse => ?ksw⟩ <;> refine congrArg Host.Outcome.next ?_
  case modup =>
    rw [State.modup, State.unitOp_eq hready rfl]
    simp only [hext, Bool.false_eq_true, if_false]
    exact State.polyRun_leaves hpass
  case moddn =>
    rw [State.moddn, State.unitOp_eq hready rfl]
    simp only [hext, if_true]
    exact State.polyRun_leaves hpass
  case resc =>
    rw [State.resc, State.unitOp_eq hready rfl]
    simp only [hext, hlevel, Bool.false_eq_true, if_false]
    exact State.polyRun_leaves hpass
  case ksw =>
    rw [State.ksw, State.unitOp_eq hready rfl]
    simp only [hext, Bool.false_eq_true, if_false]
    exact State.polyRun_eq hpass (by simp [-State.ops_f, huse])

end Sys2Proof.Machine

/-! # EXPAND, SEEDREC, PRGH and LUTR (R134, R215 to R217, R221) -/

namespace Sys2Proof.Machine
open Sys2Proof

/-! ## EXPAND (R215) -/

section
variable {s : State} {j w : Nat} {x : Round} (hissue : s.issues j w = true) (hkey : wKey w = (3, 0, 0))
  (hspan : (s.spin j).spanOk (s.ops j w).qb 16 = true) (hround : s.round? (s.ops j w).f (s.ops j w).sa = some x)
include hissue hkey hspan hround

/-- In UNMASK an EXPAND of a mode 1 round takes the spindle's parts, one of another mode the queue's next entry. -/
theorem State.expand_unmask (hst : x.st = .unmask) :
    s.expand j =
      if x.cfg.mode = 1 then (s.loadShareModulus 1).expandParts j (s.ops j w) x
      else (s.loadShareModulus 0).expandEntry j (s.ops j w) x := by
  rw [State.expand, State.issue_eq hissue hkey]
  simp only [State.ops, Spindle.capture_f] at hspan hround
  simp [State.ops, hspan, hround, hst]

/-- Outside UNMASK an EXPAND of a round that is not abandoned reports and does nothing. -/
theorem State.expand_early (hst : x.st ≠ .unmask) (habandoned : x.st ≠ .abandoned) :
    s.expand j = s.report j w 0 .expand [(qAddr (s.ops j w).qb, toLe 8 0 ++ toLe 8 x.um.queue.length)] := by
  rw [State.expand, State.issue_eq hissue hkey]
  simp only [State.ops, Spindle.capture_f] at hspan hround
  simp [State.ops, expandOut, hspan, hround, hst, habandoned]

end

/-! ## SEEDREC (R216) -/

/-- SEEDREC of a recovery message handles its records and reports their end. -/
theorem State.seedrec_recovery {s : State} {j w : Nat} {x : Round} {m : Msg}
    (hready : s.unitReady j w (3, 1, 0) s.eOf [(tQA w, [1])] = true)
    (hmsg : s.liveMsg (s.ops j w).f (s.ops j w).qa = some (x, m)) (hkind : m.kind = .recovery) :
    s.seedrec j =
      let p := (s.loadShareModulus x.cfg.mode).seedRecords x m
      p.2.report j w p.1 .seedrec := by
  rw [State.seedrec, State.unitOp_eq hready rfl, hmsg]
  simp [hkind]

/-- A message's records are handled and none was refused: they are in the round and the message is out of it, the code is 0,
and progress goes to 5 once the secrets are reconstructed. -/
theorem State.seedRecords_accepted {s : State} {x x1 : Round} {m : Msg} {es : List ShareEnd} (hmode : x.cfg.mode ≠ 1)
    (htake : s.takeShares x (s.shareRecords m.lz m.len) = (es, x1))
    (hends : es.all (fun e => e == .ok || e == .repeated) = true) :
    let v := s.updRound x.func x.cfg.round (fun y =>
      { y with um := x1.um, counts := y.counts.shares es, live := y.live.filter (fun k => k.lz != m.lz) })
    ∀ y, v.round? x.func x.cfg.round = some y →
      s.seedRecords x m =
        (0, if y.st = .unmask && v.reconstructed y then v.progress x.func x.cfg.round 5 else v) := by
  have hno (e : ShareEnd) (hok : e ≠ .ok) (hrepeated : e ≠ .repeated) : es.contains e = false := by
    rw [List.contains_eq_mem, decide_eq_false_iff_not]
    intro hmem
    have := List.all_eq_true.mp hends e hmem
    simp [hok, hrepeated] at this
  intro v y hround
  rw [State.seedRecords, if_neg hmode, htake]
  simp only [hno .malformed (by decide) (by decide), hno .denied (by decide) (by decide),
    hno .inconsistent (by decide) (by decide), Bool.false_eq_true, if_false]
  rw [show State.round? _ x.func x.cfg.round = some y from hround]

/-! ## LUTR (R134, R221) -/

/-- Key checks none of which fails give no code, in whatever order their codes rank. -/
theorem keyCode_eq_zero {codes : List Nat} (h : ∀ c ∈ codes, c = 0) :
    firstCode ([0x0302, 0x0303, 0x0301].map (fun c => (codes.contains c, c))) = 0 := by
  have hno (c : Nat) (hc : c ≠ 0) : codes.contains c = false := by
    rw [List.contains_eq_mem, decide_eq_false_iff_not]
    exact fun hmem => hc (h c hmem)
  refine firstCode_eq_zero ?_
  simp only [List.map_cons, List.map_nil, List.forall_mem_cons]
  exact ⟨hno _ (by decide), hno _ (by decide), hno _ (by decide), by simp⟩

/-- The checks of LUTR on its source `d`, read from the record `src`, its destinations' records `dsts`, the results `outs` they
take at level `lv`, and the codes of its keys (R121). -/
theorem lutrCode_eq_zero {s : State} {f src lv : Nat} {d : CtDesc} {dsts codes : List Nat} {outs : List CtDesc}
    (hwf : s.ctWf f src = true) (hwfs : dsts.all (fun c => s.ctWf f c) = true) (hlv : lv < d.pset.lq)
    (houts : outs.all (fun c => c.fits && c.ps == d.ps && c.inBudget) = true)
    (hsets : dsts.all (fun c => (CtDesc.ofNat c).ps == d.ps) = true) (hmarked : d.marked = false) (hcodes : ∀ c ∈ codes, c = 0) :
    let keyCode := firstCode ([0x0302, 0x0303, 0x0301].map (fun c => (codes.contains c, c)))
    firstCode
      [ (!s.ctWf f src || dsts.any (fun c => !s.ctWf f c), 0x0204)
        , (decide (d.pset.lq ≤ lv) || outs.any (fun c => !c.fits), 0x0204)
        , (d.marked, 0x0203), (outs.any (fun c => c.ps != d.ps) || dsts.any (fun c => (CtDesc.ofNat c).ps != d.ps), 0x0302)
        , (keyCode != 0, keyCode), (outs.any (fun c => !c.inBudget), 0x0201) ] = 0 := by
  intro keyCode
  simp only [List.all_eq_true, Bool.and_eq_true, beq_iff_eq] at houts hsets hwfs
  have hrecs : dsts.any (fun c => !s.ctWf f c) = false := List.any_eq_false.mpr fun c hc => by simp [hwfs c hc]
  have hfits : outs.any (fun c => !c.fits) = false := List.any_eq_false.mpr fun c hc => by simp [houts c hc]
  have hres : outs.any (fun c => c.ps != d.ps) = false := List.any_eq_false.mpr fun c hc => by simp [houts c hc]
  have hdst : dsts.any (fun c => (CtDesc.ofNat c).ps != d.ps) = false := List.any_eq_false.mpr fun c hc => by simp [hsets c hc]
  have hbudget : outs.any (fun c => !c.inBudget) = false := List.any_eq_false.mpr fun c hc => by simp [houts c hc]
  have hkeys : keyCode = 0 := keyCode_eq_zero hcodes
  refine firstCode_eq_zero ?_
  simp [hwf, hrecs, hlv, hfits, hmarked, hres, hdst, hkeys, hbudget]

/-! ## The statement (R134, R215 to R217) -/

/-- Settles O26: EXPAND, SEEDREC, PRGH and LUTR each pass their checks in order, and the branch left is the one that acts. -/
theorem masksAndTables : Obligations.MasksAndTables := by
  unfold Obligations.MasksAndTables
  refine ⟨fun s j w x => ?expand, fun s j w x m => ?seedrec, fun s j w => ?prgh, fun s j w => ?lutr⟩
  case expand =>
    intro o hissue hkey hspan hround
    refine ⟨?entry, ?parts, ?empty, ?early⟩
    case entry =>
      intro owner kind rest hst hmode hqueue u hquiet hpresent
      refine congrArg Host.Outcome.next ((State.expand_unmask hissue hkey hspan hround hst).trans ?_)
      rw [if_neg hmode, State.expandEntry, hqueue]
      exact if_neg (by simp [u, hquiet, hpresent])
    case parts =>
      intro sigma hst hmode hsigma u ps bs hparts hquiet hpresent
      refine congrArg Host.Outcome.next ((State.expand_unmask hissue hkey hspan hround hst).trans ?_)
      rw [if_pos hmode, State.expandParts, hsigma]
      exact (if_neg (by simpa using hparts)).trans (if_neg (by simp [u, hquiet, hpresent]))
    case empty =>
      intro hst hmode hqueue
      refine congrArg Host.Outcome.next ((State.expand_unmask hissue hkey hspan hround hst).trans ?_)
      rw [if_neg hmode, State.expandEntry, hqueue]
      rfl
    case early =>
      exact fun hst habandoned => congrArg Host.Outcome.next (State.expand_early hissue hkey hspan hround hst habandoned)
  case seedrec =>
    intro o u hready hmsg hkind
    have hseedrec := State.seedrec_recovery hready hmsg hkind
    refine ⟨?accepted, congrArg Host.Outcome.next hseedrec⟩
    intro es x1 hmode htake hends v
    refine ⟨fun y hy hst hrec => ?complete, fun y hy hnot => ?incomplete⟩
      <;> refine congrArg Host.Outcome.next (hseedrec.trans ?_)
      <;> rw [State.seedRecords_accepted hmode htake hends y hy]
    case complete =>
      exact congrArg (State.report · j w 0 .seedrec) (if_pos (by simpa [hst] using hrec))
    case incomplete =>
      exact congrArg (State.report · j w 0 .seedrec) (if_neg (by simpa [imp_iff_not_or] using hnot))
  case prgh =>
    intro o d dist src js u out hready hwf hcomps hfits hquiet
    have hchecks : ¬(!s.ctWf o.f ((s.spin j).ctRec o.qd) || decide (d.comps ≤ o.sa) || !d.fits) = true := by
      simp [hwf, hfits, hcomps]
    have hfree : ¬(!s.quiet d.reserved) = true := by simp [hquiet]
    refine ⟨fun hsrc hseed hserves => ?seeded, fun hsrc => ?unseeded⟩ <;> refine congrArg Host.Outcome.next ?_
      <;> rw [State.prgh, State.unitOp_eq hready rfl] <;> refine (if_neg hchecks).trans ?_
    case seeded =>
      have hheld : ¬(decide (src = 1) && (s.fn o.f).noiseSeed.isNone) = true := by simp [Option.isSome_iff_ne_none.mp hseed]
      have hserved : ¬(decide (src = 1) && !s.rngServes) = true := by simp [hserves]
      refine (if_neg hheld).trans ((if_neg hserved).trans ((if_neg hfree).trans ?_))
      exact congrArg (State.report · j w 0 .prgh out) (if_pos hsrc)
    case unseeded =>
      have hother (b : Bool) : ¬(decide (src = 1) && b) = true := by simp [hsrc]
      refine (if_neg (hother _)).trans ((if_neg (hother _)).trans ((if_neg hfree).trans ?_))
      exact congrArg (State.report · j w 0 .prgh out) (if_neg hsrc)
  case lutr =>
    intro o x sh lv d at_ dsts outs data u hready hlen hpos hmax hend hsh hrsv hwf hwfs hlv houts hsets hmarked hkey2 hkey3 hkey4
      hquiet huses
    refine congrArg Host.Outcome.next ?_
    rw [State.lutr, State.unitOp_eq hready rfl]
    have hbatch : ¬(qLen o.qb < 256 ∨ o.sb = 0 ∨ 64 < o.sb ∨ dataEnd < qAddr o.qd + 64 * o.sb) := by omega
    have hword : ¬(wOf d.wsel - 8 < sh ∨ bits o.sc 24 40 ≠ 0) := by omega
    have hfree : ¬(!s.quiet (d.reserved ++ outs.flatMap (·.reserved))) = true := by simp only [hquiet]; decide
    have hcodes : ∀ c ∈ [s.evkCode o.f (bits o.sc 0 8) d 2 0 d.level, s.evkCode o.f (bits o.sc 8 8) d 3 0 d.level,
        s.evkCode o.f (bits o.sc 16 8) d 4 0 lv], c = 0 := by simp [-State.ops_f, hkey2, hkey3, hkey4]
    refine (if_neg hbatch).trans ((if_neg hword).trans ((if_neg (not_not.mpr
      (lutrCode_eq_zero hwf hwfs hlv houts hsets hmarked hcodes))).trans ((if_neg hfree).trans ?_)))
    split
    next ok v heq =>
      obtain ⟨rfl, rfl⟩ := Prod.mk.inj (heq.symm.trans huses)
      rfl

end Sys2Proof.Machine

/-! # The committee of a mode 3 round (R105, R131, R132, R137) -/

namespace Sys2Proof.Machine
open Sys2Proof

/-! ## Returns of queries (R131, R132) -/

/-- A return for an outstanding query of a round the device holds: on its COMMITTEE_QP and well formed, or refused. -/
theorem State.committeeReturn_outstanding {s : State} {f qpn : Nat} {msg : Bytes} {q : Query} {x : Round}
    (hfind : s.queries.find? (fun q => q.func == f && q.onWire && q.decided.isNone && q.qid == leAt msg 8 8) = some q)
    (hround : s.round? f q.round = some x) :
    s.committeeReturn f qpn msg =
      if x.cfg.m3.map (·.committeeQp) != some qpn || !returnOk x msg then s.raise f 0x0906 4 q.round
      else (s.mirror x plyReturn msg).decide_ f q.handle (.returned (returnCt x.cfg.pset (x.cfg.limbs - 1) msg)) := by
  rw [State.committeeReturn, hfind]
  dsimp only
  rw [hround]

/-- A query whose NL_TIMEOUT has run out with no return is decided by the path of its round. -/
theorem State.nlTimeout_due {s : State} {f h : Nat} {q : Query} {x : Round} (hready : s.ready = true)
    (hfind : s.queries.find? (fun q => q.func == f && q.handle == h && q.decided.isNone) = some q) (hwire : q.onWire = true)
    (hround : s.round? f q.round = some x) (hdue : q.sentAt + (x.cfg.m3.map (·.nlTimeout)).getD 0 ≤ s.time) :
    s.nlTimeout f h = ((s.raise f 0x0907 4 q.round).mirror x plyReturn (toLe 8 q.qid)).decide_ f h
      (if x.cfg.nlPath = 3 then .chain else .excluded) := by
  have hq := List.find?_some hfind
  simp only [Bool.and_eq_true] at hq
  obtain ⟨⟨hfunc, hhandle⟩, hopen⟩ := hq
  have hany : s.queries.any (fun q => q.func == f && q.handle == h && q.onWire && q.decided.isNone &&
      (s.round? f q.round).any (fun x => decide (q.sentAt + (x.cfg.m3.map (·.nlTimeout)).getD 0 ≤ s.time))) = true :=
    List.any_eq_true.mpr ⟨q, List.mem_of_find?_eq_some hfind, by
      simp only [hfunc, hhandle, hwire, hopen, hround, Option.any_some, hdue, decide_true, Bool.and_self]⟩
  rw [State.nlTimeout, hready, hany, State.nlExpire, hfind]
  dsimp only
  rw [hround]
  rfl

/-! ## Partial decryptions (R137) -/

section
variable {s : State} {x : Round} {msg : Bytes} (hkept : x.gate.kept = none)
include hkept

theorem State.partialOn_malformed (hbad : x.pdBad msg = true) :
    s.partialOn x msg = s.refuseMsg x.func x.cfg.round 0x010F (fun c => { c with malformed := c.malformed + 1 }) := by
  simp [State.partialOn, hkept, hbad]

theorem State.partialOn_other_aggregate (hbad : x.pdBad msg = false) (hdigest : leAt msg 8 32 ≠ x.gate.ctDigest) :
    s.partialOn x msg =
      (s.count x.func x.cfg.round (fun c => { c with sharesDenied := c.sharesDenied + 1 })).raise x.func 0x0902 4 x.cfg.round := by
  simp [State.partialOn, hkept, hbad, hdigest]

theorem State.partialOn_new (hbad : x.pdBad msg = false) (hdigest : leAt msg 8 32 = x.gate.ctDigest)
    (hnew : x.gate.partials.any (fun p => p.x == leAt msg 4 2) = false) :
    s.partialOn x msg =
      (((s.count x.func x.cfg.round (fun c => { c with sharesOk := c.sharesOk + 1 })).updRound x.func x.cfg.round (fun y =>
        { y with gate := { y.gate with
          partials := y.gate.partials ++ [{ x := leAt msg 4 2, smudge := leAt msg 6 2, polys := x.pdPolys msg }] } })).mirror
        x plyShare msg).jointDone x.func x.cfg.round := by
  simp [State.partialOn, hkept, hbad, hdigest, hnew]

end

/-- With no records in time, a joint round of this strand is abandoned. -/
theorem State.partialTimeout_due {s : State} {f r : Nat} {x : Round} (hready : s.ready = true) (hround : s.round? f r = some x)
    (hst : x.st = .gated) (hjoint : x.joint = true) (hkept : x.gate.kept = none)
    (hdue : x.gate.since + x.cfg.unmaskTimeout ≤ s.time) : s.partialTimeout f r = s.abandon f r 0x0903 := by
  simp [State.partialTimeout, hround, hready, hst, hjoint, hkept, hdue]

/-- Settles O30: a return or a record is taken by the branch its checks select, and a timer acts once it is due. -/
theorem committeeMessages : Obligations.CommitteeMessages := by
  unfold Obligations.CommitteeMessages
  refine ⟨fun s f qpn msg q x qp hready hqp hfunc => ?messages, fun s0 f h r q x => ?timers⟩
  case messages =>
    have hsender : (s.ready && (s.qp? qpn).any (fun q => q.func == f)) = true := by simp [hready, hqp, hfunc]
    refine ⟨fun hnone => ?unknown, fun hsome hround => ⟨fun hbad => ?refused, fun hok hcommittee => ?accepted⟩,
      fun hjoint hhere hkept => ?record⟩
    case unknown =>
      refine congrArg Host.Outcome.next ((if_pos hsender).trans ?_)
      rw [State.committeeReturn, hnone]
    case refused =>
      refine congrArg Host.Outcome.next ((if_pos hsender).trans ?_)
      rw [State.committeeReturn_outstanding hsome hround]
      exact if_pos (by rcases hbad with h | h <;> simp [h])
    case accepted =>
      refine congrArg Host.Outcome.next ((if_pos hsender).trans ?_)
      rw [State.committeeReturn_outstanding hsome hround]
      exact if_neg (by simp [hok, hcommittee])
    case record =>
      have hrecord : exec (.partialDecryption f qpn msg) s = .next (s.partialOn x msg) := by
        refine congrArg Host.Outcome.next ((if_pos hsender).trans ?_)
        simp [State.partialMsg, hjoint, hhere]
      rw [hrecord]
      exact ⟨fun hbad => congrArg _ (State.partialOn_malformed hkept hbad),
        fun hbad hdigest => congrArg _ (State.partialOn_other_aggregate hkept hbad hdigest),
        fun hbad hdigest hnew => congrArg _ (State.partialOn_new hkept hbad hdigest hnew)⟩
  case timers =>
    intro s hready
    exact ⟨fun hfind hwire hround hdue => congrArg Host.Outcome.next (State.nlTimeout_due hready hfind hwire hround hdue),
      fun hround hst hjoint hkept hdue =>
        congrArg Host.Outcome.next (State.partialTimeout_due hready hround hst hjoint hkept hdue)⟩

end Sys2Proof.Machine

/-! # OPEN, CLIP, FOLDR and the page fetch (R103, R144, R145, R218, R225) -/

namespace Sys2Proof.Machine
open Sys2Proof

/-! ## OPEN and CLIP of a sealed message (R102, R103, R141) -/

/-- A message that authenticates under the round's key, with its elements in range and its rows in order, is decrypted in place
and marked opened. -/
theorem State.unseal_accepted {s : State} {x : Round} {m : Msg} {k : RoundKey} (hkeys : x.keys = some k) :
    let iv := sealIv m.round m.slot
    let ct := s.payload m.lz kxLen (m.len - kxLen)
    let s1 := { s with tiles := writeBytes s.tiles (lzBase m.lz + 64 + kxLen) (gcmCrypt (s.sealKey k m) iv
      (m.hdr.take 48 ++ s.payload m.lz 0 kxLen) ct) }
    gcmMac (s.sealKey k m) iv (m.hdr.take 48 ++ s.payload m.lz 0 kxLen) ct = slice m.hdr 48 16 →
    (x.cfg.elemOffs m.len).all (fun i => x.cfg.inRange (s1.elemAt x.cfg m.lz i)) = true →
    (x.cfg.sparse = true → s1.rowsOk x.cfg m = true) →
    s.unseal x m = (0, s1.updLive x.func m.round m.lz (fun m => { m with opened := true })) := by
  intro iv ct s1 hmac hrange hrows
  have hordered : ¬(x.cfg.sparse && !s1.rowsOk x.cfg m) = true := by
    cases hsparse : x.cfg.sparse
    · simp
    · simp [hrows hsparse]
  rw [State.unseal, hkeys]
  exact (if_neg (not_not.mpr hmac)).trans ((if_neg (by simpa using hrange)).trans (if_neg hordered))

/-- OPEN of a message not opened yet is its unsealing. -/
theorem State.sealed2_unopened {s v : State} {x : Round} {m : Msg} (hopened : m.opened = false)
    (hunseal : (s.eccSpan m.lz 0 (64 + m.len)).unseal x m = (0, v)) : s.sealed2 x m false = (0, v) := by
  simp [State.sealed2, hopened, hunseal]

/-- OPEN of a message opened before reads it and does nothing more. -/
theorem State.sealed2_opened {s : State} {x : Round} {m : Msg} (hopened : m.opened = true) :
    s.sealed2 x m false = (0, s.eccSpan m.lz 0 (64 + m.len)) := by
  simp [State.sealed2, hopened]

/-- CLIP of a message opened and not clipped scales it. -/
theorem State.sealed2_unclipped {s : State} {x : Round} {m : Msg} (hopened : m.opened = true) (hclipped : m.clipped = false) :
    s.sealed2 x m true = (0, (s.eccSpan m.lz 0 (64 + m.len)).clipMsg x m) := by
  simp [State.sealed2, hopened, hclipped]

/-- OPEN of a live sealed message runs what of it has not run, and its code fails the message unless it is 0. -/
theorem State.openMsg_sealed {s : State} {j w : Nat} {x : Round} {m : Msg}
    (hready : s.unitReady j w (4, 0, 0) s.eOf [(tQA w, [1])] = true)
    (hlive : s.liveMsg (s.ops j w).f (s.ops j w).qa = some (x, m)) (hmode : x.cfg.mode = 2) (hkind : m.kind ≠ .recovery) :
    s.openMsg j =
      (s.sealed2 x m false).2.reportMsg j w (s.sealed2 x m false).1 .openMsg x m ((s.sealed2 x m false).1 != 0) := by
  rw [State.openMsg, State.unitOp_eq hready rfl, hlive]
  exact if_neg (by simp [hmode, hkind])

section
variable {s : State} {j w : Nat} {x : Round} {m : Msg}
  (hready : s.unitReady j w (7, 2, 0) s.eOf [(tQD w, [3]), (tQA w, [1])] = true)
  (hlive : s.liveMsg (s.ops j w).f (s.ops j w).qa = some (x, m)) (hkind : m.kind ≠ .recovery)
  (hst : x.st = .open ∨ x.st = .guard ∨ x.st = .closed)
include hready hlive hkind hst

/-- CLIP of a live sealed message runs OPEN and the scaling as far as they have not run. -/
theorem State.clip_sealed (hmode : x.cfg.mode = 2) (hctr : tMod w / 4 = 0) :
    s.clip j = (s.sealed2 x m true).2.reportClip j w (s.sealed2 x m true).1 x m := by
  rw [State.clip, State.unitOp_eq hready rfl, hlive]
  refine (if_neg (by simpa [or_iff_not_imp_left] using hst)).trans ((if_neg (by simp [hmode, hkind])).trans ?_)
  exact (if_pos hmode).trans (if_neg (not_not.mpr hctr))

/-- CLIP in mode 3 of a message that passes its checks starts the exclusion sequence and writes its handle. -/
theorem State.clip_excludes {h : Nat} {s1 : State} (hmode : x.cfg.mode = 3) (hspan : 8 ≤ qLen (s.ops j w).qd)
    (hclipped : m.clipped = false) (hcheck : s.check3 x m = 0)
    (hexclude : s.exclude x m (some (tMod w / 4)) (s.spin j).stepc = some (.ok h, s1)) :
    s.clip j =
      ((s1.askLoads j 1 true).report j w 0 .clip [(qAddr (s.ops j w).qd, toLe 8 h)]).deadRound (s.ops j w).f m.round := by
  rw [State.clip, State.unitOp_eq hready rfl, hlive]
  refine (if_neg (by simpa [or_iff_not_imp_left] using hst)).trans ((if_neg (by simp [hmode, hkind])).trans ?_)
  refine (if_neg (by simp [hmode])).trans ?_
  refine (if_neg (Nat.not_lt.mpr hspan)).trans ((if_neg (by simp [hclipped])).trans ((if_neg (not_not.mpr hcheck)).trans ?_))
  rw [State.ops_w, hexclude]

end

/-- No query of a list is late for CLIP with PHASE 1 when the round of each is OPEN, GUARD or CLOSED, or not held. -/
theorem State.no_query_late {s : State} {f : Nat} {qs : List Query}
    (hrounds : qs.all (fun q => (s.round? f q.round).all (fun r => r.st == .open || r.st == .guard || r.st == .closed)) = true) :
    qs.any (fun q => (s.round? f q.round).any (fun r => !(r.st == .open || r.st == .guard || r.st == .closed))) = false := by
  rw [List.any_eq_false]
  intro q hq
  have htime := List.all_eq_true.mp hrounds q hq
  cases hround : s.round? f q.round with
  | none => simp
  | some r =>
    rw [hround, Option.all_some] at htime
    rw [Option.any_some, htime]
    decide

/-! ## FOLDR (R144, R145, R209) -/

/-- FOLDR of a message prepared before goes on to resolve its rows. -/
theorem State.foldr_prepared {s : State} {j w key : Nat} {x : Round} {m : Msg}
    (hready : s.unitReady j w (1, 1, 0) s.eOf [(tQA w, [1])] = true)
    (hlive : s.liveMsg (s.ops j w).f (s.ops j w).qa = some (x, m)) (hsparse : x.cfg.sparse = true) (hkind : m.kind ≠ .recovery)
    (hkey : s.streamOf (s.ops j w).f 1 0 (stepOf m.round dirStep) 0 = some key) (hprepared : m.prepared = true) :
    s.foldr j = s.resolve j (s.ops j w) x m key := by
  have hprepare : s.prepare x m = (0, s) := by rw [State.prepare, if_pos hprepared]
  rw [State.foldr, State.unitOp_eq hready rfl, hlive]
  refine (if_neg (by simp [hsparse, hkind])).trans ?_
  rw [hkey]
  dsimp only
  rw [hprepare]
  dsimp only
  rw [hlive]
  rfl

/-- The rows of a message still to be resolved. -/
def State.unresolved (s : State) (c : RoundCfg) (m : Msg) : List Nat :=
  ((List.range (c.nRows m.len)).drop m.resolved).map (fun i => s.rowId c m.lz i)

/-- The state after resolving: the round has taken its directory, and the message its count of resolved rows. -/
def State.afterResolve (s : State) (f r lz n : Nat) (x : Round) : State :=
  (s.putResolved f r x).updLive f r lz (fun m => { m with resolved := n })

section
variable {s : State} {j n key : Nat} {o : TOps} {x x1 : Round} {m : Msg}

/-- With every row resolved the fold phase begins. -/
theorem State.resolve_all {y : Round} {k : Msg} (hrows : resolveRows key x m.resolved (s.unresolved x.cfg m) = (x1, n, none))
    (hlive : (s.afterResolve o.f m.round m.lz n x1).liveMsg o.f o.qa = some (y, k)) :
    s.resolve j o x m key = (s.afterResolve o.f m.round m.lz n x1).foldRows j o y k := by
  unfold State.unresolved at hrows
  unfold State.afterResolve at hlive
  unfold State.resolve
  dsimp only
  rw [hrows]
  dsimp only
  rw [hlive]
  rfl

/-- A row whose page is not cached makes FOLDR wait, and the pages of its other rows are fetched ahead. -/
theorem State.resolve_miss (hrows : resolveRows key x m.resolved (s.unresolved x.cfg m) = (x1, n, some .miss)) :
    s.resolve j o x m key = ((s.afterResolve o.f m.round m.lz n x1).updRound o.f m.round (fun y =>
      let mine := (y.sparse.misses.filter (fun p => p.1 == j)).map (·.2)
      let want := ((x1.wantedPages key ((s.unresolved x.cfg m).drop (n - m.resolved))).filter
        (fun p => !mine.contains p)).take (fetchAhead - mine.length)
      { y with sparse := { y.sparse with misses := y.sparse.misses ++ want.map (fun p => (j, p)) } })).updSpin j
        (fun y => { y with active := s.time }) := by
  unfold State.unresolved at *
  unfold State.resolve
  dsimp only
  rw [hrows]
  rfl

end

/-- A plan that meets no other format and fits whole enters the scoreboard, and the instruction the unit queue. -/
theorem State.foldRows_whole {s : State} {j : Nat} {o : TOps} {x : Round} {m : Msg} :
    let plan := s.rowPlan x m (m.cursor / x.cfg.rw)
    let segs := s.rowSegs j (s.spin j).nextId x m plan
    plan.all (fun p => !s.fmtConflict p.tile (s.issueEpoch j p.tile) x.cfg.mode x.cfg.wsel 0 false) = true →
    s.roomFor x.cfg [] plan = plan →
    let v := ((((s.eccSpan m.lz (64 + x.cfg.rowOff (m.cursor / x.cfg.rw)) (plan.length * x.cfg.rowRec)).takeOff
      (plan.map (·.tile))).updLive o.f m.round m.lz (fun m =>
        { m with cursor := m.cursor + plan.length * x.cfg.rw, segs := m.segs + segs.length })).updSpin j
          (fun z => { z with segs := z.segs ++ segs, active := s.time }))
    s.foldRows j o x m =
      v.reportMsg j o.w 0 .foldr x m false (((v.spin j).segs.filter (fun g => g.entry == (s.spin j).nextId)).length) := by
  intro plan segs hformats hroom v
  refine (if_neg (by simpa using hformats)).trans ?_
  rw [show State.roomFor _ _ _ _ = plan from hroom]
  exact if_neg (Nat.lt_irrefl _)

/-! ## The page fetch (R144): what writes near and far memory leaves the rounds alone -/

@[simp] theorem State.putFarPage_rounds (s : State) (t p : Nat) (bs : Bytes) : (s.putFarPage t p bs).rounds = s.rounds := rfl

@[simp] theorem State.setPage_rounds (s : State) (t p : Nat) (bs : Bytes) : (s.setPage t p bs).rounds = s.rounds := by
  unfold State.setPage
  split <;> rfl

/-- Steps that each leave the rounds alone leave them alone together. -/
theorem State.foldl_rounds {α : Type} {g : State → α → State} (hg : ∀ s a, (g s a).rounds = s.rounds) (l : List α)
    (s : State) : (l.foldl g s).rounds = s.rounds :=
  State.foldl_keeps (fun u => u.rounds = s.rounds) g (fun u a h => (hg u a).trans h) l s rfl

@[simp] theorem State.putTile_rounds (s : State) (t off : Nat) (bs : Bytes) : (s.putTile t off bs).rounds = s.rounds := by
  unfold State.putTile
  split
  · exact State.foldl_rounds (fun _ _ => State.setPage_rounds _ _ _ _) _ _
  · rfl

@[simp] theorem State.retag_rounds (s : State) (t : Nat) : (s.retag t).rounds = s.rounds := rfl

@[simp] theorem State.rotated_rounds (s : State) (f : Nat) : (s.rotated f).rounds = s.rounds := by
  unfold State.rotated
  split
  · exact (State.raise_same _ f 0x0610 _ _ _ _).1
  · rfl

@[simp] theorem State.rekeyPages_rounds (s : State) (t : Nat) (ps : List Nat) : (s.rekeyPages t ps).rounds = s.rounds := by
  unfold State.rekeyPages
  split
  · rfl
  · rw [State.rotated_rounds, State.wr_rounds]
    exact State.foldl_rounds (fun _ _ => State.putFarPage_rounds _ _ _ _) _ _

/-- A page written back leaves its round held. -/
theorem State.cacheBack_round {s : State} {f r : Nat} {x : Round} (g : CachePage) (hround : s.round? f r = some x) :
    ∃ y, (s.cacheBack f r g).round? f r = some y := by
  unfold State.cacheBack
  rw [hround]
  dsimp only
  split
  · exact ⟨x, hround⟩
  · refine ⟨_, State.updRound_round_some (x := x) ?_ (fun _ => ⟨rfl, rfl⟩)⟩
    simpa [State.round?] using hround

/-- A page that comes in is in its round's cache, whatever made room for it. -/
theorem State.cachePage_cached {s : State} {f r : Nat} {x : Round} (page : Nat) (hround : s.round? f r = some x) :
    (((s.cachePage f r page).round? f r).bind (fun y => y.cached page)).isSome = true := by
  unfold State.cachePage
  split
  next hnone => simp [hround] at hnone
  next z hz =>
    extract_lets p free s1 slot t s2
    split
    next hcached => simpa [hz] using hcached
    next =>
      have hs1 : ∃ y, s1.round? f r = some y := by
        unfold s1
        split
        · exact State.cacheBack_round _ hround
        · exact ⟨x, hround⟩
      obtain ⟨y, hy⟩ := hs1
      have hs2 : s2.round? f r = some y := by simpa [s2, State.round?] using hy
      rw [State.updRound_round_self, hs2]
      · simp [Round.cached]
      · exact fun _ => ⟨rfl, rfl⟩

/-- The oldest page a spindle has outstanding comes in, and its FOLDR goes on. -/
theorem State.pageFetch_oldest {s : State} {j : Nat} {r : Round} {p : Nat × Nat}
    (hfind : s.rounds.find? (fun r => s.owner? j == some r.func && r.sparse.misses.any (fun p => p.1 == j)) = some r)
    (hmiss : r.sparse.misses.find? (fun p => p.1 == j) = some p) :
    s.pageFetch j = ((s.cachePage r.func r.cfg.round p.2).updRound r.func r.cfg.round (fun y =>
      { y with sparse := { y.sparse with misses := y.sparse.misses.erase p } })).foldr j := by
  rw [State.pageFetch, hfind]
  dsimp only
  rw [hmiss]

/-! ## The statement (R144, R145, R218, R225) -/

/-- Settles O16: each instruction passes its checks in order, and the branch left is the one that acts; the page fetched stays
in the round's cache. -/
theorem sealedAndSparseFolds : Obligations.SealedAndSparseFolds := by
  unfold Obligations.SealedAndSparseFolds
  refine ⟨fun s j w x m => ?opened, fun s j w x m => ?clip, fun s j w => ?clipFinish, fun s j w x m key => ?foldr,
    fun s j r p => ?fetch⟩
  case opened =>
    intro o s0 hready hlive hmode hkind
    have hopen : exec (.openMsg j) s = _ := congrArg Host.Outcome.next (State.openMsg_sealed hready hlive hmode hkind)
    rw [hopen]
    refine ⟨fun k hopened hkeys => ?_, fun hopened => ?_, fun hfails => ?_⟩
    · intro iv ct s1 hmac hrange hrows
      rw [State.sealed2_unopened hopened (State.unseal_accepted hkeys hmac hrange hrows)]
      rfl
    · rw [State.sealed2_opened hopened]
      rfl
    · rw [bne_iff_ne.mpr hfails]
  case clip =>
    intro o hready hlive hkind hst
    refine ⟨fun hmode hctr => ?_, fun h s1 hmode hspan hclipped hcheck hexclude =>
      congrArg Host.Outcome.next (State.clip_excludes hready hlive hkind hst hmode hspan hclipped hcheck hexclude)⟩
    have hclip : exec (.clip j) s = _ := congrArg Host.Outcome.next (State.clip_sealed hready hlive hkind hst hmode hctr)
    exact ⟨fun hopened hclipped => by rw [hclip, State.sealed2_unclipped hopened hclipped], hclip⟩
  case clipFinish =>
    intro o hs hready hrounds
    refine congrArg Host.Outcome.next ?_
    rw [State.clipFinish, State.unitOp_eq hready rfl]
    exact if_neg (Bool.not_eq_true _ ▸ State.no_query_late hrounds)
  case foldr =>
    intro o rows hready hlive hsparse hkind hkey hprepared
    have hfoldr : exec (.foldr j) s = .next (s.resolve j o x m key) :=
      congrArg Host.Outcome.next (State.foldr_prepared hready hlive hsparse hkind hkey hprepared)
    rw [hfoldr]
    refine ⟨fun x1 n y k hrows => ?_, fun x1 n hrows => congrArg Host.Outcome.next (State.resolve_miss hrows)⟩
    intro u hlive plan segs hformats hroom v
    exact congrArg Host.Outcome.next ((State.resolve_all hrows hlive).trans (State.foldRows_whole hformats hroom))
  case fetch =>
    intro u hfind hmiss
    have hfetch : exec (.directoryPageFetch j) s = .next (u.foldr j) :=
      congrArg Host.Outcome.next (State.pageFetch_oldest hfind hmiss)
    refine ⟨hfetch, fun hidle => ?_, fun _ hround => ?_⟩
    · rw [hfetch, State.foldr, State.unitOp, State.unitOpE, State.issue_idle hidle]
    · have hu : u.round? r.func r.cfg.round = Option.map _ _ := State.updRound_round_self _ _ _ _ (fun _ => ⟨rfl, rfl⟩)
      rw [hu, Option.bind_map]
      exact State.cachePage_cached p.2 hround

end Sys2Proof.Machine

/-! # Tenant assets (R157, R158, R348, R349, R357, R358) -/

namespace Sys2Proof.Machine
open Sys2Proof

/-! ## An asset request (R349) -/

/-- The plain body of an asset request of kind `k`: KEM's comes in the clear, any other under the session's asset key. -/
def State.assetPlain (s : State) (f k : Nat) (m : Bytes) : Bytes :=
  if k = 0 then aBody m else gcmCrypt (s.session f).assetKey (assetIv m) (m.take 32) (aBody m)

/-- What follows an installation that left `s1`: the assets of the cycle's start are kept, the request is counted and its kind
marked (R349). -/
def State.assetCounted (s1 s : State) (f k : Nat) (m : Bytes) : State :=
  ((s1.keepAssets s f).wr Reg.fnAssetSeq (aSeq m) f).updFn f (fun x => { x with assetFlags := Nat.lor x.assetFlags (2 ^ k) })

section
variable {s : State} {f k : Nat} {m : Bytes} (install : Bytes → State → Nat × Bytes × State) (hup : s.doeUp f = true)
  (hkind : aKind m = k)
include hup hkind

theorem State.asset_of_code_ne (hcode : s.assetCode f m ≠ 0) :
    s.asset f k m install = (s.bump Reg.nalamAssetRefusedCount).assetAnswer f (s.assetCode f m) := by
  simp [State.asset, hup, hkind, hcode]

theorem State.asset_of_install_ne (hcode : s.assetCode f m = 0) (hinstall : (install (s.assetPlain f k m) s).1 ≠ 0) :
    s.asset f k m install =
      ((((install (s.assetPlain f k m) s).2.2.bump Reg.nalamAssetRefusedCount).digestRaise f
        (install (s.assetPlain f k m) s).1).assetAnswer f (install (s.assetPlain f k m) s).1) := by
  unfold State.assetPlain at hinstall ⊢
  simp [State.asset, hup, hkind, hcode, hinstall]

theorem State.asset_of_installed (hcode : s.assetCode f m = 0) (hinstall : (install (s.assetPlain f k m) s).1 = 0) :
    let t := (install (s.assetPlain f k m) s).2.2.assetCounted s f k m
    s.asset f k m install =
      (if t.plied && t.isA && decide (2 ≤ k) then t.plySend f plyAsset 0 0 (m.take 48 ++ (install (s.assetPlain f k m) s).2.1)
        else t).assetAnswer f 0 := by
  unfold State.assetPlain at hinstall ⊢
  simp [State.asset, State.assetCounted, hup, hkind, hcode, hinstall]

end

/-- No asset is installed outside an attested session (R348). -/
theorem State.assetCode_unattested {s : State} {f : Nat} (m : Bytes) (h : (s.session f).attested = false) :
    s.assetCode f m ≠ 0 := by
  unfold State.assetCode
  dsimp only
  split
  · decide
  · split
    · decide
    · simp [h]

/-! ## Installing (R158, R348, R349) -/

theorem State.installNoise_of_length {s : State} {b : Bytes} (f : Nat) (h : b.length = 32) :
    s.installNoise f b = (0, s.updFn f (fun x => { x with noiseSeed := some (leNat b) })) :=
  if_neg (not_not_intro h)

theorem State.installCkpt_of_length {s : State} {b : Bytes} (f : Nat) (h : b.length = 32) :
    s.installCkpt f b = (0, s.updFn f (fun x => { x with ckptKey := some (leNat b) })) :=
  if_neg (not_not_intro h)

theorem State.installBind_of_length {s : State} {b : Bytes} (f : Nat) (h : b.length = 4) :
    s.installBind f b =
      (0, ((s.updFn f (fun x => { x with tenantKey := sha384N x.session.key })).wr Reg.fnTenantTag (leNat b) f).wr
        Reg.fnBound 1 f) :=
  if_neg (not_not_intro h)

/-! ## Memory keys (R357, R358) -/

/-- The far tiles a rotation still has to convert: those with a page of the old generation that are not staged (R358). -/
def State.sweepLeft (s : State) (f : Nat) : List Nat :=
  let gen := if s.rd Reg.fnCurgen f = 1 then 0xFFFF else 0
  (s.farTiles f).filter (fun t => (s.tag t).keygen != gen && (s.stagedOf t).isNone)

/-- The tile the sweep takes next: the first at or after its place, or the first of all (R358). -/
def State.sweepNext (s : State) (f : Nat) : Option Nat :=
  ((s.sweepLeft f).find? (fun t => decide ((s.fn f).sweep ≤ t))).or (s.sweepLeft f).head?

section
variable {s : State} {f : Nat} (hready : s.ready = true) (hturn : s.farTurn f = true)
include hready hturn

theorem State.memInitDone_of_init (hrot : s.rd Reg.fnRotState f = 1) :
    s.memInitDone f = ((s.farTiles f).foldl (fun s t =>
      (s.setTag t { tenant := f, far := true }).zeroTile t) s).wr Reg.fnRotState 0 f := by
  simp [State.memInitDone, hready, hturn, hrot]

theorem State.memSweep_of_rotation (hrot : s.rd Reg.fnRotState f = 2) :
    s.memSweep f = (s.sweepNext f).elim s (fun t => (s.updFn f (fun x => { x with sweep := t + 1 })).farWritten t) := by
  have hguard : ¬(s.rd Reg.fnRotState f ≠ 2 || !s.ready || !s.farTurn f) = true := by simp [hrot, hready, hturn]
  rw [State.memSweep, if_neg hguard]
  dsimp only
  split
  next hfind => simp only [State.sweepNext, State.sweepLeft, hfind, Option.some_or, Option.elim_some]
  next hfind hhead => simp only [State.sweepNext, State.sweepLeft, hfind, hhead, Option.none_or, Option.elim_some]
  next hfind hhead => simp only [State.sweepNext, State.sweepLeft, hfind, hhead, Option.none_or, Option.elim_none]

end

/-! ## The statement -/

/-- Settles O48: each command is an asset request of its kind, whose checks and installing leave one of three answers; the sweep
acts on the tile it takes next, and on none when no page is old. -/
theorem tenantAssets : Obligations.TenantAssets := by
  unfold Obligations.TenantAssets
  refine ⟨?request, fun s f b => ?install, fun s f hready hturn => ?memory⟩
  case request =>
    intro s f k m host cmd p hup _ hkind plain hcmd
    obtain ⟨install, hexec, rfl⟩ : ∃ install : Bytes → State → Nat × Bytes × State,
        exec cmd s = .next (s.asset f k m install) ∧ p = install (s.assetPlain f k m) s := by
      rcases hcmd with ⟨rfl, rfl, rfl⟩ | ⟨rfl, rfl, rfl⟩ | ⟨rfl, rfl, rfl⟩ | ⟨rfl, rfl, rfl⟩ | ⟨rfl, rfl, rfl⟩ |
        ⟨rfl, rfl, rfl⟩ | ⟨rfl, rfl, rfl⟩ | ⟨rfl, rfl, rfl⟩ | ⟨rfl, rfl, rfl⟩ <;> exact ⟨_, rfl, rfl⟩
    rw [hexec]
    exact ⟨fun hcode => congrArg Host.Outcome.next (State.asset_of_code_ne install hup hkind hcode),
      fun hcode hrefused => congrArg Host.Outcome.next (State.asset_of_install_ne install hup hkind hcode hrefused),
      fun hcode hdone => congrArg Host.Outcome.next (State.asset_of_installed install hup hkind hcode hdone),
      State.assetCode_unattested m⟩
  case install =>
    exact ⟨fun hbad => if_pos hbad, fun hgood => if_neg (by simp [hgood]),
      fun hlen => ⟨State.installNoise_of_length f hlen, State.installCkpt_of_length f hlen⟩, State.installBind_of_length f⟩
  case memory =>
    refine ⟨fun hrot => congrArg Host.Outcome.next (State.memInitDone_of_init hready hturn hrot), fun hrot => ?_⟩
    intro gen l
    have hsweep : exec (.memRotationSweep f) s = .next _ :=
      congrArg Host.Outcome.next (State.memSweep_of_rotation hready hturn hrot)
    have hnext : s.sweepNext f = (l.find? (fun t => decide ((s.fn f).sweep ≤ t))).or l.head? := rfl
    rw [hsweep, hnext]
    refine ⟨fun t hfind => ?ahead, fun t hfind hhead => ?again, fun hnone => ?noneOld⟩
    case ahead => rw [hfind]; rfl
    case again => rw [hfind, hhead]; rfl
    case noneOld => rw [hnone]; rfl

end Sys2Proof.Machine

/-! # The scalar class: registers, scratch, system values, branches (R175 to R187, R206) -/

namespace Sys2Proof.Machine
open Sys2Proof

/-! ## What issuing does to a spindle (R182, R189) -/

/-- A word whose guard fails is skipped, whatever it is (R182). -/
theorem State.issue_skips {s : State} {j w : Nat} {u : Uses} (hissuing : s.issuing j = true)
    (hfetch : (s.spin j).fetch = some w) (huses : usesOf w (s.nctr j) = some u) {key : Nat × Nat × Nat} (hkey : wKey w = key)
    (hguard : (s.spin j).guard w = false) (body : Nat → Nat → State → State) : s.issue j key body = s.goOn j id := by
  simp [State.issue, State.advance_eq, hissuing, hfetch, huses, hkey, hguard]

theorem State.issues_issuing {s : State} {j w : Nat} (h : s.issues j w = true) : s.issuing j = true := by
  simp only [State.issues, Bool.and_eq_true] at h
  obtain ⟨⟨hissuing, -⟩, -⟩ := h
  exact hissuing

/-- A change of a spindle and the advance after it are one going on. -/
theorem State.updSpin_advance (s : State) (j : Nat) (g : Spindle → Spindle) : (s.updSpin j g).advance j = s.goOn j g :=
  s.updSpin_updSpin j g _

theorem updAt_congr {α : Type} {l : List α} {i : Nat} {g h : α → α} (d : α) (heq : g (l.getD i d) = h (l.getD i d)) :
    updAt l i g = updAt l i h := by
  induction l generalizing i with
  | nil => rfl
  | cons a l ih =>
    cases i with
    | zero => exact congrArg (· :: l) heq
    | succ i => exact congrArg (a :: ·) (ih heq)

/-- Only what a change makes of the spindle it changes matters. -/
theorem State.updSpin_congr {s : State} {j : Nat} {g h : Spindle → Spindle} (heq : g (s.spin j) = h (s.spin j)) :
    s.updSpin j g = s.updSpin j h :=
  congrArg (fun l => { s with spindles := l }) (updAt_congr {} heq)

/-! ## Registers (R175) -/

theorem Spindle.setS_zero (x : Spindle) (v : Word) : x.setS 0 v = x := rfl
theorem Spindle.setP_zero (x : Spindle) (v : Bool) : x.setP 0 v = x := rfl

theorem Spindle.setS_of_ne_zero {i : Nat} (hi : i ≠ 0) (x : Spindle) (v : Word) :
    x.setS i v = { x with s := updAt x.s i (fun _ => v) } := if_neg hi
theorem Spindle.setP_of_ne_zero {i : Nat} (hi : i ≠ 0) (x : Spindle) (v : Bool) :
    x.setP i v = { x with p := updAt x.p i (fun _ => v) } := if_neg hi

theorem Spindle.sreg_setS_self {x : Spindle} {i : Nat} (hi : i ≠ 0) (hlen : i < x.s.length) (v : Word) :
    (x.setS i v).sreg i = v := by
  rw [Spindle.setS_of_ne_zero hi, Spindle.sreg, if_neg hi]
  exact updAt_get _ _ _ _ hlen

theorem Spindle.sreg_setS_ne {i k : Nat} (hne : k ≠ i) (x : Spindle) (v : Word) : (x.setS i v).sreg k = x.sreg k := by
  by_cases hi : i = 0
  · rw [hi, Spindle.setS_zero]
  · rw [Spindle.setS_of_ne_zero hi]
    exact if_congr Iff.rfl rfl (updAt_ne _ _ _ _ _ hne)

theorem Spindle.preg_setP_self {x : Spindle} {i : Nat} (hi : i ≠ 0) (hlen : i < x.p.length) (b : Bool) :
    (x.setP i b).preg i = b := by
  rw [Spindle.setP_of_ne_zero hi, Spindle.preg, if_neg hi]
  exact updAt_get _ _ _ _ hlen

theorem Spindle.preg_setP_ne {i k : Nat} (hne : k ≠ i) (x : Spindle) (b : Bool) : (x.setP i b).preg k = x.preg k := by
  by_cases hi : i = 0
  · rw [hi, Spindle.setP_zero]
  · rw [Spindle.setP_of_ne_zero hi]
    exact if_congr Iff.rfl rfl (updAt_ne _ _ _ _ _ hne)

theorem Spindle.qreg_setQ_self {x : Spindle} {i : Nat} (hlen : i < x.q.length) (q : QWord) : (x.setQ i q).qreg i = q :=
  updAt_get _ _ _ _ hlen

theorem Spindle.qreg_setQ_ne {i k : Nat} (hne : k ≠ i) (x : Spindle) (q : QWord) : (x.setQ i q).qreg k = x.qreg k :=
  updAt_ne _ _ _ _ _ hne

/-! ## Scratch bytes (R8, R178) -/

@[simp] theorem toLe_length (n v : Nat) : (toLe n v).length = n := by
  induction n generalizing v with
  | zero => rfl
  | succ n ih => simp [toLe, ih]

/-- Byte `i` of a little-endian number (R8). -/
theorem toLe_getD {n i : Nat} (hi : i < n) (v : Nat) : (toLe n v).getD i 0 = BitVec.ofNat 8 (v / 256 ^ i) := by
  induction n generalizing i v with
  | zero => exact absurd hi (Nat.not_lt_zero i)
  | succ n ih =>
    cases i with
    | zero => simp [toLe]
    | succ i =>
      rw [toLe, List.getD_cons_succ, ih (Nat.lt_of_succ_lt_succ hi), Nat.div_div_eq_div_mul, Nat.pow_succ']

theorem Spindle.poke_frame {x : Spindle} {a n k : Nat} (hk : k < a ∨ a + n ≤ k) (v : Nat) :
    Sparse.get 0 (x.poke a (toLe n v)).scratch k = Sparse.get 0 x.scratch k :=
  writeBytes_frame _ _ _ _ (by rwa [toLe_length])

theorem Spindle.poke_get {x : Spindle} {n i : Nat} (hwf : Sparse.wf 0 x.scratch = true) (hi : i < n) (a v : Nat) :
    Sparse.get 0 (x.poke a (toLe n v)).scratch (a + i) = BitVec.ofNat 8 (v / 256 ^ i) :=
  (writeBytes_get _ _ _ _ hwf (by rwa [toLe_length])).trans (toLe_getD hi v)

/-- Settles O6: a write changes one item of a register file, or none when it names s0 or p0; a store is a run of byte writes. -/
theorem registersAndStores : Obligations.RegistersAndStores := by
  unfold Obligations.RegistersAndStores
  refine ⟨fun x i k v b q => ?registers, fun x a n v k => ?stores⟩
  case registers =>
    exact ⟨rfl, rfl, x.setS_zero v, x.setP_zero b,
      fun hi hlen => Spindle.sreg_setS_self hi hlen v, fun hne => Spindle.sreg_setS_ne hne x v,
      fun hi hlen => Spindle.preg_setP_self hi hlen b, fun hne => Spindle.preg_setP_ne hne x b,
      fun hlen => Spindle.qreg_setQ_self hlen q, fun hne => Spindle.qreg_setQ_ne hne x q⟩
  case stores =>
    exact ⟨fun hk => Spindle.poke_frame hk v, fun hwf i hi => Spindle.poke_get hwf hi a v, rfl, rfl, rfl, rfl⟩

/-! ## Arithmetic, compares and predicate logic (R183, R184, R206) -/

/-- A scalar instruction that issues changes its spindle's registers and goes on. -/
theorem State.scalar_issued {s : State} {j w op : Nat} {g : Spindle → Nat → Spindle} (hissue : s.issues j w = true)
    (hkey : wKey w = (0, op, 0)) : Host.Outcome.next (s.scalar j op g) = (.next (s.goOn j (fun x => g x w)) : Res) := by
  rw [State.scalar, State.issue_eq hissue hkey, State.updSpin_advance]

/-- The number of a predicate as a word. -/
theorem ofNat_b2n (b : Bool) : BitVec.ofNat 64 (b2n b) = if b then 1 else 0 := by cases b <;> rfl

/-- LIH's shift is a product (R206). -/
theorem shiftLeft_thirty (b : Word) : b <<< (30 : Nat) = b * 2 ^ 30 := by
  rw [BitVec.shiftLeft_eq_mul_twoPow]
  rfl

/-- Settles O4: every form is a scalar instruction with the function of R206 on its operands; MOVP, LIH and PXOR spell theirs
another way. -/
theorem scalarForms : Obligations.ScalarForms := by
  unfold Obligations.ScalarForms
  refine ⟨fun s j w h => ?formatR, fun s j w h => ?formatI, fun s j w h => ?predicates⟩
  case formatR =>
    refine ⟨State.scalar_issued h, State.scalar_issued h, State.scalar_issued h, State.scalar_issued h,
      State.scalar_issued h, State.scalar_issued h, State.scalar_issued h, State.scalar_issued h, State.scalar_issued h,
      State.scalar_issued h, State.scalar_issued h, fun hkey => ?movp⟩
    simp only [← ofNat_b2n]
    exact State.scalar_issued h hkey
  case formatI =>
    refine ⟨State.scalar_issued h, State.scalar_issued h, State.scalar_issued h, State.scalar_issued h,
      State.scalar_issued h, State.scalar_issued h, State.scalar_issued h, fun hkey => ?lih⟩
    simp only [← shiftLeft_thirty]
    exact State.scalar_issued h hkey
  case predicates =>
    refine ⟨State.scalar_issued h, State.scalar_issued h, State.scalar_issued h, State.scalar_issued h,
      State.scalar_issued h, fun hkey => ?pxor, State.scalar_issued h, State.scalar_issued h, State.scalar_issued h⟩
    simp only [← Bool.bne_eq_xor]
    exact State.scalar_issued h hkey

/-! ## Loads and stores (R178) -/

theorem Spindle.accessOk_iff {x : Spindle} {a n top : Nat} :
    x.accessOk a n top = true ↔ a % n = 0 ∧ x.textLen ≤ a ∧ a + n ≤ top := by
  simp [Spindle.accessOk, and_assoc]

/-- What a permitted access answers and what any other does. -/
theorem Spindle.ite_accessOk {x : Spindle} {a n top : Nat} {t u : State} :
    let ok := a % n = 0 ∧ x.textLen ≤ a ∧ a + n ≤ top
    (ok → Host.Outcome.next (if x.accessOk a n top then t else u) = (.next t : Res)) ∧
    (¬ok → Host.Outcome.next (if x.accessOk a n top then t else u) = (.next u : Res)) :=
  ⟨fun hok => congrArg _ (if_pos (Spindle.accessOk_iff.2 hok)),
    fun hbad => congrArg _ (if_neg (mt Spindle.accessOk_iff.1 hbad))⟩

section
variable {s : State} {j w op n : Nat} (hissue : s.issues j w = true) (hkey : wKey w = (0, op, 0))
include hissue hkey

/-- A load goes on with the number read, or traps (R178). -/
theorem State.load_issued (put : Spindle → Nat → Nat → Spindle) :
    let a := (s.spin j).addr w
    let ok := a % n = 0 ∧ (s.spin j).textLen ≤ a ∧ a + n ≤ 0x1FF080
    (ok → Host.Outcome.next (s.load j op n put) =
      (.next (s.goOn j (fun x => put x w (readNat x.scratch (x.addr w) n))) : Res)) ∧
    (¬ok → Host.Outcome.next (s.load j op n put) = (.next (s.trapHere j 0x0A08 w) : Res)) := by
  intro a ok
  rw [State.load, State.issue_eq hissue hkey]
  dsimp only
  rw [State.updSpin_advance]
  exact Spindle.ite_accessOk

/-- A store goes on with its bytes written, or traps (R178). -/
theorem State.store_issued (val : Spindle → Nat → Nat) :
    let a := (s.spin j).addr w
    let ok := a % n = 0 ∧ (s.spin j).textLen ≤ a ∧ a + n ≤ 0x1FF000
    (ok → Host.Outcome.next (s.store j op n val) =
      (.next (s.goOn j (fun x => x.poke (x.addr w) (toLe n (val x w)))) : Res)) ∧
    (¬ok → Host.Outcome.next (s.store j op n val) = (.next (s.trapHere j 0x0A08 w) : Res)) := by
  intro a ok
  rw [State.store, State.issue_eq hissue hkey]
  dsimp only
  rw [State.updSpin_advance]
  exact Spindle.ite_accessOk

end

section
variable {s : State} {j w : Nat} (hissue : s.issues j w = true) (hkey : wKey w = (0, 38, 0))
include hissue hkey

/-- ST16 of a malformed stream register (R177). -/
theorem State.storeQ_malformed (hq : qWf (s.spin j).textLen (2 ^ 15) ((s.spin j).qreg (wSD w)).toNat = false) :
    s.storeQ j = s.trapHere j 0x0A09 w 0 (wSD w % 16) := by
  rw [State.storeQ, State.issue_eq hissue hkey]
  exact if_pos (by rw [hq]; rfl)

variable (hq : qWf (s.spin j).textLen (2 ^ 15) ((s.spin j).qreg (wSD w)).toNat = true)
include hq

/-- ST16 of a stream register that names a tile outside its function's ranges (R52). -/
theorem State.storeQ_outside {t : Nat} (htile : (opTiles ((s.spin j).qreg (wSD w)).toNat).find?
      (fun t => !s.tileOk ((s.owner? j).getD 0) t) = some t) :
    s.storeQ j = s.trapHere j 0x010B w t (wSD w % 16) := by
  rw [State.storeQ, State.issue_eq hissue hkey]
  dsimp only
  rw [if_neg (by rw [hq]; decide), htile]

/-- ST16 of a register whose content and tiles pass stores it, or traps (R177, R178). -/
theorem State.storeQ_issued (htiles : (opTiles ((s.spin j).qreg (wSD w)).toNat).all
      (fun t => s.tileOk ((s.owner? j).getD 0) t) = true) :
    s.storeQ j = if (s.spin j).accessOk ((s.spin j).addr w) 16 0x1FF000
      then s.goOn j (fun x => x.poke (x.addr w) (toLe 16 (x.qreg (wSD w)).toNat)) else s.trapHere j 0x0A08 w := by
  have hfind : (opTiles ((s.spin j).qreg (wSD w)).toNat).find? (fun t => !s.tileOk ((s.owner? j).getD 0) t) = none := by
    simpa using htiles
  rw [State.storeQ, State.issue_eq hissue hkey]
  dsimp only
  rw [if_neg (by rw [hq]; decide), hfind, State.updSpin_advance]
  exact if_congr Iff.rfl (State.updSpin_congr rfl) rfl

end

/-- Settles O5: a load and a store each ask one permission of their address; ST16 checks its register first. -/
theorem scratchAccess : Obligations.ScratchAccess := by
  unfold Obligations.ScratchAccess
  intro s j w h a ok load store bad q f
  refine ⟨fun hkey => State.load_issued h hkey putS, fun hkey => State.load_issued h hkey putS,
    fun hkey => State.load_issued h hkey putS, fun hkey => State.load_issued h hkey putS,
    fun hkey => State.load_issued h hkey putQ, fun hkey => State.store_issued h hkey valS,
    fun hkey => State.store_issued h hkey valS, fun hkey => State.store_issued h hkey valS,
    fun hkey => State.store_issued h hkey valS, fun hkey => ⟨fun hq htiles => ?stored, fun hq => ?malformed,
      fun t hq htile => ?outside⟩⟩
  case stored =>
    have hstore := congrArg (Host.Outcome.next : State → Res) (State.storeQ_issued h hkey hq htiles)
    exact ⟨fun hok => hstore.trans (Spindle.ite_accessOk.1 hok), fun hbad => hstore.trans (Spindle.ite_accessOk.2 hbad)⟩
  case malformed => exact congrArg Host.Outcome.next (State.storeQ_malformed h hkey hq)
  case outside => exact congrArg Host.Outcome.next (State.storeQ_outside h hkey hq htile)

/-! ## System values (R180, R412) -/

/-- SYSR: the register takes the value, and the log too for the selectors that are replayed (R412). -/
theorem State.sysr_issued {s : State} {j w f : Nat} (hissue : s.issues j w = true) (howner : s.owner? j = some f)
    (hkey : wKey w = (0, 39, 0)) :
    let v := BitVec.ofNat 64 (s.sysValue j f (wImm w).toNat)
    s.sysr j = s.goOn j (fun x =>
      { x.setS (wSD w) v with sysrLog := if 5 ≤ (wImm w).toNat ∧ (wImm w).toNat ≤ 7 then x.sysrLog ++ [v] else x.sysrLog }) := by
  intro v
  rw [State.sysr, State.issue_eq hissue hkey, howner]
  exact State.updSpin_advance _ _ _

@[simp] theorem Spindle.setS_sysrLog (x : Spindle) (i : Nat) (v : Word) : (x.setS i v).sysrLog = x.sysrLog := by
  unfold Spindle.setS
  split <;> rfl

/-- A selector that is not replayed leaves the log alone. -/
theorem State.sysr_unlogged {s : State} {j w f i : Nat} (hissue : s.issues j w = true) (howner : s.owner? j = some f)
    (hkey : wKey w = (0, 39, 0)) (hi : (wImm w).toNat = i) (hlog : ¬(5 ≤ i ∧ i ≤ 7)) :
    s.sysr j = s.goOn j (fun x => x.setS (wSD w) (BitVec.ofNat 64 (s.sysValue j f i))) := by
  rw [State.sysr_issued hissue howner hkey, hi]
  refine congrArg (s.goOn j) (funext fun x => ?_)
  rw [if_neg hlog, ← Spindle.setS_sysrLog x]

theorem State.sysr_logged {s : State} {j w f i : Nat} (hissue : s.issues j w = true) (howner : s.owner? j = some f)
    (hkey : wKey w = (0, 39, 0)) (hi : (wImm w).toNat = i) (hlog : 5 ≤ i ∧ i ≤ 7) :
    s.sysr j = s.goOn j (fun x => { x.setS (wSD w) (BitVec.ofNat 64 (s.sysValue j f i)) with
      sysrLog := x.sysrLog ++ [BitVec.ofNat 64 (s.sysValue j f i)] }) := by
  rw [State.sysr_issued hissue howner hkey, hi]
  simp only [if_pos hlog]

/-- Settles O7: selectors 5 to 7 are the logged ones, and each selector's value is its line of R180. -/
theorem systemValues : Obligations.SystemValues := by
  unfold Obligations.SystemValues
  intro s j w f hissue howner hkey sys logged i
  have hsys {k : Nat} (hlog : ¬(5 ≤ k ∧ k ≤ 7)) (hi : i = k) : exec (.sysr j) s = .next (sys (s.sysValue j f k)) :=
    congrArg Host.Outcome.next (State.sysr_unlogged hissue howner hkey hi hlog)
  have hlogged {k : Nat} (hlog : 5 ≤ k ∧ k ≤ 7) (hi : i = k) : exec (.sysr j) s = .next (logged (s.sysValue j f k)) :=
    congrArg Host.Outcome.next (State.sysr_logged hissue howner hkey hi hlog)
  exact ⟨hsys (by decide), hsys (by decide), hsys (by decide), hsys (by decide), hsys (by decide), hlogged (by decide),
    hlogged (by decide), hlogged (by decide), hsys (by decide), hsys (by decide)⟩

/-! ## Branches (R185) -/

theorem wOff_eq (w : Nat) : wOff w = (BitVec.ofNat 38 (w / 2 ^ 26)).signExtend 64 := by
  have hbits : BitVec.ofNat 38 (bits w 26 38) = BitVec.ofNat 38 (w / 2 ^ 26) :=
    BitVec.eq_of_toNat_eq (by simp [bits])
  rw [wOff, hbits]

/-- The spindle after branch `w` at time `now` (R185). -/
def Spindle.branched (x : Spindle) (w now : Nat) : Spindle :=
  { x.setS (wSD w) (BitVec.ofNat 64 (x.pc + 1)) with pc := x.target w, active := now, wait := .none }

theorem State.branch_issued {s : State} {j w : Nat} (hissue : s.issues j w = true) (hkey : wKey w = (0, 40, 0)) :
    s.branch j = s.updSpin j (fun x => x.branched w s.time) := by
  rw [State.branch, State.issue_eq hissue hkey, State.advance, State.updSpin_updSpin]
  refine State.updSpin_congr ?_
  unfold Spindle.branched Spindle.setS
  split <;> rfl

/-- A branch to a target outside the text leaves nothing to fetch (R185). -/
theorem Spindle.branched_fetch {x : Spindle} {w : Nat} (now : Nat) (htarget : x.textLen ≤ x.target w * 8) :
    (x.branched w now).fetch = none := by
  have htext : (x.branched w now).textLen = x.textLen := by
    unfold Spindle.branched Spindle.setS
    split <;> rfl
  exact if_neg (by rw [htext]; exact Nat.not_lt.2 htarget)

/-- A branch leaves its spindle issuing. -/
theorem State.branched_issuing {s : State} {j : Nat} (w now : Nat) (hj : j < s.spindles.length) :
    (s.updSpin j (fun x => x.branched w now)).issuing j = s.issuing j := by
  unfold State.issuing
  rw [State.updSpin_spin_self _ _ _ hj]
  unfold Spindle.branched Spindle.setS
  split <;> rfl

/-- Settles O8: the branch leaves the spindle issuing at its target, where the next fetch fails outside the text. -/
theorem branchFormat : Obligations.BranchFormat := by
  unfold Obligations.BranchFormat
  intro s j w hkey sl sa target t
  have htarget (x : Spindle) : (target x).toNat = x.target w := by
    rw [Spindle.target, wOff_eq]
    rfl
  have ht : t = s.updSpin j (fun x => x.branched w s.time) := by
    simp only [t, htarget]
    rfl
  refine ⟨fun hissue => ?taken, fun hissue hj hout => ?outside, fun u hissuing hfetch huses hguard => ?skipped⟩
  case taken => exact congrArg Host.Outcome.next ((State.branch_issued hissue hkey).trans ht.symm)
  case outside =>
    have hfetch : (t.spin j).fetch = none := by
      rw [ht, State.updSpin_spin_self _ _ _ hj]
      exact Spindle.branched_fetch _ (htarget (s.spin j) ▸ hout)
    have hissuing : t.issuing j = true := by
      rw [ht, State.branched_issuing _ _ hj]
      exact State.issues_issuing hissue
    exact congrArg Host.Outcome.next (State.issue_outside hissuing hfetch _ _)
  case skipped => exact congrArg Host.Outcome.next (State.issue_skips hissuing hfetch huses hkey hguard _)

/-- Settles O9: the tests of an issue in their order, before its body. -/
theorem guardAndDecode : Obligations.GuardAndDecode := by
  unfold Obligations.GuardAndDecode
  intro s j key body hissuing
  exact ⟨fun hfetch => State.issue_outside hissuing hfetch key body,
    fun w hfetch huses => State.issue_illegal hissuing hfetch huses key body,
    fun w u hfetch huses hkey hguard => State.issue_skips hissuing hfetch huses hkey hguard body⟩

end Sys2Proof.Machine

/-! # The unit queue: entry and retirement (R188 to R190) -/

namespace Sys2Proof.Machine
open Sys2Proof

/-! ## The report of an entry (R190) -/

@[simp] theorem Spindle.setS_uq (x : Spindle) (i : Nat) (v : Word) : (x.setS i v).uq = x.uq := by
  unfold Spindle.setS
  split <;> rfl

@[simp] theorem Spindle.setP_uq (x : Spindle) (i : Nat) (v : Bool) : (x.setP i v).uq = x.uq := by
  unfold Spindle.setP
  split <;> rfl

@[simp] theorem Spindle.setS_retLog (x : Spindle) (i : Nat) (v : Word) : (x.setS i v).retLog = x.retLog := by
  unfold Spindle.setS
  split <;> rfl

@[simp] theorem Spindle.setP_retLog (x : Spindle) (i : Nat) (v : Bool) : (x.setP i v).retLog = x.retLog := by
  unfold Spindle.setP
  split <;> rfl

/-- A run of pokes leaves the unit queue alone. -/
@[simp] theorem Spindle.foldl_poke_uq (l : List (Nat × Bytes)) (x : Spindle) :
    (l.foldl (fun x p => x.poke p.1 p.2) x).uq = x.uq := by
  induction l generalizing x with
  | nil => rfl
  | cons p l ih => exact ih (x.poke p.1 p.2)

/-- A retired entry leaves the queue, and no other entry does. -/
theorem Spindle.retire_uq (x : Spindle) (e : UnitEntry) (now : Nat) :
    (x.retire e now).uq = x.uq.filter (fun u => u.id != e.id) := by
  unfold Spindle.retire
  extract_lets w x1 x2 x3
  have hx1 : x1.uq = x.uq := Spindle.foldl_poke_uq _ _
  have hx2 : x2.uq = x1.uq := by
    unfold x2
    split <;> rfl
  have hx3 : x3.uq = x2.uq := by
    unfold x3
    split <;> simp
  show x3.uq.filter _ = _
  rw [hx3, hx2, hx1]

/-- A reporting entry with no other result writes its code and outcome. -/
theorem Spindle.retire_report {x : Spindle} {e : UnitEntry} (hreports : e.reports = true) (hwrites : e.writes = [])
    (hqdst : e.qdst = none) (now : Nat) :
    x.retire e now = { (x.setS (tSC e.word.toNat) (BitVec.ofNat 64 e.code)).setP (tPD e.word.toNat) (outcome e.code) with
      uq := x.uq.filter (fun u => u.id != e.id)
      active := now
      retLog := x.retLog ++ [{ entry := e.id, code := e.code, word := e.word, writes := [] }] } := by
  simp [Spindle.retire, hreports, hwrites, hqdst]

/-! ## What an entry's retirement does (R87, R188, R225) -/

theorem State.rejectEntry_of_no_failCode {e : UnitEntry} (h : e.failCode = none) (s : State) (f : Nat) :
    s.rejectEntry f e = s := by simp [State.rejectEntry, h]

theorem State.leave_of_ne_copy {e : UnitEntry} (h : e.op ≠ .copy) (s : State) (j : Nat) :
    s.leave j e = s.updSpin j (fun x => x.retire e s.time) := if_neg (fun hcopy => h hcopy.1)

/-- An entry whose last effect is its report leaves at once. -/
theorem State.retireOf_plain {e : UnitEntry} (hfail : e.failCode = none) (hrelease : e.op ≠ .release) (happly : e.op ≠ .apply)
    (hfold : e.op = .fold → e.held = false) (hclip : e.op ≠ .clipFinish) (hnoise : e.op ≠ .noise) (hexpand : e.op ≠ .expand)
    (s : State) (f j : Nat) : s.retireOf f j e = s.leave j e := by
  have hreject := State.rejectEntry_of_no_failCode hfail s f
  unfold State.retireOf
  split
  next hop => exact absurd hop hrelease
  next hop => exact absurd hop happly
  next hop => rw [hfold hop, hreject]; rfl
  next hop => exact absurd hop hclip
  next hop => exact absurd hop hnoise
  next hop => exact absurd hop hexpand
  next => rw [hreject]

/-- CLIP PHASE 1 waits for its handles, then folds or excludes each (R225). -/
theorem State.retireOf_clipFinish {e : UnitEntry} (hop : e.op = .clipFinish) (s : State) (f j : Nat) :
    s.retireOf f j e =
      if s.clipReady f e.ops = true then (e.ops.foldl (fun s h => s.finishQuery f h) s).leave j e else s := by
  rw [State.retireOf, hop]

/-- A FOLD with a norm check waits for its handle (R225). -/
theorem State.retireOf_query {s : State} {f : Nat} {e : UnitEntry} {q : Query} (hop : e.op = .fold) (hheld : e.held = true)
    (hquery : s.queries.find? (fun q => q.func == f && q.handle == e.handle && some q.round == e.round) = some q) (j : Nat) :
    s.retireOf f j e = if q.decided.isNone = true then s else (s.finishQuery f e.handle).leave j e := by
  rw [State.retireOf, hop]
  dsimp only
  rw [if_pos hheld, hquery]

section
variable {s : State} {j i : Nat} {e : UnitEntry} (hentry : (s.spin j).uq[i]? = some e)
include hentry

/-- An entry with parts, drain tiles or random words outstanding stays (R188). -/
theorem State.unitRetire_outstanding (h : e.parts ≠ 0 ∨ e.drains ≠ [] ∨ s.awaitsWords j e.id = true) : s.unitRetire j i = s := by
  rw [State.unitRetire, hentry]
  refine if_pos ?_
  rcases h with h | h | h <;> simp [h]

variable (hready : s.ready = true) (hrecovering : (s.spin j).recovering = false) (hparts : e.parts = 0)
  (hdrains : e.drains = []) (hwords : s.awaitsWords j e.id = false)
include hready hrecovering hparts hdrains hwords

/-- An entry with nothing outstanding retires, by its spindle's function. -/
theorem State.unitRetire_complete : s.unitRetire j i = (s.owner? j).elim (s.leave j e) (fun f => s.retireOf f j e) := by
  rw [State.unitRetire, hentry]
  refine (if_neg (by simp [hready, hrecovering, hparts, hdrains, hwords])).trans ?_
  cases s.owner? j <;> rfl

theorem State.unitRetire_unowned (howner : s.owner? j = none) : s.unitRetire j i = s.leave j e := by
  rw [State.unitRetire_complete hentry hready hrecovering hparts hdrains hwords, howner]
  rfl

theorem State.unitRetire_owned {f : Nat} (howner : s.owner? j = some f) : s.unitRetire j i = s.retireOf f j e := by
  rw [State.unitRetire_complete hentry hready hrecovering hparts hdrains hwords, howner]
  rfl

end

/-- Settles O17: an entry is appended and the spindle goes on; it leaves by `retireOf` once nothing of it is outstanding. -/
theorem unitQueue : Obligations.UnitQueue := by
  unfold Obligations.UnitQueue
  refine ⟨fun s j w e => s.updSpin_advance j _, fun s j i e hready hrecovering hentry => ⟨fun houtstanding => ?outstanding,
    fun hparts hdrains hwords => ⟨fun howner => ?unowned, fun f howner => ?owned⟩,
    fun x => ⟨x.retire_uq e s.time, fun hreports hwrites hqdst => Spindle.retire_report hreports hwrites hqdst s.time⟩⟩⟩
  case outstanding => exact congrArg Host.Outcome.next (State.unitRetire_outstanding hentry houtstanding)
  case unowned =>
    exact congrArg Host.Outcome.next (State.unitRetire_unowned hentry hready hrecovering hparts hdrains hwords howner)
  case owned =>
    have hretire : exec (.unitInstructionRetire j i) s = .next (s.retireOf f j e) :=
      congrArg Host.Outcome.next (State.unitRetire_owned hentry hready hrecovering hparts hdrains hwords howner)
    rw [hretire]
    refine ⟨rfl, fun hfail hrelease happly hfold hclip hnoise hexpand hcopy => congrArg _ ?plain,
      fun hop => ⟨fun hclip => congrArg _ ?decided, fun hclip => congrArg _ ?waits⟩,
      fun q hop hheld hquery => ⟨fun hdecided => congrArg _ ?folded, fun hdecided => congrArg _ ?undecided⟩⟩
    case plain =>
      rw [State.retireOf_plain hfail hrelease happly hfold hclip hnoise hexpand, State.leave_of_ne_copy hcopy]
    case decided =>
      rw [State.retireOf_clipFinish hop, if_pos hclip, State.leave_of_ne_copy (by simp [hop])]
    case waits => rw [State.retireOf_clipFinish hop, if_neg (by simp [hclip])]
    case folded => rw [State.retireOf_query hop hheld hquery, if_neg (by simpa using hdecided)]
    case undecided => rw [State.retireOf_query hop hheld hquery, hdecided]; rfl

end Sys2Proof.Machine

/-! # The sync and system classes (R192, R195, R196, R201, R229, R230) -/

namespace Sys2Proof.Machine
open Sys2Proof

/-! ## WAITC and its timeout (R195, R105) -/

theorem State.syncDone_eq (s : State) (j w code : Nat) : s.syncDone j w code =
    s.goOn j (fun x => (x.setS (tSC w) (BitVec.ofNat 64 code)).setP (tPD w) (outcome code)) := s.updSpin_advance j _

section
variable {s : State} {j w : Nat} (hissue : s.issues j w = true) (hkey : wKey w = (8, 1, 0))
include hissue hkey

/-- WAITC whose counter has reached its threshold. -/
theorem State.waitc_reached (h : (s.ops j w).sa ≤ s.ctrGet (s.ops j w).f (modCtr w)) : s.waitc j = s.syncDone j w 0 := by
  rw [State.waitc, State.issue_eq hissue hkey]
  exact if_pos h

/-- WAITC short of its threshold, with a timeout of one cycle. -/
theorem State.waitc_expired (h : s.ctrGet (s.ops j w).f (modCtr w) < (s.ops j w).sa) (hone : (s.ops j w).sb = 1) :
    s.waitc j = s.syncDone j w 0x0A0E := by
  rw [State.waitc, State.issue_eq hissue hkey]
  exact (if_neg (Nat.not_le.2 h)).trans (if_pos hone)

/-- WAITC short of its threshold begins to wait. -/
theorem State.waitc_begins (h : s.ctrGet (s.ops j w).f (modCtr w) < (s.ops j w).sa) (hone : (s.ops j w).sb ≠ 1)
    (hwait : (s.spin j).wait = .none) :
    s.waitc j = s.updSpin j (fun x => { x with wait := .waitc s.time, active := s.time }) := by
  rw [State.waitc, State.issue_eq hissue hkey]
  refine (if_neg (Nat.not_le.2 h)).trans ((if_neg hone).trans ?_)
  rw [hwait]

variable {since : Nat} (hwait : (s.spin j).wait = .waitc since)
include hwait

theorem State.waitTimeout_reached (h : (s.ops j w).sa ≤ s.ctrGet (s.ops j w).f (modCtr w)) :
    s.waitTimeout j = s.syncDone j w 0 := by
  rw [State.waitTimeout, hwait]
  dsimp only
  rw [State.issue_eq hissue hkey]
  exact if_pos h

theorem State.waitTimeout_expired (h : s.ctrGet (s.ops j w).f (modCtr w) < (s.ops j w).sa) (htimed : (s.ops j w).sb ≠ 0)
    (hpast : since + (s.ops j w).sb - 1 ≤ s.time) : s.waitTimeout j = s.syncDone j w 0x0A0E := by
  rw [State.waitTimeout, hwait]
  dsimp only
  rw [State.issue_eq hissue hkey]
  exact (if_neg (Nat.not_le.2 h)).trans (if_pos ⟨htimed, hpast⟩)

end

/-! ## SIGNAL (R195) -/

theorem State.signal_issued {s : State} {j w : Nat} (hissue : s.issues j w = true) (hkey : wKey w = (8, 2, 0)) :
    s.signal j = s.goOn j (fun x => { x with
      signals := x.signals ++ [{ id := x.nextId, entries := x.uq.map (·.id), ctr := modCtr w, addend := (s.ops j w).sa }]
      nextId := x.nextId + 1 }) := by
  rw [State.signal, State.issue_eq hissue hkey]
  exact State.updSpin_advance _ _ _

/-- The oldest addition with no unit instruction left to wait for is made (R195). -/
theorem State.signalApply_ready {s : State} {j f : Nat} {g : PendSignal} (hready : s.ready = true) (howner : s.owner? j = some f)
    (hfind : (s.spin j).signals.find? (fun g => g.entries.all (fun i => (s.spin j).uq.all (fun e => e.id != i))) = some g) :
    s.signalApply j = (s.ctrAdd f g.ctr g.addend).updSpin j (fun x =>
      { x with signals := x.signals.filter (fun h => h.id != g.id) }) := by
  rw [State.signalApply]
  rw [hfind, howner]
  exact if_neg (by simp [hready])

/-! ## FENCE (R190, R195) -/

/-- The function's staged tiles that a FENCE with WB writes back. -/
def State.dirtyTiles (s : State) (f : Nat) : List Nat := (s.staged.filter (fun g => g.func == f && g.dirty)).map (·.tile)

/-- The tiles whose pool pages a FENCE with WB writes back. -/
def State.dirtyPages (s : State) (f : Nat) : List Nat :=
  ((s.pages.filter (fun g => g.func == f && g.dirty)).map (·.tile)).dedup

/-- The state after those write-backs. -/
def State.wroteBack (s : State) (f : Nat) : State :=
  (s.dirtyPages f).foldl (fun s t => s.pagesBack t) ((s.dirtyTiles f).foldl (fun s t => s.writeBack t) s)

section
variable {s : State} {j w : Nat} (hissue : s.issues j w = true) (hkey : wKey w = (8, 3, 0))
include hissue hkey

/-- FENCE waits while a unit instruction is in flight, and with ACK while a message is not acknowledged. -/
theorem State.fence_waits (h : (s.spin j).uq ≠ [] ∨ (bit (tMod w) 1 = true ∧ (s.spin j).unacked ≠ 0)) :
    s.fence j = s.updSpin j (fun x => { x with wait := .fence }) := by
  rw [State.fence, State.issue_eq hissue hkey]
  refine if_pos ?_
  rcases h with huq | ⟨hack, hunacked⟩
  · simp [huq]
  · simp [hack, hunacked]

variable (huq : (s.spin j).uq = []) (hacked : bit (tMod w) 1 = true → (s.spin j).unacked = 0)
include huq hacked

theorem State.fence_passes (hwb : bit (tMod w) 0 = false) : s.fence j = s.goOn j id := by
  rw [State.fence, State.issue_eq hissue hkey]
  refine (if_neg ?_).trans ?_
  · simpa [huq, hwb] using hacked
  · simp [hwb, State.advance_eq]

/-- FENCE with WB goes on from the state written back, or traps at the first tile that stayed dirty (R190). -/
theorem State.fence_writesBack (hwb : bit (tMod w) 0 = true)
    (hquiet : s.quiet (s.dirtyTiles (s.ops j w).f ++ s.dirtyPages (s.ops j w).f) = true)
    (hturn : s.farTurn (s.ops j w).f = true) :
    let back := s.wroteBack (s.ops j w).f
    s.fence j = ((s.dirtyTiles (s.ops j w).f).find? (fun t => (back.stagedOf t).any (fun g => g.dirty))).elim (back.advance j)
      (fun t => back.trap j 0x0101 false (s.spin j).pc (BitVec.ofNat 64 w) (s.spin j).stepc t) := by
  intro back
  rw [State.fence, State.issue_eq hissue hkey]
  rw [State.ops_f] at hturn
  rw [State.ops_f, State.dirtyTiles, State.dirtyPages] at hquiet
  dsimp only
  rw [if_neg (by simpa [-List.any_append, huq, hwb, hquiet, hturn] using hacked), if_pos hwb, if_pos hwb]
  unfold back State.wroteBack State.dirtyTiles State.dirtyPages
  rw [State.ops_f]
  split
  next t hfind => rw [hfind]; rfl
  next hfind => rw [hfind]; rfl

end

/-- Settles O18: each clause is one branch of WAITC, WAIT_TIMEOUT, SIGNAL, SIGNAL_APPLY or FENCE. -/
theorem waitsAndSignals : Obligations.WaitsAndSignals := by
  unfold Obligations.WaitsAndSignals
  refine ⟨fun s j w hissue hkey => ?waitc, fun s0 j w since => ?timeout, fun s j w => ?signal, fun s j w hissue hkey => ?fence⟩
  case waitc =>
    intro o rep
    have hrep (code : Nat) : rep code = s.syncDone j w code := (s.syncDone_eq j w code).symm
    rw [hrep, hrep]
    exact ⟨fun h => congrArg Host.Outcome.next (State.waitc_reached hissue hkey h),
      fun h hone => congrArg Host.Outcome.next (State.waitc_expired hissue hkey h hone),
      fun h hone hwait => congrArg Host.Outcome.next (State.waitc_begins hissue hkey h hone hwait)⟩
  case timeout =>
    intro s o rep hissue hkey hwait
    have hrep (code : Nat) : rep code = s.syncDone j w code := (s.syncDone_eq j w code).symm
    rw [hrep, hrep]
    exact ⟨fun h => congrArg Host.Outcome.next (State.waitTimeout_reached hissue hkey hwait h),
      fun h htimed hpast => congrArg Host.Outcome.next (State.waitTimeout_expired hissue hkey hwait h htimed hpast)⟩
  case signal =>
    exact ⟨fun hissue hkey => congrArg Host.Outcome.next (State.signal_issued hissue hkey),
      fun g f hready howner hfind => congrArg Host.Outcome.next (State.signalApply_ready hready howner hfind)⟩
  case fence =>
    intro f mine pages back
    refine ⟨fun huq => ?busy, fun huq hack hunacked => ?unacked, fun huq hacked hwb => ?passes,
      fun huq hacked hwb hquiet hturn => ?writesBack⟩
    case busy => exact congrArg Host.Outcome.next (State.fence_waits hissue hkey (.inl huq))
    case unacked => exact congrArg Host.Outcome.next (State.fence_waits hissue hkey (.inr ⟨hack, hunacked⟩))
    case passes => exact congrArg Host.Outcome.next (State.fence_passes hissue hkey huq hacked hwb)
    case writesBack =>
      have hfence : exec (.fence j) s = .next ((mine.find? (fun t => (back.stagedOf t).any (fun g => g.dirty))).elim
          (back.advance j) (fun t => back.trap j 0x0101 false (s.spin j).pc (BitVec.ofNat 64 w) (s.spin j).stepc t)) :=
        congrArg Host.Outcome.next (State.fence_writesBack hissue hkey huq hacked hwb hquiet hturn)
      rw [hfence]
      refine ⟨fun hclean => ?clean, fun t hdirty => ?dirty⟩
      case clean =>
        have hnone : mine.find? (fun t => (back.stagedOf t).any (fun g => g.dirty)) = none :=
          List.find?_eq_none.2 (fun t ht => by simpa using List.all_eq_true.1 hclean t ht)
        rw [hnone]
        rfl
      case dirty => rw [hdirty]; rfl

/-! ## TRAP, HALT, STEP and the watchdog (R192, R196, R201, R230) -/

theorem State.trapReturn_eq {s : State} {j w : Nat} (hissue : s.issues j w = true) (hkey : wKey w = (9, 0, 1)) :
    s.trapReturn j = if (s.spin j).st ≠ .handler then s.trapHere j 0x0A0A w else s.updSpin j (fun x =>
      { x with st := .running, pc := (s.ops j w).sa, active := s.time, wait := .none }) := by
  rw [State.trapReturn, State.issue_eq hissue hkey]
  exact if_congr Iff.rfl rfl (State.updSpin_updSpin _ _ _ _)

/-- The step counter moves with the advance, and the journal point is taken on what both leave (R196). -/
theorem State.stepTo_eq (s : State) (j n : Nat) : s.stepTo j n = s.updSpin j (fun x =>
    { x with pc := x.pc + 1, active := s.time, wait := .none, stepc := n }.journalPoint s.time) := s.updSpin_updSpin j _ _

section
variable {s : State} {j w : Nat} (hissue : s.issues j w = true)
include hissue

theorem State.step_waits (hkey : wKey w = (9, 2, 0)) (huq : (s.spin j).uq ≠ []) :
    s.step j = s.updSpin j (fun x => { x with wait := .step }) := by
  rw [State.step, State.issue_eq hissue hkey]
  exact if_pos (by simp [huq])

/-- STEP with the unit queue empty moves the counter, or traps at the end of its range. -/
theorem State.step_retired (hkey : wKey w = (9, 2, 0)) (huq : (s.spin j).uq = []) :
    s.step j = if 0xFFFFFE ≤ (s.spin j).stepc % 2 ^ 24 + 1 then s.trapHere j 0x0A0F w else s.stepTo j ((s.spin j).stepc + 1) := by
  rw [State.step, State.issue_eq hissue hkey]
  exact if_neg (by simp [huq])

/-- SETROUND with the unit queue empty loads a later round, or traps. -/
theorem State.stepSet_retired (hkey : wKey w = (9, 2, 1)) (huq : (s.spin j).uq = []) :
    let r := (s.ops j w).sa % 2 ^ 40
    s.stepSet j = if r ≤ (s.spin j).stepc / 2 ^ 24 then s.trapHere j 0x0A0F w else s.stepTo j (r * 2 ^ 24) := by
  rw [State.stepSet, State.issue_eq hissue hkey]
  exact if_neg (by simp [huq])

end

/-- HALT_DONE once nothing of the program is in flight (R201). -/
theorem State.haltDone_ready {s : State} {j : Nat} (hready : s.ready = true) (hwait : (s.spin j).wait = .halt)
    (hstopping : (s.spin j).stopping = false) (huq : (s.spin j).uq = []) (hsignals : (s.spin j).signals = []) :
    s.haltDone j = s.updSpin j (fun x => { x with
      pc := x.pc + 1, active := s.time, wait := .none, st := if x.st = .handler then .trapped else .done }) := by
  rw [State.haltDone]
  exact (if_pos (by simp [hready, hwait, hstopping, huq, hsignals])).trans (s.updSpin_updSpin j _ _)

theorem State.lockkeeperWatchdog_fires {s : State} {j : Nat} (hwatched : s.watched j = true)
    (hpast : (s.spin j).active + 1350000 ≤ s.time) (hcounts : s.unwatched j = false) :
    s.lockkeeperWatchdog j =
      s.trap j 0x0A02 false (s.spin j).pc (BitVec.ofNat 64 ((s.spin j).fetch.getD 0)) (s.spin j).stepc :=
  if_pos (by simp [hwatched, hcounts, lockWatch, hpast])

/-- Settles O22: each instruction of the class takes the branch its hypotheses name. -/
theorem systemInstructions : Obligations.SystemInstructions := by
  unfold Obligations.SystemInstructions
  intro s j w x stepTo
  have hstepTo (n : Nat) : stepTo n = s.stepTo j n := (s.stepTo_eq j n).symm
  refine ⟨fun hissue => ⟨fun hkey => ?trap, fun hkey hst => ?ret, fun hkey hst => ?retOutside, fun hkey => ?halt,
    fun hkey huq => ?stepWaits, fun hkey huq hroom => ?step, fun hkey huq hfull => ?stepLast,
    fun hkey huq hlater => ?setround, fun hkey huq hearlier => ?setroundBack⟩,
    fun hready hwait hstopping huq hsignals => ?haltDone, fun hwatched hpast hcounts => ?watchdog⟩
    <;> refine congrArg Host.Outcome.next ?_
  case trap => exact State.issue_eq hissue hkey _
  case ret => exact (State.trapReturn_eq hissue hkey).trans (if_neg (not_not_intro hst))
  case retOutside => exact (State.trapReturn_eq hissue hkey).trans (if_pos hst)
  case halt => exact State.issue_eq hissue hkey _
  case stepWaits => exact State.step_waits hissue hkey huq
  case step => exact (State.step_retired hissue hkey huq).trans ((if_neg (Nat.not_le.2 hroom)).trans (hstepTo _).symm)
  case stepLast => exact (State.step_retired hissue hkey huq).trans (if_pos hfull)
  case setround => exact (State.stepSet_retired hissue hkey huq).trans ((if_neg (Nat.not_le.2 hlater)).trans (hstepTo _).symm)
  case setroundBack => exact (State.stepSet_retired hissue hkey huq).trans (if_pos hearlier)
  case haltDone => exact State.haltDone_ready hready hwait hstopping huq hsignals
  case watchdog => exact State.lockkeeperWatchdog_fires hwatched hpast hcounts

end Sys2Proof.Machine

/-! # Program control (R175, R199 to R201, R401, R414) -/

namespace Sys2Proof.Machine
open Sys2Proof

/-! ## A write of PROG_CMD (R200, R401) -/

section
variable {s : State} {f : Nat} (hup : s.funcUp f = true) (body : State → State)
include hup

theorem State.progCmd_busy (hbusy : s.rdb Reg.progBusy f = true) : s.progCmd f body = s.flag Reg.progDropped f := by
  rw [State.progCmd, State.funcCmd_up hup, if_pos hbusy]

theorem State.progCmd_unattached (hbusy : s.rdb Reg.progBusy f = false) (hattached : s.rdb Reg.attAttached f = false) :
    s.progCmd f body = s.progDone f 0x0A1A := by
  rw [State.progCmd, State.funcCmd_up hup]
  simp [hbusy, hattached]

theorem State.progCmd_attached (hbusy : s.rdb Reg.progBusy f = false) (hattached : s.rdb Reg.attAttached f = true) :
    s.progCmd f body = body s := by
  rw [State.progCmd, State.funcCmd_up hup]
  simp [hbusy, hattached]

end

/-- LOAD, START, STOP, RESUME and UNLOAD are program commands. -/
theorem exec_progCmd {f : Nat} {c : Instr} (hc : c ∈ [Instr.load f none, .start f, .stop f, .resume f, .unload f]) (s : State) :
    ∃ body, exec c s = .next (s.progCmd f body) := by
  simp only [List.mem_cons, List.not_mem_nil, or_false] at hc
  rcases hc with rfl | rfl | rfl | rfl | rfl <;> exact ⟨_, rfl⟩

/-! ## The selected spindles (R201) -/

/-- Some spindle is another function's or fails a test just when not all are the function's own and pass it. -/
theorem any_other_or_not (l : List Nat) (owner : Nat → Option Nat) (o : Option Nat) (test : Nat → Bool) :
    l.any (fun j => owner j != o || !test j) = !l.all (fun j => owner j == o && test j) := by
  simp [List.not_all_eq_any_not, bne]

theorem State.onSelected_eq (s : State) (f : Nat) (l : List SpState) (g : Spindle → Spindle) : s.onSelected f l g =
    if (s.selected f).all (fun j => s.owner? j == some f && l.contains (s.spin j).st) = true
    then ((s.selected f).foldl (fun s j => s.updSpin j g) s).progDone f 0 else s.progDone f 0x0A0C := by
  rw [State.onSelected]
  rw [any_other_or_not]
  cases List.all _ _ <;> rfl

section
variable {s : State} {f : Nat} (hup : s.funcUp f = true) (hbusy : s.rdb Reg.progBusy f = false)
  (hattached : s.rdb Reg.attAttached f = true)
include hup hbusy hattached

theorem State.loadImage_some (b : Bytes) : s.loadImage f (some b) = if s.loadCode f b ≠ 0 then s.progDone f (s.loadCode f b)
    else ((s.loadOn b (s.selected f) false).wr Reg.progDigest (sha384N b) f).progDone f 0 :=
  State.progCmd_attached hup _ hbusy hattached

theorem State.loadImage_none : s.loadImage f none = s.progDone f 0x0A15 := State.progCmd_attached hup _ hbusy hattached

theorem State.start_eq : s.start f =
    if (s.selected f).all (fun j => s.owner? j == some f && [SpState.loaded].contains (s.spin j).st) = true
    then ((s.selected f).foldl (fun u j => u.updSpin j (fun x =>
      { x with st := .running, active := s.time }.journalPoint s.time)) s).progDone f 0 else s.progDone f 0x0A0C :=
  (State.progCmd_attached hup _ hbusy hattached).trans (s.onSelected_eq f _ _)

theorem State.resume_eq : s.resume f =
    if (s.selected f).all (fun j => s.owner? j == some f && [SpState.stopped, .trapped].contains (s.spin j).st) = true
    then ((s.selected f).foldl (fun u j => u.updSpin j (fun x =>
      { x with st := .running, active := s.time, pc := if x.st = .trapped then bits x.trap 64 18 else x.pc })) s).progDone f 0
    else s.progDone f 0x0A0C :=
  (State.progCmd_attached hup _ hbusy hattached).trans (s.onSelected_eq f _ _)

theorem State.stop_eq : s.stop f =
    if (s.selected f).all (fun j => s.owner? j == some f &&
      ([SpState.running, .handler].contains (s.spin j).st || (s.spin j).trappedNow s.time)) = true
    then (((s.selected f).foldl (fun s j => s.updSpin j (fun x => x.stopped s.time)) s).wr Reg.progBusy 1 f).settleBusy f
    else s.progDone f 0x0A0C := by
  refine (State.progCmd_attached hup _ hbusy hattached).trans ?_
  dsimp only
  rw [any_other_or_not]
  cases List.all _ _ <;> rfl

theorem State.unload_eq : s.unload f =
    if (s.selected f).all (fun j => s.owner? j == some f &&
      [SpState.loaded, .trapped, .stopped, .done].contains (s.spin j).st) = true
    then (((s.selected f).foldl (fun s j => s.unloadSpin j) s).wr Reg.progBusy 1 f).settleBusy f
    else s.progDone f 0x0A0C := by
  refine (State.progCmd_attached hup _ hbusy hattached).trans ?_
  dsimp only
  rw [any_other_or_not]
  cases List.all _ _ <;> rfl

end

theorem State.spindleStopped_ready {s : State} {j : Nat} (hready : s.ready = true) (hstopping : (s.spin j).stopping = true)
    (huq : (s.spin j).uq = []) (hrecovering : (s.spin j).recovering = false) : s.spindleStopped j =
      (s.updSpin j (fun x => { x with st := .stopped, stopping := false, wait := .none })).settleBusy ((s.owner? j).getD 0) :=
  if_pos (by simp [hready, hstopping, huq, hrecovering])

/-! ## A spindle loaded and a spindle unloaded (R175, R199, R201) -/

theorem Spindle.sreg_of_reset {x : Spindle} (h : x.s = List.replicate 32 0) (k : Nat) : x.sreg k = 0 := by
  rw [Spindle.sreg, h, List.getD_eq_getElem?_getD, List.getElem?_getD_replicate_default_eq, ite_self]

theorem Spindle.qreg_of_reset {x : Spindle} (h : x.q = List.replicate 16 0) (k : Nat) : x.qreg k = 0 := by
  rw [Spindle.qreg, h, List.getD_eq_getElem?_getD, List.getElem?_getD_replicate_default_eq]

theorem Spindle.preg_of_reset {x : Spindle} (h : x.p = List.replicate 8 false) (k : Nat) : x.preg k = decide (k = 0) := by
  rw [Spindle.preg, h, List.getD_eq_getElem?_getD, List.getElem?_getD_replicate_default_eq]
  split <;> simp [*]

/-- A memory written from 0 holds the bytes written and zero after them. -/
theorem writeBytes_nil_get (b : Bytes) (a : Nat) (ha : a < b.length) : Sparse.get 0 (writeBytes [] 0 b) a = b.getD a 0 := by
  have h := writeBytes_get [] 0 b a rfl ha
  rwa [Nat.zero_add] at h

theorem writeBytes_nil_beyond (b : Bytes) (a : Nat) (ha : b.length ≤ a) : Sparse.get 0 (writeBytes [] 0 b) a = 0 :=
  writeBytes_frame [] 0 b a (.inr (by rwa [Nat.zero_add]))

/-- Settles O32: a program command that runs asks its states of the selected spindles and then changes each; a loaded spindle
has its image in scratch and every other field at its reset value. -/
theorem programs : Obligations.Programs := by
  unfold Obligations.Programs
  refine ⟨fun s f hup => ⟨fun c hc => ?refused, fun hbusy hattached => ?runs⟩,
    fun s j hready hstopping huq hrecovering => ?stopped, fun s j now x => ?spindle, fun b sel fw x => ?image⟩
  case refused =>
    obtain ⟨body, hexec⟩ := exec_progCmd hc s
    rw [hexec]
    exact ⟨fun hbusy => congrArg _ (State.progCmd_busy hup body hbusy),
      fun hbusy hattached => congrArg _ (State.progCmd_unattached hup body hbusy hattached)⟩
  case runs =>
    intro sel all stoppable each
    have hstart := State.start_eq hup hbusy hattached
    have hstop := State.stop_eq hup hbusy hattached
    have hresume := State.resume_eq hup hbusy hattached
    have hunload := State.unload_eq hup hbusy hattached
    refine ⟨fun b hok => ?loads, fun b hbad => ?loadFails, ?noImage, fun h => ?starts, fun h => ?startRefused, fun h => ?stops,
      fun h => ?stopRefused, fun h => ?resumes, fun h => ?resumeRefused, fun h => ?unloads, fun h => ?unloadRefused⟩
      <;> refine congrArg Host.Outcome.next ?_
    case loads => exact (State.loadImage_some hup hbusy hattached b).trans (if_neg (not_not_intro hok))
    case loadFails => exact (State.loadImage_some hup hbusy hattached b).trans (if_pos hbad)
    case noImage => exact State.loadImage_none hup hbusy hattached
    case starts => exact hstart.trans (if_pos h)
    case startRefused => exact hstart.trans (if_neg (Bool.eq_false_iff.1 h))
    case stops => exact hstop.trans (if_pos h)
    case stopRefused => exact hstop.trans (if_neg (Bool.eq_false_iff.1 h))
    case resumes => exact hresume.trans (if_pos h)
    case resumeRefused => exact hresume.trans (if_neg (Bool.eq_false_iff.1 h))
    case unloads => exact hunload.trans (if_pos h)
    case unloadRefused => exact hunload.trans (if_neg (Bool.eq_false_iff.1 h))
  case stopped => exact congrArg Host.Outcome.next (State.spindleStopped_ready hready hstopping huq hrecovering)
  case spindle =>
    refine ⟨fun htrapped => if_neg (Bool.eq_false_iff.1 htrapped), fun hfree => ?_, fun hwaits => ?_⟩
    · simp [State.unloadSpin, hfree]
    · simp [State.unloadSpin, hwaits]
  case image =>
    exact ⟨rfl, rfl, rfl, rfl, rfl, rfl, rfl, Spindle.sreg_of_reset rfl, Spindle.qreg_of_reset rfl, Spindle.preg_of_reset rfl,
      writeBytes_nil_get _, writeBytes_nil_beyond _, rfl, rfl, rfl, Spindle.sreg_of_reset rfl⟩

end Sys2Proof.Machine

/-! # CHKT (R61, R212) -/

namespace Sys2Proof.Machine
open Sys2Proof

/-! ## What a check of a tile reads, and the log it fills (R58, R61) -/

/-- What the checksum of a tile that is near or staged is recomputed from, and its tag. -/
def State.storage (s : State) : List Host.Cell × List (Nat × TileTag) × List Staged × List Remap :=
  (s.tiles, s.tags, s.staged, s.remap)

/-- CREEL_CSUM_FAIL_LOG: tile, source and VALID. -/
def State.csumLog (s : State) : Nat × Nat × Nat :=
  (s.rd Reg.creelCsumTile, s.rd Reg.creelCsumSource, s.rd Reg.creelCsumValid)

/-- What a read of a tile with its ECC events leaves to the checks that follow it. -/
def State.checkView (s : State) : (List Host.Cell × List (Nat × TileTag) × List Staged × List Remap) × Nat × Nat × Nat :=
  (s.storage, s.csumLog)

theorem Page.base_aligned (p : Page) : p.base % 0x10000 = 0 := by cases p <;> rfl

/-- A register field that lies at another offset of its page than CREEL_CSUM_FAIL_LOG, which is at 0x28 (R76). -/
def Fld.offCsumLog (f : Fld) : Bool := decide (f.off % 0x10000 ≠ 0x28) && decide (f.lsb < 1024)

/-- Fields at different offsets of their pages are different fields, whatever their pages and items. -/
theorem Fld.key_ne_of_off {f g : Fld} {i k : Nat} (hf : f.lsb < 1024) (hg : g.lsb < 1024)
    (h : g.off % 0x10000 ≠ f.off % 0x10000) : g.key k 0 ≠ f.key i 0 := by
  have hbase := f.page.base_aligned
  have hbase' := g.page.base_aligned
  simp only [Fld.key]
  omega

theorem State.wr_checkView {f : Fld} (h : f.offCsumLog = true) (s : State) (v i : Nat) :
    (s.wr f v i).checkView = s.checkView := by
  simp only [Fld.offCsumLog, Bool.and_eq_true, decide_eq_true_eq] at h
  obtain ⟨hoff, hlsb⟩ := h
  have hrd (g : Fld) (hg : g.lsb < 1024) (ho : g.off % 0x10000 = 0x28) : (s.wr f v i).rd g = s.rd g :=
    s.wr_rd_ne f g v i 0 0 0 (Fld.key_ne_of_off hlsb hg (by rw [ho]; exact hoff.symm))
  simp only [State.checkView, State.csumLog, hrd Reg.creelCsumTile (by decide) rfl, hrd Reg.creelCsumSource (by decide) rfl,
    hrd Reg.creelCsumValid (by decide) rfl]
  rfl

/-- Steps that each leave it leave it together. -/
theorem State.foldl_checkView {α : Type} {g : State → α → State} {l : List α}
    (hg : ∀ u, ∀ a ∈ l, (g u a).checkView = u.checkView) (s : State) : (l.foldl g s).checkView = s.checkView := by
  induction l generalizing s with
  | nil => rfl
  | cons a l ih =>
    exact (ih (fun u b hb => hg u b (List.mem_cons_of_mem _ hb)) _).trans (hg s a List.mem_cons_self)

theorem ite_checkView {c : Prop} [Decidable c] {t u s : State} (ht : t.checkView = s.checkView) (hu : u.checkView = s.checkView) :
    (if c then t else u).checkView = s.checkView := by split <;> assumption

theorem State.bump_checkView {f : Fld} (h : f.offCsumLog = true) (s : State) (i n : Nat) :
    (s.bump f i n).checkView = s.checkView := by
  have hnote : (s.noteWas f i 0).checkView = s.checkView := by
    unfold State.noteWas
    exact ite_checkView rfl rfl
  exact (State.wr_checkView h _ _ i).trans hnote

theorem State.flag_checkView {f : Fld} (h : f.offCsumLog = true) (s : State) (i : Nat) :
    (s.flag f i).checkView = s.checkView := State.wr_checkView h s 1 i

theorem State.capture_checkView {valid : Fld} {vs : List (Fld × Nat)} (hvalid : valid.offCsumLog = true)
    (hvs : vs.all (fun p => p.1.offCsumLog) = true) (s : State) (i : Nat) : (s.capture valid vs i).checkView = s.checkView := by
  unfold State.capture
  exact ite_checkView rfl <| (State.flag_checkView hvalid _ i).trans <|
    State.foldl_checkView (fun u p hp => State.wr_checkView (List.all_eq_true.1 hvs p hp) u p.2 i) s

/-! ## Events and ECC events leave it (R50, R281, R284, R371) -/

theorem State.hostPut_checkView (s : State) (f a : Nat) (bs : Bytes) : (s.hostPut f a bs).checkView = s.checkView := by
  unfold State.hostPut
  exact ite_checkView rfl (ite_checkView rfl rfl)

theorem State.sendVec_checkView (s : State) (f v : Nat) : (s.sendVec f v).checkView = s.checkView := by
  unfold State.sendVec
  exact ite_checkView rfl (ite_checkView (State.wr_checkView rfl _ _ _) rfl)

theorem State.evtNotify_checkView (s : State) (f : Nat) : (s.evtNotify f).checkView = s.checkView := by
  unfold State.evtNotify
  exact ite_checkView rfl (State.sendVec_checkView _ _ _)

theorem State.evtLose_checkView (s : State) (f code obj : Nat) : (s.evtLose f code obj).checkView = s.checkView :=
  State.bump_checkView rfl s f 1

theorem State.evtOverwrite_checkView (s : State) (f code kind obj aux reps now : Nat) :
    (s.evtOverwrite f code kind obj aux reps now).checkView = s.checkView :=
  calc (s.evtOverwrite f code kind obj aux reps now).checkView
    _ = (State.bump (s.hostPut f _ _) Reg.fnEvtLost f).checkView := State.evtNotify_checkView _ f
    _ = (s.hostPut f _ _).checkView := State.bump_checkView rfl _ f 1
    _ = s.checkView := s.hostPut_checkView f _ _

theorem State.evtWrite_checkView (s : State) (f code kind obj aux reps : Nat) (fatal : Bool) (now : Nat) :
    (s.evtWrite f code kind obj aux reps fatal now).checkView = s.checkView :=
  calc (s.evtWrite f code kind obj aux reps fatal now).checkView
    _ = (State.wr (State.hostPut (s.evtShift f _ _) f _ _) Reg.fnEvtHead _ f).checkView := State.evtNotify_checkView _ f
    _ = (State.hostPut (s.evtShift f _ _) f _ _).checkView := State.wr_checkView rfl _ _ f
    _ = (s.evtShift f _ _).checkView := State.hostPut_checkView _ f _ _
    _ = s.checkView := State.foldl_checkView (fun u _ _ => u.hostPut_checkView f _ _) s

theorem State.raise_checkView (s : State) (f code kind obj aux : Nat) (fatal : Bool) :
    (s.raise f code kind obj aux fatal).checkView = s.checkView := by
  unfold State.raise State.raiseAt
  refine ite_checkView rfl (ite_checkView rfl ?_)
  dsimp only
  exact ite_checkView rfl (ite_checkView (s.evtLose_checkView f code obj) (ite_checkView
    (ite_checkView (s.evtOverwrite_checkView f _ _ _ _ _ _) (s.evtLose_checkView f code obj))
    (s.evtWrite_checkView f _ _ _ _ _ _ _)))

/-- A double-bit error is counted, logged and raised (R50). -/
theorem State.doubleBit_checkView {count valid : Fld} {vs : List (Fld × Nat)} (hcount : count.offCsumLog = true)
    (hvalid : valid.offCsumLog = true) (hvs : vs.all (fun p => p.1.offCsumLog) = true) (s : State) (q f code t : Nat) :
    (((s.bump count q).capture valid vs q).raise f code 5 t).checkView = s.checkView :=
  (State.raise_checkView _ f code 5 t 0 false).trans
    ((State.capture_checkView hvalid hvs _ q).trans (State.bump_checkView hcount s q 1))

theorem State.eccWord_checkView (s : State) (t w : Nat) (double : Bool) : (s.eccWord t w double).checkView = s.checkView := by
  unfold State.eccWord
  dsimp only
  exact ite_checkView
    (ite_checkView (State.doubleBit_checkView rfl rfl rfl s _ _ _ t) (State.bump_checkView rfl s _ 1))
    (ite_checkView (State.doubleBit_checkView rfl rfl rfl s 0 _ _ t) (State.bump_checkView rfl s 0 1))

theorem State.eccTag_checkView (s : State) (t : Nat) : (s.eccTag t).checkView = s.checkView := by
  unfold State.eccTag
  refine ite_checkView rfl (State.foldl_checkView (fun u p _ => ?_) s)
  exact ite_checkView (u.eccWord_checkView t _ p.2) (u.eccWord_checkView t _ p.2)

theorem State.eccRead_checkView (s : State) (t : Nat) : (s.eccRead t).checkView = s.checkView :=
  (State.foldl_checkView (fun u p _ => u.eccWord_checkView t p.1 p.2) _).trans (s.eccTag_checkView t)

theorem State.eccRead_storage (s : State) (t : Nat) : (s.eccRead t).storage = s.storage :=
  congrArg Prod.fst (s.eccRead_checkView t)

theorem State.eccRead_csumLog (s : State) (t : Nat) : (s.eccRead t).csumLog = s.csumLog :=
  congrArg Prod.snd (s.eccRead_checkView t)

theorem State.raise_csumLog (s : State) (f code kind obj aux : Nat) (fatal : Bool) :
    (s.raise f code kind obj aux fatal).csumLog = s.csumLog :=
  congrArg Prod.snd (s.raise_checkView f code kind obj aux fatal)

/-! ## A mismatch and the capture log (R61, R76, R377) -/

/-- Equal logs have the same VALID. -/
theorem State.csumValid_of_csumLog {s v : State} (h : v.csumLog = s.csumLog) :
    v.rd Reg.creelCsumValid = s.rd Reg.creelCsumValid := congrArg (fun l => l.2.2) h

theorem State.csumFail_storage (s : State) (t src : Nat) : (s.csumFail t src).storage = s.storage := by
  refine Eq.trans ?_ (congrArg Prod.fst (s.raise_checkView (s.tag t).tenant 0x0101 5 t 0 false))
  unfold State.csumFail State.capture
  split <;> rfl

/-- A full log keeps its first failure. -/
theorem State.csumFail_csumLog_of_valid {s : State} (h : s.rd Reg.creelCsumValid = 1) (t src : Nat) :
    (s.csumFail t src).csumLog = s.csumLog := by
  have hlog := s.raise_csumLog (s.tag t).tenant 0x0101 5 t 0 false
  have hvalid : (s.raise (s.tag t).tenant 0x0101 5 t).rd Reg.creelCsumValid = 1 :=
    (State.csumValid_of_csumLog hlog).trans h
  rw [State.csumFail, State.capture, if_pos hvalid]
  exact hlog

/-- A log whose fields are written and whose VALID is set. -/
theorem State.csumLog_filled {u : State} {t src : Nat} (hregs : rising u.regs = true) (ht : t < 2 ^ 24) (hsrc : src < 2 ^ 4) :
    (((u.wr Reg.creelCsumTile t).wr Reg.creelCsumSource src).flag Reg.creelCsumValid).csumLog = (t, src, 1) := by
  have hregs1 := u.wr_rising Reg.creelCsumTile t 0 0 hregs
  have hregs2 := State.wr_rising _ Reg.creelCsumSource src 0 0 hregs1
  have hflag (v : State) (g : Fld) : (v.flag Reg.creelCsumValid).rd g = (v.wr Reg.creelCsumValid 1).rd g := rfl
  rw [State.csumLog, hflag, hflag, hflag, State.wr_rd_self _ _ _ _ _ hregs2, State.wr_rd_ne _ _ _ _ _ _ _ _ (by decide),
    State.wr_rd_ne _ _ _ _ _ _ _ _ (by decide), State.wr_rd_self _ _ _ _ _ hregs, State.wr_rd_ne _ _ _ _ _ _ _ _ (by decide),
    State.wr_rd_self _ _ _ _ _ hregs1]
  exact congrArg₂ Prod.mk (Nat.mod_eq_of_lt ht) (congrArg₂ Prod.mk (Nat.mod_eq_of_lt hsrc) rfl)

/-- An empty log takes the failure. -/
theorem State.csumFail_csumLog {s : State} {t src : Nat} (h : s.rd Reg.creelCsumValid ≠ 1) (hwf : s.tablesWf = true)
    (ht : t < 2 ^ 24) (hsrc : src < 2 ^ 4) : (s.csumFail t src).csumLog = (t, src, 1) := by
  have hlog := s.raise_csumLog (s.tag t).tenant 0x0101 5 t 0 false
  have hvalid : (s.raise (s.tag t).tenant 0x0101 5 t).rd Reg.creelCsumValid ≠ 1 := by
    rwa [State.csumValid_of_csumLog hlog]
  have hregs : rising (s.raise (s.tag t).tenant 0x0101 5 t).regs = true :=
    (State.tablesWf_iff.1 (State.raise_tablesWf hwf)).1
  rw [State.csumFail, State.capture, if_neg hvalid]
  exact State.csumLog_filled hregs ht hsrc

/-! ## A tile that is near or staged in the pool (R51, R71) -/

theorem State.loc_near {s : State} {t : Nat} (hpresent : s.present t = true)
    (hslots : s.staged.all (fun g => !isFar g.slot) = true) : isFar (s.loc t) = false := by
  unfold State.loc
  cases hst : s.stagedOf t with
  | none => simpa [State.present, hst, State.isFarNow] using hpresent
  | some g => simpa using List.all_eq_true.1 hslots g (List.mem_of_find?_eq_some hst)

section
variable {s v : State} {t : Nat} (hv : v.storage = s.storage)
include hv

theorem State.tag_of_storage : v.tag t = s.tag t := by
  simp only [State.storage, Prod.mk.injEq] at hv
  simp only [State.tag, hv]

theorem State.loc_of_storage : v.loc t = s.loc t := by
  simp only [State.storage, Prod.mk.injEq] at hv
  simp only [State.loc, State.stagedOf, State.home, hv]

/-- The checksum of a near or staged tile depends on the storage alone. -/
theorem State.csum_of_storage (hnear : isFar (s.loc t) = false) : v.csum t = s.csum t := by
  have htiles : v.tiles = s.tiles := congrArg Prod.fst hv
  simp only [State.csum, State.loc_of_storage hv, State.tag_of_storage hv, hnear, htiles, Bool.false_eq_true, if_false]

end

/-! ## Tiles checked in order (R61, R212) -/

/-- The stored bytes of tile `t` do not meet its tag. -/
def State.csumBad (s : State) (t : Nat) : Bool := s.csum t != (s.tag t).csum

/-- One tile read by CHKT, given which tiles mismatch. -/
def State.checkTile (bad : Nat → Bool) (v : State) (t : Nat) : State :=
  if bad t then (v.eccRead t).csumFail t 6 else v.eccRead t

section
variable {bad : Nat → Bool} {v : State} {t : Nat}

theorem State.checkTile_storage : (v.checkTile bad t).storage = v.storage := by
  unfold State.checkTile
  split
  · exact (State.csumFail_storage _ t 6).trans (v.eccRead_storage t)
  · exact v.eccRead_storage t

theorem State.checkTile_tablesWf (h : v.tablesWf = true) : (v.checkTile bad t).tablesWf = true :=
  ite_tablesWf (State.csumFail_tablesWf (State.eccRead_tablesWf h)) (State.eccRead_tablesWf h)

/-- Tiles that pass leave the log. -/
theorem State.checks_csumLog_of_pass {ts : List Nat} (h : ts.any bad = false) :
    (ts.foldl (State.checkTile bad) v).csumLog = v.csumLog := by
  induction ts generalizing v with
  | nil => rfl
  | cons t ts ih =>
    obtain ⟨ht, hts⟩ := Bool.or_eq_false_iff.1 (List.any_cons.symm.trans h)
    rw [List.foldl_cons, ih hts, State.checkTile, ht]
    exact v.eccRead_csumLog t

/-- Whatever they are, tiles leave a log that is full. -/
theorem State.checks_csumLog_of_valid {ts : List Nat} (h : v.rd Reg.creelCsumValid = 1) :
    (ts.foldl (State.checkTile bad) v).csumLog = v.csumLog := by
  induction ts generalizing v with
  | nil => rfl
  | cons t ts ih =>
    have hread := v.eccRead_csumLog t
    have hstep : (v.checkTile bad t).csumLog = v.csumLog := by
      unfold State.checkTile
      split
      · exact (State.csumFail_csumLog_of_valid ((State.csumValid_of_csumLog hread).trans h) t 6).trans hread
      · exact hread
    rw [List.foldl_cons, ih ((State.csumValid_of_csumLog hstep).trans h), hstep]

theorem State.checks_tablesWf {ts : List Nat} (h : v.tablesWf = true) : (ts.foldl (State.checkTile bad) v).tablesWf = true :=
  foldl_tablesWf (fun _ hu _ => State.checkTile_tablesWf hu) h

/-- An empty log takes the first tile that mismatches. -/
theorem State.checks_csumLog_first {pre rest : List Nat} (hpre : pre.any bad = false) (hbad : bad t = true)
    (hempty : v.rd Reg.creelCsumValid ≠ 1) (hwf : v.tablesWf = true) (ht : t < 2 ^ 24) :
    ((pre ++ t :: rest).foldl (State.checkTile bad) v).csumLog = (t, 6, 1) := by
  rw [List.foldl_append, List.foldl_cons]
  have hkept := State.checks_csumLog_of_pass (v := v) hpre
  have hwf' := State.checks_tablesWf (bad := bad) (ts := pre) hwf
  generalize pre.foldl (State.checkTile bad) v = u at hkept hwf'
  have hempty' : (u.eccRead t).rd Reg.creelCsumValid ≠ 1 := by
    rwa [State.csumValid_of_csumLog (u.eccRead_csumLog t), State.csumValid_of_csumLog hkept]
  have hfirst : (u.checkTile bad t).csumLog = (t, 6, 1) := by
    rw [State.checkTile, if_pos hbad]
    exact State.csumFail_csumLog hempty' (State.eccRead_tablesWf hwf') ht (by decide)
  rw [State.checks_csumLog_of_valid (congrArg (fun l => l.2.2) hfirst), hfirst]

end

/-- A verification depends on the storage it reads: it passes when the tile's bytes meet its tag there. -/
theorem State.verify_of_storage {s v : State} {t : Nat} (hv : v.storage = s.storage) (hnear : isFar (s.loc t) = false) :
    v.verify t 6 = (!s.csumBad t, v.checkTile s.csumBad t) := by
  have hread := (v.eccRead_storage t).trans hv
  unfold State.verify State.checkTile State.csumBad
  simp only [State.csum_of_storage hread hnear, State.tag_of_storage hread]
  by_cases h : s.csum t = (s.tag t).csum <;> simp [h]

/-- The same for tiles in order: none of them changes what the next one reads. -/
theorem State.verifyAll_of_storage {s v : State} {ts : List Nat} (hv : v.storage = s.storage)
    (hnear : ∀ t ∈ ts, isFar (s.loc t) = false) :
    v.verifyAll 6 ts = (!ts.any s.csumBad, ts.foldl (State.checkTile s.csumBad) v) := by
  induction ts generalizing v with
  | nil => rfl
  | cons t ts ih =>
    obtain ⟨ht, hts⟩ := List.forall_mem_cons.1 hnear
    rw [State.verifyAll, State.verify_of_storage hv ht]
    dsimp only
    rw [ih (State.checkTile_storage.trans hv) hts]
    simp [Bool.not_or]

/-! ## The statement (R212) -/

/-- Settles O13: a check changes no storage, so each tile is compared as it stands at the issue; the first mismatch fills the
log, which then is full. -/
theorem checkTiles : Obligations.CheckTiles := by
  unfold Obligations.CheckTiles
  intro s j w
  dsimp only
  intro hready hpresent hquiet hslots
  refine ⟨congrArg Host.Outcome.next ?report, fun pre t rest hts hpre hbad hempty hwf ht => ?log⟩
  case report =>
    have hnear (t : Nat) (ht : t ∈ qTiles (s.ops j w).qa) : isFar (s.loc t) = false :=
      State.loc_near (List.all_eq_true.1 hpresent t ht) hslots
    rw [State.chkt, State.unitOp_eq hready rfl]
    simp only [hpresent, hquiet, Bool.not_true, Bool.or_self, Bool.false_eq_true, if_false, State.verifyAll_of_storage rfl hnear,
      Bool.not_eq_true', State.ops_w]
    show _ = State.report _ j w (if (qTiles (s.ops j w).qa).any s.csumBad = true then 0x0101 else 0) .chkt
    cases (qTiles (s.ops j w).qa).any s.csumBad <;> rfl
  case log =>
    have hlog := State.checks_csumLog_first (rest := rest) hpre hbad (by simpa [State.rdb] using hempty) hwf ht
    rw [hts]
    simp only [State.csumLog, Prod.mk.injEq] at hlog
    obtain ⟨htile, hsource, hvalid⟩ := hlog
    exact ⟨htile, hsource, beq_iff_eq.2 hvalid⟩

end Sys2Proof.Machine

/-! # DECODE, NOISE, APPLY and RELEASE (R41, R43, R167 to R171, R222 to R228) -/

namespace Sys2Proof.Machine
open Sys2Proof

/-- A round that a release-class instruction may name is one the device holds. -/
theorem State.round?_of_gated? {s : State} {f r lo : Nat} {x : Round} (h : s.gated? f r lo = some x) : s.round? f r = some x :=
  (Option.filter_eq_some_iff.1 h).1

/-- A round the device does not hold is none that a release-class instruction may name. -/
theorem State.gated?_of_no_round {s : State} {f r : Nat} (h : s.round? f r = none) (lo : Nat) : s.gated? f r lo = none := by
  rw [State.gated?, h]
  rfl

/-! ## DECODE (R41, R43, R170, R224) -/

section
variable {s : State} {j w : Nat}

/-- DECODE with its operands in order reports after its tiles: a mismatch, which stops the release, before an overrange. -/
theorem State.decode_decodes {x : Round}
    (hready : s.unitReady j w (7, 0, 0) (fun _ => x.cfg.elems) [(tQD w, [0]), (tQA w, [0]), (tQB w, [3])] = true)
    (hgated : s.gated? (s.ops j w).f (s.ops j w).sa 5 = some x) (hplain : x.cipherForm = false)
    (hroom : (qTiles (s.ops j w).qa).length ≤ (qTiles (s.ops j w).qd).length)
    (hover : (qTiles (s.ops j w).qa).all (fun t => !(qTiles (s.ops j w).qd).contains t) = true)
    (hspan : 16 * (qTiles (s.ops j w).qa).length ≤ qLen (s.ops j w).qb)
    (hquiet : s.quiet (qTiles (s.ops j w).qa ++ qTiles (s.ops j w).qd) = true)
    (hpresent : s.allPresent (qTiles (s.ops j w).qa ++ qTiles (s.ops j w).qd) = true) :
    s.decode j =
      let o := s.ops j w
      let res := s.decodeTiles x ((qTiles o.qa).zip (qTiles o.qd))
      let out := [(qAddr o.qb, res.2.1.flatMap (toLe 16))]
      if res.1.contains 0x0101 = true then (res.2.2.report j w 0x0101 .decode out).stopRelease o.f o.sa 0x0101
      else res.2.2.report j w (if res.1.contains 0x0103 then 0x0103 else 0) .decode out := by
  have hround := State.round?_of_gated? hgated
  have hover := any_eq_false_of_all_not hover
  have hfit : (decide ((qTiles (s.ops j w).qd).length < (qTiles (s.ops j w).qa).length) ||
      (qTiles (s.ops j w).qa).any (fun t => (qTiles (s.ops j w).qd).contains t)) = false := by
    rw [hover, Bool.or_false, decide_eq_false (Nat.not_lt.2 hroom)]
  rw [State.decode, State.unitOpE_eq hready rfl (fun _ => by rw [hround]), hgated]
  dsimp only
  rw [hplain, hfit, hquiet, hpresent, if_neg Bool.false_ne_true, if_neg Bool.false_ne_true, if_neg (Nat.not_lt.2 hspan)]
  generalize s.decodeTiles x ((qTiles (s.ops j w).qa).zip (qTiles (s.ops j w).qd)) = res
  obtain ⟨codes, records, u⟩ := res
  have hoverrange : (if codes.contains 0x0103 = true then 0x0103 else 0) ≠ 0x0101 := by split <;> decide
  cases codes.contains 0x0101
  case true => rfl
  case false => exact if_neg hoverrange

/-! ## NOISE (R167, R223) -/

/-- NOISE in its step runs the parts its spindle has left; a mismatch abandons the round. -/
theorem State.noise_runs {x : Round} (hissue : s.issues j w = true) (hkey : wKey w = (7, 1, 0))
    (hgated : s.gated? (s.ops j w).f (s.ops j w).sa 4 = some x) (hstep : x.gate.step = 4)
    (hseed : x.policy.sigma = 0 ∨ (s.fn (s.ops j w).f).noiseSeed.isSome = true) :
    let o := s.ops j w
    let ps := s.partsLeft j x.gate.noiseRan
    let ls := ps.flatMap (partItems x.gateTiles.length s.lgrade)
    let res := s.noiseTiles x (if x.policy.sigma = 0 then [] else noiseTable x.policy.sigma) ls
    let u := res.2.updRound o.f o.sa (fun x => { x with gate := { x.gate with noiseRan := x.gate.noiseRan ++ ps } })
    let v := (if x.policy.sigma = 0 then u else u.askLoads j ls.length).enqueue j w
      { id := 0, op := .noise, word := 0, pc := 0, stepc := 0, round := some o.sa, spread := ps }
    s.quiet (ls.map (fun l => x.acc.getD l 0)) = true → s.allPresent (ls.map (fun l => x.acc.getD l 0)) = true →
    s.noise j = if res.1 = true then v.deadRound o.f o.sa else v.abandon o.f o.sa 0x0101 := by
  intro o ps ls res u v hquiet hpresent
  have hseed : (decide (x.policy.sigma ≠ 0) && (s.fn ((s.owner? j).getD 0)).noiseSeed.isNone) = false := by
    rcases hseed with h | h
    · rw [h]
      rfl
    · rw [Option.isNone_eq_false_iff.2 (State.ops_f s j w ▸ h), Bool.and_false]
  have hgated : s.gated? ((s.owner? j).getD 0) ((s.spin j).capture ((s.owner? j).getD 0) w).sa 4 = some x := hgated
  rw [State.noise, State.issue_eq hissue hkey]
  dsimp only
  rw [hgated]
  dsimp only
  rw [if_neg (not_not_intro hstep), hseed, if_neg Bool.false_ne_true, hquiet, hpresent]
  rfl

/-! ## RELEASE (R169, R226) -/

/-- What a RELEASE of `n` items that passes its checks leaves: an entry with its tiles and status records, and the round's
destination and place in the order, or the round abandoned when its first RELEASE is refused (R169, R226). -/
def State.releaseLeaves (s : State) (j w : Nat) (x : Round) (ts : List Nat) (records : Bytes) (n : Nat) : State :=
  let o := s.ops j w
  let u := s.enqueue j w
    { id := 0, op := .release, word := 0, pc := 0, stepc := 0, round := some o.sa, ops := o.sc :: ts, data := records
      last := o.sc + n == x.items, held := true }
  if x.gate.dest.isNone = true ∧ s.resolveDest x o.sb = .refused then u.abandon o.f o.sa 0x090A
  else u.updRound o.f o.sa (fun z => { z with gate := { z.gate with
    dest := some o.sb
    path := if z.gate.dest.isNone then (s.resolveDest x o.sb).path else z.gate.path
    nextIdx := z.gate.nextIdx + n } })

/-- RELEASE's stream registers, by the kind of qA (R226). -/
theorem State.releaseRegs_tiles (hkind : qKind (s.ops j w).qa = 0) :
    [(tQA w, [0, 2]), (tQB w, if qKind ((s.spin j).capture 0 w).qa = 2 then [0, 1, 2, 3] else [3])] =
      [(tQA w, [0, 2]), (tQB w, [3])] := by
  rw [show qKind ((s.spin j).capture 0 w).qa = 0 from hkind]
  rfl

theorem State.releaseRegs_ciphertext (hkind : qKind (s.ops j w).qa = 2) :
    [(tQA w, [0, 2]), (tQB w, if qKind ((s.spin j).capture 0 w).qa = 2 then [0, 1, 2, 3] else [3])] =
      [(tQA w, [0, 2]), (tQB w, [0, 1, 2, 3])] := by
  rw [show qKind ((s.spin j).capture 0 w).qa = 2 from hkind]
  rfl

section
variable {x : Round} (hgated : s.gated? (s.ops j w).f (s.ops j w).sa 5 = some x)
  (hcode : s.releaseCode x (s.ops j w) ((s.spin j).ctRec (s.ops j w).qa) = 0)
include hgated hcode

theorem State.release_tiles (hready : s.unitReady j w (7, 4, 0) s.eOf [(tQA w, [0, 2]), (tQB w, [3])] = true)
    (hkind : qKind (s.ops j w).qa = 0) (hplain : x.cipherForm = false)
    (hspan : 16 * (qTiles (s.ops j w).qa).length ≤ qLen (s.ops j w).qb) (hpresent : s.allPresent (qTiles (s.ops j w).qa) = true) :
    s.release j =
      let o := s.ops j w
      let n := (qTiles o.qa).length
      s.releaseLeaves j w x (qTiles o.qa) (readBytes (s.spin j).scratch (qAddr o.qb) (16 * n)) n := by
  rw [State.release, State.unitOp_eq hready (State.releaseRegs_tiles hkind), hgated]
  simp [State.releaseLeaves, -State.ops_f, hcode, hplain, Nat.not_lt.2 hspan, hpresent]

theorem State.release_ciphertext (hready : s.unitReady j w (7, 4, 0) s.eOf [(tQA w, [0, 2]), (tQB w, [0, 1, 2, 3])] = true)
    (hkind : qKind (s.ops j w).qa = 2) (hcipher : x.cipherForm = true)
    (hpresent : s.allPresent (x.cts.getD (s.ops j w).sc {}).tiles = true) : s.release j = s.releaseLeaves j w x [] [] 1 := by
  rw [State.release, State.unitOp_eq hready (State.releaseRegs_ciphertext hkind), hgated]
  simp [State.releaseLeaves, -State.ops_f, -List.getD_eq_getElem?_getD, hcode, hcipher, hpresent]

end

/-! ## APPLY (R227, R228) -/

/-- APPLY with its checks passed takes the sums of squares of the parts that have none yet. -/
theorem State.apply_sums {r : Round} (hgated : s.gated? (s.ops j w).f (s.ops j w).sa 5 = some r) :
    let o := s.ops j w
    let m := tMod w
    let rec_ := readBytes (s.spin j).scratch (qAddr o.qb) 96
    let a := applyOf m o.sa o.qa o.qd rec_ (r.applyRows (qTiles o.qa))
    let ps := (s.partsOf j).filter (fun p => !((r.sums (s.spin j).stepc).map (·.1)).contains p)
    let used := (ps.flatMap (partItems a.agg.length s.lgrade)).flatMap (fun t => a.agg.getD t 0 :: a.touched t)
    let sums := ps.map (fun p => ((s.spin j).stepc, p, s.sumPart a s.lgrade p))
    s.unitReady j w (7, 3, 0) (fun _ => (applyFmt (bit m 0)).perTile) [(tQD w, [0]), (tQB w, [3])] = true →
    s.regFault (s.spin j) o.f a.afmt.perTile (tQA w) [0] = none → 96 ≤ qLen o.qb →
    applyWf m rec_ = true → (a.param ++ a.m ++ a.v).all (fun t => s.tileOk o.f t) = true → a.total ≤ a.room →
    s.quiet used = true → s.allPresent used = true →
    s.apply j = (s.updRound o.f o.sa (fun r =>
        { r with gate := { r.gate with applySums := r.gate.applySums ++ sums } })).enqueue j w
      { id := 0, op := .apply, word := 0, pc := 0, stepc := 0, round := some o.sa, spread := ps, held := !ps.isEmpty
        ops := [o.qa, o.qd, qAddr o.qb], data := rec_, later := [(qAddr o.qb + 80, 8)] } := by
  intro o m rec_ a ps used sums hready hfault hspan hwf htiles hroom hquiet hpresent
  have hrows : (s.round? o.f o.sa).bind (fun r => r.applyRows (qTiles o.qa)) = r.applyRows (qTiles o.qa) := by
    rw [State.round?_of_gated? hgated]
    rfl
  have hrecord : (decide (qLen o.qb < 96) || !applyWf m rec_) = false := by
    rw [hwf, decide_eq_false (Nat.not_lt.2 hspan)]
    rfl
  have howned : (a.param ++ a.m ++ a.v).any (fun t => !s.tileOk o.f t) = false :=
    List.any_eq_false.2 fun t ht => by simp [-State.ops_f, List.all_eq_true.1 htiles t ht]
  rw [State.apply, State.unitOpE_eq hready rfl (fun _ => rfl)]
  dsimp only [State.ops_w]
  rw [hrows, hgated, hfault]
  dsimp only
  rw [hrecord, if_neg Bool.false_ne_true, howned, if_neg Bool.false_ne_true, if_neg (Nat.not_lt.2 hroom), hquiet, hpresent]
  rfl

/-! ## Out of state (R222) -/

theorem State.decode_ungated
    (hready : s.unitReady j w (7, 0, 0) s.eOf [(tQD w, [0]), (tQA w, [0]), (tQB w, [3])] = true)
    (hround : s.round? (s.ops j w).f (s.ops j w).sa = none) : s.decode j = s.trapHere j 0x090B w := by
  rw [State.decode, State.unitOpE_eq hready rfl (fun _ => by rw [hround]), State.gated?_of_no_round hround]
  rfl

theorem State.noise_ungated (hissue : s.issues j w = true) (hkey : wKey w = (7, 1, 0))
    (hgated : s.gated? (s.ops j w).f (s.ops j w).sa 4 = none) : s.noise j = s.trapHere j 0x090B w := by
  have hgated : s.gated? ((s.owner? j).getD 0) ((s.spin j).capture ((s.owner? j).getD 0) w).sa 4 = none := hgated
  rw [State.noise, State.issue_eq hissue hkey]
  dsimp only
  rw [hgated]

theorem State.release_ungated (hready : s.unitReady j w (7, 4, 0) s.eOf [(tQA w, [0, 2]), (tQB w, [3])] = true)
    (hkind : qKind (s.ops j w).qa = 0) (hgated : s.gated? (s.ops j w).f (s.ops j w).sa 5 = none) :
    s.release j = s.trapHere j 0x090B w := by
  rw [State.release, State.unitOp_eq hready (State.releaseRegs_tiles hkind), hgated]
  rfl

end

/-! ## What their entries' retirement does (R169, R171, R204, R227) -/

section
variable {s : State} {f : Nat} {e : UnitEntry} {x : Round} (hround : s.entryRound f e = some x) (j : Nat)
include hround

/-- A RELEASE of a round in GATED with no stop sends once its turn has come, and waits before. -/
theorem State.retireOf_release (hop : e.op = .release) (hheld : e.held = true) (hst : x.st = .gated) (hstop : x.gate.stop = none) :
    s.retireOf f j e =
      (s.releaseReady x e).elim s (fun d => (s.releaseRun f x.cfg.round j e d).leave j e) := by
  rw [State.retireOf, hop]
  dsimp only
  rw [hround]
  dsimp only
  rw [if_pos (by simp [hheld, hst, hstop])]
  cases s.releaseReady x e <;> rfl

/-- An APPLY updates once every part has a sum. -/
theorem State.retireOf_apply (hop : e.op = .apply) (hheld : e.held = true) (hsums : s.applyReady x e = true) :
    s.retireOf f j e =
      (s.applyRun x e).2.leave j { e with writes := [(e.ops.getD 2 0 + 80, toLe 8 (s.applyRun x e).1)] } := by
  rw [State.retireOf, hop]
  dsimp only
  rw [hround]
  dsimp only
  rw [if_pos hheld, if_pos hsums]

/-- A NOISE of a round in GATED counts its parts as done. -/
theorem State.retireOf_noise (hop : e.op = .noise) (hst : x.st = .gated) :
    s.retireOf f j e = (s.leave j e).noiseDone f x.cfg.round e.spread := by
  rw [State.retireOf, hop]
  dsimp only
  rw [hround]
  exact if_pos hst

/-- An EXPAND of a round in UNMASK counts its masks as cancelled. -/
theorem State.retireOf_expand (hop : e.op = .expand) (hst : x.st = .unmask) (hcode : e.code = 0) :
    s.retireOf f j e = (s.leave j e).expandDone f e := by
  rw [State.retireOf, hop]
  dsimp only
  rw [hround]
  exact if_pos ⟨hst, hcode⟩

end

/-! ## The statement (R222 to R228) -/

/-- Settles O27: the checks of each instruction pass in order, and so it takes the branch that acts; an entry retires by the
case of its instruction. -/
theorem gateInstructions : Obligations.GateInstructions := by
  unfold Obligations.GateInstructions
  refine ⟨fun s j w x => ?decode, fun s j w x => ?noise, fun s j w x => ?release, fun s j w r => ?apply, fun s j w => ?outOfState,
    fun s j i f e x hready hrecovering hentry hparts hdrains hwords howner hround => ?retire⟩
  case decode =>
    intro o hready hgated hplain hroom hover hspan hquiet hpresent res out
    have hdecode := State.decode_decodes hready hgated hplain hroom hover hspan hquiet hpresent
    exact ⟨fun hok => congrArg Host.Outcome.next (hdecode.trans (if_neg (Bool.eq_false_iff.1 hok))),
      fun hbad => congrArg Host.Outcome.next (hdecode.trans (if_pos hbad))⟩
  case noise =>
    intro o ps ls res u v hissue hkey hgated hstep hseed hquiet hpresent
    have hnoise := State.noise_runs hissue hkey hgated hstep hseed hquiet hpresent
    exact ⟨fun hok => congrArg Host.Outcome.next (hnoise.trans (if_pos hok)),
      fun hbad => congrArg Host.Outcome.next (hnoise.trans (if_neg (Bool.eq_false_iff.1 hbad)))⟩
  case release =>
    intro o y hgated hcode
    have hgoes (h : x.gate.dest.isSome = true ∨ s.resolveDest x o.sb ≠ .refused) :
        ¬(x.gate.dest.isNone = true ∧ s.resolveDest x o.sb = .refused) := by
      rintro ⟨hnone, hrefused⟩
      rcases h with h | h
      · rw [Option.isNone_iff_eq_none.1 hnone] at h
        cases h
      · exact h hrefused
    refine ⟨?tiles, ?ciphertext⟩
    case tiles =>
      intro n u hready hkind hplain hspan hpresent
      have hrelease := State.release_tiles hgated hcode hready hkind hplain hspan hpresent
      exact ⟨fun h => congrArg Host.Outcome.next (hrelease.trans (if_neg (hgoes h))),
        fun hnone hrefused => congrArg Host.Outcome.next
          (hrelease.trans (if_pos ⟨Option.isNone_iff_eq_none.2 hnone, hrefused⟩))⟩
    case ciphertext =>
      intro u hready hkind hcipher hpresent h
      exact congrArg Host.Outcome.next
        ((State.release_ciphertext hgated hcode hready hkind hcipher hpresent).trans (if_neg (hgoes h)))
  case apply =>
    intro o m rec_ a ps used sums hready hgated hfault hspan hwf htiles hroom hquiet hpresent
    exact congrArg Host.Outcome.next
      (State.apply_sums hgated hready hfault hspan hwf htiles hroom hquiet hpresent)
  case outOfState =>
    exact ⟨fun hready hround => congrArg Host.Outcome.next (State.decode_ungated hready hround),
      fun hissue hkey hgated => congrArg Host.Outcome.next (State.noise_ungated hissue hkey hgated),
      fun hready hkind hgated => congrArg Host.Outcome.next (State.release_ungated hready hkind hgated)⟩
  case retire =>
    have hretire : exec (.unitInstructionRetire j i) s = .next (s.retireOf f j e) :=
      congrArg Host.Outcome.next (State.unitRetire_owned hentry hready hrecovering hparts hdrains hwords howner)
    rw [hretire]
    refine ⟨fun d hop hheld hst hstop hturn => congrArg _ ?sends, fun hop hheld hst hstop hturn => congrArg _ ?waits,
      fun hop hheld hsums => congrArg _ ?updates, fun hop hst => congrArg _ ?noiseDone,
      fun hop hst hcode => congrArg _ ?expandDone⟩
    case sends => rw [State.retireOf_release hround j hop hheld hst hstop, hturn]; rfl
    case waits => rw [State.retireOf_release hround j hop hheld hst hstop, hturn]; rfl
    case updates => exact State.retireOf_apply hround j hop hheld hsums
    case noiseDone => exact State.retireOf_noise hround j hop hst
    case expandDone => exact State.retireOf_expand hround j hop hst hcode

end Sys2Proof.Machine

/-! # Queue pairs (R244, R250, R253, R320, R388) -/

namespace Sys2Proof.Machine
open Sys2Proof

/-! ## CREATE_QP (R388) -/

/-- A cache with a place free makes room without an eviction (R253). -/
theorem State.cacheRoom_free {s : State} (hfree : (s.qps.filter (fun q => q.cached)).length < cacheMax) (keep : Nat) :
    s.cacheRoom keep = some s := if_pos hfree

section
variable {s : State} {f : Nat} {b : Bytes}

/-- A QP off the ply bundle, and one whose record marks it as a ply QP, pass the check of R302. -/
theorem State.plyRefuses_false (hply : s.plyBundle (leAt b 2 1) = false ∨ bit (leAt b 1 1) 1 = true) :
    (s.plyBundle (leAt b 2 1) && !bit (leAt b 1 1) 1) = false := by
  rcases hply with h | h <;> simp [h]

theorem State.createQp_badRecord (hbad : qpRecordOk b = false) : s.createQp f b = ((0x0A14, 0), s) := by
  simp [State.createQp, hbad]

section
variable (hok : qpRecordOk b = true)
include hok

theorem State.createQp_offBundle (hbundle : bit (s.rd Reg.fnBundles f) (leAt b 2 1) = false) :
    s.createQp f b = ((0x060E, 0), s) := by
  simp [State.createQp, hok, hbundle]

variable (hbundle : bit (s.rd Reg.fnBundles f) (leAt b 2 1) = true)
  (hply : s.plyBundle (leAt b 2 1) = false ∨ bit (leAt b 1 1) 1 = true)
include hbundle hply

theorem State.createQp_noKey (hkey : s.subUsable f .identity (fun k => k.sign) = false) :
    s.createQp f b = ((0x0601, 0), s) := by
  simp [State.createQp, hok, hbundle, State.plyRefuses_false hply, hkey]

variable {m : Nat} (hkey : s.subUsable f .identity (fun k => k.sign) = true)
  (hpin : bit (leAt b 1 1) 0 = false ∨ s.pinRefused f = false) (hbind : s.bindCode f (leAt b 104 5) (leAt b 8 8) = 0)
  (hfree : s.freeQpn (s.qps.length + s.evictions.length + 1) 0 = some m)
  (hroom : (s.qps.filter (fun q => q.cached)).length < cacheMax)
include hkey hpin hbind hfree hroom

/-- A record that passes every check takes the lowest free QPN, for an initiator or for a QP that listens. -/
theorem State.createQp_allocates : s.createQp f b =
    (let q := { qpOf m f (s.rd Reg.qpcBundle 0 (leAt b 2 1)) b with lastUse := s.time }
     if q.initiate then ((0, m), { s with qps := s.qps ++ [q] }.ask 0 1 helloWords (.handshake m))
     else ((0, m), { s with qps := s.qps ++ [{ q with st := .listen }] })) := by
  have hpins : (bit (leAt b 1 1) 0 && s.pinRefused f) = false := by rcases hpin with h | h <;> simp [h]
  cases hrole : (qpOf m f (s.rd Reg.qpcBundle 0 (leAt b 2 1)) b).initiate
    <;> simp [State.createQp, hok, hbundle, State.plyRefuses_false hply, hkey, hpins, hbind, hfree, State.cacheRoom_free hroom, hrole]

/-- An initiator asks for the words of its HELLO (R320). -/
theorem State.createQp_initiates (hkind : leAt b 0 1 = 0) : s.createQp f b =
    ((0, m), { s with qps := s.qps ++ [{ qpOf m f (s.rd Reg.qpcBundle 0 (leAt b 2 1)) b with lastUse := s.time }] }.ask
      0 1 helloWords (.handshake m)) :=
  (State.createQp_allocates hok hbundle hply hkey hpin hbind hfree hroom).trans (if_pos (beq_iff_eq.2 hkind))

theorem State.createQp_listens (hkind : leAt b 0 1 = 1) : s.createQp f b =
    ((0, m), { s with qps := s.qps ++
      [{ qpOf m f (s.rd Reg.qpcBundle 0 (leAt b 2 1)) b with lastUse := s.time, st := .listen }] }) :=
  (State.createQp_allocates hok hbundle hply hkey hpin hbind hfree hroom).trans
    (if_neg (fun h => one_ne_zero (hkind.symm.trans (beq_iff_eq.1 h))))

end
end

/-! ## QP_CTL (R244, R250, R253) -/

section
variable {s : State} {f n a : Nat} {desc : Bytes} {q : Qp} (hlen : desc.length = 64)
  (htakes : s.ringTakes f n (leNat desc) = true) (hwf : jobWf (leNat desc) = true) (hop : jOp (leNat desc) = 8)
  (hrec : jRecLen (leNat desc) = 0) (hqp : (s.takeJob f n).qp? (jArg0 (leNat desc)) = some q)
  (body : Nat → Qp → State → Nat × State) (ha : jArg1 (leNat desc) % 256 = a)
include hlen htakes hwf hop hrec hqp ha

/-- An action on a QP of the function runs, and the descriptor completes with its code. -/
theorem State.qpCtl_own (hfunc : q.func = f) :
    s.qpCtl f n desc a body =
      (let p := body (leNat desc) q (s.takeJob f n)
       p.2.jobDone f n (leNat desc) p.1 0) := by
  simp [State.qpCtl, ha, State.job0_runs hlen hop htakes _ hwf hrec, hqp, hfunc, Option.filter]

/-- A QP of another function is a value out of range. -/
theorem State.qpCtl_foreign (hfunc : q.func ≠ f) :
    s.qpCtl f n desc a body = (s.takeJob f n).jobDone f n (leNat desc) 0x0A14 0 := by
  simp [State.qpCtl, ha, State.job0_runs hlen hop htakes _ hwf hrec, hqp, hfunc, Option.filter]

end

/-- Settles O36: each check of CREATE_QP is passed or is the one that answers; an action of QP_CTL is one branch of its body,
once the QP is found to be the function's. -/
theorem queuePairs : Obligations.QueuePairs := by
  unfold Obligations.QueuePairs
  refine ⟨fun s f n desc b hlen htakes hwf hop hrec hb => ?create, fun s f n desc q hlen htakes hwf hop hrec => ?control⟩
  case create =>
    intro d s1 done run bundle
    have hrun : run = .next (done (s1.createQp f b).1.1 (s1.createQp f b).1.2 (s1.createQp f b).2) :=
      congrArg Host.Outcome.next
        (State.job_runs s f n 7 desc b (some 128) _ hlen hop htakes hwf (hb.trans hrec.symm) (by simp [hrec]))
    rw [hrun]
    refine ⟨fun hbad => ?badRecord, fun hok hbundle => ?offBundle, fun hok hbundle hply => ⟨fun hkey => ?noKey,
      fun m hkey hpin hbind hfree hroom => ⟨fun hkind => ?initiates, fun hkind => ?listens⟩⟩⟩
    case badRecord => rw [State.createQp_badRecord hbad]
    case offBundle => rw [State.createQp_offBundle hok hbundle]
    case noKey => rw [State.createQp_noKey hok hbundle hply hkey]
    case initiates => rw [State.createQp_initiates hok hbundle hply hkey hpin hbind hfree hroom hkind]
    case listens => rw [State.createQp_listens hok hbundle hply hkey hpin hbind hfree hroom hkind]
  case control =>
    dsimp only
    refine fun hqp => ⟨fun hfunc => ?foreign, fun hfunc => ?own⟩
    case foreign =>
      exact ⟨fun ha => congrArg _ (State.qpCtl_foreign hlen htakes hwf hop hrec hqp _ ha hfunc),
        fun ha => congrArg _ (State.qpCtl_foreign hlen htakes hwf hop hrec hqp _ ha hfunc)⟩
    case own =>
      have hctl {a : Nat} (body : Nat → Qp → State → Nat × State) (ha : jArg1 (leNat desc) % 256 = a) :=
        State.qpCtl_own hlen htakes hwf hop hrec hqp body ha hfunc
      refine ⟨fun ha hst => ?closes, fun ha hst => ?closeRefused, fun ha hst => ?destroys, fun ha hclosed herror => ?destroyRefused,
        fun ha hpinned => ?pinnedAlready, fun ha hpinned hroom => ?pins, fun ha hpinned hfull => ?pinRefused, fun ha => ?unpins,
        fun ha hcode => ?binds, fun ha hcode => ?bindRefused⟩ <;> refine congrArg Host.Outcome.next ((hctl _ ha).trans ?_)
      case closes => simp [hst]
      case closeRefused => simp [hst]
      case destroys => rcases hst with hst | hst <;> simp [hst]
      case destroyRefused => simp [hclosed, herror]
      case pinnedAlready => simp [hpinned]
      case pins => simp [hpinned, hroom]
      case pinRefused => simp [hpinned, hfull]
      case unpins => rfl
      case binds => simp [hcode]
      case bindRefused => simp [hcode]

end Sys2Proof.Machine

/-! # The handshake (R239 to R243) -/

namespace Sys2Proof.Machine
open Sys2Proof

/-! ## A handshake packet that passes the checks of R239 -/

/-- A well-formed packet without payload has PLEN 0 (R236). -/
theorem plen_of_packetWf {p : Packet} (hwf : packetWf p = true) (hdata : isData p = false) : p.plen = 0 := by
  simp only [packetWf, bodyOk, hdata, Bool.and_eq_true, Bool.false_eq_true, if_false, beq_iff_eq] at hwf
  obtain ⟨-, ⟨hplen, -⟩, -⟩ := hwf
  exact hplen

/-- A context on chip has nothing evicted to keep (R253). -/
theorem State.keepContext_cached {s : State} {q : Qp} (hcached : q.cached = true) : s.keepContext q = s := by
  simp [State.keepContext, hcached]

section
variable {s : State} {p : Packet} {q : Qp} (hready : s.ready = true) (hfcs : p.fcsOk = true) (hwf : packetWf p = true)
  (hport : p.dport = s.rd Reg.qpcKztUdpPort) (hqp : (s.bump Reg.portRxFrames p.port).qp? p.dst = some q)
  (hcached : q.cached = true)
include hready hfcs hwf hport hqp hcached

/-- A handshake packet that passes checks 1 to 3 is acted on, its frame counted and its context used. -/
theorem State.handshakeIn_hit {op : Nat} (hop : p.opcode = op) (hdata : isData p = false) (body : Qp → State → State) :
    s.handshakeIn p op body = body q ((s.bump Reg.portRxFrames p.port).hit q.qpn) := by
  have hmtu : ¬ q.mtu < p.plen := by simp [plen_of_packetWf hwf hdata]
  simp [State.handshakeIn, State.frame, hready, hop, hfcs, hwf, hport, hqp, hmtu, State.keepContext_cached hcached, hcached]

/-- A HELLO at a listening QP that has accepted none: signature, PEER_FILTER, version, then the ACCEPT's words (R241). -/
theorem State.hello_listening (hop : p.opcode = opHello) (hver : p.ver = 0) (hst : q.st = .listen) (hidle : q.accepting = false) :
    let s2 := (s.bump Reg.portRxFrames p.port).hit q.qpn
    let id := slice p.body 1705 97
    let bytes := packetBytes p
    s.hello p =
      if ecdsaVerify id (bytes.take (bytes.length - 96)) (bytes.drop (bytes.length - 96)) = false then s2.dropAuth q
      else if q.filter ≠ 0 ∧ q.filter ≠ sha384N id then s2.shake q (.refuse (leAt p.body 4 4) 0x0407 (slice p.body 8 32))
      else match negotiate (leAt p.body 0 2) (leAt p.body 2 2) (s2.rd Reg.devKztVerMin) (s2.rd Reg.devKztVerMax) with
        | none => s2.shake q (.refuse (leAt p.body 4 4) 0x0404 (slice p.body 8 32))
        | some v => (s2.updQp q.qpn (fun q => { q with
            accepting := true, ver := v, peerId := sha384N id, peerQpn := leAt p.body 4 4, nonceI := slice p.body 8 32
            hello := bytes })).ask 0 1 acceptWords (.handshake q.qpn) := by
  intro s2 id bytes
  have hdata : isData p = false := by simp [isData, hop, opHello, opSend, opWrite]
  rw [State.hello, State.handshakeIn_hit hready hfcs hwf hport hqp hcached hop hdata]
  cases negotiate (leAt p.body 0 2) (leAt p.body 2 2) (s2.rd Reg.devKztVerMin) (s2.rd Reg.devKztVerMax)
    <;> simp [hver, hst, hidle, s2, id, bytes]

/-- A HELLO that comes again in RTS, with the nonce of the QP's connection, gets its ACCEPT again (R243). -/
theorem State.hello_again (hop : p.opcode = opHello) (hver : p.ver = 0) (hst : q.st = .rts)
    (hsig : ecdsaVerify (slice p.body 1705 97) ((packetBytes p).take ((packetBytes p).length - 96))
      ((packetBytes p).drop ((packetBytes p).length - 96)) = true)
    (hnonce : slice p.body 8 32 = q.nonceI) (hrole : q.initiate = false)
    (hshake : ((s.bump Reg.portRxFrames p.port).hit q.qpn).shaking q = false) :
    s.hello p = ((s.bump Reg.portRxFrames p.port).hit q.qpn).shake q .acceptAgain := by
  have hdata : isData p = false := by simp [isData, hop, opHello, opSend, opWrite]
  rw [State.hello, State.handshakeIn_hit hready hfcs hwf hport hqp hcached hop hdata]
  simp [hver, hst, hsig, hnonce, hrole, hshake]

/-- An ACCEPT of a version of this side's at an initiator: signature, PEER_FILTER, version, then RTS with both keys (R241). -/
theorem State.accept_initiator (hop : p.opcode = opAccept) (hst : q.st = .handshake)
    (hmin : ((s.bump Reg.portRxFrames p.port).hit q.qpn).rd Reg.devKztVerMin ≤ p.ver)
    (hmax : p.ver ≤ ((s.bump Reg.portRxFrames p.port).hit q.qpn).rd Reg.devKztVerMax) :
    let s2 := (s.bump Reg.portRxFrames p.port).hit q.qpn
    let id := slice p.body 1705 97
    let bytes := packetBytes p
    s.accept p =
      if ecdsaVerify id (q.hello ++ bytes.take (bytes.length - 96)) (bytes.drop (bytes.length - 96)) = false then
        ((s2.bump Reg.qpcDropAuth).bump Reg.fnFDropAuth q.func).qpEnd q.qpn .error 0x0403
      else if q.filter ≠ 0 ∧ q.filter ≠ sha384N id then s2.qpEnd q.qpn .error 0x0407
      else if leAt p.body 0 2 ≠ p.ver then s2.qpEnd q.qpn .error 0x0404
      else ((s2.updQp q.qpn (fun q => { q with ver := p.ver, peerId := sha384N id, peerQpn := leAt p.body 4 4 })).keyed q.qpn
        (ecdh q.ephScalar (slice p.body 40 97)) (mlkemDecap q.ephKem (slice p.body 137 1568)) q.hello bytes).creditAll := by
  intro s2 id bytes
  have hdata : isData p = false := by simp [isData, hop, opAccept, opSend, opWrite]
  rw [State.accept, State.handshakeIn_hit hready hfcs hwf hport hqp hcached hop hdata]
  simp [hst, hmin, hmax, s2, id, bytes]

/-- A REFUSE of the outstanding HELLO leaves its code and, while an attempt is left, brings the next one forward (R241). -/
theorem State.refuse_outstanding (hop : p.opcode = opRefuse) (hver : p.ver = 0) (hst : q.st = .handshake)
    (hnonce : slice p.body 8 32 = q.nonceI) :
    let s3 := ((s.bump Reg.portRxFrames p.port).hit q.qpn).updQp q.qpn (fun q => { q with lastCode := leAt p.body 0 2 })
    s.refuse p = if q.attempts < attemptMax ∧ s3.shaking q = false then s3.shake q .helloAgain else s3 := by
  intro s3
  have hdata : isData p = false := by simp [isData, hop, opRefuse, opSend, opWrite]
  have hshaking : s3.shaking q = ((s.bump Reg.portRxFrames p.port).hit q.qpn).shaking q := rfl
  rw [State.refuse, State.handshakeIn_hit hready hfcs hwf hport hqp hcached hop hdata, hshaking]
  simp [hver, hst, hnonce, s3]

end

/-! ## HANDSHAKE_RETRY (R243) -/

/-- Ten milliseconds without an answer: HELLO goes again while an attempt is left, and then the QP ends. -/
theorem State.handshakeRetry_due {s : State} {k : Nat} {x : Qp} (hready : s.ready = true) (hqp : s.qp? k = some x)
    (hst : x.st = .handshake) (hdue : x.helloAt + 13500000 ≤ s.time) (hshake : s.shaking x = false) :
    s.handshakeRetry k = if x.attempts < attemptMax then s.shake x .helloAgain
      else s.qpEnd k .error (if x.lastCode = 0 then 0x0408 else x.lastCode) := by
  simp [State.handshakeRetry, hready, hqp, hst, hdue.not_gt, hshake]

/-- A handshake packet that is the next of its bundle leaves at once when the bundle's time has come (R251). -/
theorem State.shake_leaves {s : State} {q q1 : Qp} {k : ShakeKind} {port path : Nat}
    (hnext : State.nextShake { s with shakes := s.shakes ++ [{ qpn := q.qpn, kind := k }] } q.bundle
      = some ({ qpn := q.qpn, kind := k }, port, path, q1))
    (htime : Sparse.get 0 s.shakeNext q.bundle ≤ s.time) :
    s.shake q k = State.sendShake { s with
      shakes := (s.shakes ++ [({ qpn := q.qpn, kind := k } : Shake)]).erase { qpn := q.qpn, kind := k }
      shakeNext := Sparse.set 0 s.shakeNext q.bundle (s.time + shakeGap) } q1 port path k := by
  simp only [State.shake, State.serveShake, hnext, if_neg htime.not_gt]

/-- Settles O37: a handshake packet on chip is taken by the branch its QP's state selects; HANDSHAKE_RETRY counts attempts. -/
theorem handshake : Obligations.Handshake := by
  unfold Obligations.Handshake
  refine ⟨fun s p q hready hfcs hwf hport => ?packet, fun s k x hready hqp hst hdue hshake => ?retry⟩
  case packet =>
    intro s1 hqp hcached s2 id bytes body sig nonce
    refine ⟨fun hop hver hst hidle => congrArg Host.Outcome.next ?hello,
      fun hop hver hst hsig hnonce hrole hshake => congrArg Host.Outcome.next ?again,
      fun hop hst hmin hmax => congrArg Host.Outcome.next ?accept, fun hop hver hst hnonce => congrArg Host.Outcome.next ?refuse⟩
    case hello => exact State.hello_listening hready hfcs hwf hport hqp hcached hop hver hst hidle
    case again => exact State.hello_again hready hfcs hwf hport hqp hcached hop hver hst hsig hnonce hrole hshake
    case accept => exact State.accept_initiator hready hfcs hwf hport hqp hcached hop hst hmin hmax
    case refuse => exact State.refuse_outstanding hready hfcs hwf hport hqp hcached hop hver hst hnonce
  case retry =>
    have hretry := State.handshakeRetry_due hready hqp hst hdue hshake
    exact ⟨fun hlast => congrArg Host.Outcome.next (hretry.trans (if_neg hlast.not_gt)),
      fun hleft => congrArg Host.Outcome.next (hretry.trans (if_pos hleft)),
      fun port path q1 hleft hnext htime =>
        congrArg Host.Outcome.next ((hretry.trans (if_pos hleft)).trans (State.shake_leaves hnext htime))⟩

end Sys2Proof.Machine

/-! # What a queue pair sends (R243, R247, R250 to R252) -/

namespace Sys2Proof.Machine
open Sys2Proof

theorem Qp.open_of_st {q : Qp} (hst : q.st = .rts ∨ q.st = .draining) : (q.st != .rts && q.st != .draining) = false := by
  rcases hst with h | h <;> simp [h]

/-! ## What goes next (R247, R250) -/

section
variable {s : State} {q : Qp} (hst : q.st = .rts ∨ q.st = .draining)
include hst

/-- A lost packet goes before any new one. -/
theorem State.txNext_lost {k : TxPkt} (hlost : q.lostPkt s.time = some k) : s.txNext q = some (.again k) := by
  simp [State.txNext, Qp.open_of_st hst, hlost]

/-- With no packet lost, a QP that may send sends the next packet of its next message. -/
theorem State.txNext_fresh {m : TxMsg} (hreleased : s.released? q = true) (hlost : q.lostPkt s.time = none)
    (hnext : q.nextMsg = some m) : s.txNext q = some (.fresh m) := by
  have hadmits : s.txNext q =
      if (q.creditFor (q.msnOf m) && s.windowRoom q) = true then some (.fresh m) else none := by
    simp [State.txNext, Qp.open_of_st hst, hlost, hnext]
  have hsome : s.txNext q ≠ none := fun h => by simp [State.released?, h] at hreleased
  rw [hadmits] at hsome ⊢
  exact if_pos (not_not.1 fun h => hsome (if_neg h))

end

/-! ## A packet goes again, or for the first time (R243, R247) -/

section
variable {s : State} {q q1 : Qp} {m : TxMsg} {port path : Nat}

/-- A lost packet goes again on the next path, its RETRY and its transmissions counted up. -/
theorem State.sendAgain_goes {k : TxPkt} (hhop : s.hop (q.suspect s.time k) = some (port, path, q1))
    (hmsg : q.tx.queue.find? (fun m => m.seq0.isSome && m.msn == k.msn) = some m) (hretry : k.retry < 15) :
    s.sendAgain q k = s.sendPart { q1 with tx := { q1.tx with
      unacked := updIf q1.tx.unacked (fun v => v.seq == k.seq) (fun v =>
        { v with retry := k.retry + 1, sends := k.sends + 1, path := path, sentAt := s.time, lost := false, lateAt := none }) } }
      port path m k.msn (k.retry + 1) k.seq k.off k.len := by
  have hleft : ¬ 16 ≤ k.retry + 1 := by omega
  simp only [State.sendAgain, hhop, hmsg, if_neg hleft]

/-- A seventeenth transmission is not made. -/
theorem State.sendAgain_last {k : TxPkt} (hhop : s.hop (q.suspect s.time k) ≠ none)
    (hmsg : q.tx.queue.find? (fun m => m.seq0.isSome && m.msn == k.msn) = some m) (hretry : 15 ≤ k.retry) :
    s.sendAgain q k = s.qpEnd q.qpn .error 0x0409 := by
  obtain ⟨⟨port, path, q1⟩, hhop⟩ := Option.ne_none_iff_exists'.1 hhop
  have hlast : 16 ≤ k.retry + 1 := by omega
  simp only [State.sendAgain, hhop, hmsg, if_pos hlast]

/-- The next packet of a message goes for the first time, with the transmissions that probes have used. -/
theorem State.sendFresh_goes (hseq : q.tx.seq / 2 ^ 24 ≤ 0xFFFFFFFE) (hprobes : q.tx.probes < 16)
    (hhop : s.hop q = some (port, path, q1)) :
    let len := min q.mtu (m.data.length - m.sent)
    let block := if q.tx.seq % 64 = 0 ∨ q.tx.blockAt = 0 then s.time else q.tx.blockAt
    s.sendFresh q m = s.sendPart { q1 with tx := { q1.tx with
        seq := q.tx.seq + 1
        msn := if m.seq0.isSome then q1.tx.msn else (q1.tx.msn + 1) % 2 ^ 24
        queue := updAt q1.tx.queue (q1.tx.queue.findIdx (fun v => !v.allSent)) (fun v =>
          { v with msn := q.msnOf m, seq0 := some (v.seq0.getD q.tx.seq), sent := v.sent + len })
        unacked := q1.tx.unacked ++ [{ seq := q.tx.seq, msn := q.msnOf m, off := m.sent, len := len, retry := q1.tx.probes, sends := 1
                                       path := path, sentAt := s.time, blockAt := block, lost := false }]
        tracker := q1.tx.tracker || decide (64 < q1.tx.unacked.length + 1)
        probes := 0
        blockedSince := none
        blockAt := block } }
      port path m (q.msnOf m) q1.tx.probes q.tx.seq m.sent len := by
  simp only [State.sendFresh, if_neg hseq.not_gt, if_neg hprobes.not_ge, hhop, Bool.or_eq_true, decide_eq_true_eq]

end

/-! ## KZT_PACKET_TRANSMIT (R251) -/

section
variable {s : State} {n : Nat} {q : Qp} (hready : s.ready = true) (hqp : s.qp? n = some q)
include hready hqp

theorem State.transmit_handshake (hshake : s.shakeDue q = true) : s.transmit n = s.serveShake q.bundle := by
  simp [State.transmit, hready, hqp, hshake]

section
variable (hst : q.st = .rts ∨ q.st = .draining) (hshake : s.shakeDue q = false)
include hst hshake

theorem State.transmit_fetches (hcached : q.cached = false) : s.transmit n = s.startFetch n := by
  simp [State.transmit, hready, hqp, hshake, Qp.open_of_st hst, hcached]

variable (hcached : q.cached = true)
include hcached

theorem State.transmit_control (hctl : q.ctl ≠ []) : s.transmit n = (s.sendCtl n q.ctl).drainCheck n := by
  simp [State.transmit, hready, hqp, hshake, Qp.open_of_st hst, hcached, hctl]

variable (hctl : q.ctl = [])
include hctl

theorem State.transmit_blocked (hnext : s.txNext q = none) : s.transmit n = s.noteBlocked q := by
  simp [State.transmit, hready, hqp, hshake, Qp.open_of_st hst, hcached, hctl, hnext]

variable (hreleased : s.released? q = true) (hfirst : s.servedFirst q = true)
include hreleased hfirst

theorem State.transmit_again {k : TxPkt} (hlost : q.lostPkt s.time = some k) : s.transmit n = s.sendAgain q k := by
  simp [State.transmit, hready, hqp, hshake, Qp.open_of_st hst, hcached, hctl, hreleased, hfirst, State.txNext_lost hst hlost]

theorem State.transmit_fresh {m : TxMsg} (hlost : q.lostPkt s.time = none) (hnext : q.nextMsg = some m) :
    s.transmit n = s.sendFresh q m := by
  simp [State.transmit, hready, hqp, hshake, Qp.open_of_st hst, hcached, hctl, hreleased, hfirst,
    State.txNext_fresh hst hreleased hlost hnext]

end

/-! ## CREDIT_PROBE (R250) -/

/-- PROBE_T after a QP has found its next message beyond its credit, an empty SEND with the next PSN goes. -/
theorem State.probe_goes {t : Nat} {m : TxMsg} {port path : Nat} {q1 : Qp} (hst : q.st = .rts ∨ q.st = .draining)
    (hcached : q.cached = true) (hblocked : q.tx.blockedSince = some t) (hdue : t + s.rd Reg.qpcProbeT ≤ s.time)
    (hnext : q.nextMsg = some m) (hcredit : q.creditFor (q.msnOf m) = false) (hpaced : s.paced q (s.wireBytes q 0) = true)
    (hfirst : s.servedFirst q = true) (hseq : q.tx.seq / 2 ^ 24 ≤ 0xFFFFFFFE) (hprobes : q.tx.probes < 16)
    (hhop : s.hop q = some (port, path, q1)) :
    s.probe n = s.sendData { q1 with tx := { q1.tx with probes := q1.tx.probes + 1, blockedSince := some s.time } }
      port path 0 4 q.tx.probes q.tx.seq q.tx.msn 0 0 [] := by
  have hgoes : (!s.ready || (q.st != .rts && q.st != .draining) || !q.cached
      || !q.tx.blockedSince.any (fun t => decide (t + s.rd Reg.qpcProbeT ≤ s.time))
      || !q.nextMsg.any (fun m => !q.creditFor (q.msnOf m)) || !s.paced q (s.wireBytes q 0) || !s.servedFirst q) = false := by
    simp [hready, Qp.open_of_st hst, hcached, hblocked, hdue, hnext, hcredit, hpaced, hfirst]
  simp only [State.probe, hqp, hgoes, Bool.false_eq_true, if_false, if_neg hseq.not_gt, if_neg hprobes.not_ge, hhop]

end

/-- Settles O39: a turn takes the first branch of transmit that has something to send. -/
theorem packetsSent : Obligations.PacketsSent := by
  unfold Obligations.PacketsSent
  refine ⟨fun s n q hready hqp hshake => ?handshake, fun s n q hready hqp hst hshake => ?packet,
    fun s n q hready hqp hst t m port path q1 hcached hblocked hdue hnext hcredit hpaced hfirst hseq hprobes hhop => ?probe⟩
  case handshake => exact congrArg Host.Outcome.next (State.transmit_handshake hready hqp hshake)
  case packet =>
    refine ⟨fun hcached _ => congrArg Host.Outcome.next ?fetches, fun hcached hctl => congrArg Host.Outcome.next ?control,
      fun hcached hctl hnext => congrArg Host.Outcome.next ?blocked, fun hcached hctl hreleased hfirst => ?data,
      fun k m hhop hmsg hretry => State.sendAgain_last hhop hmsg hretry⟩
    case fetches => exact State.transmit_fetches hready hqp hst hshake hcached
    case control => exact State.transmit_control hready hqp hst hshake hcached hctl
    case blocked => exact State.transmit_blocked hready hqp hst hshake hcached hctl hnext
    case data =>
      have hagain {k : TxPkt} (hlost : q.lostPkt s.time = some k) : s.transmit n = s.sendAgain q k :=
        State.transmit_again hready hqp hst hshake hcached hctl hreleased hfirst hlost
      have hfresh {m : TxMsg} (hlost : q.lostPkt s.time = none) (hnext : q.nextMsg = some m) : s.transmit n = s.sendFresh q m :=
        State.transmit_fresh hready hqp hst hshake hcached hctl hreleased hfirst hlost hnext
      exact ⟨fun k hlost => congrArg Host.Outcome.next (hagain hlost),
        fun k m port path q1 hlost hhop hmsg hretry =>
          congrArg Host.Outcome.next ((hagain hlost).trans (State.sendAgain_goes hhop hmsg hretry)),
        fun m hlost hnext => congrArg Host.Outcome.next (hfresh hlost hnext),
        fun m port path q1 hlost hnext hseq hprobes hhop =>
          congrArg Host.Outcome.next ((hfresh hlost hnext).trans (State.sendFresh_goes hseq hprobes hhop))⟩
  case probe =>
    exact congrArg Host.Outcome.next
      (State.probe_goes hready hqp hst hcached hblocked hdue hnext hcredit hpaced hfirst hseq hprobes hhop)

end Sys2Proof.Machine

/-! # Timers of a queue pair, contexts that arrive, ports (R235, R243 to R248, R254 to R256, R283) -/

namespace Sys2Proof.Machine
open Sys2Proof

/-! ## Timers of the sender and of the receiver (R235, R243, R244, R246, R248) -/

/-- PATH_SUSPECT_EXPIRY clears a suspicion of its path whose time has passed (R235). -/
theorem State.pathClear_ready {s : State} (hready : s.ready = true) (n h : Nat) :
    s.pathClear n h = s.updQp n (fun q => { q with tx := { q.tx with
      suspects := q.tx.suspects.filter (fun p => p.1 != h || decide (s.time < p.2)) } }) := by
  simp [State.pathClear, hready]

section
variable {s : State} {n : Nat} {q : Qp} (hready : s.ready = true) (hqp : s.qp? n = some q)
include hready hqp

/-- A packet whose RTO has passed is marked lost, and its QP backs off and falls to RATE_MIN; one that has been sent RETRY_LIMIT
times ends the QP. -/
theorem State.rtoExpiry_due {seq : Nat} {k : TxPkt} (hpkt : q.tx.unacked.find? (fun v => v.seq == seq) = some k)
    (hlost : k.lost = false) (hdue : k.sentAt + s.rto q ≤ s.time) :
    s.rtoExpiry n seq =
      if s.rd Reg.qpcRetryLimit ≤ k.sends then (s.bump Reg.qpcRtoExpiries).qpEnd n .error 0x0409
      else (s.bump Reg.qpcRtoExpiries).updQp n (fun x => { x with tx := { x.tx with
        unacked := updIf x.tx.unacked (fun v => v.seq == seq) (fun v => { v with lost := true, lateAt := some s.time })
        backoff := x.tx.backoff + 1
        rate := rateMin } }) := by
  simp [State.rtoExpiry, hqp, hpkt, hready, hlost, hdue.not_gt]

/-- Two microseconds after an arrival that no ACK has answered, an ACK of it goes. -/
theorem State.ackTimer_due {t : Nat} (hfirst : q.rx.firstUnacked = some t) (hdue : t + 2700 ≤ s.time)
    (hst : q.st = .rts ∨ q.st = .draining) (hwaits : q.ackWaits = false) :
    s.ackTimer n = (s.sendControl n (.ack q.rx.echo q.rx.echoAt)).updQp n (fun q =>
      { q with rx := { q.rx with sinceAck := 0, firstUnacked := none } }) := by
  simp [State.ackTimer, State.sendAck, hqp, hready, hfirst, hdue, Qp.open_of_st hst, hwaits]

theorem State.drainLate_due (hst : q.st = .draining) (hdue : q.drainAt + 13500000 ≤ s.time) :
    s.drainLate n = s.qpEnd n .closed 0 := by
  simp [State.drainLate, hqp, hready, hst, hdue]

/-! ## Contexts that arrive (R254 to R256) -/

section
variable {t : Nat} (hfetch : q.fetchAt = some t)
include hfetch

/-- A context whose tag fails, or whose count is not the table's, is not authentic, and the QP ends. -/
theorem State.fetched_unauthentic {ok : Bool} {c : Nat} (hdma : s.dmaOk 0 = true)
    (hbad : ok = false ∨ c ≠ Sparse.get 0 s.evictions n) : s.fetched n ok c = s.qpEnd n .error 0x0406 := by
  rcases hbad with h | h <;> simp [State.fetched, hqp, hready, hfetch, hdma, h]

/-- An authentic context is installed, and the packets parked for it are served in their order. -/
theorem State.fetched_authentic (hdma : s.dmaOk 0 = true) (hroom : (s.qps.filter (fun q => q.cached)).length < cacheMax) :
    s.fetched n true (Sparse.get 0 s.evictions n) = q.parked.foldl (fun s p => s.checked n p)
      (s.updQp n (fun q => { q with cached := true, fetchAt := none, parked := [], lastUse := s.time })) := by
  simp [State.fetched, hqp, hready, hfetch, hdma, State.cacheRoom_free hroom]

/-- A fetch that takes too long is given up, and what was parked for it is dropped and counted. -/
theorem State.fetchLate_due (hdue : t + s.rd Reg.qpcFetchTimeout < s.time) :
    let s2 := s.updQp n (fun q => { q with fetchAt := none, parked := [] })
    s.fetchLate n = if q.parked.isEmpty then s2 else s2.dropCtx q q.parked.length := by
  simp [State.fetchLate, hqp, hready, hfetch, hdue]

end
end

/-! ## Ports (R235, R283) -/

section
variable {s : State} {port : Nat} (hrun : s.portsRun = true) (hport : port < s.nports)
include hrun hport

theorem State.portDown_up (hup : s.rdb Reg.portUp port = true) :
    s.portDown port = ((List.range 64).filter (fun b => bit (s.rd Reg.qpcBundle 0 b) port)).foldl (fun s b => s.bundleDown b)
      (((((s.wr Reg.portUp 0 port).wr Reg.portAnDone 0 port).bump Reg.portLinkDowns port).relock port).raise 0 0x0410 2 port) := by
  simp [State.portDown, hrun, hport, hup]

theorem State.portUp_down (hdown : s.rdb Reg.portUp port = false) (hready : (s.linkUp port).ready = true) :
    s.portUp port = (s.linkUp port).raise 0 0x0411 2 port := by
  simp [State.portUp, hrun, hport, hdown, hready]

end

/-- Settles O40: each timer acts once it is due, by the lemma that says what it does; the retry limit picks RTO_EXPIRY's branch. -/
theorem queuePairTimers : Obligations.QueuePairTimers := by
  unfold Obligations.QueuePairTimers
  intro s n q hready hqp s1
  refine ⟨fun k hpkt hlost hdue => ?rto, fun h => congrArg _ (State.pathClear_ready hready n h),
    fun t hfirst hdue hst hwaits => congrArg _ (State.ackTimer_due hready hqp hfirst hdue hst hwaits),
    fun hst hdue => congrArg _ (State.drainLate_due hready hqp hst hdue),
    fun t ok c hfetch hdma hbad => congrArg _ (State.fetched_unauthentic hready hqp hfetch hdma hbad),
    fun t hfetch hdma hroom => congrArg _ (State.fetched_authentic hready hqp hfetch hdma hroom),
    fun t hfetch hdue => congrArg _ (State.fetchLate_due hready hqp hfetch hdue), fun port hrun hport => ?ports⟩
  case rto =>
    have hexpiry := State.rtoExpiry_due hready hqp hpkt hlost hdue
    exact ⟨fun hlast => congrArg _ (hexpiry.trans (if_pos hlast)),
      fun hleft => congrArg _ (hexpiry.trans (if_neg hleft.not_ge))⟩
  case ports =>
    exact ⟨fun hup => congrArg _ (State.portDown_up hrun hport hup),
      fun hdown hlink => congrArg _ (State.portUp_down hrun hport hdown hlink)⟩

end Sys2Proof.Machine

/-! # Lock counters, windows, triggered work and the host's side (R260 to R285, R389) -/

namespace Sys2Proof.Machine
open Sys2Proof

/-! ## Lock counters (R260, R261) -/

section
variable {s : State} {f c : Nat}

theorem State.ctrDev_of_lt (h : c < s.rd Reg.fnCtrCount f) : s.ctrDev f c = some (s.rd Reg.fnCtrBase f + c) := if_pos h

theorem State.ctrDev_of_le (h : s.rd Reg.fnCtrCount f ≤ c) : s.ctrDev f c = none := if_neg h.not_gt

theorem State.ctrNote_outside (h : s.ctrDev f c = none) (g : CtrCyc → CtrCyc) : s.ctrNote f c g = s := by
  simp [State.ctrNote, h]

theorem State.ctrPut_outside (h : s.ctrDev f c = none) (v : Nat) : s.ctrPut f c v = s := by
  simp [State.ctrPut, h]

/-- A counter outside the set takes no addition. -/
theorem State.ctrAdd_outside (h : s.ctrDev f c = none) (v : Nat) : s.ctrAdd f c v = s := by
  rw [State.ctrAdd, State.ctrNote_outside h, State.ctrPut_outside h]

variable {d : Nat} (hdev : s.ctrDev f c = some d)
include hdev

theorem State.ctrGet_of_dev : s.ctrGet f c = Sparse.get 0 s.ctrs d := by simp [State.ctrGet, hdev]

/-- The device counter of a counter of the set takes a value. -/
theorem State.ctrPut_of_dev (v : Nat) : s.ctrPut f c v = { s with ctrs := Sparse.set 0 s.ctrs d v } := by
  simp [State.ctrPut, hdev]

theorem State.ctrNote_of_dev (g : CtrCyc → CtrCyc) :
    s.ctrNote f c g = { s with ctrCyc := g (s.ctrCycle d) :: s.ctrCyc.filter (fun x => x.dev != d) } := by
  simp [State.ctrNote, hdev]

/-- An addition reaches one device counter, and notes itself for the rest of the cycle. -/
theorem State.ctrAdd_of_dev (v : Nat) : s.ctrAdd f c v = { s with
    ctrs := Sparse.set 0 s.ctrs d (min (s.ctrGet f c + v) (2 ^ 64 - 1))
    ctrCyc := { s.ctrCycle d with add := (s.ctrCycle d).add + v } :: s.ctrCyc.filter (fun x => x.dev != d) } := by
  rw [State.ctrAdd, State.ctrNote_of_dev hdev, State.ctrPut_of_dev (d := d)]
  exact hdev

/-- A write of a counter that nothing else has reached in this cycle sets it. -/
theorem State.ctrWrite_ctrs_of_dev {v : Nat} (hquiet : s.ctrCyc = []) (hv : v < 2 ^ 64) :
    (s.ctrWrite f c v).ctrs = Sparse.set 0 s.ctrs d v := by
  have hnote := State.ctrNote_of_dev hdev (fun x => { x with base := v })
  have hdev' : (s.ctrNote f c (fun x => { x with base := v })).ctrDev f c = some d := hnote ▸ hdev
  have hval : ((s.ctrNote f c (fun x => { x with base := v })).ctrCycle d).val = v := by
    rw [hnote]
    simp only [State.ctrCycle, CtrCyc.val, hquiet, List.find?_nil, List.find?_cons, Option.getD_none, Option.getD_some,
      beq_self_eq_true]
    omega
  simp only [State.ctrWrite, State.ctrSettle, hdev', hval, State.ctrPut_of_dev hdev']
  rw [hnote]

end

/-- Settles O19: an addition sets one key of the sparse table of device counters, which reads back there and nowhere else. -/
theorem counterAdd : Obligations.CounterAdd := by
  unfold Obligations.CounterAdd
  intro s f c v hwf
  obtain ⟨-, -, hctrs, -⟩ := State.tablesWf_iff.1 hwf
  refine ⟨fun hin => ?inSet, fun hout => State.ctrAdd_outside (State.ctrDev_of_le hout) v⟩
  case inSet =>
    have hdev := State.ctrDev_of_lt hin
    rw [State.ctrAdd_of_dev hdev]
    exact ⟨(State.ctrGet_of_dev (by exact hdev)).trans (Sparse.get_set_self 0 _ _ _ hctrs),
      fun d hd => Sparse.get_set_ne 0 0 _ _ d _ hd⟩

/-! ## The two ways a command comes (R285, R384) -/

section
variable {s : State} {f op : Nat}

/-- Before ATTACH a command register answers 0x0A1A (R401). -/
theorem State.xrecord_unattached (hup : s.funcUp f = true) (hatt : s.rdb Reg.attAttached f = false)
    (body : Bytes → State → (Nat × Nat) × State) : s.xrecord f .reg op body = s.wr Reg.fnXcode 0x0A1A f := by
  simp [State.xrecord, State.funcCmd_up hup, hatt]

/-- A command with a record completes in XCODE and XRESULT. -/
theorem State.xrecord_done (hup : s.funcUp f = true) (hatt : s.rdb Reg.attAttached f = true) {code result : Nat} {t : State}
    {body : Bytes → State → (Nat × Nat) × State} (hbody : body (toLe 64 (s.rd Reg.fnXdesc f)) s = ((code, result), t)) :
    s.xrecord f .reg op body = (t.wr Reg.fnXcode code f).wr Reg.fnXresult result f := by
  rw [State.xrecord_reg s f op body hup hatt, hbody]

/-- A command with an argument completes in XCODE, with 0 in XRESULT. -/
theorem State.xarg_done (hup : s.funcUp f = true) (hatt : s.rdb Reg.attAttached f = true) {code : Nat} {t : State}
    {body : Nat → State → Nat × State} (hbody : body (s.rd Reg.fnXarg f) s = (code, t)) :
    s.xarg f .reg op body = (t.wr Reg.fnXcode code f).wr Reg.fnXresult 0 f := by
  simp [State.xarg, State.funcCmd_up hup, hatt, hbody]

variable {n : Nat} {desc : Bytes} (hlen : desc.length = 64) (htakes : s.ringTakes f n (leNat desc) = true)
  (hwf : jobWf (leNat desc) = true) (hop : jOp (leNat desc) = op)
include hlen htakes hwf hop

/-- The same command as a descriptor, with its record of 64 bytes. -/
theorem State.xrecord_ring (body : Bytes → State → (Nat × Nat) × State) {b : Bytes} (hrec : jRecLen (leNat desc) = 64)
    (hb : b.length = 64) : s.xrecord f (.ring n desc (some b)) op body =
      (body b (s.takeJob f n)).2.jobDone f n (leNat desc) (body b (s.takeJob f n)).1.1 (body b (s.takeJob f n)).1.2 :=
  State.job_runs s f n op desc b (some 64) (fun _ b s => body b s) hlen hop htakes hwf (hb.trans hrec.symm) (by simp [hrec])

/-- The same command as a descriptor with its argument in ARG0. -/
theorem State.xarg_ring (body : Nat → State → Nat × State) (r : Option Bytes) (hrec : jRecLen (leNat desc) = 0) :
    s.xarg f (.ring n desc r) op body = (body (jArg0 (leNat desc)) (s.takeJob f n)).2.jobDone f n (leNat desc)
      (body (jArg0 (leNat desc)) (s.takeJob f n)).1 0 :=
  State.job0_runs hlen hop htakes _ hwf hrec

end

/-! ## Windows (R264, R270) and requests posted or cancelled (R276) -/

/-- The window that a record of OPEN_WIN opens in entry `i`. -/
def State.windowOf (s : State) (f i : Nat) (b : Bytes) : Window :=
  { index := i, gen := Sparse.get 0 s.winGens i + 1, func := f, tileKind := leAt b 0 1 == 1, qpn := leAt b 4 4
    base := leAt b 8 3, nt := leAt b 12 3, ctr := leAt b 16 2, addend := leAt b 24 8, round := leAt b 32 5 }

/-- The triggered work request that a record of POST_TWR posts under identifier `i`. -/
def State.twrOf (s : State) (f i : Nat) (b : Bytes) : Twr :=
  { id := i, func := f, order := s.twrOrder, op := leAt b 0 1, roundDone := bit (leAt b 1 1) 0, ctr := leAt b 2 2
    qpn := leAt b 4 4, threshold := leAt b 8 8, tile := leAt b 16 3, nt := leAt b 20 3, stride := leAt b 24 2
    doneCtr := leAt b 26 2, handle := leAt b 28 4, arg := leAt b 32 8, round := leAt b 40 5, len := leAt b 48 8 }

section
variable {s : State} {f : Nat} {b : Bytes}

theorem State.openWindow_opens {i : Nat} (hok : s.windowBad f b = false) (hfree : s.freeWindow = some i) :
    s.openWindow f b = ((0, (s.windowOf f i b).handle), { s with
      windows := s.windows ++ [s.windowOf f i b], winGens := Sparse.set 0 s.winGens i (s.windowOf f i b).gen }) := by
  unfold State.openWindow
  rw [hok, hfree]
  rfl

theorem State.openWindow_refused (hbad : s.windowBad f b = true) :
    s.openWindow f b = ((0x040D, 0), s.raise f 0x040D) := by
  unfold State.openWindow
  rw [hbad]

theorem State.revokeWindow_closes {w : Window} {h : Nat}
    (hw : s.windows.find? (fun w => w.func == f && w.handle == h) = some w) : s.revokeWindow f h = (0, s.closeWindow w) := by
  rw [State.revokeWindow, hw]

theorem State.revokeWindow_unknown {h : Nat} (hw : s.windows.find? (fun w => w.func == f && w.handle == h) = none) :
    s.revokeWindow f h = (0x0402, s) := by
  rw [State.revokeWindow, hw]

theorem State.postTwr_posts {i : Nat} (hok : s.twrBad f b = false)
    (hfree : (List.range twrMax).find? (fun i => !s.twrs.any (fun w => w.id == i)) = some i) :
    s.postTwr f b = ((0, i), { s with twrs := s.twrs ++ [s.twrOf f i b], twrOrder := s.twrOrder + 1 }) := by
  rw [State.postTwr, hok, hfree]
  rfl

theorem State.postTwr_refused (hbad : s.twrBad f b = true) : s.postTwr f b = ((0x040E, 0), s.raise f 0x040E) := by
  rw [State.postTwr, hbad]

theorem State.cancelTwr_pending {id : Nat} (h : s.twrs.any (fun w => w.id == id && w.func == f && w.due.isNone) = true) :
    s.cancelTwr f id = (0, { s with twrs := s.twrs.filter (fun w => w.id != id) }) := if_pos h

theorem State.cancelTwr_unknown {id : Nat} (h : s.twrs.any (fun w => w.id == id && w.func == f && w.due.isNone) = false) :
    s.cancelTwr f id = (0x040E, s.raise f 0x040E) := if_neg (by rw [h]; decide)

end

/-! ## Requests that fall due and fire (R277 to R280) -/

section
variable {s : State} {w : Twr} (honly : s.twrs = [w])
include honly

/-- Short of its threshold a request stays pending. -/
theorem State.armTwrs_below (h : s.ctrGet w.func w.ctr < w.threshold) : s.armTwrs = s := by
  simp [State.armTwrs, honly, h, sortBy]

/-- A request whose counter has reached its threshold is due. -/
theorem State.armTwrs_reached (hpending : w.due = none) (h : w.threshold ≤ s.ctrGet w.func w.ctr) :
    s.armTwrs = { s with twrs := [{ w with due := some s.twrDue }], twrDue := s.twrDue + 1 } := by
  simp [State.armTwrs, honly, hpending, h, sortBy, sortBy.insertBy, State.updTwr, updIf]

end

/-- A request that a fired engine takes up: marked, with the messages it has still to send. -/
def Twr.taken (w : Twr) : Twr := { w with fired := true, left := if w.op = 1 then w.nt else 1 }

section
variable {s : State} {id k : Nat} {w : Twr} (hfind : s.twrs.find? (fun w => w.id == id) = some w)
include hfind

theorem State.twrFire_pending (data : Option Bytes) (hdue : w.due = none) : s.twrFire id data = s := by
  rw [State.twrFire, hfind]
  simp only [hdue]

variable (hready : s.ready = true) (hdue : w.due = some k) (hfirst : s.twrsDue k = [w])
include hready hdue hfirst

/-- A request that alone is due fires, and its engine goes on. -/
theorem State.twrFire_due (data : Option Bytes) : s.twrFire id data = (s.fireOne w).twrOn id data := by
  rw [State.twrFire, hfind]
  simp only [hdue, hready, hfirst, Bool.not_true, Bool.false_eq_true, if_false, List.foldl_cons, List.foldl_nil]

/-- COUNTER adds to its target and is gone (R279). -/
theorem State.twrFire_counter (data : Option Bytes) (hop : w.op = 3) : s.twrFire id data =
    { s.ctrAdd w.func w.doneCtr w.arg with twrs := s.twrs.filter (fun v => v.id != w.id) } := by
  have hid : w.id = id := by simpa using List.find?_some hfind
  have hgone : (s.twrs.filter (fun v => v.id != w.id)).find? (fun v => v.id == id) = none := by
    simp [List.find?_eq_none, hid]
  have hfires : s.fireOne w =
      { s.ctrAdd w.func w.doneCtr w.arg with twrs := s.twrs.filter (fun v => v.id != w.id) } := if_pos hop
  rw [State.twrFire_due hfind hready hdue hfirst, hfires, State.twrOn, hgone]

variable (hbehind : (s.updTwr id Twr.taken).twrBehind w.taken = false)
include hbehind

/-- A FORWARD or SEND goes to its engine, which takes its first message up when none before it on the QP waits. -/
theorem State.twrFire_engine (data : Option Bytes) (hop : w.op ≠ 3) : s.twrFire id data =
    if w.op = 1 then (s.updTwr id Twr.taken).forward w.taken else (s.updTwr id Twr.taken).twrSend w.taken data := by
  have hid : w.id = id := by simpa using List.find?_some hfind
  have hfires : s.fireOne w = s.updTwr id Twr.taken := hid ▸ if_neg hop
  have htaken : (s.updTwr id Twr.taken).twrs.find? (fun v => v.id == id) = some w.taken := by
    refine (find?_updIf s.twrs (fun v => v.id == id) Twr.taken (fun _ hv => hv)).trans ?_
    rw [hfind]
    rfl
  rw [State.twrFire_due hfind hready hdue hfirst, hfires, State.twrOn, htaken]
  simp only [hbehind, Bool.false_eq_true, if_false]
  rfl

end

/-! ## What an engine sends (R278, R279) -/

section
variable {s : State} {w : Twr}

/-- SEND posts the bytes it has read. -/
theorem State.twrSend_posts {b : Bytes} (hdma : s.dmaOk w.func = true) (hleft : w.left ≠ 0) (hb : b.length = w.len) :
    s.twrSend w (some b) =
      (s.post w.qpn (.twrSend w.id) b).updTwr w.id (fun w => { w with left := 0, unacked := 1 }) := by
  simp [State.twrSend, hdma, hleft, ← hb]

/-- A SEND that could read nothing posts bytes of 0xFF in its message's length, and the request fails (R280). -/
theorem State.twrSend_unread (hdma : s.dmaOk w.func = true) (hleft : w.left ≠ 0) (hlen : 0 < w.len) :
    s.twrSend w none = (s.twrFail w.id 0x0A15).post w.qpn .nobody (List.replicate w.len 0xFF) := by
  simp [State.twrSend, hdma, hleft, hlen.ne]

/-- FORWARD reads its first tile and sends it as a record (R278). -/
theorem State.forward_first {x : Round} {g : TileTag} {bytes : Bytes} {s2 : State}
    (hround : s.round? w.func w.round = some x) (hhere : s.mirroredHere x = false) (hdense : x.cfg.sparse = false)
    (hleft : w.left = w.nt) (hnt : w.nt ≠ 0) (hready : s.fwdReady w w.tile = true)
    (hread : s.drainTile w.tile = (true, g, bytes, s2)) : s.forward w =
      (s2.settleTiles.post w.qpn (.fwd w.id) (toLe 32 g.toNat ++ bytes) true w.handle w.arg).updTwr w.id
        (fun w => { w with left := w.left - 1, unacked := w.unacked + 1 }) := by
  have hlist : (some x).filter (fun x => x.cfg.sparse) = none := Option.filter_eq_none_iff.2 (by simp [hdense])
  simp [State.forward, hround, hhere, hlist, hleft, hnt, hready, hread]

end

/-- Settles O41: a command is the branch of its body that its checks select, in whichever way it comes; a request falls due by
`armTwrs`, and TWR_FIRE hands it to the engine of its OP. -/
theorem windowsAndTriggeredWork : Obligations.WindowsAndTriggeredWork := by
  unfold Obligations.WindowsAndTriggeredWork
  refine ⟨?registers, ?descriptors, ?due, ?fire⟩
  case registers =>
    intro s f v hup b a fin
    refine ⟨congrArg _ (State.funcCmd_up hup _ _ _), fun d hdev hquiet => State.ctrWrite_ctrs_of_dev hdev hquiet v.isLt,
      fun hatt => ⟨congrArg _ (State.xrecord_unattached hup hatt _), congrArg _ (State.xrecord_unattached hup hatt _)⟩,
      fun hatt => ⟨?opens, ?noOpen, ?revokes, ?noRevoke, ?posts, ?noPost, ?cancels, ?noCancel⟩⟩
    case opens => exact fun i hok hfree => congrArg _ (State.xrecord_done hup hatt (State.openWindow_opens hok hfree))
    case noOpen => exact fun hbad => congrArg _ (State.xrecord_done hup hatt (State.openWindow_refused hbad))
    case revokes => exact fun w hw => congrArg _ (State.xarg_done hup hatt (State.revokeWindow_closes hw))
    case noRevoke => exact fun hw => congrArg _ (State.xarg_done hup hatt (State.revokeWindow_unknown hw))
    case posts => exact fun i hok hfree => congrArg _ (State.xrecord_done hup hatt (State.postTwr_posts hok hfree))
    case noPost => exact fun hbad => congrArg _ (State.xrecord_done hup hatt (State.postTwr_refused hbad))
    case cancels => exact fun h => congrArg _ (State.xarg_done hup hatt (State.cancelTwr_pending h))
    case noCancel => exact fun h => congrArg _ (State.xarg_done hup hatt (State.cancelTwr_unknown h))
  case descriptors =>
    intro s f n desc b r hlen htakes hwf d s1
    exact ⟨fun hrec hb =>
        ⟨fun hop => congrArg _ (State.xrecord_ring hlen htakes hwf hop (fun b s => s.openWindow f b) hrec hb),
          fun hop => congrArg _ (State.xrecord_ring hlen htakes hwf hop (fun b s => s.postTwr f b) hrec hb)⟩,
      fun hrec =>
        ⟨fun hop => congrArg _ (State.xarg_ring hlen htakes hwf hop (fun a s => s.revokeWindow f a) r hrec),
          fun hop => congrArg _ (State.xarg_ring hlen htakes hwf hop (fun a s => s.cancelTwr f a) r hrec)⟩⟩
  case due => exact fun s w honly hpending => ⟨State.armTwrs_below honly, State.armTwrs_reached honly hpending⟩
  case fire =>
    intro s id w data hready hfind
    obtain rfl : w.id = id := by simpa using List.find?_some hfind
    refine ⟨fun hdue => congrArg _ (State.twrFire_pending hfind data hdue), fun k hdue hfirst => ?_⟩
    intro w1 s1
    refine ⟨fun hop => congrArg _ (State.twrFire_counter hfind hready hdue hfirst data hop), ?send, ?unread, ?forward⟩
    case send =>
      intro b hop hbehind hdma hb
      have hleft : w1.left ≠ 0 := by simp [w1, hop]
      refine congrArg _ ((State.twrFire_engine hfind hready hdue hfirst hbehind _ (by omega)).trans ?_)
      rw [if_neg (by omega)]
      exact State.twrSend_posts (w := w1) hdma hleft hb
    case unread =>
      intro hop hbehind hdma hlen
      have hleft : w1.left ≠ 0 := by simp [w1, hop]
      refine congrArg _ ((State.twrFire_engine hfind hready hdue hfirst hbehind _ (by omega)).trans ?_)
      rw [if_neg (by omega)]
      exact State.twrSend_unread (w := w1) hdma hleft hlen
    case forward =>
      intro x g bytes s2 hop hbehind hround hhere hdense hnt htile hread
      have hleft : w1.left = w.nt := if_pos hop
      refine congrArg _ ((State.twrFire_engine hfind hready hdue hfirst hbehind _ (by omega)).trans ?_)
      rw [if_pos hop]
      exact State.forward_first (w := w1) hround hhere hdense hleft hnt htile hread

/-! ## The function reset (R389) -/

/-- A device in service whose VF1 rotates its memory key (R357): one page of the old generation is left, page 0 of its far tile
0x800000, of which a pool tile holds a changed copy (R148). -/
def rotationAtLastPage : State :=
  let s : State := { State.reset with
    pins := { perst := false, stopped := false, dataPath := true }
    funcs := updAt State.reset.funcs 1 (fun x => { x with exists_ := true, memKey0 := some 5, memKey1 := some 7 })
    tags := [(0x800000, { tenant := 1, far := true, keygen := 0xFFFE })]
    pages := [{ func := 1, tile := 0x800000, page := 0, slot := 0x100, pos := 0, dirty := true, lastUse := 0 }] }
  ((((s.wr Reg.bootStage 6).wr Reg.fnMemkey 1 1).wr Reg.fnCurgen 1 1).wr Reg.fnRotState 2 1).wr Reg.fnOldPages 1 1

/-- The reset writes the page back under the new key; with it the rotation ends, and the old key is zeroised (R357, R389). -/
theorem startReset_rotationAtLastPage :
    ((rotationAtLastPage.startReset 1 0x0A16 false).fn 1).memKey0 = none := by decide +kernel

/-- Refutes O50: a function reset keeps no old memory key whose last page it writes back. Step 3 of R389 writes a changed
directory page back (R71), which takes OLD_PAGES to 0, and R357 then zeroises the old key in the middle of the reset. -/
theorem not_hostSide : ¬ Obligations.HostSide := by
  unfold Obligations.HostSide
  intro ⟨_, hreset⟩
  have hkept := hreset rotationAtLastPage 1 0x0A16 false (by decide +kernel) (by decide)
  obtain ⟨-, -, -, -, -, -, -, -, -, hmemKey0, -⟩ := hkept
  rw [startReset_rotationAtLastPage] at hmemKey0
  exact absurd hmemKey0 (by decide +kernel)

end Sys2Proof.Machine

/-! # Gates (R300) -/

namespace Sys2Proof.Machine
open Sys2Proof

section
variable {s : State} {j w : Nat} (hissue : s.issues j w = true) (hkey : wKey w = (8, 0, 0))
include hissue hkey

section
variable (huq : (s.spin j).uq = []) (hwait : (s.spin j).wait = .none)
include huq hwait

/-- The first arrival arms the gate. -/
theorem State.gate_arms (hgate : s.gate? (s.ops j w).f (tMod w) = none) :
    let s0 := s.updSpin j (fun x => { x with wait := .gate s.time, active := s.time })
    s.gate j = { s0 with gates := s0.gates ++
      [{ func := (s.ops j w).f, num := tMod w, time := (s.ops j w).sa, conflict := false, arrived := [j] }] } := by
  rw [State.ops_f] at hgate
  rw [State.gate, State.issue_eq hissue hkey]
  simp only [huq, hwait, hgate]
  rfl

/-- A later arrival joins, and marks a gate whose time is not its own. -/
theorem State.gate_joins {g : Gate} (hgate : s.gate? (s.ops j w).f (tMod w) = some g) (hnew : g.arrived.contains j = false) :
    let s0 := s.updSpin j (fun x => { x with wait := .gate s.time, active := s.time })
    let join (c : Bool) (u : State) : State :=
      { u with gates := updIf u.gates (fun x => x.func == (s.ops j w).f && x.num == tMod w)
                 (fun x => { x with conflict := x.conflict || c, arrived := x.arrived ++ [j] }) }
    s.gate j = if g.time ≠ (s.ops j w).sa ∧ !g.conflict then join true (s0.raiseOwn (s.ops j w).f 0x0A11) else join false s0 := by
  rw [State.ops_f] at hgate
  rw [State.gate, State.issue_eq hissue hkey]
  simp only [huq, hwait, hgate, hnew]
  rfl

end

/-- GATE_TIMEOUT of a gate that does not open in this cycle: the arrival is withdrawn (R300). -/
theorem State.gateTimeout_expired {since : Nat} {g : Gate} (hwait : (s.spin j).wait = .gate since)
    (hgate : s.gate? (s.ops j w).f (tMod w) = some g) (hshut : s.gateOpen g = false) (htimed : (s.ops j w).sb ≠ 0)
    (hpast : since + (s.ops j w).sb - 1 ≤ s.time) :
    s.gateTimeout j = State.syncDone
      { s with gates := updIf s.gates (fun x => x.func == (s.ops j w).f && x.num == tMod w)
                 (fun x => { x with arrived := x.arrived.erase j }) } j w 0x0A0E := by
  rw [State.ops_f] at hgate
  rw [State.gateTimeout, hwait]
  dsimp only
  rw [State.issue_eq hissue hkey]
  simp only [hgate, hshut, Bool.and_false, Bool.false_eq_true, if_false]
  exact if_pos ⟨htimed, hpast⟩

end

/-- GATE_RELEASE of a gate that is open: every spindle that arrived goes on, and a release after T is late (R300). -/
theorem State.gateRelease_open {s : State} {f n : Nat} {g : Gate} (hgate : s.gate? f n = some g) (hready : s.ready = true)
    (hopen : s.gateOpen g = true) :
    let u := (sortBy id g.arrived).foldl (fun s j => s.leaveGate j 0)
      { s with gates := s.gates.filter (fun x => !(x.func == f && x.num == n)) }
    s.gateRelease f n = if g.time < s.time then (u.raiseOwn f 0x0A10).bump Reg.gateLateCount else u := by
  rw [State.gateRelease, hgate]
  exact if_neg (by simp [hready, hopen])

/-- Settles O20: an arrival arms the gate or joins it, an open gate is released, and one that stays shut times out. -/
theorem gates : Obligations.Gates := by
  unfold Obligations.Gates
  intro s j w o n s0
  refine ⟨fun hissue hkey huq hwait hgate => ?arms, fun g hissue hkey huq hwait hgate hnew htime => ?joins,
    fun g hissue hkey huq hwait hgate hnew htime hfirst => ?conflicts, fun f m g hgate hready hopen => ?release,
    fun since g hwait hissue hkey hgate hshut htimed hpast => ?timeout⟩
  case arms => exact congrArg _ (State.gate_arms hissue hkey huq hwait hgate)
  case joins =>
    refine congrArg _ ((State.gate_joins hissue hkey huq hwait hgate hnew).trans ((if_neg fun h => h.1 htime).trans ?_))
    simp only [Bool.or_false]
    rfl
  case conflicts =>
    refine congrArg _ ((State.gate_joins hissue hkey huq hwait hgate hnew).trans ((if_pos ⟨htime, by simp [hfirst]⟩).trans ?_))
    simp only [Bool.or_true]
    rfl
  case release =>
    have hrelease := State.gateRelease_open hgate hready hopen
    exact ⟨fun hnow => congrArg _ (hrelease.trans (if_neg hnow.not_lt)),
      fun hlate => congrArg _ (hrelease.trans (if_pos hlate))⟩
  case timeout => exact congrArg _ (State.gateTimeout_expired hissue hkey hwait hgate hshut htimed hpast)

end Sys2Proof.Machine

/-! # The staircase at a parent (R61, R293, R294, R307) -/

namespace Sys2Proof.Machine
open Sys2Proof

/-! ## Cohort messages (R293) -/

theorem State.cohortMessage_unknown {s : State} {f n : Nat} {msg : Bytes} (hround : s.round? f (leAt msg 16 5) = none) :
    s.cohortMessage f n msg = s.raise f 0x010F := by
  rw [State.cohortMessage, hround]

/-- Round `x` takes the cohort message `msg` on QP `n` of function `f`: in time, from a child, and well formed. -/
def State.takesCohort (s : State) (f n : Nat) (x : Round) (msg : Bytes) : Prop :=
  (x.st = .open ∨ x.st = .guard ∨ x.st = .closed) ∧ x.stair.settled = false ∧ x.cfg.nch ≠ 0 ∧ s.stairQp f n = true ∧
    cohortMsgOk x msg = true

/-- The check of COHORT_MESSAGE passes just when the round takes the message. -/
theorem State.takesCohort_iff {s : State} {f n : Nat} {x : Round} {msg : Bytes} :
    ¬(!((x.st == .open || x.st == .guard || x.st == .closed) && !x.stair.settled) || x.cfg.nch = 0 || !s.stairQp f n
      || !cohortMsgOk x msg) = true ↔ s.takesCohort f n x msg := by
  simp [State.takesCohort, and_assoc, or_iff_not_imp_left]

section
variable {s : State} {f n : Nat} {msg : Bytes} {x : Round} (hround : s.round? f (leAt msg 16 5) = some x)
include hround

theorem State.cohortMessage_refused (h : ¬s.takesCohort f n x msg) : s.cohortMessage f n msg = s.raise f 0x010F 4 x.cfg.round := by
  rw [State.cohortMessage, hround]
  exact if_pos (not_not.1 (mt State.takesCohort_iff.1 h))

/-- A cohort message that is taken abandons the round when a slot of it is merged already; else the child and its slots are
merged. -/
theorem State.cohortMessage_taken (h : s.takesCohort f n x msg) :
    let slots := slotsOf x.cfg.slots (msg.drop 64)
    s.cohortMessage f n msg =
      if slots.any (fun k => x.stair.merged.contains k) then s.abandon f x.cfg.round 0x011B
      else (s.updRound f x.cfg.round (fun x => { x with stair := { x.stair with
        children := x.stair.children ++ [leAt msg 8 2]
        mergedCount := x.stair.mergedCount + slots.length
        merged := x.stair.merged ++ slots } })).settleIfFull f x.cfg.round := by
  rw [State.cohortMessage, hround]
  exact if_neg (State.takesCohort_iff.2 h)

end

/-! ## CHILD_WAIT and the partial digest (R294, R307) -/

section
variable {s : State} {f r : Nat} {x : Round} (hready : s.ready = true) (hround : s.round? f r = some x) (hst : x.st = .closed)
include hready hround hst

theorem State.childWait_past (hstair : x.cfg.isStair = true) (hsettled : x.stair.settled = false)
    (hpast : x.deadline + (x.cfg.stair.map (·.childWait)).getD 0 ≤ s.time) :
    s.childWait f r =
      (s.updRound f r (fun x => { x with stair := { x.stair with settled := true } })).stairCheck f r := by
  rw [State.childWait, hround]
  exact if_pos (by simp [hready, hst, hstair, hsettled, hpast])

/-- The partial digest of a round that is due for it, once every tile is verified. -/
theorem State.partialDigest_verified {s1 : State} (hdevice : s.plied = true) (hplied : x.ply.plied = true) (htop : x.top = false)
    (hpassed : x.stair.passed = true) (hdigest : x.ply.digest = none) (hsparse : x.cfg.sparse = false ∨ x.sparse.canonical = true)
    (hverify : s.verifyAll 4 x.acc = (true, s1)) :
    let leaves := x.acc.mapIdx (fun i t => (i, s1.accLeaf i t))
    s.partialDigest f r = (s1.updRound f r (fun x => { x with gate := { x.gate with accLeaves := leaves } })).plyFormed f r
      (rootOf (leaves ++ x.dirLeaf)) := by
  have hcanonical : (x.cfg.sparse && !x.sparse.canonical) = false := by rcases hsparse with h | h <;> simp [h]
  rw [State.partialDigest, hround]
  refine (if_neg (by simp [hready, hst, hdevice, hplied, htop, hpassed, hdigest, hcanonical])).trans ?_
  rw [hverify]
  rfl

end

/-- Settles O42: a cohort message is refused, abandons its round or is merged; a round due to settle, or due for its partial
digest, passes the checks of its timer. -/
theorem staircaseParent : Obligations.StaircaseParent := by
  unfold Obligations.StaircaseParent
  refine ⟨fun s f n msg q x hready hqp hfunc => ?cohort, fun s0 f r x => ?childWait,
    fun s s1 f r x hready hround hst hdevice hplied htop hpassed hdigest hsparse hverify => ?digest⟩
  case cohort =>
    have hown : (s.ready && (s.qp? n).any (fun q => q.func == f)) = true := by simp [hready, hqp, hfunc]
    have hexec : exec (.cohortMessage f n msg) s = .next (s.cohortMessage f n msg) := congrArg _ (if_pos hown)
    rw [hexec]
    refine ⟨fun hround => congrArg _ (State.cohortMessage_unknown hround), fun hround => ?_⟩
    intro taken slots
    exact ⟨fun h => congrArg _ (State.cohortMessage_refused hround h),
      fun h hmerged => congrArg _ ((State.cohortMessage_taken hround h).trans (if_pos hmerged)),
      fun h hnew => congrArg _ ((State.cohortMessage_taken hround h).trans (if_neg (Bool.eq_false_iff.1 hnew)))⟩
  case childWait =>
    intro s hready hround hst hstair hsettled hpast
    exact congrArg _ (State.childWait_past hready hround hst hstair hsettled hpast)
  case digest =>
    exact congrArg _ (State.partialDigest_verified hready hround hst hdevice hplied htop hpassed hdigest hsparse hverify)

end Sys2Proof.Machine

/-! # Entropy sources, the DRBG and the service of words (R312 to R325) -/

namespace Sys2Proof.Machine
open Sys2Proof

section
variable {s : State} (hbus : s.busUp = true)
include hbus

/-! ## Sources and their tests (R312 to R315, R325) -/

section
variable {k : Nat}

theorem State.sourceSettled_due (hphase : (s.source k).phase = 1) (hpast : (s.source k).since + 675000 ≤ s.upTime) :
    s.sourceSettled k = s.updSource k (fun x => { x with phase := 2, since := s.upTime }) :=
  if_pos (by simp [hbus, hphase, settleT, hpast])

theorem State.startupDone_due (hphase : (s.source k).phase = 2)
    (hpast : (s.source k).since + 1024 * (s.source k).decim * 80 ≤ s.upTime) :
    s.startupDone k = (s.updSource k (fun x => { x with ok := true, phase := 3, fails := 0 })).collectIfOk :=
  if_pos (by simp [hbus, hphase, hpast])

variable (test : RngTest) (hon : (s.source k).disabled = false)
include hon

/-- A running source that fails a test starts again; a SEEDED generator drains (R325). -/
theorem State.healthFail_running (hphase : (s.source k).phase = 3) :
    let s1 := (s.failLog k test false).updRng (fun g => { g with collecting := false })
    let s2 := if s1.rd Reg.rngState = rngSeeded then
        ((s1.raise 0 0x0501).wr Reg.rngState rngDraining).updRng (fun g => { g with raised := [] })
      else s1
    s.healthFail k test = (s2.startSource k).haltIfDry := by
  rw [State.healthFail]
  refine (if_neg (by simp [hbus, hon, hphase])).trans ((if_pos hphase).trans ?_)
  rw [hphase]
  rfl

/-- A source that fails its start-up test starts again; at its third failure in a row it drops out (R315, R325). -/
theorem State.healthFail_startup (hphase : (s.source k).phase = 2) :
    let s1 := (s.failLog k test true).updRng (fun g => { g with collecting := false })
    let out := s1.updSource k (fun x => { x with disabled := true, ok := false, phase := 0, fails := 3 })
    s.healthFail k test = if (s.source k).fails + 1 < 3 then
        (s1.updSource k (fun x => { x with fails := x.fails + 1 })).startSource k
      else if out.enabled.length < 4 then out.goDead else out.collectIfOk := by
  rw [State.healthFail]
  refine (if_neg (by simp [hbus, hon, hphase])).trans ((if_neg (by simp [hphase])).trans ?_)
  rw [hphase]
  rfl

end

/-! ## Seeding, and the queue (R316 to R318) -/

/-- The DRBG is seeded once its collection is over. -/
theorem State.collectionDone_due (hcollecting : s.rng.collecting = true) (hpast : s.rng.collectAt + s.collectT ≤ s.upTime) :
    s.collectionDone = ((if s.rng.seeded then s.bump Reg.rngReseedCount else s).wr Reg.rngState rngSeeded).updRng (fun x =>
      { x with collecting := false, seeded := true, requestsSinceSeed := 0, seededAt := s.upTime, raised := []
               drbg := s.seedDrbg, collections := x.collections + 1 }) :=
  if_neg (by simp [hbus, hcollecting, hpast])

section
variable (hseeded : s.rd Reg.rngState = rngSeeded)
include hseeded

theorem State.reseedTimer_due (hidle : s.rng.collecting = false) (hok : s.sourcesOk = true)
    (hpast : s.rng.seededAt + s.rd Reg.rngReseedMs * 1350000 ≤ s.upTime) : s.reseedTimer = s.collect :=
  if_pos (by simp [hbus, hseeded, hidle, hok, hpast])

theorem State.generate_below (hroom : s.rng.queue.length < 448) :
    s.generate = s.updRng (fun x => { x with
      queue := x.queue ++ (blocksOf 8 64 (x.drbg.generate 32).1).map (fun b => BitVec.ofNat 64 (leNat b))
      drbg := (x.drbg.generate 32).2
      index := x.index + 64
      requestsSinceSeed := x.requestsSinceSeed + 1 }) :=
  if_neg (by simp [hbus, hseeded, refillBelow, hroom.not_ge])

end

omit hbus in
theorem State.generate_full (hfull : 448 ≤ s.rng.queue.length) : s.generate = s := if_pos (by simp [refillBelow, hfull])

/-! ## Words served, and software reads (R320, R321, R325) -/

/-- The queue's first word goes to the next request, which leaves the list when it has all its words. -/
theorem State.serveWord_next {i : Nat} {w : Word} {ws : List Word} {q : RngReq} (hserves : s.rngServes = true)
    (hnext : s.rng.next? = some i) (hqueue : s.rng.queue = w :: ws) (hreq : s.rng.reqs[i]? = some q) :
    let q1 := { q with got := q.got ++ [w] }
    s.serveWord = if q1.words ≤ q1.got.length then
        ((s.updRng (fun x => { x with queue := ws, reqs := x.reqs.eraseIdx i })).rngDone q1).haltIfDry
      else (s.updRng (fun x => { x with queue := ws, reqs := updAt x.reqs i (fun _ => q1) })).haltIfDry := by
  intro q1
  rw [State.serveWord, if_neg (by simp [hbus, hserves]), hnext, hqueue]
  dsimp only
  rw [hreq]
  by_cases hwhole : q1.words ≤ q1.got.length
  · simp only [q1, if_pos hwhole]
  · simp only [q1, if_neg hwhole]

omit hbus in
/-- With no word in the queue none is served. -/
theorem State.serveWord_dry (hqueue : s.rng.queue = []) : s.serveWord = s := by
  rw [State.serveWord, hqueue]
  split
  · rfl
  · cases s.rng.next? <;> rfl

/-- A read of WORD that a requester may make asks for one word, or gets the idle word in HALTED and DEAD. -/
theorem State.rngData_read {r : Req}
    (hreach : r = .nalam ∨ r = .cc ∨ (s.devAccess r = true ∧ s.outside r = false ∧ s.privileged r = true)) :
    s.rngData r 0xB00040 = if s.rd Reg.rngState = rngHalted ∨ s.rd Reg.rngState = rngDead then s.idleWord r
      else s.ask 4 (reqOrder r) 1 (.software r) := by
  obtain ⟨hresponds, hinside, hmay⟩ : (if (r == .nalam || r == .cc) = true then s.busUp else s.devAccess r) = true ∧
      s.outside r = false ∧ (!(r == .nalam || r == .cc) && !s.privileged r) = false := by
    rcases hreach with rfl | rfl | ⟨hdev, hin, hpriv⟩
    · exact ⟨hbus, rfl, rfl⟩
    · exact ⟨hbus, rfl, rfl⟩
    · exact ⟨by rw [hbus, hdev, ite_self], hin, by rw [hpriv, Bool.not_true, Bool.and_false]⟩
  rw [State.rngData]
  refine (if_neg (by simp only [hresponds]; decide)).trans ((if_neg (by simp [hinside])).trans (if_neg ?_))
  simp only [hmay, Bool.false_eq_true, not_false_eq_true]

end

/-- Settles O45: a source, the generator and the queue each take the branch that their phase, STATE and level select. -/
theorem randomNumbers : Obligations.RandomNumbers := by
  unfold Obligations.RandomNumbers
  refine ⟨fun s k test hbus => ?sources, fun s r i w ws q hbus => ?service⟩
  case sources =>
    intro x s1
    refine ⟨fun hphase hpast => ?settled, fun hphase hpast => ?started, fun hphase hon hseeded => ?drains,
      fun hphase hon hagain => ?again, fun hphase hon hthird => ?dropsOut, fun hcollecting hpast => ?seeded,
      fun hseeded hidle hok hpast => ?reseeds, fun hseeded hroom => ?generates, fun hseeded hfull => ?full⟩
      <;> refine congrArg Host.Outcome.next ?_
    case settled => exact State.sourceSettled_due hbus hphase hpast
    case started => exact State.startupDone_due hbus hphase hpast
    case drains =>
      rw [State.healthFail_running hbus test hon hphase, if_pos hseeded]
    case again => exact (State.healthFail_startup hbus test hon hphase).trans (if_pos hagain)
    case dropsOut => exact (State.healthFail_startup hbus test hon hphase).trans (if_neg hthird.not_gt)
    case seeded => exact State.collectionDone_due hbus hcollecting hpast
    case reseeds => exact State.reseedTimer_due hbus hseeded hidle hok hpast
    case generates => exact State.generate_below hbus hseeded hroom
    case full => exact State.generate_full hfull
  case service =>
    refine ⟨fun hserves hnext hqueue hreq => ?word, fun hqueue => congrArg _ (State.serveWord_dry hqueue),
      fun hreach => ⟨fun hhalted hdead => ?asks, fun hidle => ?idle⟩⟩
    case word =>
      have hserve := State.serveWord_next hbus hserves hnext hqueue hreq
      exact ⟨fun hwhole => congrArg _ (hserve.trans (if_pos hwhole)),
        fun hmore => congrArg _ (hserve.trans (if_neg hmore.not_ge))⟩
    case asks => exact congrArg _ ((State.rngData_read hbus hreach).trans (if_neg (not_or.2 ⟨hhalted, hdead⟩)))
    case idle => exact congrArg _ ((State.rngData_read hbus hreach).trans (if_pos hidle))

end Sys2Proof.Machine

/-! # Partitions, checkpoints and kept leaves (R354, R355, R360, R427 to R430) -/

namespace Sys2Proof.Machine
open Sys2Proof

/-- A command through a privileged register that reaches it acts (R10, R11, R370). -/
theorem State.privCmd_reached {s : State} {r : Req} (hdev : s.devAccess r = true) (hinside : s.outside r = false)
    (hpriv : s.privileged r = true) (off : Nat) (body : State → State) : s.privCmd r off body = body s := by
  simp [State.privCmd, hdev, hinside, hpriv]

/-! ## Partition commands (R354, R355, R360) -/

theorem State.partCmd_reached {s : State} {r : Req} (hdev : s.devAccess r = true) (hinside : s.outside r = false)
    (hpriv : s.privileged r = true) :
    s.partCmd r = if s.rdb Reg.partBusy then s
      else if s.partBad (s.rd Reg.partFunc) s.stagedPartition then s.wr Reg.partCode 0x060E
      else (s.applyPartition (s.rd Reg.partFunc) s.stagedPartition).wr Reg.partCode 0 :=
  State.privCmd_reached hdev hinside hpriv _ _

/-- The revocation under way ends once nothing issued before is in flight: what left is zeroised (R355, R360). -/
theorem State.revocationDone_retired {s : State} {v : PartRev} (hready : s.ready = true) (hrev : s.partRev = some v)
    (hretired : v.spindles.all (fun j => (s.spin j).uq.isEmpty) = true) :
    let gone (t : Nat) : Bool := v.tiles.contains t
    let held := (s.staged.filter (fun g => g.func == v.func && (gone g.tile || gone g.slot))).map (·.tile)
      ++ (s.pages.filter (fun g => g.func == v.func && (gone g.tile || gone g.slot))).map (·.tile)
    let s1 := v.spindles.foldl (fun s j => s.updSpin j (fun x => { nextId := x.nextId })) (s.unstageGone v.func gone)
    let s2 := v.tiles.foldl (fun s t => s.wipeTile t) s1
    let s3 := v.ctrs.foldl (fun s d => s.ctrForce d 0) (s2.dropLeaves v.func gone)
    s.quiet (v.tiles ++ held) = true → s.revocationDone v.func = { s3 with partRev := none }.wr Reg.partBusy 0 := by
  intro gone held s1 s2 s3 hquiet
  have hnone : v.spindles.any (fun j => !(s.spin j).uq.isEmpty) = false := by
    rw [← List.not_all_eq_any_not, hretired, Bool.not_true]
  rw [State.revocationDone, hrev]
  unfold held gone at hquiet
  refine if_neg ?_
  simp only [hready, hnone, hquiet]
  simp

/-! ## The length of a sorted list -/

theorem insertBy_length {α : Type} (key : α → Nat) (a : α) (l : List α) :
    (sortBy.insertBy key a l).length = l.length + 1 := by
  induction l with
  | nil => rfl
  | cons b l ih =>
    rw [sortBy.insertBy]
    split
    · exact congrArg (· + 1) ih
    · rfl

theorem sortBy_length {α : Type} (key : α → Nat) (l : List α) : (sortBy key l).length = l.length := by
  induction l with
  | nil => rfl
  | cons a l ih => rw [sortBy, insertBy_length, ih, List.length_cons]

/-! ## CHECKPOINT, RESUME and LEAF_DIGESTS (R427 to R430) -/

section
variable {s : State} {f n : Nat} {desc : Bytes} (hlen : desc.length = 64) (htakes : s.ringTakes f n (leNat desc) = true)
  (hwf : jobWf (leNat desc) = true)
include hlen htakes hwf

/-- A CHECKPOINT asks for its identifier, or is refused. -/
theorem State.checkpoint_taken (hop : jOp (leNat desc) = 0x10) :
    let s1 := s.takeJob f n
    s.checkpoint f n desc = if !s1.ckptOk f || (s1.fn f).ckptJob.isSome then s1.jobDone f n (leNat desc) 0x0A25 0
      else (s1.updFn f (fun x => { x with ckptJob := some (n, leNat desc) })).ask 1 f 4 (.checkpoint f) := by
  rw [State.checkpoint]
  exact (if_neg (by simp [hlen, hop, htakes])).trans (if_neg (by simp [hwf]))

/-- A RESUME with its record is refused, or restores the checkpoint the record names. -/
theorem State.resumeCkpt_taken {b : Bytes} (hop : jOp (leNat desc) = 0x11) (hrec : b.length = jRecLen (leNat desc)) :
    let s1 := s.takeJob f n
    let kc := ckptKc ((s1.fn f).ckptKey.getD 0) (leAt b 16 32)
    s.resumeCkpt f n desc (some b) = if s1.resumeBad f kc b then s1.jobDone f n (leNat desc) 0x0A26 0
      else (s1.restore f ((s1.ckpts.find? (fun c => c.id == leAt b 16 32)).getD (checkpointOf (ckptPlain kc b)))).jobDone f n
        (leNat desc) 0 0 := by
  intro s1 kc
  rw [State.resumeCkpt, State.job_runs s f n 0x11 desc b none _ hlen hop htakes hwf hrec rfl]
  by_cases hbad : s1.resumeBad f kc b = true
  · simp only [s1, kc, if_pos hbad]
  · simp only [s1, kc, if_neg hbad]

/-- LEAF_DIGESTS of a round whose leaves are kept and reach its range, into a buffer that holds it. -/
theorem State.leafDigests_served {x : Round} (hop : jOp (leNat desc) = 0x12)
    (hround : (s.takeJob f n).round? f (jArg0 (leNat desc)) = some x) (hleaves : x.gate.accLeaves ≠ [])
    (hrange : jArg1 (leNat desc) % 2 ^ 32 + jArg1 (leNat desc) / 2 ^ 32 ≤ x.gate.accLeaves.length)
    (hroom : 32 * (jArg1 (leNat desc) / 2 ^ 32) ≤ jRecLen (leNat desc)) :
    s.leafDigests f n desc = ((s.takeJob f n).hostPut f (jRecAddr (leNat desc))
      (((((sortBy (·.1) x.gate.accLeaves).drop (jArg1 (leNat desc) % 2 ^ 32)).take (jArg1 (leNat desc) / 2 ^ 32)).map
        (fun p => toLe 32 p.2)).flatten)).jobDone f n (leNat desc) 0 (jArg1 (leNat desc) / 2 ^ 32) := by
  have hkept : (sortBy (·.1) x.gate.accLeaves).isEmpty = false := by
    rw [List.isEmpty_eq_false_iff, ← List.length_pos_iff, sortBy_length]
    exact List.length_pos_iff.2 hleaves
  rw [State.leafDigests]
  refine (if_neg (by simp [hlen, hop, htakes])).trans ?_
  simp only [hround, Option.map_some, Option.getD_some]
  refine if_neg ?_
  simp only [hwf, hkept, sortBy_length, hrange.not_gt, hroom.not_gt]
  decide

end

/-- LEAF_DIGESTS of a round the device does not know has no leaves to give. -/
theorem State.leafDigests_unknown {s : State} {f n : Nat} {desc : Bytes} (hlen : desc.length = 64)
    (htakes : s.ringTakes f n (leNat desc) = true) (hop : jOp (leNat desc) = 0x12)
    (hround : (s.takeJob f n).round? f (jArg0 (leNat desc)) = none) :
    s.leafDigests f n desc = (s.takeJob f n).jobDone f n (leNat desc) 0x0A14 0 := by
  rw [State.leafDigests]
  exact (if_neg (by simp [hlen, hop, htakes])).trans (if_pos (by simp [hround]))

/-- Settles O49: a partition command that reaches its register, a revocation with nothing in flight, and a well-formed descriptor
each take the branch of their body that the state selects. -/
theorem partitionsAndCheckpoints : Obligations.PartitionsAndCheckpoints := by
  unfold Obligations.PartitionsAndCheckpoints
  refine ⟨fun s r => ⟨fun hdev hinside hpriv => ?partCmd,
    fun v hready hrev hretired => ?revocation⟩, fun s f n desc b hlen htakes hwf => ?descriptor⟩
  case partCmd =>
    have hcmd := State.partCmd_reached hdev hinside hpriv
    exact ⟨fun hbusy => congrArg _ (hcmd.trans (if_pos hbusy)),
      fun hfree hbad => congrArg _ (hcmd.trans ((if_neg (Bool.eq_false_iff.1 hfree)).trans (if_pos hbad))),
      fun hfree hgood => congrArg _
        (hcmd.trans ((if_neg (Bool.eq_false_iff.1 hfree)).trans (if_neg (Bool.eq_false_iff.1 hgood))))⟩
  case revocation =>
    intro gone held hquiet s1 s2 s3
    exact congrArg _ (State.revocationDone_retired hready hrev hretired hquiet)
  case descriptor =>
    intro d s1 kc first count
    refine ⟨fun hop hok hnone => ?asks, fun hop hbad => ?refused, fun hop hrec => ?resume,
      fun x hop hround hleaves hrange hroom => ?leaves, fun hop hround => ?noRound⟩
    case asks =>
      exact congrArg _ ((State.checkpoint_taken hlen htakes hwf hop).trans (if_neg (by simp [s1, hok, hnone])))
    case refused => exact congrArg _ ((State.checkpoint_taken hlen htakes hwf hop).trans (if_pos (by simp [s1, hbad])))
    case resume =>
      have hresume := State.resumeCkpt_taken hlen htakes hwf hop hrec
      exact ⟨fun hbad => congrArg _ (hresume.trans (if_pos hbad)),
        fun hgood => congrArg _ (hresume.trans (if_neg (Bool.eq_false_iff.1 hgood)))⟩
    case leaves => exact congrArg _ (State.leafDigests_served hlen htakes hwf hop hround hleaves hrange hroom)
    case noRound => exact congrArg _ (State.leafDigests_unknown hlen htakes hop hround)

end Sys2Proof.Machine

/-! # Attaching and warm reset (R400 to R402, R404) -/

namespace Sys2Proof.Machine
open Sys2Proof

/-! ## ATTACH and GO_SERVICE (R400 to R402) -/

section
variable {s : State} {f : Nat} (hup : s.funcUp f = true)
include hup

section
variable (hfirst : s.rdb Reg.attAttached f = false) (hidle : s.rdb Reg.attAttachBusy f = false)
include hfirst hidle

/-- ATTACH of a driver whose range shares a version with the firmware's. -/
theorem State.attach_agreed {v : Nat} (hver : negotiate (s.rd Reg.attDrvAbiMin f) (s.rd Reg.attDrvAbiMax f)
    (s.rd Reg.devFwAbiMin) (s.rd Reg.devFwAbiMax) = some v) :
    s.attach f = ((s.wr Reg.attAttached 1 f).wr Reg.attAbiVer v f).wr Reg.attAttachCode 0 f := by
  rw [State.attach, State.funcCmd_up hup, if_neg (by simp [hfirst, hidle]), hver]

theorem State.attach_noVersion (hver : negotiate (s.rd Reg.attDrvAbiMin f) (s.rd Reg.attDrvAbiMax f)
    (s.rd Reg.devFwAbiMin) (s.rd Reg.devFwAbiMax) = none) :
    s.attach f = (s.wr Reg.attAttachCode 0x0A04 f).raiseOwn f 0x0A04 := by
  rw [State.attach, State.funcCmd_up hup, if_neg (by simp [hfirst, hidle]), hver]

end

theorem State.goService_up : s.goService f = if !s.rdb Reg.attAttached f then s.wr Reg.attAttachCode 0x0A1A f
    else if s.rd Reg.attSvc f = 0 then s.wr Reg.attSvc 1 f else s := State.funcCmd_up hup _ _ _

end

/-! ## Warm reset (R404) -/

section
variable {s : State} {r : Req} (hdev : s.devAccess r = true) (hinside : s.outside r = false) (hpriv : s.privileged r = true)
  (hidle : s.rdb Reg.warmBusy = false)
include hdev hinside hpriv hidle

/-- WARM_GO whose image the device could not read. -/
theorem State.warmGo_unread : s.warmGo r none = s.wr Reg.warmCode 0x0A15 := by
  rw [State.warmGo, State.privCmd_reached hdev hinside hpriv, if_neg (Bool.eq_false_iff.1 hidle)]

/-- WARM_GO answers the code of the first check that the image fails, or keeps the image's digest and goes on. -/
theorem State.warmGo_read (b : Bytes) : s.warmGo r (some b) =
    if b.length ≠ s.rd Reg.bootFwLen then s.wr Reg.warmCode 0x0605
    else if s.imageCode b ≠ 0 then s.wr Reg.warmCode (s.imageCode b)
    else { (s.wr Reg.warmCode 0).wr Reg.warmBusy 1 with nalam := { s.nalam with warmDigest := some (fwDigestOf b) } } := by
  rw [State.warmGo, State.privCmd_reached hdev hinside hpriv, if_neg (Bool.eq_false_iff.1 hidle)]
  by_cases hsize : b.length ≠ s.rd Reg.bootFwLen
  · simp only [if_pos hsize]
    rfl
  · simp only [if_neg hsize]

end

/-- WARM_IMAGE_VERIFIED: the functions are reset and slots 4 to 63 released, before the second reading is compared. -/
theorem State.warmVerified_pending {s : State} {d : Nat} (hready : s.ready = true) (hdigest : s.nalam.warmDigest = some d)
    (b : Bytes) :
    let s1 := ((List.range 64).filter (fun f => (s.fn f).exists_)).foldl (fun s f => s.startReset f 0x0A19 false) s
    let s2 := (List.range 60).foldl (fun s i => s.releaseSlot (i + 4) 0x0A19) s1
    let s3 := { s2 with nalam := { s2.nalam with warmDigest := none, warm := true, ccRunning := true } }
    s.warmVerified b = if fwDigestOf b ≠ d then s3.bootFail 0x0605 0
      else ((((s3.holdImage b).fwRanges.wr Reg.bootStage 5).wr Reg.bootCreelDone 0).wr Reg.bootFwinitDone 0).wr
        Reg.creelZeroiseBusy 1 := by
  rw [State.warmVerified, hdigest]
  exact if_neg (by simp [hready])

/-- Settles O52: a function that can reach its page has its command, and WARM_GO its image checked in order. -/
theorem attachAndWarmReset : Obligations.AttachAndWarmReset := by
  unfold Obligations.AttachAndWarmReset
  refine fun s r f b => ⟨fun hup => ?attaching, fun hdev hinside hpriv hidle => ?warmGo, fun d hready hdigest => ?warmVerified⟩
  case attaching =>
    have hservice := State.goService_up hup
    exact ⟨fun v hfirst hidle hver => congrArg _ (State.attach_agreed hup hfirst hidle hver),
      fun hfirst hidle hver => congrArg _ (State.attach_noVersion hup hfirst hidle hver),
      fun hfirst => congrArg _ (hservice.trans (if_pos (by simp [hfirst]))),
      fun hattached hstart => congrArg _ (hservice.trans ((if_neg (by simp [hattached])).trans (if_pos hstart)))⟩
  case warmGo =>
    exact ⟨congrArg _ (State.warmGo_unread hdev hinside hpriv hidle),
      congrArg _ (State.warmGo_read hdev hinside hpriv hidle b)⟩
  case warmVerified => exact congrArg _ (State.warmVerified_pending hready hdigest b)

end Sys2Proof.Machine

/-! # The machine as a whole (R328, R342, R343, R391, R392, R406, R440, R457) -/

namespace Sys2Proof.Machine
open Sys2Proof

/-- Settles O60: a step keeps what `State.Kept` says, and its second half is that fuses only burn. -/
theorem fusesOnlyBurn : Obligations.FusesOnlyBurn := by
  unfold Obligations.FusesOnlyBurn
  intro s t e
  obtain ⟨-, hburns⟩ := State.step_kept_of_next e
  exact hburns

/-- The byte memories right after reset are empty, and so canonical. -/
theorem State.reset_memWf : State.reset.memWf = true := by
  refine State.memWf_iff.2 ⟨rfl, rfl, fun x hx => ?_, fun c hc => absurd hc List.not_mem_nil⟩
  obtain rfl : x = {} := List.eq_of_mem_replicate hx
  rfl

/-- Settles O57: each part of the device is read off `State.reset`. -/
theorem resetState : Obligations.ResetState := by
  unfold Obligations.ResetState
  refine ⟨rfl, rfl, ?stage, rfl, rfl, rfl, rfl, rfl, rfl, rfl, rfl, rfl, rfl, ?registers, rfl, ?functions, State.reset_memWf,
    State.tablesWf_iff.2 ⟨rfl, rfl, rfl, rfl, rfl, rfl, rfl⟩⟩
  case stage => decide
  case registers => decide
  case functions => decide

/-- Settles O3: every other command's meaning ends in a next state; RAIL_FAULT alone can stop the device. -/
theorem noCommandStops : Obligations.NoCommandStops := by
  unfold Obligations.NoCommandStops
  intro c s hc
  cases c with
  | railFault r => exact absurd rfl (hc r)
  | _ => exact ⟨_, rfl⟩

/-- Settles O1: a step with a command waiting is that command on the queue's rest. -/
theorem stepTakesFront : Obligations.StepTakesFront := by
  unfold Obligations.StepTakesFront
  intro c cs s hpending
  rw [step, hpending]

end Sys2Proof.Machine
